-- ==== Sys2Proof/Word.lean ====
section
/-!
DEFINITION. The words of the DXN-7448's registers and the plainest arithmetic on them: a register is 32 bits wide (R28),
every stored or transmitted value is little-endian (R6).
-/
namespace Sys2Proof

/-- A register's 32-bit value (R28). -/
abbrev Word := BitVec 32

/-- A 64-bit quantity: a binary64 value or one of the 64-bit register pairs. -/
abbrev Word64 := BitVec 64

/-- One byte of a frame, an image or an object. -/
abbrev Byte := BitVec 8

namespace Word

/-- The field of `width` bits at bit `lo`, as a number. -/
def fld (w : Word) (lo width : Nat) : Nat := (w.toNat >>> lo) % 2 ^ width

/-- Bit `i` of a register. -/
def bit (w : Word) (i : Nat) : Bool := w.getLsbD i

/-- `w` with the field of `width` bits at bit `lo` replaced by `v` (taken modulo the field's size). -/
def put (w : Word) (lo width v : Nat) : Word :=
  let m : Word := BitVec.ofNat 32 ((2 ^ width - 1) <<< lo)
  (w &&& ~~~m) ||| (BitVec.ofNat 32 ((v % 2 ^ width) <<< lo))

/-- `w` with bit `i` set to `b`. -/
def setBit (w : Word) (i : Nat) (b : Bool) : Word := w.put i 1 (if b then 1 else 0)

end Word

/-- A number as a register value. -/
def w32 (n : Nat) : Word := BitVec.ofNat 32 n

/-- `true` as 1. -/
def b2n (b : Bool) : Nat := if b then 1 else 0

/-- Addition that saturates at `cap`. -/
def satAdd (cap a b : Nat) : Nat := min cap (a + b)

/-- The largest value of a 32-bit counter. -/
def max32 : Nat := 0xFFFFFFFF

/-- Low and high halves of a 64-bit value, as two registers show it (LO at the lower offset, R6). -/
def lo32 (w : Word64) : Word := w.setWidth 32
/-- High half of a 64-bit value. -/
def hi32 (w : Word64) : Word := (w >>> 32).setWidth 32
/-- The 64-bit value that a LO and a HI register carry together. -/
def pair64 (lo hi : Word) : Word64 := (hi.setWidth 64 <<< 32) ||| lo.setWidth 64

/-- A signed number as a two's-complement register value. -/
def sw32 (n : Int) : Word := BitVec.ofInt 32 n

/-- `n` limited to `[lo, hi]`. -/
def clampI (lo hi n : Int) : Int := max lo (min hi n)

/-- One second in nanoseconds, the unit of the model's clock. -/
def sec : Nat := 1000000000
/-- One millisecond in nanoseconds. -/
def ms : Nat := 1000000
/-- One microsecond in nanoseconds. -/
def us : Nat := 1000

/-- The bytes of a register value, lowest address first (R6). -/
def Word.bytes (w : Word) : List Byte :=
  [w.extractLsb' 0 8, w.extractLsb' 8 8, w.extractLsb' 16 8, w.extractLsb' 24 8]

/-- The number that a list of bytes spells little-endian (R6). -/
def leNat : List Byte → Nat
  | [] => 0
  | b :: bs => b.toNat + 256 * leNat bs

/-- `n` little-endian in `k` bytes (R6). -/
def natLE : Nat → Nat → List Byte
  | 0, _ => []
  | k + 1, n => BitVec.ofNat 8 n :: natLE k (n / 256)

/-- The `k` bytes at offset `i`. -/
def sliceB (bs : List Byte) (i k : Nat) : List Byte := (bs.drop i).take k

/-- The little-endian number of `k` bytes at offset `i`. -/
def leAt (bs : List Byte) (i k : Nat) : Nat := leNat (sliceB bs i k)

/-- The indices of the set bits of `n` among its `k` lowest. -/
def bitsOf (n : Nat) (k : Nat) : List Nat := (List.range k).filter fun i => n.testBit i

/-- A bit mask from a list of indices. -/
def maskOf : List Nat → Nat
  | [] => 0
  | i :: is => (1 <<< i) ||| maskOf is

/-- Replace the `i`-th element, if there is one. -/
def setAt {α : Type} : List α → Nat → α → List α
  | [], _, _ => []
  | _ :: xs, 0, y => y :: xs
  | x :: xs, i + 1, y => x :: setAt xs i y

/-- Apply `f` to the `i`-th element, if there is one. -/
def modAt {α : Type} : List α → Nat → (α → α) → List α
  | [], _, _ => []
  | x :: xs, 0, f => f x :: xs
  | x :: xs, i + 1, f => x :: modAt xs i f

end Sys2Proof
end

