-- ==== Sys2Proof/Machine/Data.lean ====
section
/-!
DEFINITION. The named sets that every chapter of the manual shares: variants, modes, power states, retention classes, status codes, pages,
engines, and the records that host access and the snag log are made of.
-/
namespace Sys2Proof

/-- The four Duxaeth variants (*Variant contents*, R1, R2). -/
inductive Variant
  | dxn7448
  | dxn7448NS
  | dxn7432
  | dxn7448NP
deriving DecidableEq, Repr

namespace Variant

/-- SAFETY of SYS.CAP: the safety domain is fitted (R2). -/
def safety : Variant → Bool
  | .dxn7448NS => false
  | _ => true

/-- PAIR of SYS.CAP: pairing is fitted (R2). -/
def pair : Variant → Bool
  | .dxn7448NP => false
  | _ => true

/-- Solver lanes fitted (R2). -/
def lanes : Variant → Nat
  | .dxn7432 => 4
  | _ => 8

/-- Slice groups fitted (R2). -/
def groups : Variant → Nat
  | .dxn7432 => 3
  | _ => 4

/-- CAN segments fitted (R2). -/
def segments : Variant → Nat
  | .dxn7432 => 4
  | _ => 6

/-- Slices fitted: twelve per group. -/
def slices (v : Variant) : Nat := 12 * v.groups

/-- SYS.CAP, composed of its fields (R1). -/
def cap (v : Variant) : Word :=
  w32 (b2n v.safety + 2 * b2n v.pair + 16 * v.lanes + 256 * (2 ^ v.groups - 1) + 4096 * (2 ^ v.segments - 1))

end Variant

/-- The eight modes (R59). -/
inductive Mode
  | dormant
  | boot
  | commission
  | standby
  | run
  | degraded
  | safeHold
  | maintenance
deriving DecidableEq, Repr

/-- MODE.CUR[MODE] code (R59). -/
def Mode.code : Mode → Nat
  | .dormant => 0
  | .boot => 1
  | .commission => 2
  | .standby => 3
  | .run => 4
  | .degraded => 5
  | .safeHold => 6
  | .maintenance => 7

/-- The mode of a code. -/
def Mode.ofCode : Nat → Mode
  | 0 => .dormant
  | 1 => .boot
  | 2 => .commission
  | 3 => .standby
  | 4 => .run
  | 5 => .degraded
  | 6 => .safeHold
  | _ => .maintenance

/-- The modes whose owning engines drive outputs (R60). -/
def Mode.drives : Mode → Bool
  | .run | .degraded | .maintenance => true
  | _ => false

/-- The modes in which loops run (R60). -/
def Mode.loopsRun : Mode → Bool
  | .commission | .standby | .run | .degraded | .maintenance => true
  | _ => false

/-- The modes in which sequence tasks and publishing solver slots run (R60). -/
def Mode.tasksRun : Mode → Bool
  | .standby | .run | .degraded | .maintenance => true
  | _ => false

/-- Power states P0 to P4 (R69). -/
inductive PState
  | p0
  | p1
  | p2
  | p3
  | p4
deriving DecidableEq, Repr

/-- MODE.CUR[PSTATE] code (R69). -/
def PState.code : PState → Nat
  | .p0 => 0
  | .p1 => 1
  | .p2 => 2
  | .p3 => 3
  | .p4 => 4

/-- CMP is powered in P0 and P1 (R10). -/
def PState.cmp : PState → Bool
  | .p0 | .p1 => true
  | _ => false

/-- CTL is powered in P0 to P2 (R10). -/
def PState.ctl : PState → Bool
  | .p0 | .p1 | .p2 => true
  | _ => false

/-- MODE.CUR[REASON] (R85, *MODE.CUR fields*). -/
inductive ModeReason
  | none
  | reset
  | wake
  | host
  | unit
  | token
  | safety
  | fault
  | noProfile
deriving DecidableEq, Repr

/-- The code of a mode reason. -/
def ModeReason.code : ModeReason → Nat
  | .none => 0
  | .reset => 1
  | .wake => 2
  | .host => 3
  | .unit => 4
  | .token => 5
  | .safety => 6
  | .fault => 7
  | .noProfile => 8

/-- Reset kinds that restart the controller (R77), in the order of R78. -/
inductive ResetKind
  | powerOn
  | brownOut
  | tamper
  | watchdog
  | tokenLoss
  | software
  | wake
deriving DecidableEq, Repr

/-- The RST.CAUSE bit of a reset kind (*RST.CAUSE fields*). -/
def ResetKind.bit : ResetKind → Nat
  | .powerOn => 0
  | .brownOut => 1
  | .watchdog => 2
  | .software => 3
  | .tamper => 4
  | .tokenLoss => 5
  | .wake => 6

/-- K-class fields return to default under this kind (R81). -/
def ResetKind.clearsK : ResetKind → Bool
  | .powerOn | .brownOut | .tamper => true
  | _ => false

/-- SAFE-HOLD causes (R68). -/
inductive ShCause
  | safety
  | ctlFault
  | cmpFault
  | host
  | tamper
  | bootCheck
deriving DecidableEq, Repr

/-- MODE.SH_CAUSE[CAUSE] code. -/
def ShCause.code : ShCause → Nat
  | .safety => 1
  | .ctlFault => 2
  | .cmpFault => 3
  | .host => 4
  | .tamper => 5
  | .bootCheck => 6

/-- Retention classes (R80). -/
inductive RClass
  | n
  | b
  | k
  | w
  | v
  | none
deriving DecidableEq, Repr

/-- Access types of a register (R29). -/
inductive Access
  | rw
  | ro
  | wo
  | w1c
  | w1s
  | sc
  | rwl
deriving DecidableEq, Repr

/-- The power and clock domains (R10). -/
inductive Domain
  | bkp
  | aon
  | ctl
  | cmp
deriving DecidableEq, Repr

/-- DRA status codes (R37, *Error codes*). -/
inductive Err
  | ok
  | absent
  | addr
  | align
  | access
  | locked
  | mode
  | range
  | busy
  | denied
  | seal
  | auth
  | counter
  | format
  | length
  | aborted
  | timeout
  | integrity
  | capacity
  | struct
  | state
  | session
  | seq
  | uncorr
  | rejected
  | notFound
  | duplicate
  | absentUnit
deriving DecidableEq, Repr

/-- The code of a status (R37). -/
def Err.code : Err → Nat
  | .ok => 0x00
  | .absent => 0x01
  | .addr => 0x02
  | .align => 0x03
  | .access => 0x04
  | .locked => 0x05
  | .mode => 0x06
  | .range => 0x07
  | .busy => 0x08
  | .denied => 0x09
  | .seal => 0x0A
  | .auth => 0x0B
  | .counter => 0x0C
  | .format => 0x0D
  | .length => 0x0E
  | .aborted => 0x0F
  | .timeout => 0x10
  | .integrity => 0x11
  | .capacity => 0x12
  | .struct => 0x13
  | .state => 0x14
  | .session => 0x15
  | .seq => 0x16
  | .uncorr => 0x17
  | .rejected => 0x18
  | .notFound => 0x19
  | .duplicate => 0x1A
  | .absentUnit => 0x1B

/-- Session privileges (R43, *Write privilege*); `none` is the absence of one. -/
inductive Priv
  | none
  | view
  | operate
  | config
  | service
deriving DecidableEq, Repr

/-- The code of a privilege level (R43). -/
def Priv.code : Priv → Nat
  | .none => 0
  | .view => 1
  | .operate => 2
  | .config => 3
  | .service => 4

/-- The level of a code; a code outside 1 to 4 names no level. -/
def Priv.ofCode : Nat → Priv
  | 1 => .view
  | 2 => .operate
  | 3 => .config
  | 4 => .service
  | _ => .none

/-- `a` is at least `b`. -/
def Priv.ge (a b : Priv) : Bool := b.code ≤ a.code

/-- The kinds of page in *Page map* (R27). -/
inductive Page
  | sys | rst | mode | prof | ord | mem | rtc | time | evt | sec | upd | pair | safe | pol | disp | pwr
  | slc | adc | mtr | pq | heat | pulse
  | loop | lcap | prg | force
  | slv | slot | sdata
  | can | eth | dpx | pnt | net
deriving DecidableEq, Repr

/-- Engines whose epochs order a page's writes (R590), one value for each instance; `loopPage` and `prgPage` name a page's registers. -/
inductive Eng
  | loop (n : Nat)
  | metering
  | task (n : Nat)
  | slot (n : Nat)
  | ingest (station : Nat)
  | safety
deriving DecidableEq, Repr

/-- ORD.MG_LAST[ENGINE] (R110). -/
def Eng.code : Eng → Nat
  | .loop _ => 1
  | .metering => 2
  | .task _ => 3
  | .slot _ => 4
  | .ingest _ => 5
  | .safety => 0

/-- ORD.MG_LAST[INSTANCE] (R110). -/
def Eng.inst : Eng → Nat
  | .loop n => n
  | .task n => n
  | .slot n => n
  | .ingest n => n % 256
  | _ => 0

/-- An engine that ingests station data; its epochs are mirrored in every mode that applies sets (R593). -/
def Eng.isIngest : Eng → Bool
  | .ingest _ => true
  | _ => false

/-- The engine runs on CMP, so that its unrecoverable fault is SAFE-HOLD cause 0x03 (R95). -/
def Eng.onCmp : Eng → Bool
  | .loop _ | .metering | .safety => false
  | _ => true

/-- Converted values, points and signals carry a quality (R270, R135). -/
inductive Qual
  | good
  | uncertain
  | bad
deriving DecidableEq, Repr

/-- The two-bit code of a quality. -/
def Qual.code : Qual → Nat
  | .good => 0
  | .uncertain => 1
  | .bad => 2

/-- Quality of a two-bit code; the reserved code 3 counts as BAD. -/
def Qual.ofCode : Nat → Qual
  | 0 => .good
  | 1 => .uncertain
  | _ => .bad

/-- The worse of two qualities. -/
def Qual.worst (a b : Qual) : Qual := if b.code ≤ a.code then a else b

/-- Where a DRA frame came in (R38). -/
inductive Port
  | e3
  | e4
  | usb
deriving DecidableEq, Repr

/-- TIME64: TAI seconds and nanoseconds since 1970-01-01. -/
structure Time64 where
  s  : Nat := 0
  ns : Nat := 0
deriving DecidableEq, Repr

/-- A command waiting in a page's command queue (OP-3): the word written, the session and its privilege at acceptance, the instant, and
what the command captured at acceptance. -/
structure QCmd where
  word : Word
  sess : Nat
  priv : Priv
  at_  : Nat
  args : List Word := []
deriving DecidableEq, Repr

/-- One record of the snag log, its fields as *Snag record* lists them; the CRC is computed on reading (R513). -/
structure Snag where
  code   : Nat
  flags  : Nat
  source : Nat
  seq    : Nat
  optime : Nat
  pwrSub : Nat
  p1     : Word
  p2     : Word
  p3     : Word
deriving DecidableEq, Repr

/-- A block of continuity numbers: the next number and the first number past the block (R107). -/
structure Block where
  next : Nat
  stop : Nat
deriving DecidableEq, Repr

end Sys2Proof
end

