-- ==== Sys2Proof/Machine/DataNet.lean ====
section
/-!
DEFINITION. The network image, the stations, the point database and the DPX messages (R131–R163, R593, R594).
-/
namespace Sys2Proof

/-- One point of a station's point table: local index, type code (R134), direction (R136). -/
structure PointCfg where
  idx : Nat
  typ : Nat
  out : Bool
deriving DecidableEq, Repr

/-- One station of the network image (R131): number, kind, subtype, zone, heartbeat interval, enabled, PSK generation, point table. -/
structure StationCfg where
  num     : Nat
  kind    : Nat
  subtype : Nat
  zone    : Nat
  hbMs    : Nat
  enabled : Bool
  kgen    : Nat
  points  : List PointCfg
deriving DecidableEq, Repr

/-- The network image (R131). -/
structure NetImage where
  id       : Word
  crc      : Word
  netid    : Word
  zones    : Nat
  stations : List StationCfg
deriving DecidableEq, Repr

/-- Why a point is not GOOD (R135). -/
inductive PtReason
  | none
  | station
  | stationDown
  | memError
  | never
  | formatValue
  | notConf
deriving DecidableEq, Repr

/-- The code of a point reason (R135). -/
def PtReason.code : PtReason → Nat
  | .none => 0
  | .station => 1
  | .stationDown => 2
  | .memError => 3
  | .never => 4
  | .formatValue => 5
  | .notConf => 6

/-- The stored value, quality and stamp of one point (R135, R594), and the instant of the point-ingest commit that set it (R245). -/
structure Pt where
  idx    : Nat
  val    : Word64
  qual   : Qual
  reason : PtReason
  ts     : Time64
  at_    : Nat := 0
deriving DecidableEq, Repr

/-- The commanded side of an OUT point (R136): what its owner committed since its last start, the value last sent, whether the station has
acknowledged it, and the SEQ that carries it. -/
structure OutPt where
  idx   : Nat
  own   : Option Word64 := none
  cmd   : Word64 := 0
  acked : Bool := false
  seq   : Option Nat := none
deriving DecidableEq, Repr

/-- Station states (R140). -/
inductive StnState
  | unconf
  | disabled
  | down
  | joining
  | up
deriving DecidableEq, Repr

/-- The code of a station state (R140). -/
def StnState.code : StnState → Nat
  | .unconf => 0
  | .disabled => 1
  | .down => 2
  | .joining => 3
  | .up => 4

/-- One point entry of a set (R151). -/
structure PtEntry where
  index : Nat
  typ   : Nat
  qual  : Nat
  tofs  : Nat
  val   : Word64
deriving DecidableEq, Repr

/-- The header fields of a DPX message (R149) and the length of the record that carried it. -/
structure DpxHdr where
  magic   : Nat
  version : Nat
  typ     : Nat
  station : Nat
  flags   : Nat
  seq     : Nat
  len     : Nat
  recLen  : Nat
deriving DecidableEq, Repr

/-- One fragment of a data set (R151): set header and entries. -/
structure SetFrag where
  setId   : Nat
  baseId  : Nat
  time    : Time64
  frag    : Nat
  count   : Nat
  entries : List PtEntry
deriving DecidableEq, Repr

/-- A station's HELLO payload (R150). -/
structure HelloMsg where
  proto    : Nat
  zero     : Nat
  station  : Nat
  kgen     : Nat
  upSeq    : Nat
  lastDown : Nat
  hbMs     : Nat
  points   : Nat
  fwId     : Nat
deriving DecidableEq, Repr

/-- An ACK payload (R154). -/
structure AckMsg where
  ackSeq  : Nat
  status  : Nat
  snapReq : Bool
  lastSet : Nat
deriving DecidableEq, Repr

/-- An uplink set being reassembled or waiting to be applied (R152); `seq` is the SEQ of the last message taken into it. -/
structure RxSet where
  snapshot : Bool
  frag     : SetFrag
  next     : Nat
  entries  : List PtEntry
  seq      : Nat := 0
deriving DecidableEq, Repr

/-- A COMMAND message in a station's queue (R153, R156, R157): its SEQ once sent, flags, fragment, when it was last sent and how often. -/
structure DownMsg where
  seq    : Option Nat
  flags  : Nat
  frag   : SetFrag
  sentAt : Nat := 0
  tries  : Nat := 0
deriving DecidableEq, Repr

/-- An established DTLS session (R145, R147, R160): when its keys were made, records sent and received since, whether the HELLO exchange is done, its traffic
secrets. -/
structure Dtls where
  gen     : Nat
  keyedAt : Nat
  records : Nat
  helloOk : Bool
  rx      : Nat := 0
  secret  : List Byte := []
deriving DecidableEq, Repr

/-- The running state of one configured station: `old` holds the versions still referred to, `hist` the versions replaced within the last 2 ms, each with its
instant (R20); `owed` the SEQs of the messages whose sets are applied and not yet mirrored, so not yet acknowledged (R154); `fwId` the firmware identity of the last
HELLO (R150). -/
structure Stn where
  num     : Nat
  enabled : Bool
  st      : StnState
  nextOk  : Bool := false
  kgen    : Nat
  dtls    : Option Dtls := none
  lastRx  : Nat := 0
  lastAck : Nat := 0
  ver     : Nat := 0
  pts     : List Pt := []
  old     : List (Nat × List Pt) := []
  hist    : List (Nat × Nat) := []
  outs    : List OutPt := []
  useq    : Nat := 0
  buf     : List (Nat × Bool × SetFrag) := []
  reasm   : Option RxSet := none
  ready   : List (RxSet × Nat) := []
  owed    : List Nat := []
  fwId    : Nat := 0
  lastSet : Option Nat := none
  dseq    : Block := ⟨0, 0⟩
  dnext   : Nat := 0
  cmdQ    : List DownMsg := []
  safeQ   : List (List Byte) := []
  setId   : Nat := 0
  drop    : Nat := 0
  downs   : Nat := 0
deriving DecidableEq, Repr

/-- Where a mirrored point of station 0000 takes its value (R132): a slice, or metering measurement `k` of point `p` (log entry 20, DESIGN CHOICE);
the POINT field of a CAN signal's own descriptor mirrors that. -/
inductive MirrorSrc
  | slice (n : Nat)
  | meter (p k : Nat)
deriving DecidableEq, Repr

/-- What the controller answers to a DTLS handshake or sends on one (R145, R147). -/
inductive DtlsReply
  | helloRetry | handshakeFailure | unknownPsk | serverHello | keyUpdate
deriving DecidableEq, Repr

/-- DPX and point-database state: the image, its stations, handshakes in progress, the PNT freeze (station, version), point updates in the
running second, the wait condition of DPX.STAT[SAT], and the safe values the profile gives the OUT points (R596). -/
structure NetState where
  safeVals : List (Nat × Word64) := []
  mirrors : List (MirrorSrc × Nat) := []
  img      : Option NetImage := none
  stns     : List Stn := []
  hs       : List (Nat × Nat) := []
  kexBuf   : List Word := []
  pntFrz   : Option (Nat × Nat) := none
  secFrom  : Nat := 0
  secCount : Nat := 0
  lastSec  : Nat := 0
  sat      : Bool := false
deriving DecidableEq, Repr

/-- What an output precedence rank or a mask acts on (R17, R349): a slice 1–48, a CAN signal of a segment, a commanded station point. -/
inductive Target
  | slice (n : Nat)
  | can (seg sig : Nat)
  | point (index : Nat)
deriving DecidableEq, Repr

end Sys2Proof
end

