-- ==== Sys2Proof/Machine/DataCan.lean ====
section
/-!
DEFINITION. ShaiqLink segments (R359–R381): the configuration a profile gives a segment, and the running state of the segment.
-/
namespace Sys2Proof

/-- Signal types (R361). -/
inductive SigType
  | bool | uint | int | f32 | f64
deriving DecidableEq, Repr

/-- A signal descriptor (R361); numbers 0–511 receive, 512–1,023 transmit. -/
structure SigD where
  num    : Nat
  frame  : Nat
  start  : Nat
  len    : Nat
  typ    : SigType
  scale  : Word64
  offset : Word64
  timeoutMs : Nat
  safe   : Word64
  point  : Option Nat
deriving DecidableEq, Repr

/-- A frame descriptor: identifier, format, data bytes; transmit frames also say TT or EVENT and ALWAYS (R361, R363). -/
structure FrameD where
  id     : Nat
  ide    : Bool
  fdf    : Bool
  bytes  : Nat
  tt     : Bool
  always : Bool
deriving DecidableEq, Repr

/-- A transmit slot of the matrix (R366). -/
structure TxSlot where
  startUs : Nat
  frame   : Nat
  rep     : Nat
  cyc     : Nat
deriving DecidableEq, Repr

/-- A candidate of the rate table (R371). -/
structure RateCand where
  nom    : Nat
  data   : Nat
  spNom  : Nat
  spData : Nat
deriving DecidableEq, Repr

/-- A segment's part of a profile. -/
structure CanCfg where
  cands    : List RateCand
  dwellMs  : Nat
  master   : Bool
  detectMaxS : Nat
  filters  : List (Word × Word)
  rx       : List FrameD
  tx       : List FrameD
  sigs     : List SigD
  baseMs   : Nat
  matLen   : Nat
  slots    : List TxSlot
  windows  : List (Nat × Nat)
  refEn    : Bool
  refId    : Nat
  holdMs   : Nat
  busoffMax : Nat
  winS     : Nat
deriving DecidableEq, Repr

/-- A frame on the bus. -/
structure CanFrame where
  id   : Nat
  ide  : Bool
  fdf  : Bool
  brs  : Bool
  esi  : Bool
  rtr  : Bool
  data : List Byte
deriving DecidableEq, Repr

/-- Segment states (R374). -/
inductive SegState
  | off | detecting | active | monitor | busOff | fenced
deriving DecidableEq, Repr

/-- The code of a segment state (R374). -/
def SegState.code : SegState → Nat
  | .off => 0
  | .detecting => 1
  | .active => 2
  | .monitor => 3
  | .busOff => 4
  | .fenced => 5

/-- A transmit signal: what its owner committed since its last start, what was last released to it (R363, R347). -/
structure TxSig where
  num  : Nat
  own  : Option Word64 := none
  last : Word64 := 0
deriving DecidableEq, Repr

/-- A received frame waiting in URGENT or BULK: the frame, the index of its receive descriptor, the end of the frame. -/
structure RxWait where
  frame : CanFrame
  desc  : Nat
  at_   : Nat
deriving DecidableEq, Repr

/-- An entry of the trace window. -/
structure TraceRec where
  frame  : CanFrame
  filter : Nat
  urgent : Bool
  ts     : Time64
deriving DecidableEq, Repr

/-- The running state of a segment. `cand` is the candidate on the bus; `okRun`, `seen`, `brsOk`, `firstTry` belong to the candidate under
test (R371–R373); `evtQ` holds the event frames that wait, by descriptor, which take their values when they are sent (R363); `nextBase` holds the state to take at the next base cycle; `job` is the DETECT or UNFENCE that completes with the detection. -/
structure Seg where
  cfg      : Option CanCfg := none
  st       : SegState := .off
  cause    : Nat := 0
  fencedAt : Nat := 0
  tec      : Nat := 0
  rec_     : Nat := 0
  dataSeen : Bool := false
  silent   : Bool := false
  cand     : Nat := 0
  order    : List Nat := []
  candFrom : Nat := 0
  detFrom  : Nat := 0
  okRun    : Nat := 0
  seen     : Bool := false
  brsOk    : Bool := false
  failed   : Bool := false
  firstTry : Bool := true
  retest   : Bool := false
  nextBase : Option SegState := none
  job      : Option QCmd := none
  urgent   : List RxWait := []
  bulk     : List RxWait := []
  rxVals   : List (Nat × Word64 × Nat) := []
  txs      : List TxSig := []
  loaded   : List (Nat × List Byte) := []
  evtQ     : List Nat := []
  polQ     : List (Nat × List Byte) := []
  busoffAt : List Nat := []
  cycle    : Nat := 0
  takeover : Bool := false
  trace    : List TraceRec := []
  recovering : Bool := false
  lastErr  : Nat := 0
deriving DecidableEq, Repr

/-- All six segments. -/
structure CanState where
  segs : List Seg := []
deriving DecidableEq, Repr

end Sys2Proof
end

