-- ==== Sys2Proof/Machine/DataHost.lean ====
section
/-!
DEFINITION. Host access: DRA requests, responses, sessions and subscriptions (R38–R58), the barriers of R108 and the frames the controller sends.
-/
namespace Sys2Proof

/-- The envelope of a DRA frame as it arrives (R39–R41): whether its COBS encoding decodes (on USB), its size in bytes, the MAGIC, VERSION, KIND and LEN of
its header, and whether its tag verifies. -/
structure FrameIn where
  cobs    : Bool := true
  size    : Nat
  magic   : Nat := 0x5844
  version : Nat := 1
  kind    : Nat
  len     : Nat
  tag     : Bool := true
deriving DecidableEq, Repr

/-- The largest DRA frame (R39). -/
def draMax : Nat := 1472

/-- A frame passes the checks of R39 and R41 as one of kind `kind`. -/
def FrameIn.ok (f : FrameIn) (port : Port) (kind : Nat) : Bool :=
  (port != .usb || f.cobs) && f.size ≤ draMax && f.magic == 0x5844 && f.version == 1 && f.kind == kind && f.size == 20 + f.len + 16 && f.tag

/-- A REQUEST frame, decoded (R45): identifier, operation code, flags, address, count and the data words of its payload, and LEN of its header. -/
structure Request where
  reqId : Nat
  op    : Nat
  flags : Nat
  addr  : Nat
  count : Nat
  data  : List Word
  len   : Nat
deriving DecidableEq, Repr

/-- A REQUEST frame passes its checks, and its payload is that of `rq` (R41, R45). -/
def FrameIn.okRequest (f : FrameIn) (port : Port) (rq : Request) : Bool :=
  f.ok port 0x10 && f.len == rq.len && 12 ≤ rq.len && (rq.len - 12) / 4 == rq.data.length

/-- The payload of a RESPONSE frame (R45). -/
structure Resp where
  reqId  : Nat
  op     : Nat
  status : Err
  addr   : Nat
  count  : Nat
  wseq   : Nat
  data   : List Word := []
deriving DecidableEq, Repr

/-- What the controller keeps for an accepted SEQ (R52): a request still unanswered, its response, or a NOTIFY-ACK, which has none. -/
inductive Stored
  | pending (r : Request)
  | answered (r : Resp)
  | ack
deriving DecidableEq, Repr

/-- An unacknowledged NOTIFY (R58). -/
structure Outstanding where
  num    : Nat
  risen  : Nat
  every  : Nat
  sentAt : Nat
deriving DecidableEq, Repr

/-- A session's subscription (R56, R57): page mask, interval, last number used, rises not yet notified, the unacknowledged NOTIFY. -/
structure Subscription where
  mask     : Nat
  interval : Nat
  lastNum  : Nat := 0
  risen    : Nat := 0
  sentAt   : Option Nat := none
  outst    : Option Outstanding := none
deriving DecidableEq, Repr

/-- A barrier in progress (R108): its tag, when it was accepted, and the SEQ of the DRA BARRIER that waits for it, if it came as one. -/
structure Barrier where
  tag    : Nat
  since  : Nat
  viaSeq : Option Nat
deriving DecidableEq, Repr

/-- An accepted host write as PL1 HOSTIN carries it (R109): the ACTIVE's session slot with its privilege, the address and the values, and what the
session holds that the write may use: its LO words, staging buffer and selection. -/
structure HostWrite where
  slot   : Nat
  priv   : Priv
  addr   : Nat
  vals   : List Word
  lastLo : List (Nat × Word) := []
  stage  : List (Nat × Word) := []
  sdSel  : Word := 0
deriving DecidableEq, Repr

/-- One DRA session (R42–R44, R52, R56), with the objects that other chapters hold per session: the barrier state of ORD.BAR_STAT, the
staging buffer, the selection, what a freeze holds, and the part of PAGE_IRQ of SDATA that is the session's own (R235), the key-update staging, the event-log read position and clear authorisation, and the last LO word
written to each binary64 pair (R248). `ready` is false between SESSION-ACCEPT and SESSION-READY; `script` is what the proof authenticates, `keys` the 72 bytes
derived (R42). -/
structure Session where
  slot    : Nat
  id      : Word
  port    : Port
  ready   : Bool
  cred    : Nat
  want    : Priv
  priv    : Priv
  rx      : Nat
  tx      : Nat
  last    : Nat
  script  : List Byte := []
  keys    : List Byte := []
  stored  : List (Nat × Stored) := []
  held    : List (Nat × Request) := []
  sub     : Option Subscription := none
  barrier : Option Barrier := none
  barStat : Word := 0
  sdSel   : Word := 0
  sdFrozen : List (Nat × List Byte × Nat) := []
  stage   : List (Nat × Word) := []
  sdStat  : Word := 0
  sdIrq   : Word := 0
  kuStage : List (Nat × Word) := []
  rdIdx   : Nat := 0
  auth    : List (Nat × Word) := []
  lastLo  : List (Nat × Word) := []
deriving DecidableEq, Repr

/-- Host access state (R44): sessions, times of recent failed proofs, the end of a SESSION-INIT lockout. -/
structure HostState where
  sessions  : List Session := []
  fails     : List Nat := []
  lockUntil : Option Nat := none
deriving DecidableEq, Repr

end Sys2Proof
end

