-- ==== Sys2Proof/Machine/DataCore.lean ====
section
/-!
DEFINITION. State of the modes, profiles, resets, epochs, making good and the snag log (chapters 3, 4 and 20) that no register holds.
-/
namespace Sys2Proof

/-- A host-commanded transition whose engines are still crossing (R63): the command, the mode they leave, the engines still inside an epoch of
that mode, when it was executed. -/
structure Crossing where
  cmd     : QCmd
  from_   : Mode
  engines : List Eng
  since   : Nat
deriving DecidableEq, Repr

/-- What the end of a BOOT finds: AUX pins PROF1:PROF0 as sampled (R72), the POS pin (R451), whether this module's PL2 source establishes the current if it
must take the token now (R454), the first registers' addresses of N shadow groups that both copies lost, each with its group (R82), whether the forecaster's group (R184) is such a one, whether a safety processor
failed its self-test and the code of a failed check of the stored safety configuration (R421, R425), whether the PUF keys regenerate (R474), whether the
previous image set reads back (R508), whether the other integrity checks pass (R61). -/
structure BootIn where
  pins      : Nat := 0
  posB      : Bool := false
  est       : Bool := false
  shadowBad : List (List Nat) := []
  fcBad     : Bool := false
  safeFail  : Bool := false
  safeCheck : Nat := 0
  pufOk     : Bool := true
  prevReads : Bool := true
  checksOk  : Bool := true
deriving DecidableEq, Repr

/-- Mode logic (R59–R69): mode, power state, reason and count of transitions, the transition in progress, the causes of SAFE-HOLD with their parameters, newest
first, the start of the idle count, when BOOT began, the bits of RST.CAUSE and RST.DEFAULTED collected for the next start, MODE.DEG, the wake sources that
fired while the controller slept, and the event numbers that the reset skipped (R107). -/
structure ModeState where
  mode        : Mode := .boot
  pstate      : PState := .p0
  reason      : ModeReason := .reset
  transitions : Nat := 0
  crossing    : Option Crossing := none
  shCauses    : List (ShCause × Nat) := []
  idleFrom    : Option Nat := none
  bootFrom    : Nat := 0
  causes      : List Nat := []
  defaulted   : List Nat := []
  deg         : Nat := 0
  wakes       : Nat := 0
  skipped     : Nat := 0
deriving DecidableEq, Repr

/-- A pending profile switch (R74–R76): the command, the target, whether verification has passed. -/
structure Switch where
  cmd      : QCmd
  target   : Nat
  verified : Bool
  commission : Bool
deriving DecidableEq, Repr

/-- Making good in progress on one engine (R96): engine, cause, when the fault was detected. -/
structure MakingGood where
  eng   : Eng
  cause : Nat
  since : Nat
deriving DecidableEq, Repr

/-- A write accepted by a page and not yet at its engine (R94, R590): the session that wrote it and the instances whose epoch starts it awaits;
`first` when the first of them serves it; when it was accepted. -/
structure PendWrite where
  sess  : Nat
  engs  : List Eng
  first : Bool := false
  at_   : Nat := 0
deriving DecidableEq, Repr

/-- The latest commit record of an engine instance in the FRAM epoch journal (R91): its epoch number, and the reservations of event numbers and of the
downlink numbers of each station addressed. -/
structure CommitRec where
  eng    : Eng
  num    : Nat
  events : Nat
  dpx    : List (Nat × Nat)
deriving DecidableEq, Repr

/-- Epoch and making-good state (R88–R110): writes under way, making goods in progress, the instants of recent making goods per instance (R102), the stations
whose data set awaits its re-execution (R96), the commit records (R91). -/
structure OrdState where
  pend  : List PendWrite := []
  mg    : List MakingGood := []
  hist  : List (Eng × Nat) := []
  redo  : List Nat := []
  commits : List CommitRec := []
deriving DecidableEq, Repr

/-- The snag log (R513–R527): stored records in slot order, the overflow and full state, the numbering block and those granted to follow it, the last block that
the ACTIVE reserved for itself (R107), the hold buffer of R595, the
freeze buffer of R522 and what it has lost since the freeze began, and the counts still to be reported by a 0x1103 record. -/
structure EvtState where
  log        : List Snag := []
  full       : Bool := false
  block      : Block := ⟨1, 1⟩
  granted    : List Block := []
  nextBlock  : Nat := 1
  peer       : Block := ⟨1, 1⟩
  crcBad     : Nat := 0
  hold       : List Snag := []
  freeze     : Option (Nat × Nat) := none
  frozen     : List Snag := []
  frzFrom    : Nat := 0
  unnumFrom  : Nat := 0
deriving DecidableEq, Repr

end Sys2Proof
end

