-- ==== Sys2Proof/Machine/DataField.lean ====
section
/-!
DEFINITION. Field slices, slice groups and their converters (R270–R294): configuration from the profile or the safety configuration, running state.
-/
namespace Sys2Proof

/-- A slice's configuration: the fields of its block marked "From profile" or "From safety configuration", and the safe value of R71. -/
structure SlcCfg where
  func     : Nat := 0
  opt0     : Bool := false
  opt1     : Nat := 0
  filtMs   : Nat := 0
  safety   : Bool := false
  owned    : Bool := false
  engScale : Word := 0x3F800000
  engOfs   : Word := 0
  faultVal : Word := 0
  safeVal  : Word := 0
  param    : Nat := 0
deriving DecidableEq, Repr

/-- The running state of a slice. `lvl` is the debounced state of a discrete input, `cand` the level that may become it (R282). `at_` is when its last conversion or accepted sample ended; `own` is what its owner committed since its last
start (R596), `last` what was last released to an output without an owner (R347); `held` after an unfence until the owner's next release (R290). -/
structure Slc where
  cfg     : SlcCfg := {}
  qual    : Qual := .bad
  reason  : Nat := 0xA
  val     : Word64 := 0
  raw     : Word := 0
  ts      : Time64 := {}
  at_     : Option Nat := none
  lead    : Option Word64 := none
  lvl     : Bool := false
  cand    : Bool := false
  candAt  : Nat := 0
  count   : Nat := 0
  gateN   : Nat := 0
  gateT0  : Nat := 0
  gateT1  : Nat := 0
  own     : Option Word64 := none
  last    : Word64 := 0
  held    : Bool := false
  tripped : Bool := false
  tripAt  : Nat := 0
  rb      : Word := 0
deriving DecidableEq, Repr

/-- A converter's configuration (ADC.CFG): period code, reference, calibration interval. -/
structure AdcCfg where
  period : Nat := 3
  ref    : Nat := 0
  calN   : Nat := 64
deriving DecidableEq, Repr

/-- The running state of a slice group and its converter. `pos` indexes the scan's slots; `convFrom` is when the conversion in progress began
and `convOk` whether REF_SETTLED has been set since, `convFault` whether REF_FAULT was; `usr` holds the user calibration in force for that conversion (R281); `calRes` the last two
results of each kind (R273). -/
structure Grp where
  cfg       : AdcCfg := {}
  running   : Bool := false
  refUsed   : Nat := 0
  settled   : Bool := false
  refFault  : Bool := false
  faultFrom : Option Nat := none
  checkFrom : Nat := 0
  lastMeas  : Option Nat := none
  pos       : Nat := 0
  inCal     : Bool := false
  convFrom  : Nat := 0
  convOk    : Bool := false
  convFault : Bool := false
  usr       : Word × Word := (0, 0x3F800000)
  scanFrom  : Nat := 0
  scans     : Nat := 0
  scanUs    : Nat := 0
  settleUs  : Nat := 0
  calNo     : Nat := 1
  calRun    : Nat := 0
  zeros     : List Word64 := []
  gains     : List Word64 := []
  cause     : Option Nat := none
  retesting : Bool := false
  fencedAt  : Nat := 0
  fences    : Nat := 0
  fieldMa   : Nat := 0
  tpLow     : List Nat := []
deriving DecidableEq, Repr

/-- Slices S01–S48 (index 0–47), groups 0–3, the test-pulse configuration of the safety configuration. -/
structure FieldState where
  slcs  : List Slc := []
  grps  : List Grp := []
  tpMs  : Nat := 20
  tpUse : Nat := 0
deriving DecidableEq, Repr

/-- Outcome of a retest (R289): supply in its window, 1,000 valid frames, both calibrations pass, every output reads its fault value. -/
structure Retest where
  supply : Bool
  frames : Bool
  cal    : Bool
  rb     : Bool
deriving DecidableEq, Repr

end Sys2Proof
end

