-- ==== Sys2Proof/Machine/DataMem.lean ====
section
/-!
DEFINITION. Memory protection state (R111–R130): the erasure tracker, the corrected-error history of the storm condition, poisoned locations, the sweep.
-/
namespace Sys2Proof

/-- A memory location (R117, R118): codeword or word index, SRAM or main memory, region code, owning engine, whether it lies in a copy of a slot's screed, and for
point data the station, the version and the local points whose storage it holds. -/
structure MemErr where
  index   : Nat
  sram    : Bool
  region  : Nat
  eng     : Option Eng := none
  screed  : Bool := false
  station : Nat := 0
  ver     : Nat := 0
  points  : List Nat := []
deriving DecidableEq, Repr

/-- What stands at one codeword or word that is read: no error, or wrong symbols (bits, in SRAM) at these positions (R112, R116). What the decoder makes of them is
not part of it. -/
inductive MemFind
  | clean
  | wrong (positions : List Nat) (e : MemErr)
deriving DecidableEq, Repr

/-- What the decoder makes of a read (R112–R114, R116): clean, corrected at these positions, corrected to another word than was written, or failed. -/
inductive MemOut
  | clean
  | corrected (positions : List Nat)
  | mistaken (positions : List Nat)
  | failed
deriving DecidableEq, Repr

/-- Memory protection state. `track` holds a symbol position, the codeword corrected there and when (R114); `ce` the corrected errors with
their kind (R115); `stormOver` until when the last recorded storm lasted; `poison` the locations whose reads return the uncorrectable
indication without being counted again (R117); the sweep's address and start (R119), whether this sweep is already late (R122); the longest wait of a loop sample for
the CTL SRAM in ns (R130). -/
structure MemState where
  track     : List (Nat × Nat × Nat) := []
  ce        : List (Bool × Nat) := []
  stormOver : Option Nat := none
  poison    : List MemErr := []
  sandPos   : Nat := 0
  sweepFrom : Nat := 0
  sweeps    : Nat := 0
  late      : Bool := false
  overdue   : Bool := false
  loopBlk   : Nat := 0
deriving DecidableEq, Repr

end Sys2Proof
end

