-- ==== Sys2Proof/Machine/DataLoop.lean ====
section
/-!
DEFINITION. Control loops and response captures (R238–R269): configuration from the profile, running state, tests, capture records.
-/
namespace Sys2Proof

/-- Loop modes (R249). -/
inductive LoopMode
  | man
  | auto
  | cascade
  | track
  | hold
  | off
deriving DecidableEq, Repr

/-- LOOP.MODE[MODE] code (R249). -/
def LoopMode.code : LoopMode → Nat
  | .man => 0
  | .auto => 1
  | .cascade => 2
  | .track => 3
  | .hold => 4
  | .off => 7

/-- The mode of a code 0–4. -/
def LoopMode.ofCode : Nat → Option LoopMode
  | 0 => some .man
  | 1 => some .auto
  | 2 => some .cascade
  | 3 => some .track
  | 4 => some .hold
  | _ => none

/-- A loop's configuration, as the fields of its block marked "From profile" hold it (R267). Kinds and references are the register codes
of *Loop sources*; `tune` holds the 23 tuning parameters by index (R247). -/
structure LoopCfg where
  direct   : Bool
  spTrack  : Bool
  failAct  : Bool
  spKind   : Nat
  pvKind   : Nat
  ffKind   : Nat
  trkKind  : Nat
  outKind  : Nat
  initMode : LoopMode
  depth    : Nat
  periodMs : Nat
  phaseMs  : Nat
  pvRef    : Word
  spRef    : Word
  ffRef    : Word
  trkRef   : Word
  outRef   : Word
  missLim  : Nat
  maxAge   : Nat
  tune     : List Word64
  spLocal  : Word64
deriving DecidableEq, Repr

/-- A source as a consumer reads it: value, quality, age in nanoseconds. -/
structure Src where
  val  : Word64
  qual : Qual
  age  : Nat
deriving DecidableEq, Repr

/-- The host-writable values of a loop (R94, R248): tuning, limits, local set-point, manual output, the test's registers. -/
structure LoopPar where
  tune    : List Word64 := []
  missLim : Nat := 0
  maxAge  : Nat := 0
  spLocal : Word64 := 0
  manOut  : Word64 := 0
  test    : List Word := []
deriving DecidableEq, Repr

/-- What a sample journals of its inputs (R90, R241): the frame; process variable, feedforward, tracking and remote set-point sources, and the value of an
inner loop that opened the cascade; whether the slices' hardware latch has come. -/
structure LoopJr where
  frame   : Nat
  pv      : Src
  ff      : Option Src
  trk     : Option Src
  sp      : Option Src
  inner   : Option Src
  latched : Bool
deriving DecidableEq, Repr

/-- A running test (R261, R262): kind, target, signal parameters captured at the start, sample index, PRBS register. -/
structure LoopTest where
  kind  : Nat
  onOut : Bool
  order : Nat
  hold  : Nat
  len   : Nat
  amp   : Word64
  f0    : Nat
  f1    : Nat
  j     : Nat
  reg   : Nat
deriving DecidableEq, Repr

/-- The state of one loop: configuration and slot in the schedule, the host-writable values (tuning, limits, local set-point, manual output),
mode, status word, control-law state of the last completed sample, cut-in and start flags, the mode of the last scheduled sample (R264), test; the
configuration that a profile switch brings; the values `par` that the last sample start took from the registers (R94), what the host has written since
(`cutWr` a tuning pair, `manNew` the manual output, `spNew` the local set-point); the journal of the sample (R90); the frame last sampled (R240); a sample that
waits for its re-execution, by its frame, with its handover flag (R96). -/
structure Loop where
  cfg     : Option LoopCfg := none
  slot    : Nat := 0
  tune    : List Word64 := []
  missLim : Nat := 0
  maxAge  : Nat := 0
  spLocal : Word64 := 0
  manOut  : Word64 := 0
  mode    : LoopMode := .off
  prev    : LoopMode := .off
  reason  : Nat := 0
  changes : Nat := 0
  running : Bool := false
  stat    : Word := 0
  missRun : Nat := 0
  longest : Nat := 0
  r       : Word64 := 0
  u       : Word64 := 0
  i       : Word64 := 0
  d       : Word64 := 0
  h       : Word64 := 0
  tgt     : Word64 := 0
  y       : Word64 := 0
  ff      : Word64 := 0
  dTest   : Word64 := 0
  tIn     : Time64 := {}
  cutIn   : Bool := false
  fresh   : Bool := false
  manWr   : Bool := false
  lastMan : Bool := false
  sampMode : LoopMode := .off
  commitAt : Option Nat := none
  test    : Option LoopTest := none
  next    : Option LoopCfg := none
  par     : LoopPar := {}
  cutWr   : Bool := false
  manNew  : Bool := false
  spNew   : Bool := false
  jr      : Option LoopJr := none
  sampled : Option Nat := none
  due     : Option (Nat × Bool) := none
deriving DecidableEq, Repr

/-- States of a capture (LCAP.STATn). -/
inductive CapState
  | idle
  | armed
  | running
  | done
  | aborted
deriving DecidableEq, Repr

/-- LCAP.STAT[STATE] code. -/
def CapState.code : CapState → Nat
  | .idle => 0
  | .armed => 1
  | .running => 2
  | .done => 3
  | .aborted => 4

/-- One record of a capture (R264). -/
structure CapRec where
  rs   : Word
  y    : Word
  u    : Word
  info : Word
deriving DecidableEq, Repr

/-- One response capture (R264): what ARM took from LCAP.CFGn, records stored, samples since the trigger, the trigger's time, when it was
armed. -/
structure Cap where
  st     : CapState := .idle
  loop   : Nat := 0
  trig   : Nat := 0
  decim  : Nat := 1
  count  : Nat := 0
  idx    : Nat := 0
  recs   : List CapRec := []
  trigAt : Time64 := {}
  since  : Nat := 0
deriving DecidableEq, Repr

/-- Loop-engine state: 48 loops, four captures, the instant of frame 0 (R240). -/
structure LoopState where
  loops  : List Loop := []
  caps   : List Cap := []
  frame0 : Nat := 0
deriving DecidableEq, Repr

end Sys2Proof
end

