-- ==== Sys2Proof/Machine/DataMeter.lean ====
section
/-!
DEFINITION. Electrical and thermal metering (R295–R331): the configuration a profile gives, the accounts, saves and billing records.
-/
namespace Sys2Proof

/-- An electrical point's configuration (R295, R329): connection, direction, view unit, channel slices, declared voltage, thresholds. -/
structure ElCfg where
  on      : Bool := false
  conn    : Nat := 0
  dir     : Bool := false
  unitExp : Nat := 0
  chV     : List Nat := [0, 0, 0]
  chI     : List Nat := [0, 0, 0]
  udin    : Word := 0
  thr     : Word := 0x1405_6E5A
deriving DecidableEq, Repr

/-- A thermal point's configuration (R330). -/
structure HeatCfg where
  on       : Bool := false
  flowLoc  : Bool := false
  unitExp  : Nat := 0
  volExp   : Nat := 0
  flowRef  : Word := 0
  tfRef    : Word := 0
  trRef    : Word := 0
  vppMl    : Nat := 1
  press    : Nat := 1600
  dtMin    : Nat := 50
  maxAge   : Nat := 10000
deriving DecidableEq, Repr

/-- A pulse output's configuration (R331); slice 0 is an output not configured. -/
structure PulseCfg where
  slice   : Nat := 0
  thermal : Bool := false
  point   : Nat := 0
  acc     : Nat := 0
  const   : Nat := 1
  width   : Nat := 10
deriving DecidableEq, Repr

/-- What a profile configures for metering (R327). -/
structure MtrCfg where
  saveS   : Nat := 5
  billMin : Nat := 15
  f60     : Bool := false
  demMin  : Nat := 15
  els     : List ElCfg := []
  heats   : List HeatCfg := []
  pulses  : List PulseCfg := []
deriving DecidableEq, Repr

/-- A voltage event in progress (R305): its first half-cycle by stamp and cycle timer, whether the stamp was invalid, the extreme, the channels. -/
structure PqRun where
  start : Time64
  at_   : Nat
  inval : Bool
  ext   : Word64
  chans : Nat
deriving DecidableEq, Repr

/-- One electrical point: accumulators 0–7 with EST_IMP and EST_EXP as 8 and 9, residues, error time in µs, the mean power of the last billable
window and whether one has ended since the metering start (R302), the last window's quantities, demand, harmonics, voltage events by kind (sag, swell, interruption), the
channels lost to detection. -/
structure ElPoint where
  acc    : List Nat := List.replicate 10 0
  res    : List Word64 := List.replicate 10 0
  errUs  : Nat := 0
  pGood  : Option Word64 := none
  seen   : Bool := false
  freq   : Word64 := 0
  fOut   : Bool := false
  quals  : List Qual := []
  est    : Bool := false
  uncert : Bool := false
  fixed  : Bool := false
  rms    : List Word64 := List.replicate 6 0
  pqs    : List Word64 := List.replicate 9 0
  p      : Word64 := 0
  q      : Word64 := 0
  s      : Word64 := 0
  pf     : Word64 := 0
  dem    : Word64 := 0
  demAt  : Nat := 0
  demAcc : Nat := 0
  maxDem : Word64 := 0
  maxAt  : Nat := 0
  perMax : Word64 := 0
  harm   : List (List Word64) := []
  runs   : List (Option PqRun) := [none, none, none]
  lost   : Nat := 0
deriving DecidableEq, Repr

/-- One thermal point: HEAT, COLD, VOLUME, EST_HEAT, EST_COLD, residues, error time in µs, the last count, the energy of the last billable step, and
what the last step showed. -/
structure HeatPoint where
  acc   : List Nat := List.replicate 5 0
  res   : List Word64 := List.replicate 5 0
  errUs : Nat := 0
  prev  : Option Nat := none
  eGood : Option Word64 := none
  qual  : Qual := .bad
  est   : Bool := false
  bad   : Nat := 0
  flow  : Word64 := 0
  tf    : Word64 := 0
  tr    : Word64 := 0
  power : Word64 := 0
deriving DecidableEq, Repr

/-- One pulse output: emitted count, backlog, LAG, pulses released by the last step. -/
structure PulseOut where
  e    : Nat := 0
  back : Nat := 0
  lag  : Bool := false
  rel  : Nat := 0
deriving DecidableEq, Repr

/-- The accounts that an interval step commits (R313). -/
structure Accts where
  els    : List ElPoint := []
  heats  : List HeatPoint := []
  pulses : List PulseOut := []
  recNo  : Nat := 0
deriving DecidableEq, Repr

/-- A save (R314): its sequence, the RTC reading and operating seconds of its step end, LASTGASP, whether its CRC holds, the accounts. -/
structure MtrSave where
  seq  : Nat
  rtc  : Int
  opS  : Nat
  last : Bool
  ok   : Bool
  a    : Accts
deriving DecidableEq, Repr

/-- What the next billing record of a point needs: when its energy begins, the estimates then, flags collected (R318). -/
structure BillPt where
  start : Time64 := {}
  est   : List Nat := [0, 0]
  flags : Nat := 0
deriving DecidableEq, Repr

/-- The inputs of a thermal point at a step end (R308): the count of its flow slice, flow, flow temperature, return temperature. -/
structure HeatIn where
  count : Nat
  fl    : Src
  tf    : Src
  tr    : Src
deriving DecidableEq, Repr

/-- What metering journals (R90), each with its instant: a window and a half-cycle of a point with the quality and the corrected samples of its channels, and an
interval step with its number since the metering start, its thermal inputs and the failed verifications of its save. -/
inductive MtrEv
  | window (at_ p : Nat) (freq : Word64) (chans : List (Qual × List Word64))
  | half (at_ p : Nat) (chans : List (Qual × List Word64))
  | step (at_ no bad : Nat) (ins : List HeatIn)
deriving DecidableEq, Repr

/-- Metering state: configuration in force and to come, running, metering start, steps since, last step end; accounts being built and committed, the journal since the commit; the two
save buffers, when the newest save was made, the failure mark; channel corrections in force; the offset of TAI to the cycle timer at the last step end with valid time, on which boundaries continue (R303, R318); billing of the 32 points,
fixed records in FRAM with the key slot of each, stored records; the PQ ring with its unread records and those to be released; time-base epoch at the
last step; a save asked for; the newest save ended metering before a software reset (R79). -/
structure MtrState where
  cfg     : MtrCfg := {}
  next    : Option MtrCfg := none
  running : Bool := false
  startAt : Nat := 0
  steps   : Nat := 0
  lastEnd : Nat := 0
  w       : Accts := {}
  c       : Accts := {}
  jrn     : List MtrEv := []
  bufs    : List (Option MtrSave) := [none, none]
  savedAt : Option Nat := none
  mark    : Option Int := none
  corr    : List Word := []
  lastOfs : Option Int := none
  bills   : List BillPt := []
  recNext : Nat := 0
  hold    : List (List Byte × Nat) := []
  full    : Bool := false
  recs    : List (Nat × List Byte) := []
  recMiss : Bool := false
  ring    : List (List Byte) := []
  ringN   : Nat := 0
  unread  : List Nat := []
  done    : List (Nat × Nat × List Byte) := []
  epoch   : Nat := 0
  saveNow : Bool := false
  clean   : Bool := false
deriving DecidableEq, Repr

end Sys2Proof
end

