-- ==== Sys2Proof/Machine/DataPrg.lean ====
section
/-!
DEFINITION. Sequence programs and masks (R332–R358): the program image, block state, tasks, the mask list.
-/
namespace Sys2Proof

/-- A connection entry (R334): block output (source identity, output index, inversion) or constant. -/
inductive Conn
  | block (src out : Nat) (neg : Bool)
  | const (v : Word64)
deriving DecidableEq, Repr

/-- A block table entry (R334) with its inputs. -/
structure BlockP where
  id   : Nat
  typ  : Nat
  task : Nat
  ins  : List Conn
  ref  : Word
  p0   : Word64
  p1   : Word64
deriving DecidableEq, Repr

/-- A task table entry (R333). -/
structure TaskP where
  enable   : Bool
  prio     : Nat
  periodMs : Nat
  phaseMs  : Nat
deriving DecidableEq, Repr

/-- The program image (R332): identity, revision, CRC, tasks 0–15, blocks in table order, bytes 0–63 of the header and the signature over them. -/
structure PrgImage where
  id     : Word
  rev    : Word
  crc    : Word
  tasks  : List TaskP
  blocks : List BlockP
  head   : List Byte := []
  sig    : List Byte := []
deriving DecidableEq, Repr

/-- One output signal of a block (R336): value (a BOOL is 0.0 or 1.0) and quality. -/
structure Sig where
  v : Word64 := 0
  q : Qual := .good
deriving DecidableEq, Repr, Inhabited

/-- What a block keeps between cycles (R337): its outputs as committed, times in nanoseconds, counts, latches and previous inputs. `first` until
the first cycle after a start. -/
structure BlockSt where
  id    : Nat
  outs  : List Sig := []
  first : Bool := true
  prev  : List Bool := []
  on    : Bool := false
  ack   : Bool := false
  tNs   : Nat := 0
  x0    : Word64 := 0
  y0    : Word64 := 0
  cv    : Int := 0
  run   : Bool := false
deriving DecidableEq, Repr, Inhabited

/-- What a write block writes (R342): an output, a loop set-point, a solver series code and scope. -/
inductive WDest
  | out (t : Target)
  | sp (loop : Nat)
  | series (code scope : Nat)
deriving DecidableEq, Repr

/-- What a cycle leaves to its commit. -/
inductive PrgEff
  | stage (d : WDest) (v : Word64) (p0 : Word64)
  | drop
  | evt (code : Nat) (p1 p2 p3 : Word)
  | alarm (id : Nat) (on : Bool)
  | ack (id : Nat)
deriving DecidableEq, Repr

/-- A task cycle that has been computed and not committed (R90, R96): the instant of its release, its execution time, block states, effects, whether it waited for an
owner. A cycle is a function of the task's input image and block states, so that this is what its re-execution from them gives. -/
structure TaskJob where
  at_    : Nat
  execUs : Nat
  sts    : List BlockSt
  effs   : List PrgEff
  wait   : Bool
deriving DecidableEq, Repr

/-- The running state of a task: the image it runs, whether its exchange is due (R344), the instant of its last release, block states as committed,
flags of PRG.TSTAT, the end of the cycle in progress, the entries slot outputs filled (R192), acknowledgements for its next input copy (R339), a
cycle that awaits its re-execution. -/
structure Task where
  running  : Bool := false
  img      : Option PrgImage := none
  exchDue  : Bool := false
  last     : Option Nat := none
  blocks   : List BlockSt := []
  exchd    : Bool := false
  overrun  : Bool := false
  waitOwn  : Bool := false
  busyTill : Nat := 0
  execUs   : Nat := 0
  maxUs    : Nat := 0
  inImg    : List (Nat × Word64) := []
  acks     : List Nat := []
  job      : Option TaskJob := none
deriving DecidableEq, Repr

/-- What a mask covers (R349). -/
inductive MaskKind
  | read (id : Nat)
  | write (id : Nat)
  | out (t : Target)
deriving DecidableEq, Repr

/-- One mask (R349). -/
structure Mask where
  kind : MaskKind
  val  : Word64
deriving DecidableEq, Repr

/-- Program and mask state: the image of the active profile, the image before the last switch, tasks, masks, the forced values released
to their groups (R350), the outputs whose forced or restored value is still to be released (R350, R351). -/
structure PrgState where
  img    : Option PrgImage := none
  oldImg : Option PrgImage := none
  tasks  : List Task := []
  masks  : List Mask := []
  forced : List (Target × Word64) := []
  due    : List Target := []
deriving DecidableEq, Repr

end Sys2Proof
end

