-- ==== Sys2Proof/Machine/DataSafe.lean ====
section
/-!
DEFINITION. The safety domain and Polien (R419–R450): the safety configuration, functions, connections, lockout and the seal switches.
-/
namespace Sys2Proof

/-- A slice claimed by the safety configuration (R424). -/
structure SafeSlc where
  slice  : Nat
  func   : Nat
  supply : Bool
  tested : Bool
  filtMs : Nat
deriving DecidableEq, Repr

/-- A reference of the function table (R424). -/
inductive SRef
  | none
  | slice (n : Nat)
  | pol (conn bit : Nat)
deriving DecidableEq, Repr

/-- A function table entry (R424, R428). -/
structure FnCfg where
  typ     : Nat
  flags   : Nat
  discMs  : Nat
  inA     : SRef
  inB     : SRef
  inFb    : SRef
  inRst   : SRef
  outs    : List SRef
  stopMs  : Nat
  fbMs    : Nat
  bypassS : Nat
deriving DecidableEq, Repr

/-- A connection table entry (R424, R437). -/
structure PolCfg where
  id       : Word
  can      : Bool
  lenTx    : Nat
  lenRx    : Nat
  segment  : Nat
  periodMs : Nat
  wdMs     : Nat
  txId     : Nat
  rxId     : Nat
deriving DecidableEq, Repr

/-- The safety configuration (R424). -/
structure SafeCfg where
  addr  : Nat := 0
  id    : Word := 0
  rev   : Word := 0
  crc   : Word := 0
  tpMs  : Nat := 20
  slcs  : List SafeSlc := []
  fns   : List (Option FnCfg) := []
  conns : List (Option PolCfg) := []
deriving DecidableEq, Repr

/-- Function states (R429). -/
inductive FnState
  | off | safe | ready | run | stopping | locked
deriving DecidableEq, Repr

/-- The code of a function state (R429). -/
def FnState.code : FnState → Nat
  | .off => 0
  | .safe => 1
  | .ready => 2
  | .run => 3
  | .stopping => 4
  | .locked => 5

/-- The running state of a safety function (R429–R435). -/
structure Fn where
  st       : FnState := .off
  tripped  : Bool := false
  stuck    : Bool := false
  blocked  : Bool := false
  cause    : Nat := 0
  a        : Bool := false
  b        : Bool := false
  fb       : Bool := false
  rst      : Bool := false
  demand   : Bool := false
  runAt    : Nat := 0
  stopAt   : Nat := 0
  pressAt  : Option Nat := none
  discAt   : Option Nat := none
  discFault : Bool := false
  discDem  : Bool := false
  tpFault  : Bool := false
  tpOk     : Nat × Nat := (0, 0)
  fbAt     : Option Nat := none
  fbFault  : Bool := false
  rbFault  : Bool := false
  on       : Bool := false
  request  : Bool := false
  stopWhy  : Nat := 0
deriving DecidableEq, Repr

/-- Connection states (R443). -/
inductive PolSt
  | closed | starting | running | failsafe
deriving DecidableEq, Repr

/-- The code of a connection state (R443). -/
def PolSt.code : PolSt → Nat
  | .closed => 0
  | .starting => 1
  | .running => 2
  | .failsafe => 3

/-- The running state of a connection (R440–R443): `sent` holds the last 256 telegrams sent, newest first, with send time and START. -/
structure Pol where
  st       : PolSt := .closed
  cause    : Nat := 0
  s        : Option Nat := none
  seq      : Nat := 0
  started  : Bool := false
  sent     : List (Nat × Nat × Bool) := []
  lastTx   : Option Nat := none
  deadline : Nat := 0
  failAt   : Nat := 0
  rxNext   : Option (List Byte) := none
  rxNow    : List Byte := []
  txPay    : List Byte := []
  rtt      : Nat := 0
  rttMax   : Nat := 0
deriving DecidableEq, Repr

/-- A raw test sample of an SDI slice in a pulse of TPA or TPB: what it read before and during the pulse (R433). -/
structure SdiTest where
  slice  : Nat
  tpb    : Bool
  before : Bool
  during : Bool
deriving DecidableEq, Repr

/-- What the ACTIVE mirrors of a connection each safety cycle (R446): RUNNING, last SEQ sent, S, send times. -/
structure PolMirror where
  conn    : Nat
  running : Bool
  seq     : Nat
  s       : Option Nat
  sent    : List (Nat × Nat × Bool)
deriving DecidableEq, Repr

/-- State of the safety domain. `sdo` lists the safety outputs the domain energises, `outPol` the Polien output bits; `inbox` the telegrams the transports
delivered, each with the connections it can belong to; `mirror` what the ACTIVE mirrored last; `disAt` since when A and B read a switch differently; `cycAt` when the running
safety cycle started. -/
structure SafeState where
  cfg       : SafeCfg := {}
  cfgValid  : Bool := true
  confirmed : Bool := false
  lockout   : Bool := false
  edit      : Bool := false
  swAddr    : Nat := 0
  bootFail  : Nat := 0
  disAt     : Option Nat := none
  fns       : List Fn := []
  conns     : List Pol := []
  sdo       : List Nat := []
  outPol    : List (Nat × Nat) := []
  inbox     : List (List Nat × List Byte) := []
  mirror    : List PolMirror := []
  cycAt     : Option Nat := none
deriving DecidableEq, Repr

end Sys2Proof
end

