-- ==== Sys2Proof/Machine/DataProb.lean ====
section
/-!
DEFINITION. The dispatch and hydraulic problems: the physical parameters of the network image and the weights of the profile that R172–R187
use, input series and task overrides (R177–R180), the forecaster (R181–R184), output entries (R192).
-/
namespace Sys2Proof

/-- HEAT or COLD, the medium of a zone and of what feeds it (R172). -/
inductive Medium
  | heat
  | cold
deriving DecidableEq, Repr

/-- A zone's parameters in the dispatch programme (R173, R174, R181): image parameters, then profile weights, ramp, defaults, forecaster. -/
structure ZoneP where
  zone   : Nat
  medium : Medium
  group  : Nat
  tMin   : Word64
  tMax   : Word64
  hMax   : Word64
  kappa  : Word64
  rho    : Word64
  cHeat  : Word64
  lam    : Word64
  rampT  : Word64
  tRet0  : Word64
  tCold  : Word64
  tPt    : Option Nat
  retPt  : Option Nat
  heatPts : List Nat
  fcOn   : Bool
  beta   : Word64
  tBase  : Word64
  alpha  : Word64
  gamma  : Word64
  init   : Word64
  dem0   : Word64
deriving DecidableEq, Repr

/-- A plant's parameters (R173, R175, R176): station, subtype, feed zone, limits, polygon sides (α, β, γ), conversion coefficients, ramps, fuel
carbon factor, defaults of price, commitment and COP or EER, the points of its measured power and heat. -/
structure PlantP where
  station : Nat
  subtype : Nat
  zone    : Nat
  pMin : Word64
  pMax : Word64
  qMin : Word64
  qMax : Word64
  sides : List (Word64 × Word64 × Word64)
  f0   : Word64
  fP   : Word64
  fQ   : Word64
  eta  : Word64
  nominal : Word64
  rampP : Word64
  rampQ : Word64
  carbon : Word64
  price0 : Word64
  commit0 : Word64
  wP   : Word64
  wQ   : Word64
  pPt  : Option Nat
  qPt  : Option Nat
deriving DecidableEq, Repr

/-- A store's parameters (R173, R176), the points of its measured state of charge and flows. -/
structure StoreP where
  station : Nat
  zone    : Nat
  eMin : Word64
  eMax : Word64
  cMax : Word64
  dMax : Word64
  loss : Word64
  etaC : Word64
  etaD : Word64
  value0 : Word64
  soc0 : Word64
  wC   : Word64
  wD   : Word64
  socPt : Option Nat
  cPt  : Option Nat
  dPt  : Option Nat
deriving DecidableEq, Repr

/-- A pump group (R173, R185, R186, R191, R193): its station, hydraulic slot, pump edges, curve, efficiency, limits, nominal flow and nodes. -/
structure GroupP where
  station : Nat
  slot    : Nat
  edges   : List Nat
  a0 : Word64
  a1 : Word64
  a2 : Word64
  eta : Word64
  rho : Word64
  wMin : Word64
  wMax : Word64
  hMin : Word64
  hMax : Word64
  flow0 : Word64
  dis : Nat
  suc : Nat
  hCold : Word64
deriving DecidableEq, Repr

/-- Grid limits and the profile constants of the network-wide series (R173, R177), weather station and point base (R183), and the points that measure
the import and the export. -/
structure GridP where
  iMax : Word64
  xMax : Word64
  imp0 : Word64
  exp0 : Word64
  co2p0 : Word64
  co2g0 : Word64
  base0 : Word64
  gnd0 : Word64
  wI : Word64
  wX : Word64
  ws : Word64
  ws2 : Word64
  rhoT : Word64
  rhoH : Word64
  wxStation : Nat
  wxBase : Nat
  toutPt : Option Nat
  iPt  : Option Nat
  xPt  : Option Nat
deriving DecidableEq, Repr

/-- Edge kinds (R185). -/
inductive EdgeKind
  | pipe | valve | plant | pump | consumer | store
deriving DecidableEq, Repr

/-- An edge of a hydraulic slot's graph: identity, kind, end nodes, resistance or the point that gives it, minimum head difference of a
consumer, density, nominal flow. -/
structure EdgeP where
  id   : Nat
  kind : EdgeKind
  a    : Nat
  b    : Nat
  res  : Word64
  resPt : Option Nat
  dhMin : Word64
  rho  : Word64
  q0   : Word64
deriving DecidableEq, Repr

/-- A node: identity, elevation, maximum pressure in metres of head, nominal head. -/
structure NodeP where
  id : Nat
  z  : Word64
  pMax : Word64
  h0 : Word64
deriving DecidableEq, Repr

/-- What a measurement measures: a node head, an edge flow, an edge head difference (R186). -/
inductive MeasKind
  | head | flow | diff
deriving DecidableEq, Repr

/-- A configured measurement: kind, element, its point, standard deviation, density for a pressure. -/
structure MeasP where
  kind  : MeasKind
  elem  : Nat
  point : Nat
  sigma : Word64
  rho   : Word64
deriving DecidableEq, Repr

/-- A hydraulic slot's graph and weights (R185–R187). `eps` holds ε of every ψ: the power terms by group rank, then the penalty terms by rank. -/
structure HydP where
  nodes : List NodeP
  edges : List EdgeP
  meas  : List MeasP
  qEps  : Word64
  eps   : List Word64
  wc : Word64
  we : Word64
  wP : Word64
  wdp : Word64
  wp : Word64
  ww : Word64
  uncert : Word64
deriving DecidableEq, Repr

/-- The destination of an output entry (R192). -/
inductive OutDest
  | loopSp (n : Nat)
  | taskIn (task entry : Nat)
  | point (index : Nat)
  | local_ (index : Nat)
deriving DecidableEq, Repr

/-- An output entry (R192). -/
structure OutEntry where
  source : Nat
  scale  : Word64
  offset : Word64
  lo     : Word64
  hi     : Word64
  fallback : Word64
  dest   : OutDest
deriving DecidableEq, Repr

/-- A host input series (R177). -/
structure Series where
  code  : Nat
  scope : Nat
  start : Time64
  stepS : Nat
  vals  : List Word64
deriving DecidableEq, Repr

/-- A task's solver input write (R180): value, the instant of its commit, validity in nanoseconds. -/
structure Override where
  code  : Nat
  scope : Nat
  val   : Word64
  at_   : Nat
  validNs : Nat
deriving DecidableEq, Repr

/-- A zone's forecaster state (R181, R182, R184): level, 96 seasonal values, and the qualifying snapshots of the grid step, each with its instant. -/
structure Forecast where
  zone   : Nat
  level  : Word64
  season : List Word64
  snaps  : List (Nat × Word64) := []
  skips  : Nat := 0
deriving DecidableEq, Repr

end Sys2Proof
end

