-- ==== Sys2Proof/Machine/DataSlot.lean ====
section
/-!
DEFINITION. Solver slots and lanes (R195–R237): configuration from the profile, the screed, the skim, a running cycle, a published result.
-/
namespace Sys2Proof

/-- Problem kinds (R164). -/
inductive SlotKind
  | dispatch
  | hydraulic
deriving DecidableEq, Repr

/-- One slot of a profile (R164, R198, R210, R192): kind, deadline class, iteration count, period, deadline, limits, method parameters by
index, output table, hydraulic graph, cold values by quantity code. The method follows the kind. -/
structure SlotCfg where
  kind      : SlotKind
  shift     : Bool
  iter      : Nat
  periodMs  : Nat
  deadlineUs : Nat
  staleMax  : Nat
  warmShare : Nat
  params    : List (Nat × Word64)
  outputs   : List OutEntry
  hyd       : Option HydP
  cold      : List (Nat × Word64)
deriving DecidableEq, Repr

/-- What the dispatch slot takes from image and profile (R172–R176). -/
structure DispP where
  zones  : List ZoneP := []
  plants : List PlantP := []
  stores : List StoreP := []
  groups : List GroupP := []
  grid   : Option GridP := none
  gen    : Nat := 0
deriving DecidableEq, Repr

/-- The figures of a screed that its ordering and tiles decide (R199, R200, R229). -/
structure ScreedFig where
  id      : Word := 0
  nnz     : Nat := 0
  idx     : Nat := 0
  wideK   : Nat := 0
  narrowK : Nat := 0
  tiles   : Nat := 1
  tIt0    : Nat := 0
  tFact   : Nat := 0
  tIter   : Nat := 0
deriving DecidableEq, Repr, Inhabited

/-- A resident screed (R199, R225, R229): tag lists of variables and rows, the patterns of P and A or of the residual terms as column rank × 2²⁰ + row rank,
unknowns, the elimination order of the unknowns, the tile of each position in it, figures, and what *Structure and values* lists besides (R188). -/
structure Screed where
  vars   : List Nat
  rows   : List Nat
  patP   : List Nat
  patA   : List Nat
  nUnk   : Nat
  perm   : List Nat := []
  tile   : List Nat := []
  form   : List Nat := []
  fig    : ScreedFig
deriving DecidableEq, Repr, Inhabited

/-- One record of a skim (R204): object code, position, value. -/
structure SkimRec where
  obj : Nat
  pos : Nat
  val : Word64
deriving DecidableEq, Repr, Inhabited

/-- A skim staged by the host (R207, R237): header fields and records. -/
structure Skim where
  screed : Word
  cycle  : Nat
  recs   : List SkimRec
deriving DecidableEq, Repr

/-- An iterate as the engine computes it (R208, R209): primal and dual vectors in tag order, the terms a and b of its merit (R211), the step norm gb of
LM-NLS, its merit, whether every value is finite, whether a pivot was regularised. -/
structure Iterate where
  x : List Word64
  y : List Word64
  a : Word64
  b : Word64
  c : Word64
  m : Word64
  finite : Bool
  pivot  : Bool
deriving DecidableEq, Repr, Inhabited

/-- Everything an iterate depends on (R226): screed, values in force, warm start, method parameters, the graph of a hydraulic slot. -/
structure IterIn where
  screed : Screed
  vals   : List SkimRec
  x0     : List Word64
  y0     : List Word64
  params : List (Nat × Word64)
  hyd    : Option (HydP × List GroupP)
deriving DecidableEq, Repr

/-- Where a cycle stands (R196). -/
inductive CycPhase
  | waiting
  | solving
  | makingGood
deriving DecidableEq, Repr

/-- A slot cycle in progress (R88, R195–R197, R211, R216). `done` counts iterates completed, iterate 0 included; `best` is the best candidate, by index and
merit; `merit0` the journaled merit of iterate 0; `late` when the deadline has passed before iterate 0 was complete; `lanes` the
lanes the cycle runs on, zero until it obtains them; `capt` when SLOT.CMD CAPTURE takes it; `hashes` the first 8 bytes of the hash of every iterate
(R463). -/
structure Cycle where
  num      : Nat
  boundary : Nat
  trial    : Bool := false
  phase    : CycPhase := .waiting
  snap     : List (Nat × Nat) := []
  vals     : List SkimRec := []
  skim     : List SkimRec := []
  x0       : List Word64 := []
  y0       : List Word64 := []
  flags    : Nat := 0
  gridT    : Nat := 0
  done     : Nat := 0
  best     : Option (Nat × Word64) := none
  merit0   : Option Word64 := none
  late     : Bool := false
  lanes    : Nat := 0
  hashes   : List (List Byte) := []
  capt     : Bool := false
deriving DecidableEq, Repr

/-- The last publication of a slot (R213–R215, R236), with the grid time of step 0 that its step indices refer to (R171). -/
structure Result where
  cycle : Nat
  iterW : Nat
  a     : Word64
  b     : Word64
  merit : Word64
  hash  : List Byte
  tUs   : Nat
  tags  : List Nat
  rows  : List Nat
  x     : List Word64
  y     : List Word64
  gridT : Nat
deriving DecidableEq, Repr

/-- A capture of one cycle (R207). -/
structure Capture where
  cycle : Nat
  skim  : List SkimRec
  screed : Word
  warm  : List (Nat × Word64)
  res   : Option Result := none
deriving DecidableEq, Repr

/-- How far a SLOT.CMD that has begun is (R234, OP-3): it awaits its build, its trial or its captured cycle; its captured cycle runs; it has ended, and its
completion waits for those before it. -/
inductive CmdSt
  | waiting
  | taken
  | done (e : Err)
deriving DecidableEq, Repr

/-- A screed build wanted or running (R195, R202). -/
inductive BuildState
  | none
  | waiting
  | running
deriving DecidableEq, Repr

/-- The running state of one slot. `copy2` tells that the second copy of the screed is good (R199, R118); `begun` how far the first commands of its queue are;
`vals` are the values in force (R206); `res` the last publication, `src` the solution a changed screed maps from (R222);
`nextNum` is the number the next boundary takes; `skips` the increments of CONSEC that await the next commit (R219); `started` since its first
cycle after the origin was set (R596); `lastB` the last boundary; `resFlags` SLOT.RES_FLAGS; `outVals` the output-table values last committed, by
entry, and `relVals` those last released (R236); `pubHist` the publication, STALE and output values that commits of the last 2 ms replaced, each with its instant; `iters` the iterate hashes of the last committed cycle and `lastCyc` that cycle (R463); `doReset` when a PAGE_RESET awaits the next commit (R231). -/
structure Slot where
  cfg      : Option SlotCfg := none
  screed   : Option Screed := none
  copy2    : Bool := true
  begun    : List CmdSt := []
  build    : BuildState := .none
  buildCmd : Option QCmd := none
  trialCmd : Option QCmd := none
  vals     : List SkimRec := []
  cyc      : Option Cycle := none
  res      : Option Result := none
  src      : Option Result := none
  prevOk   : Bool := false
  consec   : Nat := 0
  stale    : Bool := false
  skips    : Nat := 0
  warn     : Bool := false
  coldPend : Bool := false
  nextNum  : Nat := 1
  started  : Bool := false
  hostSkim : Option Skim := none
  capture  : Option Capture := none
  lastCyc  : Option Cycle := none
  lastB    : Option Nat := none
  resFlags : Nat := 0
  iters    : List (List Byte) := []
  doReset  : Bool := false
  eff      : Word := 0
  outVals  : List (Nat × Word64) := []
  outAt    : Option Nat := none
  relVals  : List (Nat × Word64) := []
  pubHist  : List (Nat × Option Result × Bool × List (Nat × Word64)) := []
  match_   : Nat := 0
  declined : Bool := false
deriving DecidableEq, Repr

/-- Who holds the lanes (R195). -/
inductive Claim
  | cycle (slot : Nat)
  | test (lane : Nat)
  | build (slot : Nat)
deriving DecidableEq, Repr

/-- One lane (R228): fenced, held, consecutive failed self-tests, when the retest wait began, whether a self-test is queued, the command that
asked for it, and whether it returns at the next cycle: 1 after a retest, 2 after LANE_TEST. -/
structure Lane where
  fenced : Bool := false
  held   : Bool := false
  fails  : Nat := 0
  since  : Nat := 0
  queued : Bool := false
  cmd    : Option QCmd := none
  back   : Nat := 0
deriving DecidableEq, Repr

/-- What a pending profile switch builds before its boundary (R75): slot configurations, dispatch parameters, slots still to build, screeds built,
whether a limit of R201 was exceeded. -/
structure NextSlots where
  cfgs   : List (Option SlotCfg)
  disp   : DispP
  todo   : List Nat
  built  : List (Nat × Screed) := []
  failed : Bool := false
deriving DecidableEq, Repr

/-- Solver state: slots, what the dispatch problem takes from image and profile, lanes, the holder of the lanes, the origin of the cycles (R22), series, the series that acceptances of the last 2 ms replaced (R179),
overrides, forecasts with their generation, the last zone return temperatures used (R190), the last SLV.EFF, the microcode version, what a pending switch builds; `refused` when a build of the active profile exceeded a limit (R201). -/
structure SolverState where
  slots   : List Slot := []
  disp    : DispP := {}
  lanes   : List Lane := []
  holder  : Option Claim := none
  origin  : Option Nat := none
  series  : List Series := []
  serHist : List (Nat × List Series) := []
  overrides    : List Override := []
  fc      : List Forecast := []
  fcGen   : Nat := 0
  tRet    : List (Nat × Word64) := []
  eff     : Word := 0
  ucode   : Word := 0
  next    : Option NextSlots := none
  refused : Bool := false
deriving DecidableEq, Repr

end Sys2Proof
end

