-- ==== Sys2Proof/Machine/DataPair.lean ====
section
/-!
DEFINITION. Active and standby pairs (R451–R472): the role token and the PL2 loop, the PL1 link and its frames, comparison, handover and swap drills.
-/
namespace Sys2Proof

/-- What a PL1 HELLO carries (R459). -/
structure Peer where
  id   : List Word
  posB : Bool
  mode : Nat
  pkg  : Word
  rev  : Word
  prof : Word
  safe : Word
  net  : Word
deriving DecidableEq, Repr

/-- SEQ and ACK of a PL1 frame (R459). -/
structure Pl1Hdr where
  seq : Nat
  ack : Nat
deriving DecidableEq, Repr

/-- The state of one engine instance as STATE carries it (R461). -/
inductive EngState
  | loop (n : Nat) (x : Loop)
  | task (n : Nat) (x : Task)
  | slot (n : Nat) (x : Slot)
  | ingest (n : Nat) (x : Stn)
  | metering (x : Accts)
deriving DecidableEq, Repr

/-- The instance whose state it is. -/
def EngState.eng : EngState → Eng
  | .loop n _ => .loop n
  | .task n _ => .task n
  | .slot n _ => .slot n
  | .ingest n _ => .ingest n
  | .metering _ => .metering

/-- A comparison outcome (R461). -/
inductive Verdict
  | match_ | explained | corrected | persistent
deriving DecidableEq, Repr

/-- What RESERVE mirrors (R107, R160): event numbers, a station's downlink SEQ, a station's DTLS records, and the traffic secrets of a station's DTLS session with its
generation and whether its HELLO exchange is done. -/
inductive Counter
  | events
  | downSeq (station : Nat)
  | records (station : Nat)
  | secrets (station gen : Nat) (hello : Bool) (secret : List Byte)
deriving DecidableEq, Repr

/-- A PL1 frame the controller sends (*PL1 frame types*). -/
inductive Pl1Out
  | hello (p : Peer)
  | heartbeat (timer : Option Nat) (token : Bool) (mode : Nat)
  | inputs (e : Eng)
  | dataset (station ver : Nat) (up : Bool) (useq : Nat)
  | hostin (w : HostWrite)
  | reserve (c : Counter) (from_ to_ : Nat) (grant : Bool)
  | commit (e : Eng) (digest : Word64) (masks : Nat)
  | iterhash (slot cycle : Nat) (hashes : List (List Byte)) (sel : List Byte)
  | result (slot : Nat) (x y : List Word64)
  | polien (conns : List Nat) (telegram : List Byte)
  | state (x : EngState)
  | verdict (e : Eng) (v : Verdict) (wantState qualified : Bool)
  | wack (seq : Nat)
  | release (cause : Nat)
  | handover (at_ : Nat) (agree drill : Bool) (up : Nat)
deriving DecidableEq, Repr

/-- A handover proposed or agreed (R467): its instant, whether agreed, whether it is a swap drill with the UP stations before it, its command. -/
structure Handover where
  at_   : Nat
  agree : Bool
  drill : Bool
  up    : Nat
  cmd   : Option QCmd := none
deriving DecidableEq, Repr

/-- A drill's hold (R469): its start, the UP stations before, its command, whether this module is the new ACTIVE. -/
structure Drill where
  start : Nat
  up    : Nat
  cmd   : Option QCmd
  mine  : Bool
deriving DecidableEq, Repr

/-- Pair state. `decided` is the role decision of R457; `loop` what the PL2 sense shows, `absentFrom` since when it is absent, `released` that a
RELEASE came since it was last present, `sourcing` since when this module sources without 16 mA, `held` that it held the token last since both started,
`brk` a loop interruption of its own, `tryAt` the next retry; `arrived` the engines whose mirrored inputs have come, `ran` those whose latest shadow epoch ran and awaits its COMMIT, `skipped` the shadow epochs not run;
`unacked` the frames sent and not acknowledged, with SEQ and send time, `resentAt` when they were last sent again;
`acks` the mirrored requests not yet acknowledged, by PL1 SEQ, session slot and request SEQ; `whole` when mirrored state last came, `qualFrom` since when
no persistent mismatch, `masks` the ACTIVE's masks at its last mirrored commit, `relAt` when the token was released, `hoFrame` a handover frame's start. -/
structure PairState where
  token      : Bool := false
  decided    : Bool := false
  arrived    : List Eng := []
  ran        : List Eng := []
  skipped    : Nat := 0
  posB       : Bool := false
  conflict   : Bool := false
  pl1Up      : Bool := false
  session    : Bool := false
  qualified  : Bool := false
  peerQual   : Bool := false
  open_      : Bool := false
  relCause   : Nat := 0
  relAt      : Option Nat := none
  loop       : Bool := false
  absentFrom : Option Nat := none
  released   : Bool := false
  sourcing   : Option Nat := none
  held       : Bool := false
  brk        : Option Nat := none
  tryAt      : Option Nat := none
  uA         : Nat := 0
  peer       : Option Peer := none
  peerToken  : Bool := false
  peerMode   : Nat := 1
  rxSeq      : Nat := 0
  txSeq      : Nat := 0
  unacked    : List (Nat × Pl1Out × Nat) := []
  resentAt   : Option Nat := none
  lastRx     : Option Nat := none
  hbAt       : Option Nat := none
  whole      : Option Nat := none
  qualFrom   : Nat := 0
  masks      : Nat := 0
  acks       : List (Nat × Nat × Nat) := []
  ho         : Option Handover := none
  hoFrame    : Option Nat := none
  byHandover : Bool := false
  drill      : Option Drill := none
  drillDue   : Option Nat := none
  drillNext  : Option Nat := none
deriving DecidableEq, Repr

namespace Config

/-- The output digest of an epoch (R461) over what it committed: the byte layout of its staged output groups is not in the manual (log entry 51, DESIGN CHOICE). -/
opaque outDigest : EngState → Word64

end Config

end Sys2Proof
end

