-- ==== Sys2Proof/Machine/DataTime.lean ====
section
/-!
DEFINITION. The time base (R387–R400), the Ethernet ports (R382–R386, R401), the backup domain (R402–R418).
-/
namespace Sys2Proof

/-- Time states (R390). -/
inductive TState
  | free | qualifying | locked | holdover | jumpHold | host
deriving DecidableEq, Repr

/-- The code of a time state (R390). -/
def TState.code : TState → Nat
  | .free => 0
  | .qualifying => 1
  | .locked => 2
  | .holdover => 3
  | .jumpHold => 4
  | .host => 5

/-- A foreign master as its announces give it (R388): leg, clockIdentity, the data set compared, UTC offset, when last heard, announces heard. -/
structure Master where
  leg   : Nat
  id    : Word64
  prio1 : Nat
  cls   : Nat
  acc   : Nat
  var   : Nat
  prio2 : Nat
  steps : Nat
  utc   : Word
  last  : Nat
  count : Nat
deriving DecidableEq, Repr

/-- The time base: it equals the cycle timer plus `ofs`, since both follow the same rate corrections and only the time base is stepped (R21, R389).
`epochAt` is when the epoch opened; `sel` the selected master by leg and identity, `lastSel` the one before a loss; `samples` the agreeing offsets of
QUALIFYING, `refused` the consecutive refused ones, `recent` the latest of the selected master, `run` those within the threshold in JUMP_HOLD;
`cfg` is TIME.CFG as at the start (R399). -/
structure TimeState where
  st      : TState := .free
  valid   : Bool := false
  ofs     : Int := 0
  epochAt : Nat := 0
  epoch   : Nat := 0
  cause   : Nat := 1
  stepped : Bool := false
  jump    : Bool := false
  masters : List Master := []
  sel     : Option (Nat × Word64) := none
  lastSel : Option (Nat × Word64) := none
  samples : List Int := []
  refused : List Int := []
  recent  : List Int := []
  run     : Nat := 0
  servoAt : Option Nat := none
  cfg     : Word := 0
deriving DecidableEq, Repr

/-- What a received Ethernet frame carries, as far as its port's role tells it apart (R382). -/
inductive EthKind
  | dpx
  | dra
  | ptp
  | arp (target : Word)
  | icmp
  | prpSup
  | other
deriving DecidableEq, Repr

/-- A received frame: whether its FCS and length hold, an 802.1Q tag, the source MAC, LAN identifier and sequence number of its redundancy control
trailer. -/
structure EthFrame where
  kind : EthKind
  good : Bool
  tag  : Bool
  mac  : Nat
  rct  : Option (Nat × Nat)
deriving DecidableEq, Repr

/-- One Ethernet port: link, speed, leg out of service (R386), when it last received a valid frame, the run of seconds with frames of a node:
when it began and the index of its latest second. -/
structure EthPort where
  link    : Bool := false
  fd1000  : Bool := false
  down    : Bool := false
  lastRx  : Option Nat := none
  runFrom : Option Nat := none
  runLast : Nat := 0
deriving DecidableEq, Repr

/-- An entry of the PRP node table, and a frame in the duplicate window (R385). -/
structure PrpSeen where
  mac : Nat
  seq : Nat
  leg : Nat
  at_ : Nat
deriving DecidableEq, Repr

/-- Ethernet state: four ports, the node table by MAC with the instant last heard and the leg, the duplicate window, the addresses in force since the start,
the last supervision frame, and since when the ports are powered. -/
structure EthState where
  ports : List EthPort := []
  nodes : List (Nat × Nat) := []
  seen  : List PrpSeen := []
  ips   : List Word := []
  supAt : Option Nat := none
  upAt  : Nat := 0
deriving DecidableEq, Repr

/-- What supplies BKP (R402). -/
inductive BkpSrc
  | main | supercap | cell
deriving DecidableEq, Repr

/-- RTC.STAT[SRC]. -/
def BkpSrc.code : BkpSrc → Nat
  | .main => 0
  | .supercap => 1
  | .cell => 2

/-- A running countdown (R412): when it was loaded and with what. -/
structure Countdown where
  at_ : Nat
  n   : Nat
deriving DecidableEq, Repr

/-- Backup domain: the calendar in nanoseconds since 1970 is the cycle timer plus `ofs`, counted from the reset value while `fresh` has not ticked; `atEnd` when
stopped under R408; the countdown, the last count shown, PWR_REQ with the instant of its assertion, the armed switch-over stamp, supply, voltage in millivolts,
the last synchronisation, backup exhausted since the last start. -/
structure RtcState where
  ofs     : Int := 946684800000000000
  fresh   : Option Nat := some 0
  atEnd   : Bool := false
  cd      : Option Countdown := none
  pwrReq  : Option Nat := none
  stampOn : Bool := false
  src     : BkpSrc := .main
  vbk     : Nat := 0
  syncAt  : Option Nat := none
  lost    : Bool := true
deriving DecidableEq, Repr

end Sys2Proof
end

