-- ==== Sys2Proof/Syntax.lean ====
section
/-!
DEFINITION. The commands of the controller: one constructor for each row of the opcode table. The first operand `t` of each is the reading of the cycle timer, in
nanoseconds, at which the command comes. `slot` is the session slot of a host access, `tag` the TAG of a command register, `val` the value written,
`chk` what the check of an epoch's staged effects and new state finds (R89). The clearing rows stand last: compiled
Lean code builds no constructor past the 245th, and what they write REGISTER_WRITE can write as well.
-/
namespace Sys2Proof

/-- A command to the controller, or an event that reaches it. -/
inductive Instr
/-- SESSION_INIT (R42): `fr` is the frame's envelope; `key` and `nonce` are the host's, `cred` the credential identity, `want` the
privilege code requested. -/
  | sessionInit (t : Nat) (port : Port) (fr : FrameIn) (key nonce : List Byte) (cred want : Nat)
/-- SESSION_PROOF (R42): `id` is the session identity, `mac` the proof. -/
  | sessionProof (t : Nat) (port : Port) (fr : FrameIn) (id : Word) (mac : List Byte)
/-- SESSION_CLOSE (R44): From the host it comes with port and identity; the controller closes the session of a slot. -/
  | sessionClose (t : Nat) (fromHost : Bool) (slot : Nat) (port : Port) (fr : FrameIn) (id : Word)
/-- SESSION_IDLE_TIMEOUT (R44). -/
  | sessionIdleTimeout (t : Nat) (slot : Nat)
/-- PROOF_LOCKOUT_EXPIRY (R44). -/
  | proofLockoutExpiry (t : Nat)
/-- REQUEST (R52). -/
  | request (t : Nat) (port : Port) (fr : FrameIn) (id : Word) (seq : Nat) (rq : Request)
/-- READ (R45): `found` is what it finds in memory (R50, R113). -/
  | read (t : Nat) (slot seq req addr : Nat) (found : MemFind)
/-- WRITE (R46). -/
  | write (t : Nat) (slot seq req addr : Nat) (val : Word) (mask : Option Word)
/-- READ_BLOCK (R49): `found` is what it finds in memory (R50, R113). -/
  | readBlock (t : Nat) (slot seq req addr count : Nat) (found : MemFind)
/-- WRITE_BLOCK (R48). -/
  | writeBlock (t : Nat) (slot seq req addr : Nat) (data : List Word)
/-- BARRIER (R51). -/
  | barrier (t : Nat) (slot seq req : Nat)
/-- PING (R51). -/
  | ping (t : Nat) (slot seq req : Nat)
/-- NOTIFY (R56): `pages` is the page mask, `interval` in milliseconds. -/
  | notify (t : Nat) (slot seq req : Nat) (pages : Word64) (interval : Nat)
/-- NOTIFY_SEND (R57). -/
  | notifySend (t : Nat) (slot : Nat)
/-- NOTIFY_REPEAT (R58). -/
  | notifyRepeat (t : Nat) (slot : Nat)
/-- NOTIFY_ACK (R58). -/
  | notifyAck (t : Nat) (port : Port) (fr : FrameIn) (id : Word) (seq num : Nat)
/-- REGISTER_WRITE (R35). -/
  | registerWrite (t : Nat) (slot addr : Nat) (val : Word)
/-- PAGE_IRQ_CLEAR (R34). -/
  | pageIrqClear (t : Nat) (slot : Nat) (page : Page) (inst : Nat) (val : Word)
/-- PAGE_LOCK_WRITE (R36). -/
  | pageLockWrite (t : Nat) (slot : Nat) (page : Page) (inst : Nat) (val : Word)
/-- PAGE_RESET (R33): `freeze` is the FREEZE bit of the value written. -/
  | pageReset (t : Nat) (slot : Nat) (page : Page) (inst : Nat) (freeze : Bool)
/-- PAGE_RESET_TAKE_EFFECT (R33). -/
  | pageResetTakeEffect (t : Nat) (page : Page) (inst : Nat)
/-- MODE_CMD_COMMISSION (R61). -/
  | modeCmdCommission (t : Nat) (slot tag : Nat)
/-- MODE_CMD_RUN (R61). -/
  | modeCmdRun (t : Nat) (slot tag : Nat)
/-- MODE_CMD_SAFE_HOLD (R64). -/
  | modeCmdSafeHold (t : Nat) (slot tag : Nat)
/-- MODE_CMD_MAINTENANCE (R61). -/
  | modeCmdMaintenance (t : Nat) (slot tag : Nat)
/-- MODE_CMD_DORMANT (R66). -/
  | modeCmdDormant (t : Nat) (slot tag : Nat)
/-- MODE_TRANSITION_COMPLETE (R63). -/
  | modeTransitionComplete (t : Nat)
/-- UNRECOVERABLE_FAULT (R95): `cmp` tells whether the engine runs on CMP, `code` is the snag-log code of the fault. -/
  | unrecoverableFault (t : Nat) (cmp : Bool) (code : Nat)
/-- SH_IDLE_EXPIRY (R69). -/
  | shIdleExpiry (t : Nat)
/-- WAKE_FROM_P2 (R69): `src` is the bit of the source in MODE.WAKE_SRC. -/
  | wakeFromP2 (t : Nat) (src : Nat)
/-- WAKE_FROM_DORMANT (R77): `src` is the bit of the source in MODE.WAKE_SRC. -/
  | wakeFromDormant (t : Nat) (src : Nat)
/-- BOOT_COMPLETE (R61): `b` is what the end of BOOT finds. -/
  | bootComplete (t : Nat) (b : BootIn)
/-- POWER_ON_RESET (R77). -/
  | powerOnReset (t : Nat)
/-- BROWN_OUT_RESET (R77). -/
  | brownOutReset (t : Nat)
/-- WATCHDOG_RESET (R77). -/
  | watchdogReset (t : Nat)
/-- RST_SOFT (R79). -/
  | rstSoft (t : Nat) (slot key : Nat)
/-- PROF_SWITCH (R74). -/
  | profSwitch (t : Nat) (slot tag target : Nat)
/-- PROF_VERIFY_DONE (R74). -/
  | profVerifyDone (t : Nat)
/-- PROF_CANCEL (R76). -/
  | profCancel (t : Nat) (slot tag : Nat)
/-- PROFILE_SWITCH_BOUNDARY (R75). -/
  | profileSwitchBoundary (t : Nat)
/-- ORD_BARRIER (R108). -/
  | ordBarrier (t : Nat) (slot tag : Nat)
/-- BARRIER_COMPLETE (R108). -/
  | barrierComplete (t : Nat) (slot : Nat)
/-- RECOVERABLE_FAULT (R96): `cause` is the code of ORD.MG_LAST[CAUSE]. -/
  | recoverableFault (t : Nat) (eng : Eng) (cause : Nat)
/-- MAKING_GOOD_DONE (R96). -/
  | makingGoodDone (t : Nat) (eng : Eng)
/-- SANDING_BURST (R119): What the reads of the two codewords of the burst find. -/
  | sandingBurst (t : Nat) (f0 f1 : MemFind)
/-- SRAM_SCRUB (R123): `found` gives the words that the sweep did not find clean, by index. -/
  | sramScrub (t : Nat) (found : List (Nat × MemFind))
/-- TELEMETRY_SAMPLE (R129). -/
  | telemetrySample (t : Nat) (taken : Bool)
/-- DTLS_CLIENT_HELLO (R145): Whether it offers the parameters and returns a valid cookie, and the PSK identity: NETID, whether its form holds,
station, generation. -/
  | dtlsClientHello (t : Nat) (offers cookie : Bool) (netid : Word) (formed : Bool) (st gen : Nat)
/-- DTLS_HANDSHAKE_DONE (R147). -/
  | dtlsHandshakeDone (t : Nat) (st gen : Nat)
/-- DTLS_KEY_UPDATE (R145). -/
  | dtlsKeyUpdate (t : Nat) (st : Nat)
/-- DTLS_SESSION_FAIL (R141). -/
  | dtlsSessionFail (t : Nat) (st : Nat)
/-- DPX_HELLO (R150). -/
  | dpxHello (t : Nat) (st : Nat) (hdr : DpxHdr) (m : HelloMsg)
/-- DPX_SET_MESSAGE (R152). -/
  | dpxSetMessage (t : Nat) (st : Nat) (hdr : DpxHdr) (f : SetFrag)
/-- DPX_SET_APPLY (R137). -/
  | dpxSetApply (t : Nat) (st : Nat) (chk : List MemFind)
/-- DPX_ACK_RX (R154). -/
  | dpxAckRx (t : Nat) (st : Nat) (hdr : DpxHdr) (m : AckMsg)
/-- DPX_SAFE_RX (R155). -/
  | dpxSafeRx (t : Nat) (st : Nat) (hdr : DpxHdr) (telegram : List Byte)
/-- DPX_RETRANSMIT (R157). -/
  | dpxRetransmit (t : Nat) (st seq : Nat)
/-- STATION_HB_TIMEOUT (R141). -/
  | stationHbTimeout (t : Nat) (st : Nat)
/-- NET_ENABLE (R162). -/
  | netEnable (t : Nat) (slot tag st : Nat)
/-- NET_DISABLE (R162). -/
  | netDisable (t : Nat) (slot tag st : Nat)
/-- NET_RESYNC (R162). -/
  | netResync (t : Nat) (slot tag st : Nat)
/-- NET_NEXT_GEN (R148). -/
  | netNextGen (t : Nat) (slot tag st : Nat)
/-- NET_KEXPORT (R148). -/
  | netKexport (t : Nat) (slot tag st : Nat)
/-- PNT_BASE_WRITE (R163). -/
  | pntBaseWrite (t : Nat) (slot : Nat) (val : Word)
/-- PNT_FREEZE (R163). -/
  | pntFreeze (t : Nat) (slot : Nat) (on : Bool)
/-- SLOT_CYCLE_BOUNDARY (R19). -/
  | slotCycleBoundary (t : Nat) (n : Nat)
/-- FORECAST_UPDATE (R182). -/
  | forecastUpdate (t : Nat)
/-- SOLVER_ITERATE_COMPLETE (R211). -/
  | solverIterateComplete (t : Nat) (n : Nat) (chk : List MemFind)
/-- SLOT_DEADLINE (R216): `inside` tells that the deadline falls inside an iteration or factorisation. -/
  | slotDeadline (t : Nat) (n : Nat) (inside : Bool) (chk : List MemFind)
/-- SCREED_BUILD_DONE (R199). -/
  | screedBuildDone (t : Nat) (n : Nat)
/-- LANE_FAULT (R228). -/
  | laneFault (t : Nat) (lane : Nat)
/-- LANE_RETEST (R228). -/
  | laneRetest (t : Nat) (lane : Nat)
/-- LANE_SELF_TEST_DONE (R228). -/
  | laneSelfTestDone (t : Nat) (pass : Bool)
/-- SLV_LANE_TEST (R232). -/
  | slvLaneTest (t : Nat) (slot tag lane : Nat)
/-- SLV_LANE_RELEASE (R232). -/
  | slvLaneRelease (t : Nat) (slot tag lane : Nat)
/-- SLOT_SCREED_BUILD (R234). -/
  | slotScreedBuild (t : Nat) (slot tag n : Nat)
/-- SLOT_TRIAL (R234). -/
  | slotTrial (t : Nat) (slot tag n : Nat)
/-- SLOT_COLD_NEXT (R224). -/
  | slotColdNext (t : Nat) (slot tag n : Nat)
/-- SLOT_CAPTURE (R207). -/
  | slotCapture (t : Nat) (slot tag n : Nat)
/-- SLOT_CLR (R233). -/
  | slotClr (t : Nat) (slot n : Nat) (val : Word)
/-- COMMIT_SERIES (R237). -/
  | commitSeries (t : Nat) (slot tag len : Nat)
/-- COMMIT_SKIM (R237). -/
  | commitSkim (t : Nat) (slot tag len : Nat)
/-- CLEAR_STAGE (R237). -/
  | clearStage (t : Nat) (slot tag : Nat)
/-- LOOP_SAMPLE (R241): `late` tells that a making good could not complete by the output instant. -/
  | loopSample (t : Nat) (n : Nat) (late : Bool) (chk : List MemFind)
/-- LOOP_NOP (R268). -/
  | loopNop (t : Nat) (slot tag n : Nat)
/-- LOOP_SET_MODE (R250). -/
  | loopSetMode (t : Nat) (slot tag n mode : Nat)
/-- LOOP_TEST_START (R261). -/
  | loopTestStart (t : Nat) (slot tag n : Nat)
/-- LOOP_TEST_STOP (R263). -/
  | loopTestStop (t : Nat) (slot tag n : Nat)
/-- LOOP_TUNE_HI_WRITE (R248): `k` is the index of the tuning pair. -/
  | loopTuneHiWrite (t : Nat) (slot n k : Nat) (val : Word)
/-- LOOP_CLR (R267). -/
  | loopClr (t : Nat) (slot p : Nat) (val : Word)
/-- LCAP_ARM (R264). -/
  | lcapArm (t : Nat) (slot tag k : Nat)
/-- LCAP_STOP (R269). -/
  | lcapStop (t : Nat) (slot tag k : Nat)
/-- CONVERSION_END (R272): The code converted, and whether the wire-break and over-current comparators tripped. -/
  | conversionEnd (t : Nat) (g : Nat) (code : Word) (wire ovc : Bool)
/-- CALIBRATION_SLOT (R273). -/
  | calibrationSlot (t : Nat) (g : Nat) (res : Word64) (inWindow : Bool)
/-- REF_SETTLE_CHECK (R275). -/
  | refSettleCheck (t : Nat) (g meas : Nat)
/-- REF_SETTLE_TIMEOUT (R276). -/
  | refSettleTimeout (t : Nat) (g : Nat)
/-- CNT_GATE (R282). -/
  | cntGate (t : Nat) (n : Nat)
/-- MOD_FRAME (R283). -/
  | modFrame (t : Nat) (n : Nat) (samples : List Int) (stuck : Bool)
/-- OUTPUT_OVERCURRENT (R284). -/
  | outputOvercurrent (t : Nat) (n : Nat)
/-- READBACK_MISMATCH (R284): `rb` is what the readback has shown for 2 ms. -/
  | readbackMismatch (t : Nat) (n : Nat) (rb : Word)
/-- TEST_PULSE (R286). -/
  | testPulse (t : Nat) (tpb : Bool)
/-- GROUP_FENCE (R287). -/
  | groupFence (t : Nat) (g cause : Nat)
/-- GROUP_RETEST (R289). -/
  | groupRetest (t : Nat) (g : Nat) (r : Retest)
/-- SLC_FENCE (R293). -/
  | slcFence (t : Nat) (slot tag g : Nat)
/-- SLC_UNFENCE (R293). -/
  | slcUnfence (t : Nat) (slot tag g : Nat)
/-- SLC_USER_CAL_WRITE (R281). -/
  | slcUserCalWrite (t : Nat) (slot n : Nat) (gain : Bool) (val : Word)
/-- SLC_CLR (R292). -/
  | slcClr (t : Nat) (slot g : Nat) (val : Word)
/-- ADC_SET_REF (R277). -/
  | adcSetRef (t : Nat) (slot tag g ref : Nat)
/-- ADC_CLR (R294). -/
  | adcClr (t : Nat) (slot g : Nat) (val : Word)
/-- METER_WINDOW_END (R301): The frequency measured, and for each channel its quality and decimated samples. -/
  | meterWindowEnd (t : Nat) (p : Nat) (freq : Word64) (chans : List (Qual × List Word64))
/-- PQ_HALF_CYCLE (R305). -/
  | pqHalfCycle (t : Nat) (p : Nat) (chans : List (Qual × List Word64))
/-- METER_INTERVAL_STEP (R313): `bad` counts the verifications of a save at this step that fail (R314). -/
  | meterIntervalStep (t : Nat) (bad : Nat) (chk : List MemFind)
/-- BILLING_RECORD_SIGN (R319). -/
  | billingRecordSign (t : Nat)
/-- MTR_SAVE_NOW (R328). -/
  | mtrSaveNow (t : Nat) (slot tag : Nat)
/-- MTR_MAXDEM_RESET (R328). -/
  | mtrMaxdemReset (t : Nat) (slot tag : Nat)
/-- MTR_CORR_WRITE (R298). -/
  | mtrCorrWrite (t : Nat) (slot p ch : Nat) (val : Word)
/-- MTR_REC_SEL_WRITE (R320). -/
  | mtrRecSelWrite (t : Nat) (slot : Nat) (val : Word)
/-- TASK_RELEASE (R341): `execUs` is the execution time of the cycle. -/
  | taskRelease (t : Nat) (n execUs : Nat) (chk : List MemFind)
/-- PRG_ALM_ACK (R339). -/
  | prgAlmAck (t : Nat) (slot : Nat) (val : Word)
/-- PRG_HIN_HI_WRITE (R348). -/
  | prgHinHiWrite (t : Nat) (slot k : Nat) (val : Word)
/-- FORCE_APPLY (R358). -/
  | forceApply (t : Nat) (slot tag : Nat)
/-- FORCE_REMOVE (R358). -/
  | forceRemove (t : Nat) (slot tag : Nat)
/-- FORCE_REMOVE_ALL (R358). -/
  | forceRemoveAll (t : Nat) (slot tag : Nat)
/-- FORCED_RELEASE (R350). -/
  | forcedRelease (t : Nat)
/-- CAN_FRAME_RX (R364): Segment index 0–5 for C1–C6. -/
  | canFrameRx (t : Nat) (i : Nat) (f : CanFrame)
/-- CAN_FRAME_DECODE (R362). -/
  | canFrameDecode (t : Nat) (i : Nat)
/-- CAN_SIGNAL_TIMEOUT (R362). -/
  | canSignalTimeout (t : Nat) (i sig : Nat)
/-- CAN_BASE_CYCLE (R366). -/
  | canBaseCycle (t : Nat) (i : Nat)
/-- CAN_TT_LOAD (R369): `k` is the index of the transmit slot. -/
  | canTtLoad (t : Nat) (i k : Nat)
/-- CAN_TT_SLOT (R369). -/
  | canTtSlot (t : Nat) (i k : Nat) (sent : Bool)
/-- CAN_ARB_WINDOW (R370): `durs` are the bus times of the frames that contend, in order. -/
  | canArbWindow (t : Nat) (i w : Nat) (durs : List Nat)
/-- CAN_BUS_OFF (R375). -/
  | canBusOff (t : Nat) (i : Nat)
/-- CAN_BUSOFF_HOLD_EXPIRY (R375). -/
  | canBusoffHoldExpiry (t : Nat) (i : Nat)
/-- CAN_RECOVERY_DONE (R375). -/
  | canRecoveryDone (t : Nat) (i : Nat)
/-- CAN_DETECT_DWELL (R372). -/
  | canDetectDwell (t : Nat) (i : Nat)
/-- CAN_DETECT_TIMEOUT (R373). -/
  | canDetectTimeout (t : Nat) (i : Nat)
/-- CAN_TRANSCEIVER_FAULT (R376). -/
  | canTransceiverFault (t : Nat) (i : Nat)
/-- CAN_RETEST (R376). -/
  | canRetest (t : Nat) (i : Nat)
/-- CAN_DETECT (R381). -/
  | canDetect (t : Nat) (slot tag i : Nat)
/-- CAN_FENCE (R381). -/
  | canFence (t : Nat) (slot tag i : Nat)
/-- CAN_UNFENCE (R381). -/
  | canUnfence (t : Nat) (slot tag i : Nat)
/-- CAN_CLR (R380). -/
  | canClr (t : Nat) (slot i : Nat) (val : Word)
/-- ETH_FRAME_RX (R382). -/
  | ethFrameRx (t : Nat) (i : Nat) (f : EthFrame)
/-- ETH_LINK_CHANGE (R386). -/
  | ethLinkChange (t : Nat) (i : Nat) (up fd1000 : Bool)
/-- PRP_LEG_SILENT (R386). -/
  | prpLegSilent (t : Nat) (leg : Nat)
/-- PRP_LEG_RETURN (R386). -/
  | prpLegReturn (t : Nat) (leg : Nat)
/-- PRP_SUPERVISION_TX (R385). -/
  | prpSupervisionTx (t : Nat)
/-- PTP_ANNOUNCE (R388). -/
  | ptpAnnounce (t : Nat) (dom : Nat) (m : Master)
/-- PTP_ANNOUNCE_TIMEOUT (R390). -/
  | ptpAnnounceTimeout (t : Nat)
/-- PTP_SYNC_SAMPLE (R392). -/
  | ptpSyncSample (t : Nat) (leg : Nat) (id : Word64) (off : Int) (rx tx : Nat)
/-- TIME_HOLD_EXPIRY (R390). -/
  | timeHoldExpiry (t : Nat)
/-- TIME_SET_TIME (R400). -/
  | timeSetTime (t : Nat) (slot tag : Nat)
/-- TIME_ACCEPT_STEP (R395). -/
  | timeAcceptStep (t : Nat) (slot tag : Nat)
/-- ETH_CLR (R401). -/
  | ethClr (t : Nat) (slot i : Nat) (val : Word)
/-- RTC_SYNC_ADJUST (R410): `cal` is the calendar as BKP has counted it, in nanoseconds since 1970. -/
  | rtcSyncAdjust (t : Nat) (cal : Int)
/-- RTC_TRIM (R411): `steps` is the correction measured. -/
  | rtcTrim (t : Nat) (steps : Int)
/-- VBK_MEASURE (R403). -/
  | vbkMeasure (t : Nat) (mv : Nat)
/-- BKP_EXHAUSTED (R403). -/
  | bkpExhausted (t : Nat)
/-- VBK_LOW_CLEAR (R403). -/
  | vbkLowClear (t : Nat) (slot : Nat) (val : Word)
/-- RTC_CD_LOAD (R412). -/
  | rtcCdLoad (t : Nat) (slot : Nat) (val : Word)
/-- COUNTDOWN_EXPIRY (R412). -/
  | countdownExpiry (t : Nat)
/-- ALARM_FIRE (R414). -/
  | alarmFire (t : Nat)
/-- CALENDAR_END (R408). -/
  | calendarEnd (t : Nat)
/-- PWR_REQ_PULSE_END (R415). -/
  | pwrReqPulseEnd (t : Nat)
/-- RTC_SET_CAL (R409). -/
  | rtcSetCal (t : Nat) (slot tag : Nat)
/-- RTC_ARM_ALM (R413). -/
  | rtcArmAlm (t : Nat) (slot tag : Nat)
/-- RTC_DISARM_ALM (R413). -/
  | rtcDisarmAlm (t : Nat) (slot tag : Nat)
/-- RTC_PWRREQ_REL (R418). -/
  | rtcPwrreqRel (t : Nat) (slot tag : Nat)
/-- SAFETY_CYCLE (R419): `agree` tells that both digests arrived and agree and every self-test passed; `tests` are the raw samples of test pulses. -/
  | safetyCycle (t : Nat) (agree : Bool) (tests : List SdiTest)
/-- SEAL_SWITCH_CHANGE (R423): The positions as processors A and B read them. -/
  | sealSwitchChange (t : Nat) (addrA : Nat) (editA : Bool) (addrB : Nat) (editB : Bool)
/-- SDO_OFF_PULSE (R434): `failed` are the outputs whose readback did not follow. -/
  | sdoOffPulse (t : Nat) (failed : List Nat)
/-- POLIEN_TELEGRAM_RX (R441). -/
  | polienTelegramRx (t : Nat)
/-- POLIEN_FAILSAFE_END (R443). -/
  | polienFailsafeEnd (t : Nat) (k : Nat)
/-- SAFE_RESET (R449). -/
  | safeReset (t : Nat) (slot tag fn : Nat)
/-- SAFE_CONFIRM (R427). -/
  | safeConfirm (t : Nat) (slot tag : Nat)
/-- PL2_LOOP_ABSENT (R454). -/
  | pl2LoopAbsent (t : Nat)
/-- TOKEN_TAKE_INTERVAL (R454): `est` tells that the source establishes the current. -/
  | tokenTakeInterval (t : Nat) (est : Bool)
/-- PL2_OPEN_TIMEOUT (R456). -/
  | pl2OpenTimeout (t : Nat)
/-- PL2_RETRY (R456). -/
  | pl2Retry (t : Nat) (est : Bool)
/-- PL2_LOOP_INTERRUPTION (R456). -/
  | pl2LoopInterruption (t : Nat)
/-- CMP_HEARTBEAT_TIMEOUT (R455). -/
  | cmpHeartbeatTimeout (t : Nat)
/-- ROLE_WATCHDOG_EXPIRY (R455). -/
  | roleWatchdogExpiry (t : Nat)
/-- PL1_LINK_START (R458). -/
  | pl1LinkStart (t : Nat) (id : List Word) (sigOk : Bool)
/-- PL1_LINK_DOWN (R459). -/
  | pl1LinkDown (t : Nat)
/-- PL1_RETRANSMIT (R459). -/
  | pl1Retransmit (t : Nat)
/-- PL1_HEARTBEAT_TX (R459). -/
  | pl1HeartbeatTx (t : Nat)
/-- HELLO (R459). -/
  | hello (t : Nat) (h : Pl1Hdr) (x : Peer)
/-- HEARTBEAT (R459). -/
  | heartbeat (t : Nat) (h : Pl1Hdr) (timer : Option Nat) (token : Bool) (mode : Nat)
/-- INPUTS (R460). -/
  | inputs (t : Nat) (h : Pl1Hdr) (e : Eng) (slcs : List (Nat × Word64 × Qual × Nat)) (cans : List (Nat × Nat × Word64 × Qual × Nat))
/-- DATASET (R460). -/
  | dataset (t : Nat) (h : Pl1Hdr) (st ver : Nat) (time : Time64) (es : List PtEntry) (up : Bool) (useq : Nat)
/-- HOSTIN (R109). -/
  | hostin (t : Nat) (h : Pl1Hdr) (w : HostWrite)
/-- RESERVE (R107). -/
  | reserve (t : Nat) (h : Pl1Hdr) (c : Counter) (from_ to_ : Nat) (grant : Bool)
/-- COMMIT (R461): `glitch` tells that re-execution resolves a mismatch, `explained` that R461 explains it. -/
  | commit (t : Nat) (h : Pl1Hdr) (e : Eng) (digest : Word64) (glitch explained : Bool) (accts : Option Accts) (pol : List PolMirror) (masks : Nat)
/-- ITERHASH (R463). -/
  | iterhash (t : Nat) (h : Pl1Hdr) (n cycle : Nat) (hashes : List (List Byte)) (sel : Option Nat) (shifted : List Byte) (consec : Nat) (stale prevOk glitch : Bool)
/-- RESULT (R463). -/
  | result (t : Nat) (h : Pl1Hdr) (n : Nat) (x y : List Word64)
/-- POLIEN (R446). -/
  | polien (t : Nat) (h : Pl1Hdr) (conns : List Nat) (telegram : List Byte)
/-- STATE (R461). -/
  | state (t : Nat) (h : Pl1Hdr) (x : EngState)
/-- VERDICT (R461): `want` is a request for STATE, `qual` the STANDBY's QUALIFIED. -/
  | verdict (t : Nat) (h : Pl1Hdr) (e : Eng) (v : Verdict) (own peer : Word64) (want qual : Bool)
/-- WACK (R109). -/
  | wack (t : Nat) (h : Pl1Hdr) (seq : Nat)
/-- RELEASE (R454). -/
  | release (t : Nat) (h : Pl1Hdr) (cause : Nat)
/-- HANDOVER (R467). -/
  | handover (t : Nat) (h : Pl1Hdr) (at_ : Nat) (agree drill : Bool) (up : Nat)
/-- HANDOVER_INSTANT (R467). -/
  | handoverInstant (t : Nat) (est : Bool)
/-- QUALIFY_TIMER (R462). -/
  | qualifyTimer (t : Nat)
/-- DRILL_DUE (R469). -/
  | drillDue (t : Nat)
/-- DRILL_HOLD_END (R469): `cause` is the failure cause of PAIR.DRILL_STAT, 0 for a pass. -/
  | drillHoldEnd (t : Nat) (cause : Nat)
/-- PAIR_BIND (R472). -/
  | pairBind (t : Nat) (slot tag : Nat)
/-- PAIR_HANDOVER (R472). -/
  | pairHandover (t : Nat) (slot tag : Nat)
/-- DRILL_NOW (R472). -/
  | drillNow (t : Nat) (slot tag : Nat)
/-- TAMPER (R485): `src` has a bit for each source that fires, as SEC.TAMPER_CAUSE numbers them. -/
  | tamper (t : Nat) (src : Nat)
/-- SUBMIT (R481). -/
  | submit (t : Nat) (slot tag : Nat)
/-- ATTEST (R490). -/
  | attest (t : Nat) (slot tag : Nat)
/-- REPROV_DONE (R486). -/
  | reprovDone (t : Nat) (slot tag : Nat)
/-- SEC_CLEAR_STAGE (R494). -/
  | secClearStage (t : Nat) (slot tag : Nat)
/-- OPEN (R512). -/
  | updOpen (t : Nat) (slot tag : Nat)
/-- RESUME (R500). -/
  | updResume (t : Nat) (slot tag : Nat)
/-- UPD_WRITE (R500). -/
  | updWrite (t : Nat) (slot tag len : Nat)
/-- FINISH (R501). -/
  | updFinish (t : Nat) (slot tag : Nat)
/-- ARM (R502). -/
  | updArm (t : Nat) (slot tag : Nat)
/-- DISARM (R512). -/
  | updDisarm (t : Nat) (slot tag : Nat)
/-- DISCARD (R512). -/
  | updDiscard (t : Nat) (slot tag : Nat)
/-- UPD_HEALTH_WRITE (R506). -/
  | updHealthWrite (t : Nat) (slot : Nat) (val : Word)
/-- HEALTH_WINDOW_EXPIRY (R507). -/
  | healthWindowExpiry (t : Nat)
/-- EVT_RD_SEQ_WRITE (R521). -/
  | evtRdSeqWrite (t : Nat) (slot : Nat) (val : Word)
/-- EVT_FREEZE_WRITE (R522). -/
  | evtFreezeWrite (t : Nat) (slot : Nat) (on : Bool)
/-- EVT_FREEZE_TIMEOUT (R522). -/
  | evtFreezeTimeout (t : Nat)
/-- CLEAR (R524). -/
  | evtClear (t : Nat) (slot tag : Nat)
/-- DISP_UPDATE (R546). -/
  | dispUpdate (t : Nat) (slot tag : Nat) (full : Bool)
/-- DISP_BAND (R546). -/
  | dispBand (t : Nat) (slot tag : Nat)
/-- PANEL_WAVEFORM_END (R533). -/
  | panelWaveformEnd (t : Nat)
/-- PANEL_FRAME (R541). -/
  | panelFrame (t : Nat)
/-- PANEL_TEMP_READ (R538): In 0.1 °C. -/
  | panelTempRead (t : Nat) (temp : Int)
/-- PANEL_BAND_TIMER (R531). -/
  | panelBandTimer (t : Nat)
/-- SUPPLY_INPUT_CHANGE (R558): `b` is false for PWR-A. -/
  | supplyInputChange (t : Nat) (b present : Bool)
/-- SUPPLY_VOLTAGE_ALARM (R560). -/
  | supplyVoltageAlarm (t : Nat) (b high on : Bool)
/-- LAST_GASP (R562): `phase` is the last phase completed, `dur` its end in 0.1 ms, `saveOk` whether the CRC of the save holds, `cell` whether a cell
takes over BKP. -/
  | lastGasp (t : Nat) (phase dur : Nat) (saveOk cell : Bool)
/-- SUPPLY_RETURN (R564). -/
  | supplyReturn (t : Nat) (a b charged : Bool)
/-- BASEPLATE_TEMP (R560): In 0.1 °C. -/
  | baseplateTemp (t : Nat) (temp : Int)
/-- HOLDUP_MEASURE (R565). -/
  | holdupMeasure (t : Nat) (mj : Nat)
/-- HOLDUP_MEASURE_END (R565). -/
  | holdupMeasureEnd (t : Nat) (mj : Nat)
/-- HOLDUP_TEST (R568). -/
  | holdupTest (t : Nat) (slot tag : Nat)
/-- PWR_FIELD_LIM_WRITE (R559). -/
  | pwrFieldLimWrite (t : Nat) (slot : Nat) (val : Word)
/-- DISCRETE_INPUT_SAMPLE (R271): A level and an over-current bit for each slice of the group. -/
  | discreteInputSample (t : Nat) (g levels ovc : Nat)
/-- CAN_BUS_ERROR (R372). -/
  | canBusError (t : Nat) (i kind : Nat) (data : Bool) (tec rec_ : Nat)
/-- PL2_LOOP_PRESENT (R456): `own` tells that this module's source carries the current. -/
  | pl2LoopPresent (t : Nat) (own : Bool)
/-- TAMPER_SOURCE_CHANGE (R484). -/
  | tamperSourceChange (t : Nat) (src : Nat) (on : Bool)
/-- RST_COUNTS_CLR (R87). -/
  | rstCountsClr (t : Nat) (slot : Nat) (val : Word)
/-- MEM_CLR (R130). -/
  | memClr (t : Nat) (slot : Nat) (val : Word)
/-- DPX_CLR (R161). -/
  | dpxClr (t : Nat) (slot : Nat) (val : Word)
/-- MTR_CLR (R327). -/
  | mtrClr (t : Nat) (slot : Nat) (val : Word)
/-- PQ_CLR (R329). -/
  | pqClr (t : Nat) (slot : Nat) (val : Word)
/-- HEAT_CLR (R330). -/
  | heatClr (t : Nat) (slot : Nat) (val : Word)
/-- PULSE_CLR (R331). -/
  | pulseClr (t : Nat) (slot : Nat) (val : Word)
/-- PRG_CLR (R356). -/
  | prgClr (t : Nat) (slot : Nat) (val : Word)
/-- TIME_CLR (R399). -/
  | timeClr (t : Nat) (slot : Nat) (val : Word)
/-- RTC_STAMP_CLR (R404). -/
  | rtcStampClr (t : Nat) (slot tag : Nat)
/-- SAFE_CLR (R448). -/
  | safeClr (t : Nat) (slot : Nat) (val : Word)
/-- POL_CLR (R450). -/
  | polClr (t : Nat) (slot : Nat) (val : Word)
/-- PAIR_CLR (R471). -/
  | pairClr (t : Nat) (slot : Nat) (val : Word)
/-- SEC_CLR (R493). -/
  | secClr (t : Nat) (slot : Nat) (val : Word)
/-- EVT_CNT_CLR (R526). -/
  | evtCntClr (t : Nat) (slot : Nat) (val : Word)
/-- DISP_CLR (R545). -/
  | dispClr (t : Nat) (slot : Nat) (val : Word)
/-- PWR_CLR (R567). -/
  | pwrClr (t : Nat) (slot : Nat) (val : Word)
deriving DecidableEq, Repr

end Sys2Proof
end

