-- ==== Sys2Proof/Decode.lean ====
section
/-!
DEFINITION. The opcode table gives no row any bits: commands come as operands of their rows, so that no word spells one.
-/
namespace Sys2Proof

/-- The command that the low `nbits` bits of a word spell: none (R27–R58 give no command word; the commands' frames are decoded field by field). -/
def decodeTableWord (_nbits _w : Nat) : Option Instr := none

end Sys2Proof
end

