-- ==== Sys2Proof/Config.lean ====
section
/-!
DEFINITION. What the manual leaves to the part or leaves open, each a constant without a body: nothing can be proved of its value.
-/
namespace Sys2Proof.Config

/-- A fresh value for each use: what the manual does not state although the machine goes on. Applied to a tag that names the use and to
the state's counter `free`. -/
opaque freeNat : Nat → Nat → Nat

/-- FLAGS[SEVERITY] of an event code: R514 lists the severities and no rule assigns one to a code (log entry 2, DESIGN CHOICE). -/
opaque severity : Nat → BitVec 2

/-- The sine of a binary64 value, as the loop processor computes it: no rule gives its rounding (log entry 3, DESIGN CHOICE). -/
opaque sin : Word64 → Word64

/-- F_OFS of a slice for a function and its options, set at manufacture and not readable (R278; log entry 14, DESIGN CHOICE). -/
opaque fOfs : Nat → Nat → Nat → Word64

/-- F_GAIN, as F_OFS (R278; log entry 14, DESIGN CHOICE). -/
opaque fGain : Nat → Nat → Nat → Word64

/-- CAL_ZERO (kind 0) and CAL_GAIN (kind 1) of a group before its first calibration of that kind: R273 gives no value (log entry 14, DESIGN CHOICE). -/
opaque cal0 : Nat → Nat → Word64

/-- The IEC 60751 inverse of R278, ohm to °C: 0 Pt100, 1 Pt1000. No rule gives its rounding (log entry 15, DESIGN CHOICE). -/
opaque t90 : Nat → Word64 → Word64

/-- What a register that shows a measurement reads at an instant, by register address: no command of the table carries it (log entry 13, DESIGN CHOICE). -/
opaque measure : Nat → Nat → Word

/-- P2 of a 0x0B01 or 0x0B02 record: R515 calls it the reason and gives no codes (log entry 21, DESIGN CHOICE). -/
opaque downReason : Nat → Word

/-- P1 of a 0x0801 or 0x0802 record: R515 calls it kind and address and gives no layout of the two (log entry 25, DESIGN CHOICE). -/
opaque kindAddr : Nat → Nat → Word

/-- Whether a decoder reports a pattern of more errors than its code guarantees to detect: codeword or word index, positions (R112, R116; log entry 100, DESIGN
CHOICE). -/
opaque detects : Nat → List Nat → Bool

/-- The positions that a decoder corrects where it takes such a pattern for one of a word near by (R112; log entry 100, DESIGN CHOICE). -/
opaque miscorrected : Nat → List Nat → List Nat

/-- Worst-case duration in nanoseconds of an FD frame with maximal stuffing (R367): extended identifier, data bytes, nominal and data kbit/s. The
ISO 11898-1 frame layout it rests on is not in the manual (log entry 24, DESIGN CHOICE). -/
opaque canFdNs : Bool → Nat → Nat → Nat → Nat

/-- The median of an even number of offsets from the two in the middle (R391; log entry 39, DESIGN CHOICE). -/
opaque medianEven : Int → Int → Int

/-- A MAC address, given at manufacture, by port (R383; log entry 38, DESIGN CHOICE). -/
opaque macAddr : Nat → BitVec 48

/-- The 128-bit device identity, given at manufacture, as four registers (R473, R493; log entry 38, DESIGN CHOICE). -/
opaque deviceId : Nat → Word

/-- The vendor anchor in ROM (R473; log entry 38, DESIGN CHOICE). -/
opaque vendorAnchor : List Byte

/-- The private device identity key (R473; log entry 38, DESIGN CHOICE). -/
opaque idKey : Nat

/-- The device identity certificate (R491; log entry 38, DESIGN CHOICE). -/
opaque idCert : List Byte

/-- The private key-update key (R473, R480; log entry 38, DESIGN CHOICE). -/
opaque kuKey : Nat

/-- The private scalar of an ephemeral key from the random source (R42), by the number of its session (log entry 71, DESIGN CHOICE). -/
opaque ephemeral : Nat → Nat

/-- The nonce of a signature from the random source, by private scalar and message (log entry 71, DESIGN CHOICE). -/
opaque signNonce : Nat → List Byte → Nat

/-- What a key agreement gives for bytes that are no point of the curve: no rule states it (log entry 71, DESIGN CHOICE). -/
opaque noPoint : List Byte → List Byte

/-- The traffic secrets of a DTLS session (R160), by the number of the handshake or key update that makes them (log entry 71, DESIGN CHOICE). -/
opaque trafficSecret : Nat → List Byte

/-- Coefficient `k` of the fixed 32-tap interpolation for a DELAY (R297): the manual gives only that it depends on DELAY (log entry 44, DESIGN CHOICE). -/
opaque fdelayCoef : Int → Nat → Word64

/-- The cosine of a binary64 value, as metering computes it: no rule gives its rounding (log entry 44, DESIGN CHOICE). -/
opaque cos : Word64 → Word64

/-- Point `j` of the 2,048 to which a channel's window is resampled over its measured cycles (R304), by the interpolation of R297, whose coefficients are not given:
the samples, the nominal cycles, the measured frequency, the point (log entry 44, DESIGN CHOICE). -/
opaque resample : List Word64 → Nat → Word64 → Nat → Word64

/-- Density of water at a temperature and pressure by EN 1434-1 (R308; log entry 44, DESIGN CHOICE). -/
opaque rho : Word64 → Word64 → Word64

/-- Specific enthalpy of water at a temperature and pressure by EN 1434-1 (R308; log entry 44, DESIGN CHOICE). -/
opaque enthalpy : Word64 → Word64 → Word64

/-- The integer that a measured value becomes in a record where no rounding is stated: by use (R306, R318; log entry 45, DESIGN CHOICE). -/
opaque toUnits : Nat → Word64 → Nat

/-- CFG_CRC of a billing record over the words of the point's configuration and corrections, whose layout is not given (R318; log entry 45, DESIGN CHOICE). -/
opaque cfgCrc : List Word → Word

/-- P2 of a 0x0701 or 0x0702 record, for which the manual gives no codes (log entry 46, DEDUCED). -/
opaque meterParam : Nat → Nat → Word

end Sys2Proof.Config
end

