-- ==== Sys2Proof/Machine/Hash.lean ====
section
/-!
DEFINITION. The checks and hashes the manual names: CRC-32 (R513), CRC-32C (R439), SHA-256 with HMAC and HKDF (R146, R215, R461).
-/
namespace Sys2Proof.Hash

/-- One bit of a reflected CRC with polynomial `p` (given reflected). -/
def crcBit (p : Word) (c : Word) : Word := if c.getLsbD 0 then (c >>> 1) ^^^ p else c >>> 1

/-- One byte of a reflected CRC. -/
def crcByte (p c : Word) (b : Byte) : Word :=
  crcBit p (crcBit p (crcBit p (crcBit p (crcBit p (crcBit p (crcBit p (crcBit p (c ^^^ b.setWidth 32))))))))

/-- A reflected CRC over bytes, initial value and final XOR all ones. -/
def crcOf (p : Word) (bs : List Byte) : Word := (bs.foldl (crcByte p) 0xFFFFFFFF#32) ^^^ 0xFFFFFFFF#32

/-- CRC-32 (R513): polynomial 0x04C1_1DB7. -/
def crc32 (bs : List Byte) : Word := crcOf 0xEDB88320#32 bs

/-- CRC-32C (R439): polynomial 0x1EDC_6F41. -/
def crc32c (bs : List Byte) : Word := crcOf 0x82F63B78#32 bs

/-- Round constants of SHA-256. -/
def shaK : List Word :=
  [0x428a2f98#32, 0x71374491#32, 0xb5c0fbcf#32, 0xe9b5dba5#32, 0x3956c25b#32, 0x59f111f1#32, 0x923f82a4#32, 0xab1c5ed5#32,
   0xd807aa98#32, 0x12835b01#32, 0x243185be#32, 0x550c7dc3#32, 0x72be5d74#32, 0x80deb1fe#32, 0x9bdc06a7#32, 0xc19bf174#32,
   0xe49b69c1#32, 0xefbe4786#32, 0x0fc19dc6#32, 0x240ca1cc#32, 0x2de92c6f#32, 0x4a7484aa#32, 0x5cb0a9dc#32, 0x76f988da#32,
   0x983e5152#32, 0xa831c66d#32, 0xb00327c8#32, 0xbf597fc7#32, 0xc6e00bf3#32, 0xd5a79147#32, 0x06ca6351#32, 0x14292967#32] ++
  [0x27b70a85#32, 0x2e1b2138#32, 0x4d2c6dfc#32, 0x53380d13#32, 0x650a7354#32, 0x766a0abb#32, 0x81c2c92e#32, 0x92722c85#32,
   0xa2bfe8a1#32, 0xa81a664b#32, 0xc24b8b70#32, 0xc76c51a3#32, 0xd192e819#32, 0xd6990624#32, 0xf40e3585#32, 0x106aa070#32,
   0x19a4c116#32, 0x1e376c08#32, 0x2748774c#32, 0x34b0bcb5#32, 0x391c0cb3#32, 0x4ed8aa4a#32, 0x5b9cca4f#32, 0x682e6ff3#32,
   0x748f82ee#32, 0x78a5636f#32, 0x84c87814#32, 0x8cc70208#32, 0x90befffa#32, 0xa4506ceb#32, 0xbef9a3f7#32, 0xc67178f2#32]

/-- The eight working words of SHA-256. -/
structure Sha where
  a : Word
  b : Word
  c : Word
  d : Word
  e : Word
  f : Word
  g : Word
  h : Word
deriving DecidableEq, Repr

/-- Initial hash value. -/
def sha0 : Sha := ⟨0x6a09e667#32, 0xbb67ae85#32, 0x3c6ef372#32, 0xa54ff53a#32, 0x510e527f#32, 0x9b05688c#32, 0x1f83d9ab#32, 0x5be0cd19#32⟩

/-- Rotate right. -/
def ror (x : Word) (n : Nat) : Word := (x >>> n) ||| (x <<< (32 - n))

/-- One round. -/
def shaRound (s : Sha) (k w : Word) : Sha :=
  let s1 := ror s.e 6 ^^^ ror s.e 11 ^^^ ror s.e 25
  let ch := (s.e &&& s.f) ^^^ (~~~s.e &&& s.g)
  let t1 := s.h + s1 + ch + k + w
  let s0 := ror s.a 2 ^^^ ror s.a 13 ^^^ ror s.a 22
  let mj := (s.a &&& s.b) ^^^ (s.a &&& s.c) ^^^ (s.b &&& s.c)
  ⟨t1 + (s0 + mj), s.a, s.b, s.c, s.d + t1, s.e, s.f, s.g⟩

/-- Rounds over the remaining constants; the window holds the last sixteen schedule words, oldest first. -/
def shaRounds : List Word → List Word → Sha → Sha
  | [], _, s => s
  | k :: ks, win, s =>
    let w := win.headD 0
    let w1 := win.getD 1 0
    let w14 := win.getD 14 0
    let nw := (ror w14 17 ^^^ ror w14 19 ^^^ (w14 >>> 10)) + win.getD 9 0 + (ror w1 7 ^^^ ror w1 18 ^^^ (w1 >>> 3)) + w
    shaRounds ks (win.tail ++ [nw]) (shaRound s k w)

/-- Big-endian words of a byte list. -/
def beWords : Nat → List Byte → List Word
  | 0, _ => []
  | n + 1, b0 :: b1 :: b2 :: b3 :: r =>
    (b0.setWidth 32 <<< 24 ||| b1.setWidth 32 <<< 16 ||| b2.setWidth 32 <<< 8 ||| b3.setWidth 32) :: beWords n r
  | _ + 1, _ => []

/-- Compress one block into the hash value. -/
def shaBlock (h : Sha) (blk : List Byte) : Sha :=
  let r := shaRounds shaK (beWords 16 blk) h
  ⟨h.a + r.a, h.b + r.b, h.c + r.c, h.d + r.d, h.e + r.e, h.f + r.f, h.g + r.g, h.h + r.h⟩

/-- Compress `n` blocks. -/
def shaBlocks : Nat → Sha → List Byte → Sha
  | 0, h, _ => h
  | n + 1, h, bs => shaBlocks n (shaBlock h (bs.take 64)) (bs.drop 64)

/-- A word as four bytes, most significant first. -/
def beBytes (w : Word) : List Byte := w.bytes.reverse

/-- SHA-256 of a byte string. -/
def sha256 (m : List Byte) : List Byte :=
  let l := m.length
  let pad := (119 - l % 64) % 64
  let n := l * 8
  let p := m ++ 0x80#8 :: (List.replicate pad 0#8 ++ (natLE 8 n).reverse)
  let r := shaBlocks (p.length / 64) sha0 p
  [r.a, r.b, r.c, r.d, r.e, r.f, r.g, r.h].flatMap beBytes

/-- HMAC with SHA-256. -/
def hmac (key m : List Byte) : List Byte :=
  let k := if key.length > 64 then sha256 key else key
  let k := k ++ List.replicate (64 - k.length) 0#8
  sha256 (k.map (· ^^^ 0x5C#8) ++ sha256 (k.map (· ^^^ 0x36#8) ++ m))

/-- HKDF extract. -/
def hkdfExtract (salt ikm : List Byte) : List Byte := hmac salt ikm

/-- HKDF expand to 32 bytes: one block. -/
def hkdfExpand32 (prk info : List Byte) : List Byte := hmac prk (info ++ [1#8])

/-- HKDF expand to 96 bytes: three blocks. -/
def hkdfExpand96 (prk info : List Byte) : List Byte :=
  let a := hmac prk (info ++ [1#8])
  let b := hmac prk (a ++ info ++ [2#8])
  a ++ b ++ hmac prk (b ++ info ++ [3#8])

/-- The bytes of an ASCII string. -/
def ascii (x : String) : List Byte := x.toList.map fun c => BitVec.ofNat 8 c.toNat

end Sys2Proof.Hash
end

