-- ==== Sys2Proof/Machine/P256.lean ====
section
/-!
DEFINITION. P-256 (R42, R473, R480, R490, R498, R523): public keys, key agreement and ECDSA over SHA-256 as FIPS 186-5 defines them, in the byte order of that
standard (log entry 106, DEDUCED). Private scalars and the nonces of signatures are constants without a body (log entries 38 and 71, DESIGN CHOICE).
-/
namespace Sys2Proof.P256

/-- The prime of the field. -/
def prime : Nat := 0xffffffff00000001000000000000000000000000ffffffffffffffffffffffff

/-- The order of the base point. -/
def order : Nat := 0xffffffff00000000ffffffffffffffffbce6faada7179e84f3b9cac2fc632551

/-- The constant of the curve y² = x³ − 3x + b. -/
def curveB : Nat := 0x5ac635d8aa3a93e7b3ebbd55769886bc651d06b0cc53b0f63bce3c3e27d2604b

/-- A point: none is the point at infinity. -/
abbrev Point := Option (Nat × Nat)

/-- The base point. -/
def base : Point := some
  (0x6b17d1f2e12c4247f8bce6e563a440f277037d812deb33a0f4a13945d898c296,
   0x4fe342e2fe1a7f9b8ee7eb4a7c0f9e162bce33576b315ececbb6406837bf51f5)

/-- A power modulo `m`, of an exponent below 2ⁿ. -/
def powMod (m a : Nat) : Nat → Nat → Nat
  | 0, _ => 1
  | n + 1, e =>
    let h := powMod m a n (e / 2)
    if e % 2 = 1 then h * h % m * a % m else h * h % m

/-- The inverse modulo a prime, 0 for 0. -/
def inv (m a : Nat) : Nat := powMod m a 256 (m - 2)

/-- The sum of two points. -/
def add : Point → Point → Point
  | none, q => q
  | a, none => a
  | some (x, y), some (u, v) =>
    if x = u ∧ (y + v) % prime = 0 then none
    else
      let l := if x = u then (3 * x * x + prime - 3) * inv prime (2 * y) % prime else (v + prime - y) * inv prime (u + prime - x) % prime
      let r := (l * l + 2 * prime - x - u) % prime
      some (r, (l * (x + prime - r) + prime - y) % prime)

/-- A multiple of a point, of a factor below 2ⁿ. -/
def mul (q : Point) : Nat → Nat → Point
  | 0, _ => none
  | n + 1, k =>
    let h := mul q n (k / 2)
    if k % 2 = 1 then add (add h h) q else add h h

/-- The number that bytes spell, most significant first. -/
def beNat (b : List Byte) : Nat := leNat b.reverse

/-- A coordinate as 32 bytes, most significant first. -/
def coord (x : Nat) : List Byte := (natLE 32 x).reverse

/-- The point x ‖ y, where it lies on the curve. -/
def pointOf (b : List Byte) : Option (Nat × Nat) :=
  let x := beNat (b.take 32)
  let y := beNat (b.drop 32)
  if b.length = 64 ∧ x < prime ∧ y < prime ∧ y * y % prime = (x * x * x + (prime - 3) * x + curveB) % prime then some (x, y) else none

/-- A point as x ‖ y. -/
def xy : Point → List Byte
  | some (x, y) => coord x ++ coord y
  | none => List.replicate 64 0

/-- The public key x ‖ y of a private scalar (R490). -/
def publicKey (d : Nat) : List Byte := xy (mul base 256 d)

/-- An uncompressed public key, 65 bytes: 0x04 before x ‖ y. -/
def uncompressed (q : List Byte) : List Byte := 0x04#8 :: q

/-- Key agreement (R42, R480, R487): the x-coordinate of the scalar times the public key x ‖ y. What bytes that are no point give is not stated. -/
def agree (d : Nat) (q : List Byte) : List Byte :=
  match pointOf q with
  | some p => (xy (mul (some p) 256 d)).take 32
  | none => Config.noPoint q

/-- Key agreement with an uncompressed public key. -/
def agreeWith (d : Nat) (q : List Byte) : List Byte := if q.head? = some 0x04#8 then agree d (q.drop 1) else Config.noPoint q

/-- ECDSA verification under the public key x ‖ y: message, signature r ‖ s. -/
def verify (key msg sig : List Byte) : Bool :=
  let r := beNat (sig.take 32)
  let s := beNat (sig.drop 32)
  match pointOf key with
  | none => false
  | some q =>
    if sig.length = 64 ∧ 1 ≤ r ∧ r < order ∧ 1 ≤ s ∧ s < order then
      let e := beNat (Hash.sha256 msg)
      let w := inv order s
      match add (mul base 256 (e * w % order)) (mul (some q) 256 (r * w % order)) with
      | some (x, _) => x % order = r
      | none => false
    else false

/-- An ECDSA signature r ‖ s under a private scalar. Its nonce is drawn anew for each signature. -/
def sign (d : Nat) (msg : List Byte) : List Byte :=
  let k := Config.signNonce d msg
  let e := beNat (Hash.sha256 msg)
  let r := (match mul base 256 k with | some (x, _) => x | none => 0) % order
  coord r ++ coord (inv order k * (e + r * d) % order)

/-- A signature of the device identity key (R42, R490). -/
def idSign (msg : List Byte) : List Byte := sign Config.idKey msg

/-- The public device identity key (R490). -/
def idPub : List Byte := publicKey Config.idKey

end Sys2Proof.P256
end

