-- ==== Sys2Proof/Machine/Aes.lean ====
section
/-!
DEFINITION. AES-256 (FIPS 197) the AES key wrap of RFC 3394, with which NET.CMD KEXPORT, key updates and packages carry keys (R148, R480), and AES-256-GCM, in which a package carries
its parts (R498).
-/
namespace Sys2Proof.Aes

/-- Multiplication by x in GF(2⁸). -/
def xtime (b : Byte) : Byte := (b <<< 1) ^^^ (if b.msb then 0x1B else 0)

/-- Multiplication in GF(2⁸). -/
def gmul (a b : Byte) : Byte :=
  ((List.range 8).foldl (fun (p : Byte × Byte) i => (if b.getLsbD i then p.1 ^^^ p.2 else p.1, xtime p.2)) (0, a)).1

/-- The inverse in GF(2⁸), 0 for 0: the power 254. -/
def ginv (b : Byte) : Byte :=
  ((List.range 7).foldl (fun (p : Byte × Byte) _ => let q := gmul p.2 p.2; (gmul p.1 q, q)) (1, b)).1

/-- The S-box. -/
def sbox (b : Byte) : Byte :=
  let x := ginv b
  x ^^^ x.rotateLeft 1 ^^^ x.rotateLeft 2 ^^^ x.rotateLeft 3 ^^^ x.rotateLeft 4 ^^^ 0x63

/-- The inverse S-box. -/
def unsbox (b : Byte) : Byte := ginv (b.rotateLeft 1 ^^^ b.rotateLeft 3 ^^^ b.rotateLeft 6 ^^^ 0x05)

/-- Bytewise exclusive or. -/
def xorB (a b : List Byte) : List Byte := (a.zip b).map fun p => p.1 ^^^ p.2

/-- Row r of the state, whose byte i stands in row i mod 4, rotates by r columns; `k` is 1, or 3 for the inverse. -/
def shiftRows (k : Nat) (s : List Byte) : List Byte := (List.range 16).map fun i => s.getD ((i + 4 * k * (i % 4)) % 16) 0

/-- Each column is multiplied by the circulant of `m`: 2 3 1 1, or 14 11 13 9 for the inverse. -/
def mixColumns (m : List Byte) (s : List Byte) : List Byte :=
  (List.range 16).map fun i =>
    (List.range 4).foldl (fun x j => x ^^^ gmul (m.getD j 0) (s.getD (4 * (i / 4) + (i + j) % 4) 0)) 0

/-- Key expansion: `n` more words of four bytes after those that stand. -/
def expand : Nat → List (List Byte) → List (List Byte)
  | 0, ws => ws
  | n + 1, ws =>
    let i := ws.length
    let t := ws.getLastD []
    let t := if i % 8 = 0 then xorB ((t.drop 1 ++ t.take 1).map sbox) [(List.range (i / 8 - 1)).foldl (fun b _ => xtime b) 1, 0, 0, 0]
      else if i % 8 = 4 then t.map sbox else t
    expand n (ws ++ [xorB (ws.getD (i - 8) []) t])

/-- The 15 round keys of a key of 32 bytes. -/
def roundKeys (key : List Byte) : List (List Byte) :=
  let ws := expand 52 ((List.range 8).map fun i => (key.drop (4 * i)).take 4)
  (List.range 15).map fun r => ((ws.drop (4 * r)).take 4).flatten

/-- The block cipher. -/
def encrypt (key block : List Byte) : List Byte :=
  let ks := roundKeys key
  let s := (List.range 13).foldl (fun s r => xorB (mixColumns [2, 3, 1, 1] (shiftRows 1 (s.map sbox))) (ks.getD (r + 1) [])) (xorB block (ks.getD 0 []))
  xorB (shiftRows 1 (s.map sbox)) (ks.getD 14 [])

/-- The inverse cipher. -/
def decrypt (key block : List Byte) : List Byte :=
  let ks := roundKeys key
  let s := (shiftRows 3 (xorB block (ks.getD 14 []))).map unsbox
  let s := (List.range 13).foldl (fun s r => (shiftRows 3 (mixColumns [14, 11, 13, 9] (xorB s (ks.getD (13 - r) [])))).map unsbox) s
  xorB s (ks.getD 0 [])

/-- The eight big-endian bytes of a step number. -/
def stepBytes (t : Nat) : List Byte := (natLE 8 t).reverse

/-- The initial value of RFC 3394. -/
def wrapIv : List Byte := List.replicate 8 0xA6

/-- RFC 3394 wrap of a key whose length is a multiple of eight bytes. -/
def wrap (kek key : List Byte) : List Byte :=
  let n := key.length / 8
  let r := (List.range (6 * n)).foldl (fun (p : List Byte × List (List Byte)) k =>
    let b := encrypt kek (p.1 ++ p.2.getD (k % n) [])
    (xorB (b.take 8) (stepBytes (k + 1)), p.2.set (k % n) (b.drop 8))) (wrapIv, (List.range n).map fun i => (key.drop (8 * i)).take 8)
  r.1 ++ r.2.flatten

/-- RFC 3394 unwrap: the key, where the initial value comes out. -/
def unwrap (kek wrapped : List Byte) : Option (List Byte) :=
  let n := wrapped.length / 8 - 1
  let r := (List.range (6 * n)).foldl (fun (p : List Byte × List (List Byte)) k =>
    let j := 6 * n - 1 - k
    let b := decrypt kek (xorB p.1 (stepBytes (j + 1)) ++ p.2.getD (j % n) [])
    (b.take 8, p.2.set (j % n) (b.drop 8))) (wrapped.take 8, (List.range n).map fun i => (wrapped.drop (8 * (i + 1))).take 8)
  if r.1 = wrapIv then some r.2.flatten else none

/-! AES-256-GCM (R40, R498) -/

/-- Multiplication in GF(2¹²⁸) of GCM: blocks as 128-bit words, most significant bit first. -/
def gfMul (x y : BitVec 128) : BitVec 128 :=
  ((List.range 128).foldl (fun (p : BitVec 128 × BitVec 128) i =>
    (if x.getMsbD i then p.1 ^^^ p.2 else p.1, if p.2.getLsbD 0 then (p.2 >>> 1) ^^^ (0xE1#128 <<< 120) else p.2 >>> 1)) (0, y)).1

/-- A block as a 128-bit word. -/
def blockWord (b : List Byte) : BitVec 128 := BitVec.ofNat 128 (leNat b.reverse)

/-- A 128-bit word as a block. -/
def wordBlock (w : BitVec 128) : List Byte := (natLE 16 w.toNat).reverse

/-- Blocks of 16 bytes, the last filled with zeros. -/
def blocks (b : List Byte) : List (List Byte) :=
  (List.range ((b.length + 15) / 16)).map fun k => let x := (b.drop (16 * k)).take 16; x ++ List.replicate (16 - x.length) 0

/-- GHASH of additional data and ciphertext under the hash key. -/
def ghash (h : BitVec 128) (aad ct : List Byte) : BitVec 128 :=
  let bs := blocks aad ++ blocks ct ++ [(natLE 8 (8 * aad.length)).reverse ++ (natLE 8 (8 * ct.length)).reverse]
  bs.foldl (fun y b => gfMul (y ^^^ blockWord b) h) 0

/-- The counter mode of GCM from counter 2 on: encryption and decryption alike. -/
def ctr (key iv data : List Byte) : List Byte :=
  ((blocks data).mapIdx fun k b => xorB b (encrypt key (iv ++ (natLE 4 (k + 2)).reverse))).flatten.take data.length

/-- AES-256-GCM decryption of a ciphertext that ends in its tag of 16 bytes: key, nonce of 12 bytes, additional data. -/
def gcmOpen (key iv aad data : List Byte) : Option (List Byte) :=
  let ct := data.take (data.length - 16)
  let tag := xorB (wordBlock (ghash (blockWord (encrypt key (List.replicate 16 0))) aad ct)) (encrypt key (iv ++ [0, 0, 0, 1]))
  if 16 ≤ data.length ∧ data.drop (data.length - 16) = tag then some (ctr key iv ct) else none

end Sys2Proof.Aes
end

