-- ==== Sys2Proof/Machine/F64.lean ====
section
/-!
DEFINITION. Binary64 arithmetic on its 64-bit patterns, round to nearest with ties to even, one rounding per operation, computed exactly on
natural numbers. The control law (R246), the correction chain (R278), the metering quantities and the library blocks are stated in
binary64; this file says what their additions, products, quotients and square roots give.
-/
namespace Sys2Proof.F64

/-- A binary64 value as its 64-bit pattern. -/
abbrev F := BitVec 64

/-- Sign bit. -/
def sgn (x : F) : Bool := x.getLsbD 63
/-- Biased exponent field. -/
def expo (x : F) : Nat := (x.toNat >>> 52) % 2048
/-- Fraction field. -/
def frac (x : F) : Nat := x.toNat % 2 ^ 52

/-- Not a number. -/
def isNaN (x : F) : Bool := expo x == 2047 && frac x != 0
/-- An infinity. -/
def isInf (x : F) : Bool := expo x == 2047 && frac x == 0
/-- Finite: neither an infinity nor a NaN. -/
def fin (x : F) : Bool := expo x != 2047
/-- A zero of either sign. -/
def isZ (x : F) : Bool := expo x == 0 && frac x == 0

/-- Positive zero. -/
def zero : F := 0#64
/-- One. -/
def one : F := 0x3FF0000000000000#64
/-- Positive infinity. -/
def inf : F := 0x7FF0000000000000#64
/-- The quiet NaN that operations without a value give. -/
def nan : F := 0x7FF8000000000000#64

/-- Magnitude of a finite value as `m · 2^e`. -/
def mag (x : F) : Nat × Int :=
  if expo x == 0 then (frac x, -1074) else (frac x + 2 ^ 52, (expo x : Int) - 1075)

/-- Put a sign on a magnitude pattern. -/
def withSign (s : Bool) (n : Nat) : F := BitVec.ofNat 64 (n + (if s then 2 ^ 63 else 0))

/-- The value `m · 2^e` (plus a remainder below the last bit of `m` when `sticky`), rounded to nearest, ties to even. -/
def round (s : Bool) (m : Nat) (e : Int) (sticky : Bool) : F :=
  if m == 0 then withSign s 0 else
  let l : Int := Nat.log2 m
  let sh : Int := max (l - 52) (-1074 - e)
  let q : Nat :=
    if sh ≤ 0 then m <<< (-sh).toNat
    else
      let k := sh.toNat
      let q0 := m >>> k
      let rem := m % 2 ^ k
      let half := 2 ^ (k - 1)
      if rem > half || (rem == half && (sticky || q0 % 2 == 1)) then q0 + 1 else q0
  let e' := e + sh
  let enc : Nat := if q < 2 ^ 52 then q else (e' + 1075).toNat * 2 ^ 52 + (q - 2 ^ 52)
  if enc ≥ 2047 * 2 ^ 52 then withSign s (2047 * 2 ^ 52) else withSign s enc

/-- An exact signed integer times a power of two, rounded. A zero result is positive unless `zs`. -/
def ofDyadic (n : Int) (e : Int) (zs : Bool := false) : F :=
  if n == 0 then withSign zs 0 else round (n < 0) n.natAbs e false

/-- An integer as a binary64 value. -/
def ofInt (n : Int) : F := ofDyadic n 0
/-- A natural number as a binary64 value. -/
def ofNat (n : Nat) : F := ofDyadic n 0

/-- The exact value of a finite pattern as a signed integer times a power of two. -/
def sig (x : F) : Int × Int :=
  let (m, e) := mag x
  (if sgn x then -(m : Int) else m, e)

/-- Sign change. -/
def neg (x : F) : F := x ^^^ 0x8000000000000000#64
/-- Absolute value. -/
def abs (x : F) : F := x &&& 0x7FFFFFFFFFFFFFFF#64

/-- Sum. -/
def add (x y : F) : F :=
  if isNaN x || isNaN y then nan
  else if isInf x then (if isInf y && sgn x != sgn y then nan else x)
  else if isInf y then y
  else
    let (a, ea) := sig x
    let (b, eb) := sig y
    let e := min ea eb
    let n := a * 2 ^ (ea - e).toNat + b * 2 ^ (eb - e).toNat
    ofDyadic n e (sgn x && sgn y)

/-- Difference. -/
def sub (x y : F) : F := add x (neg y)

/-- Product. -/
def mul (x y : F) : F :=
  let s := sgn x != sgn y
  if isNaN x || isNaN y then nan
  else if isInf x || isInf y then (if isZ x || isZ y then nan else withSign s (2047 * 2 ^ 52))
  else
    let (a, ea) := mag x
    let (b, eb) := mag y
    round s (a * b) (ea + eb) false

/-- `a·b + x` rounded once. -/
def fma (a b x : F) : F :=
  let s := sgn a != sgn b
  if isNaN a || isNaN b || isNaN x then nan
  else if isInf a || isInf b then add (mul a b) x
  else if isInf x then x
  else
    let (m, em) := mag a
    let (n, en) := mag b
    let (c, ec) := sig x
    let e := min (em + en) ec
    let p : Int := (m * n : Nat)
    ofDyadic ((if s then -p else p) * 2 ^ (em + en - e).toNat + c * 2 ^ (ec - e).toNat) e (s && sgn x)

/-- The quotient of two naturals times a power of two, rounded once. -/
def ratio (s : Bool) (a b : Nat) (e : Int) : F :=
  if b == 0 then nan else
  let k := 58 + Nat.log2 b - Nat.log2 a
  let n := a <<< k
  round s (n / b) (e - k) (n % b != 0)

/-- Quotient. -/
def div (x y : F) : F :=
  let s := sgn x != sgn y
  if isNaN x || isNaN y then nan
  else if isInf x then (if isInf y then nan else withSign s (2047 * 2 ^ 52))
  else if isInf y then withSign s 0
  else if isZ y then (if isZ x then nan else withSign s (2047 * 2 ^ 52))
  else if isZ x then withSign s 0
  else
    let (a, ea) := mag x
    let (b, eb) := mag y
    ratio s a b (ea - eb)

/-- Integer square root, one bit at a time from bit `k - 1` down. -/
def isqrtBits (n : Nat) : Nat → Nat → Nat
  | 0, r => r
  | k + 1, r => isqrtBits n k (if (r + 2 ^ k) * (r + 2 ^ k) ≤ n then r + 2 ^ k else r)

/-- Largest natural number whose square does not exceed `n`. -/
def isqrt (n : Nat) : Nat := isqrtBits n (Nat.log2 n / 2 + 1) 0

/-- Square root. -/
def sqrt (x : F) : F :=
  if isNaN x then nan else if isZ x then x else if sgn x then nan else if isInf x then x
  else
    let (m, e) := mag x
    let k := 120 - Nat.log2 m
    let k := if (e - k) % 2 == 0 then k else k + 1
    let n := m <<< k
    let r := isqrt n
    round false r ((e - k) / 2) (r * r != n)

/-- Ordering of two patterns; false when either is a NaN. -/
def lt (x y : F) : Bool :=
  if isNaN x || isNaN y then false
  else if isZ x && isZ y then false
  else if sgn x != sgn y then sgn x
  else if sgn x then y.toNat < x.toNat else x.toNat < y.toNat

/-- Numerical equality; false for NaN. -/
def eq (x y : F) : Bool := !isNaN x && !isNaN y && ((isZ x && isZ y) || x == y)
/-- Less or equal. -/
def le (x y : F) : Bool := lt x y || eq x y
/-- Smaller of two. -/
def fmin (x y : F) : F := if lt y x then y else x
/-- Larger of two. -/
def fmax (x y : F) : F := if lt x y then y else x
/-- `x` limited to `[lo, hi]`. -/
def clamp (lo hi x : F) : F := if lt x lo then lo else if lt hi x then hi else x

/-- A rational constant `n / d`, rounded once. -/
def q (n : Int) (d : Nat) : F := if n == 0 then zero else ratio (n < 0) n.natAbs d 0

/-- The integer part towards minus infinity of a finite value. -/
def floorI (x : F) : Int :=
  let (n, e) := sig x
  if e ≥ 0 then n * 2 ^ e.toNat else n / (2 ^ (-e).toNat : Int)

/-- Rounded towards zero. -/
def truncI (x : F) : Int := if sgn x then -(floorI (neg x)) else floorI x

/-- Rounded to the nearest integer, ties to even. -/
def rintI (x : F) : Int :=
  let (n, e) := sig x
  if e ≥ 0 then n * 2 ^ e.toNat else
    let d : Int := 2 ^ (-e).toNat
    let f := n / d
    let r := n - f * d
    if 2 * r > d || (2 * r == d && f % 2 != 0) then f + 1 else f

/-- Rounded to the nearest integer, ties away from zero. -/
def roundI (x : F) : Int :=
  let (n, e) := sig (abs x)
  let a : Int := if e ≥ 0 then n * 2 ^ e.toNat else (2 * n + 2 ^ (-e).toNat) / (2 * 2 ^ (-e).toNat)
  if sgn x then -a else a

/-- Binary32 pattern to binary64 (exact). -/
def ofF32 (w : Word) : F :=
  let s := w.getLsbD 31
  let e := w.fld 23 8
  let f := w.fld 0 23
  if e == 255 then (if f == 0 then withSign s (2047 * 2 ^ 52) else nan)
  else if e == 0 then round s f (-149) false
  else round s (f + 2 ^ 23) ((e : Int) - 150) false

/-- Binary64 to binary32, rounded to nearest, ties to even. -/
def toF32 (x : F) : Word :=
  let sb : Nat := if sgn x then 2 ^ 31 else 0
  if isNaN x then w32 0x7FC00000
  else if isInf x then w32 (sb + 255 * 2 ^ 23)
  else
    let (m, e) := mag x
    if m == 0 then w32 sb else
    let l : Int := Nat.log2 m
    let sh : Int := Max.max (l - 23) (-149 - e)
    let q : Nat :=
      if sh ≤ 0 then m <<< (-sh).toNat
      else
        let k := sh.toNat
        let q0 := m >>> k
        let rem := m % 2 ^ k
        let half := 2 ^ (k - 1)
        if rem > half || (rem == half && q0 % 2 == 1) then q0 + 1 else q0
    let enc : Nat := if q < 2 ^ 23 then q else (e + sh + 150).toNat * 2 ^ 23 + (q - 2 ^ 23)
    if enc ≥ 255 * 2 ^ 23 then w32 (sb + 255 * 2 ^ 23) else w32 (sb + enc)

/-- Two pi, as binary64. -/
def twoPi : F := 0x401921FB54442D18#64

/-- Sum of a list in order, from zero. -/
def sum : List F → F := fun xs => xs.foldl add zero

/-- Arithmetic mean of a non-empty list. -/
def mean (xs : List F) : F := div (sum xs) (ofNat xs.length)

end Sys2Proof.F64
end

