-- ==== Sys2Proof/Machine/DataPanel.lean ====
section
/-!
DEFINITION. The status panel (R528–R546) and the supply (R555–R568).
-/
namespace Sys2Proof

/-- The items of the device-owned band, latched at the start of the waveform that draws them (R530). -/
structure Band where
  variant : Variant
  netid   : Word
  token   : Bool
  posB    : Bool
  mode    : Nat
  decom   : Bool
  safety  : Nat
  notRun  : Nat
  forced  : Nat
  lastSeq : Nat
  full    : Bool
  crcs    : List Word
deriving DecidableEq, Repr

/-- A rectangle of tiles: columns x0–x1, rows y0–y1 (R528). -/
structure Rect where
  x0 : Nat
  x1 : Nat
  y0 : Nat
  y1 : Nat
deriving DecidableEq, Repr

/-- What the panel shows or is to show: the band and the words of the host region, row 72 on, 25 a row (R529, R535). -/
structure Image where
  band : Option Band := none
  host : List (Nat × Word) := []
deriving DecidableEq, Repr

/-- A pending update (R533): full or over a rectangle, since when it waits. -/
structure PanelReq where
  full : Bool
  rect : Rect
  at_  : Nat
deriving DecidableEq, Repr

/-- The running waveform (R532, R537, R540) with its progress (R541): number, full or rectangle, latched band, ledger-correcting frames ahead of it, frames
of both kinds started, start, target. -/
structure Wave where
  num   : Nat
  full  : Bool
  rect  : Rect
  tband : Nat
  corr  : Nat
  done  : Nat
  start : Nat
  target : Image
deriving DecidableEq, Repr

/-- Panel state: temperature in 0.1 °C at the last reading, whether it lies in the update range and whether an update is held (R538), the running waveform, the pending update, the staging image, the
images shown and requested; ledgers by pixel and stress by tile where not zero; the waveform that a power loss left, marked INTERRUPTED or not (R541, R543);
the frames of the compensating step left, when the next may start; the last duration in milliseconds;
since when only the event count waits to be drawn; the items last requested. -/
structure PanelState where
  temp    : Option Int := none
  tempOk  : Bool := false
  held    : Bool := false
  run     : Option Wave := none
  pend    : Option PanelReq := none
  stage   : List (Nat × Word) := []
  shown   : Image := {}
  target  : Image := {}
  ledger  : List (Nat × Int) := []
  stress  : List (Nat × Nat) := []
  prog    : Option (Wave × Bool) := none
  comp    : Nat := 0
  compAt  : Nat := 0
  compOk  : Bool := false
  est     : Bool := false
  sat     : Bool := false
  tband   : Nat := 0
  num     : Nat := 0
  lastMs  : Nat := 0
  evtFrom : Option Nat := none
  seen    : Option Band := none
deriving DecidableEq, Repr

/-- Who asked for a hold-up measurement (R565, R568). -/
inductive HoldupBy
  | own
  | cmd (c : QCmd)
deriving DecidableEq, Repr

/-- Supply state: which inputs are present and read below 19.2 V or above 31.5 V, the hold-up store low or charging, the measurement in progress with its
start, temperature flags with the baseplate temperature in 0.1 °C; field converters on; the last-gasp sequence in progress since, the DORMANT mark (R563), a sequence since the last start. -/
structure PwrState where
  inA     : Bool := false
  inB     : Bool := false
  lowA    : Bool := false
  lowB    : Bool := false
  highA   : Bool := false
  highB   : Bool := false
  holdLow : Bool := false
  holdMj  : Nat := 0
  charging : Bool := false
  test    : Option (HoldupBy × Nat) := none
  lastTest : Option Nat := none
  tBase   : Int := 0
  high    : Bool := false
  overTemp    : Bool := false
  gasp    : Option Nat := none
  dormant : Bool := false
  failed  : Bool := false
deriving DecidableEq, Repr

namespace Config

/-- The level at which the band draws a pixel (x, y): the manual gives the items and no glyphs (log entry 55, DESIGN CHOICE). -/
opaque bandPixel : Option Band → Nat → Nat → Nat

/-- Drive of one frame of a waveform, +1, 0 or −1: temperature band, full or partial, present and target level, frame (R532, R534). The tables are not in the
manual (log entry 55, DESIGN CHOICE). -/
opaque waveDrive : Nat → Bool → Nat → Nat → Nat → Int

end Config

end Sys2Proof
end

