-- ==== Sys2Proof/Machine/DataProfile.lean ====
section
/-!
DEFINITION. Profiles (R71–R76), image sets and the update state (R495–R512).
-/
namespace Sys2Proof

/-- A stored profile (R71): its CRC-32 and what it configures. Its byte layout is not in the manual, so that it stands here decoded; `prg` is decoded from the image's bytes (R332). -/
structure Profile where
  crc      : Word := 0
  slcs     : List SlcCfg := []
  adcs     : List AdcCfg := []
  loops    : List (Option LoopCfg) := []
  slots    : List (Option SlotCfg) := []
  disp     : DispP := {}
  prg      : Option PrgImage := none
  can      : List (Option CanCfg) := []
  mtr      : MtrCfg := {}
  safeVals : List (Nat × Word64) := []
  mirrors  : List (MirrorSrc × Nat) := []
deriving DecidableEq, Repr

/-- A part of an image set: type, index, version and security version (R497), its plaintext. -/
structure Part where
  typ   : Nat
  index : Nat
  ver   : Nat
  svn   : Nat
  plain : List Byte
deriving DecidableEq, Repr

/-- An image set (R504): package identity and revision, its parts, the health window in minutes of its package (R496), and whether its safety
configuration is CONFIRMED. -/
structure ImageSet where
  pkg     : Word := 0
  rev     : Word := 0
  parts   : List Part := []
  health  : Nat := 30
  safeOk  : Bool := false
deriving DecidableEq, Repr

/-- PROF.ACTIVE[SOURCE] (R86). -/
inductive ProfSrc
  | pins | bootSel | lastGood | command
deriving DecidableEq, Repr

/-- The code of a source. -/
def ProfSrc.code : ProfSrc → Nat
  | .pins => 0
  | .bootSel => 1
  | .lastGood => 2
  | .command => 3

/-- Profile state: the four profiles of the running set, the active one with its source, the AUX pins as sampled at BOOT, the pending switch
with the verified profile. -/
structure ProfState where
  stored   : List (Option Profile) := [none, none, none, none]
  active   : Nat := 0
  valid    : Bool := false
  source   : ProfSrc := .pins
  pinsBoot : Nat := 0
  switch   : Option Switch := none
  target   : Option Profile := none
deriving DecidableEq, Repr

/-- UPD.STAT[STAGE] (R511). -/
inductive Stage
  | empty | receiving | complete | armed | rejected
deriving DecidableEq, Repr

/-- The code of a stage. -/
def Stage.code : Stage → Nat
  | .empty => 0
  | .receiving => 1
  | .complete => 2
  | .armed => 3
  | .rejected => 4

/-- Update state: stage, the owning session slot, TOTAL_LEN and the blocks received by block number, the running set and the previous one; the trial with
its starts and when its window began; the watchdog expiry was the window's. -/
structure UpdState where
  stage   : Stage := .empty
  owner   : Option Nat := none
  len     : Nat := 0
  blocks  : List (Nat × List Byte) := []
  run     : ImageSet := {}
  prev    : Option ImageSet := none
  trial   : Nat := 0
  starts  : Nat := 0
  from_   : Option Nat := none
  expired : Bool := false
deriving DecidableEq, Repr

namespace Config

/-- The profile that a PROFILE part carries (R71, R497), and the bytes of the program image in it: the layout around that image is not in the manual (log
entry 57, DESIGN CHOICE). -/
opaque profileOf : List Byte → Option (Profile × List Byte)

/-- The network image that a NETWORK part carries (R131, R497): its byte layout is not in the manual (log entry 57, DESIGN CHOICE). -/
opaque netOf : List Byte → Option NetImage

/-- What a profile (0x10) or network image (0x11) signs and its signature r ‖ s, which stand inside it (R497; log entry 57, DESIGN CHOICE). -/
opaque signedPart : Nat → List Byte → List Byte × List Byte

end Config

end Sys2Proof
end

