-- ==== Sys2Proof/Machine/DataSec.lean ====
section
/-!
DEFINITION. Keys, tamper and life cycle (R473–R494): key slots with their commit records, anchors, the life-cycle fuses, tamper sources.
-/
namespace Sys2Proof

/-- An occupied key slot: the fields of its commit record and the material of its live bank (R475). -/
structure KeySlot where
  usage : Nat
  priv  : Nat
  bank  : Nat
  cred  : Nat
  gen   : Nat
  key   : List Byte
deriving DecidableEq, Repr

/-- State of the key stores: life-cycle code (R488), the 64 slots, the anchors (64 bytes each, R477), whether the PUF keys stand (R474), the tamper sources active
now by their bit in SEC.TAMPER_CAUSE (R484), whether a zeroing awaits its event at the next start (R493), the attestation report (R490). -/
structure SecState where
  lcs     : Nat := 0
  slots   : List (Option KeySlot) := []
  anchors : List (Option (List Byte)) := []
  pufOk   : Bool := false
  active  : Nat := 0
  told    : Bool := true
  report  : List Byte := []
deriving DecidableEq, Repr

end Sys2Proof
end

