-- ==== Sys2Proof/Machine/Operands.lean ====
section
/-!
DEFINITION. The operand of every register access: an address, the page it lies in (R27), the register defined there with its access type, retention class,
reset value and writable bits (the register summaries of all chapters), and the domain and privilege of a page (R591, R43).
-/
namespace Sys2Proof

/-- One run of registers of a register summary: `n` registers from offset `off`, repeated in `bn` blocks `bst` bytes apart, with their access type,
retention class, reset value, the bits that a write may set (R7), and for RWL registers the modes that permit the write: 0 every mode,
1 COMMISSION, 2 COMMISSION and MAINTENANCE. -/
structure RegDef where
  off : Nat
  n : Nat
  bn : Nat
  bst : Nat
  acc : Access
  cls : RClass
  rst : Nat
  wm : Nat
  md : Nat
deriving DecidableEq, Repr

/-- Offset `o` lies in this run. -/
def RegDef.has (r : RegDef) (o : Nat) : Bool :=
  r.off ≤ o && (o - r.off) / r.bst < r.bn && (o - r.off) % r.bst < 4 * r.n

/-- The common page header (R32): identity, capabilities, control, status, events, enables, last refusal, write count, lock, reserved words. -/
def regsHeader : List RegDef :=
  [⟨0x000, 2, 1, 0x1000, .ro, .n, 0x0, 0x0, 0⟩,
   ⟨0x008, 1, 1, 0x1000, .rw, .v, 0x0, 0x7, 0⟩,
   ⟨0x00C, 1, 1, 0x1000, .ro, .v, 0x0, 0x0, 0⟩,
   ⟨0x010, 1, 1, 0x1000, .w1c, .w, 0x0, 0xFFFFFFFF, 0⟩,
   ⟨0x014, 1, 1, 0x1000, .rw, .w, 0x0, 0xFFFFFFFF, 0⟩,
   ⟨0x018, 1, 1, 0x1000, .ro, .w, 0x0, 0x0, 0⟩,
   ⟨0x01C, 1, 1, 0x1000, .ro, .v, 0x0, 0x0, 0⟩,
   ⟨0x020, 1, 1, 0x1000, .rw, .w, 0xFF01, 0xFFFFFFFF, 0⟩,
   ⟨0x024, 7, 1, 0x1000, .ro, .none, 0x0, 0x0, 0⟩]

/-- Block registers of the SYS page, from its register summary and block tables. -/
def regsSys : List RegDef :=
  [⟨0x040, 1, 1, 0x1000, .ro, .n, 0x0, 0x0, 0⟩,
   ⟨0x044, 1, 1, 0x1000, .ro, .v, 0x0, 0x0, 0⟩,
   ⟨0x048, 1, 1, 0x1000, .rwl, .n, 0x0, 0x7, 2⟩,
   ⟨0x04C, 2, 1, 0x1000, .ro, .n, 0x0, 0x0, 0⟩]

/-- Block registers of the RST page, from its register summary and block tables. -/
def regsRst : List RegDef :=
  [⟨0x040, 2, 1, 0x1000, .ro, .w, 0x0, 0x0, 0⟩,
   ⟨0x048, 1, 1, 0x1000, .wo, .none, 0x0, 0xFFFFFFFF, 0⟩,
   ⟨0x04C, 1, 1, 0x1000, .ro, .n, 0x0, 0x0, 0⟩,
   ⟨0x050, 1, 1, 0x1000, .sc, .v, 0x0, 0xFFFFFFFF, 0⟩,
   ⟨0x054, 1, 1, 0x1000, .rwl, .n, 0x7D0, 0x3FFF, 2⟩]

/-- Block registers of the MODE page, from its register summary and block tables. -/
def regsMode : List RegDef :=
  [⟨0x040, 1, 1, 0x1000, .ro, .v, 0x1, 0x0, 0⟩,
   ⟨0x044, 1, 1, 0x1000, .wo, .none, 0x0, 0xFFFFFFFF, 0⟩,
   ⟨0x048, 2, 1, 0x1000, .ro, .v, 0x0, 0x0, 0⟩,
   ⟨0x050, 1, 1, 0x1000, .ro, .w, 0x0, 0x0, 0⟩,
   ⟨0x054, 1, 1, 0x1000, .rw, .n, 0x258, 0xFFFFFFFF, 0⟩,
   ⟨0x058, 1, 1, 0x1000, .rw, .k, 0x1, 0x3F0F, 0⟩,
   ⟨0x05C, 1, 1, 0x1000, .ro, .w, 0x0, 0x0, 0⟩]

/-- Block registers of the PROF page, from its register summary and block tables. -/
def regsProf : List RegDef :=
  [⟨0x040, 1, 1, 0x1000, .ro, .v, 0x0, 0x0, 0⟩,
   ⟨0x044, 4, 1, 0x1000, .ro, .n, 0x0, 0x0, 0⟩,
   ⟨0x054, 1, 1, 0x1000, .rw, .n, 0x0, 0x3, 0⟩,
   ⟨0x058, 1, 1, 0x1000, .ro, .n, 0x0, 0x0, 0⟩,
   ⟨0x05C, 1, 1, 0x1000, .wo, .none, 0x0, 0xFFFFFFFF, 0⟩,
   ⟨0x060, 2, 1, 0x1000, .ro, .v, 0x0, 0x0, 0⟩]

/-- Block registers of the ORD page, from its register summary and block tables. -/
def regsOrd : List RegDef :=
  [⟨0x040, 1, 1, 0x1000, .wo, .none, 0x0, 0xFFFFFFFF, 0⟩,
   ⟨0x044, 1, 1, 0x1000, .ro, .v, 0x0, 0x0, 0⟩,
   ⟨0x048, 1, 1, 0x1000, .rwl, .n, 0x3C0004, 0xFFF00FF, 2⟩,
   ⟨0x04C, 3, 1, 0x1000, .ro, .k, 0x0, 0x0, 0⟩,
   ⟨0x058, 1, 1, 0x1000, .ro, .n, 0x0, 0x0, 0⟩]

/-- Block registers of the MEM page, from its register summary and block tables. -/
def regsMem : List RegDef :=
  [⟨0x040, 1, 1, 0x1000, .rwl, .n, 0x184101, 0xFFFF4101, 2⟩,
   ⟨0x044, 7, 1, 0x1000, .ro, .k, 0x0, 0x0, 0⟩,
   ⟨0x060, 2, 1, 0x1000, .ro, .v, 0x0, 0x0, 0⟩,
   ⟨0x068, 2, 1, 0x1000, .ro, .n, 0x0, 0x0, 0⟩,
   ⟨0x070, 1, 1, 0x1000, .sc, .v, 0x0, 0xFFFFFFFF, 0⟩,
   ⟨0x074, 2, 1, 0x1000, .ro, .v, 0x0, 0x0, 0⟩]

/-- Block registers of the RTC page, from its register summary and block tables. -/
def regsRtc : List RegDef :=
  [⟨0x040, 1, 1, 0x1000, .ro, .b, 0x10107D0, 0x0, 0⟩,
   ⟨0x044, 2, 1, 0x1000, .ro, .b, 0x0, 0x0, 0⟩,
   ⟨0x04C, 1, 1, 0x1000, .w1c, .b, 0x3, 0x3E, 0⟩,
   ⟨0x050, 1, 1, 0x1000, .rw, .v, 0x0, 0x1F0FFFFF, 0⟩,
   ⟨0x054, 1, 1, 0x1000, .rw, .v, 0x0, 0x3F3F1F, 0⟩,
   ⟨0x058, 1, 1, 0x1000, .rw, .b, 0x0, 0x1F0FFFFF, 0⟩,
   ⟨0x05C, 1, 1, 0x1000, .rw, .b, 0x0, 0x3F3F1F, 0⟩,
   ⟨0x060, 1, 1, 0x1000, .ro, .b, 0x0, 0x0, 0⟩,
   ⟨0x064, 1, 1, 0x1000, .wo, .none, 0x0, 0xFFFFFFFF, 0⟩,
   ⟨0x068, 1, 1, 0x1000, .ro, .b, 0x0, 0x0, 0⟩,
   ⟨0x06C, 1, 1, 0x1000, .rwl, .b, 0x10000, 0xFF0007, 2⟩,
   ⟨0x070, 1, 1, 0x1000, .ro, .b, 0x0, 0x0, 0⟩,
   ⟨0x074, 2, 1, 0x1000, .ro, .v, 0x0, 0x0, 0⟩,
   ⟨0x07C, 5, 1, 0x1000, .ro, .b, 0x0, 0x0, 0⟩,
   ⟨0x090, 1, 1, 0x1000, .wo, .none, 0x0, 0xFFFFFFFF, 0⟩,
   ⟨0x094, 1, 1, 0x1000, .ro, .v, 0x0, 0x0, 0⟩,
   ⟨0x098, 26, 1, 0x1000, .ro, .none, 0x0, 0x0, 2⟩]

/-- Block registers of the TIME page, from its register summary and block tables. -/
def regsTime : List RegDef :=
  [⟨0x040, 1, 1, 0x1000, .rwl, .n, 0x8300002, 0xFF0FF03, 2⟩,
   ⟨0x044, 1, 1, 0x1000, .rwl, .n, 0x3E8, 0xFFFFFFFF, 2⟩,
   ⟨0x048, 1, 1, 0x1000, .rwl, .n, 0x3C, 0x7FF, 2⟩,
   ⟨0x04C, 4, 1, 0x1000, .ro, .v, 0x0, 0x0, 0⟩,
   ⟨0x05C, 2, 1, 0x1000, .ro, .v, 0x1, 0x0, 0⟩,
   ⟨0x064, 7, 1, 0x1000, .ro, .v, 0x0, 0x0, 0⟩,
   ⟨0x080, 1, 1, 0x1000, .wo, .none, 0x0, 0xFFFFFFFF, 0⟩,
   ⟨0x084, 1, 1, 0x1000, .ro, .v, 0x0, 0x0, 0⟩,
   ⟨0x088, 2, 1, 0x1000, .rw, .v, 0x0, 0xFFFFFFFF, 0⟩,
   ⟨0x090, 3, 1, 0x1000, .ro, .k, 0x0, 0x0, 0⟩,
   ⟨0x09C, 1, 1, 0x1000, .sc, .v, 0x0, 0xFFFFFFFF, 0⟩]

/-- Block registers of the EVT page, from its register summary and block tables. -/
def regsEvt : List RegDef :=
  [⟨0x040, 1, 1, 0x1000, .rwl, .n, 0x3C00, 0xFF01, 2⟩,
   ⟨0x044, 1, 1, 0x1000, .ro, .v, 0x0, 0x0, 0⟩,
   ⟨0x048, 3, 1, 0x1000, .ro, .n, 0x0, 0x0, 0⟩,
   ⟨0x054, 1, 1, 0x1000, .ro, .v, 0x0, 0x0, 0⟩,
   ⟨0x058, 1, 1, 0x1000, .ro, .n, 0x0, 0x0, 0⟩,
   ⟨0x05C, 2, 1, 0x1000, .ro, .k, 0x0, 0x0, 0⟩,
   ⟨0x064, 1, 1, 0x1000, .ro, .v, 0x0, 0x0, 0⟩,
   ⟨0x068, 1, 1, 0x1000, .rw, .v, 0x0, 0xFFFF, 0⟩,
   ⟨0x06C, 2, 1, 0x1000, .wo, .none, 0x0, 0xFFFFFFFF, 0⟩,
   ⟨0x074, 1, 1, 0x1000, .ro, .v, 0x0, 0x0, 0⟩,
   ⟨0x078, 1, 1, 0x1000, .sc, .v, 0x0, 0xFFFFFFFF, 0⟩,
   ⟨0x07C, 1, 1, 0x1000, .ro, .none, 0x0, 0x0, 2⟩,
   ⟨0x080, 24, 1, 0x1000, .rw, .v, 0x0, 0xFFFFFFFF, 0⟩,
   ⟨0x0E0, 8, 1, 0x1000, .ro, .none, 0x0, 0x0, 2⟩,
   ⟨0x100, 960, 1, 0x1000, .ro, .v, 0x0, 0x0, 0⟩]

/-- Block registers of the SEC page, from its register summary and block tables. -/
def regsSec : List RegDef :=
  [⟨0x040, 1, 1, 0x1000, .ro, .n, 0x0, 0x0, 0⟩,
   ⟨0x044, 1, 1, 0x1000, .ro, .v, 0x0, 0x0, 0⟩,
   ⟨0x048, 5, 1, 0x1000, .ro, .n, 0x0, 0x0, 0⟩,
   ⟨0x05C, 1, 1, 0x1000, .ro, .b, 0x0, 0x0, 0⟩,
   ⟨0x060, 1, 1, 0x1000, .w1c, .b, 0x0, 0x7F, 0⟩,
   ⟨0x064, 1, 1, 0x1000, .ro, .b, 0x0, 0x0, 0⟩,
   ⟨0x068, 1, 1, 0x1000, .rwl, .n, 0x0, 0x3, 1⟩,
   ⟨0x06C, 2, 1, 0x1000, .ro, .b, 0x0, 0x0, 0⟩,
   ⟨0x074, 1, 1, 0x1000, .ro, .n, 0x0, 0x0, 0⟩,
   ⟨0x078, 1, 1, 0x1000, .rw, .w, 0x0, 0x3F, 0⟩,
   ⟨0x07C, 3, 1, 0x1000, .ro, .b, 0x0, 0x0, 0⟩,
   ⟨0x088, 1, 1, 0x1000, .wo, .none, 0x0, 0xFFFFFFFF, 0⟩,
   ⟨0x08C, 1, 1, 0x1000, .ro, .v, 0x0, 0x0, 0⟩,
   ⟨0x090, 1, 1, 0x1000, .rw, .v, 0x0, 0x3, 0⟩,
   ⟨0x094, 1, 1, 0x1000, .ro, .v, 0x0, 0x0, 0⟩,
   ⟨0x098, 4, 1, 0x1000, .rw, .v, 0x0, 0xFFFFFFFF, 0⟩,
   ⟨0x0A8, 2, 1, 0x1000, .ro, .k, 0x0, 0x0, 0⟩,
   ⟨0x0B0, 1, 1, 0x1000, .sc, .v, 0x0, 0xFFFFFFFF, 0⟩,
   ⟨0x0B4, 211, 1, 0x1000, .ro, .none, 0x0, 0x0, 2⟩,
   ⟨0x400, 256, 1, 0x1000, .rw, .v, 0x0, 0xFFFFFFFF, 0⟩]

/-- Block registers of the UPD page, from its register summary and block tables. -/
def regsUpd : List RegDef :=
  [⟨0x040, 1, 1, 0x1000, .wo, .none, 0x0, 0xFFFFFFFF, 0⟩,
   ⟨0x044, 1, 1, 0x1000, .ro, .v, 0x0, 0x0, 0⟩,
   ⟨0x048, 1, 1, 0x1000, .ro, .n, 0x0, 0x0, 0⟩,
   ⟨0x04C, 1, 1, 0x1000, .rw, .v, 0x0, 0xFFFFFFFF, 0⟩,
   ⟨0x050, 2, 1, 0x1000, .ro, .n, 0x0, 0x0, 0⟩,
   ⟨0x058, 1, 1, 0x1000, .ro, .v, 0xFFFFFFFF, 0x0, 0⟩,
   ⟨0x05C, 5, 1, 0x1000, .ro, .n, 0x0, 0x0, 0⟩,
   ⟨0x070, 1, 1, 0x1000, .ro, .v, 0x0, 0x0, 0⟩,
   ⟨0x074, 1, 1, 0x1000, .wo, .none, 0x0, 0xFFFFFFFF, 0⟩,
   ⟨0x078, 8, 1, 0x1000, .ro, .n, 0x0, 0x0, 0⟩,
   ⟨0x098, 26, 1, 0x1000, .ro, .none, 0x0, 0x0, 2⟩,
   ⟨0x100, 512, 1, 0x1000, .rw, .v, 0x0, 0xFFFFFFFF, 0⟩]

/-- Block registers of the PAIR page, from its register summary and block tables. -/
def regsPair : List RegDef :=
  [⟨0x040, 1, 1, 0x1000, .ro, .v, 0x0, 0x0, 0⟩,
   ⟨0x044, 1, 1, 0x1000, .rwl, .n, 0x3C, 0xFFFF, 2⟩,
   ⟨0x048, 4, 1, 0x1000, .ro, .n, 0x0, 0x0, 0⟩,
   ⟨0x058, 1, 1, 0x1000, .wo, .none, 0x0, 0xFFFFFFFF, 0⟩,
   ⟨0x05C, 3, 1, 0x1000, .ro, .v, 0x0, 0x0, 0⟩,
   ⟨0x068, 4, 1, 0x1000, .ro, .k, 0x0, 0x0, 0⟩,
   ⟨0x078, 1, 1, 0x1000, .ro, .n, 0x0, 0x0, 0⟩,
   ⟨0x07C, 2, 1, 0x1000, .ro, .k, 0x0, 0x0, 0⟩,
   ⟨0x084, 1, 1, 0x1000, .rwl, .n, 0x25800307, 0xFFF11FFF, 2⟩,
   ⟨0x088, 1, 1, 0x1000, .ro, .n, 0x0, 0x0, 0⟩,
   ⟨0x08C, 1, 1, 0x1000, .ro, .v, 0x0, 0x0, 0⟩,
   ⟨0x090, 1, 1, 0x1000, .sc, .v, 0x0, 0xFFFFFFFF, 0⟩,
   ⟨0x094, 27, 1, 0x1000, .ro, .none, 0x0, 0x0, 2⟩]

/-- Block registers of the SAFE page, from its register summary and block tables. -/
def regsSafe : List RegDef :=
  [⟨0x040, 1, 1, 0x1000, .ro, .v, 0x0, 0x0, 0⟩,
   ⟨0x044, 5, 1, 0x1000, .ro, .n, 0x0, 0x0, 0⟩,
   ⟨0x058, 1, 1, 0x1000, .wo, .none, 0x0, 0xFFFFFFFF, 0⟩,
   ⟨0x05C, 1, 1, 0x1000, .ro, .v, 0x0, 0x0, 0⟩,
   ⟨0x060, 1, 1, 0x1000, .rw, .v, 0x0, 0xFFFFFFFF, 0⟩,
   ⟨0x064, 2, 1, 0x1000, .ro, .k, 0x0, 0x0, 0⟩,
   ⟨0x06C, 1, 1, 0x1000, .ro, .n, 0x0, 0x0, 0⟩,
   ⟨0x070, 1, 1, 0x1000, .sc, .v, 0x0, 0xFFFFFFFF, 0⟩,
   ⟨0x074, 35, 1, 0x1000, .ro, .none, 0x0, 0x0, 2⟩,
   ⟨0x100, 4, 32, 0x20, .ro, .v, 0x0, 0x0, 0⟩,
   ⟨0x110, 3, 32, 0x20, .ro, .k, 0x0, 0x0, 0⟩,
   ⟨0x11C, 1, 32, 0x20, .ro, .none, 0x0, 0x0, 0⟩]

/-- Block registers of the POL page, from its register summary and block tables. -/
def regsPol : List RegDef :=
  [⟨0x040, 1, 1, 0x1000, .ro, .v, 0x0, 0x0, 0⟩,
   ⟨0x044, 1, 1, 0x1000, .sc, .v, 0x0, 0xFFFFFFFF, 0⟩,
   ⟨0x048, 46, 1, 0x1000, .ro, .none, 0x0, 0x0, 2⟩,
   ⟨0x100, 6, 64, 0x20, .ro, .v, 0x0, 0x0, 0⟩,
   ⟨0x118, 2, 64, 0x20, .ro, .k, 0x0, 0x0, 0⟩]

/-- Block registers of the DISP page, from its register summary and block tables. -/
def regsDisp : List RegDef :=
  [⟨0x040, 1, 1, 0x1000, .rwl, .n, 0x13C, 0x1FF, 2⟩,
   ⟨0x044, 2, 1, 0x1000, .ro, .v, 0x0, 0x0, 0⟩,
   ⟨0x04C, 1, 1, 0x1000, .wo, .none, 0x0, 0xFFFFFFFF, 0⟩,
   ⟨0x050, 1, 1, 0x1000, .ro, .v, 0x0, 0x0, 0⟩,
   ⟨0x054, 1, 1, 0x1000, .rw, .w, 0x25093100, 0x3F3F3F3F, 0⟩,
   ⟨0x058, 1, 1, 0x1000, .rw, .w, 0x48, 0x1FF, 0⟩,
   ⟨0x05C, 1, 1, 0x1000, .ro, .n, 0x0, 0x0, 0⟩,
   ⟨0x060, 1, 1, 0x1000, .ro, .k, 0x0, 0x0, 0⟩,
   ⟨0x064, 1, 1, 0x1000, .ro, .n, 0x0, 0x0, 0⟩,
   ⟨0x068, 3, 1, 0x1000, .ro, .v, 0x0, 0x0, 0⟩,
   ⟨0x074, 1, 1, 0x1000, .sc, .v, 0x0, 0xFFFFFFFF, 0⟩,
   ⟨0x078, 34, 1, 0x1000, .ro, .none, 0x0, 0x0, 2⟩,
   ⟨0x100, 950, 1, 0x1000, .rw, .v, 0x0, 0xFFFFFFFF, 0⟩,
   ⟨0xFD8, 10, 1, 0x1000, .ro, .none, 0x0, 0x0, 2⟩]

/-- Block registers of the PWR page, from its register summary and block tables. -/
def regsPwr : List RegDef :=
  [⟨0x040, 5, 1, 0x1000, .ro, .v, 0x0, 0x0, 0⟩,
   ⟨0x054, 1, 1, 0x1000, .rwl, .n, 0x19191919, 0xFFFFFFFF, 2⟩,
   ⟨0x058, 2, 1, 0x1000, .ro, .v, 0x0, 0x0, 0⟩,
   ⟨0x060, 3, 1, 0x1000, .ro, .n, 0x0, 0x0, 0⟩,
   ⟨0x06C, 1, 1, 0x1000, .ro, .k, 0x0, 0x0, 0⟩,
   ⟨0x070, 1, 1, 0x1000, .ro, .v, 0x0, 0x0, 0⟩,
   ⟨0x074, 1, 1, 0x1000, .wo, .none, 0x0, 0xFFFFFFFF, 0⟩,
   ⟨0x078, 1, 1, 0x1000, .ro, .v, 0x0, 0x0, 0⟩,
   ⟨0x07C, 1, 1, 0x1000, .sc, .v, 0x0, 0xFFFFFFFF, 0⟩,
   ⟨0x080, 32, 1, 0x1000, .ro, .none, 0x0, 0x0, 2⟩]

/-- Block registers of the SLC page, from its register summary and block tables. -/
def regsSlc : List RegDef :=
  [⟨0x040, 1, 1, 0x1000, .wo, .none, 0x0, 0xFFFFFFFF, 0⟩,
   ⟨0x044, 3, 1, 0x1000, .ro, .v, 0x0, 0x0, 0⟩,
   ⟨0x050, 1, 1, 0x1000, .ro, .k, 0x0, 0x0, 0⟩,
   ⟨0x054, 1, 1, 0x1000, .ro, .v, 0x0, 0x0, 0⟩,
   ⟨0x058, 1, 1, 0x1000, .sc, .v, 0x0, 0xFFFFFFFF, 0⟩,
   ⟨0x05C, 41, 1, 0x1000, .ro, .none, 0x0, 0x0, 2⟩,
   ⟨0x100, 1, 12, 0x40, .ro, .v, 0x0, 0x0, 0⟩,
   ⟨0x104, 1, 12, 0x40, .ro, .v, 0x2A2, 0x0, 0⟩,
   ⟨0x108, 5, 12, 0x40, .ro, .v, 0x0, 0x0, 0⟩,
   ⟨0x11C, 1, 12, 0x40, .rwl, .n, 0x0, 0xFFFFFFFF, 0⟩,
   ⟨0x120, 1, 12, 0x40, .rwl, .n, 0x3F800000, 0xFFFFFFFF, 0⟩,
   ⟨0x124, 6, 12, 0x40, .ro, .v, 0x0, 0x0, 0⟩,
   ⟨0x13C, 1, 12, 0x40, .ro, .k, 0x0, 0x0, 0⟩]

/-- Block registers of the ADC page, from its register summary and block tables. -/
def regsAdc : List RegDef :=
  [⟨0x040, 2, 1, 0x1000, .ro, .v, 0x0, 0x0, 0⟩,
   ⟨0x048, 1, 1, 0x1000, .wo, .none, 0x0, 0xFFFFFFFF, 0⟩,
   ⟨0x04C, 4, 1, 0x1000, .ro, .v, 0x0, 0x0, 0⟩,
   ⟨0x05C, 2, 1, 0x1000, .ro, .k, 0x0, 0x0, 0⟩,
   ⟨0x064, 1, 1, 0x1000, .sc, .v, 0x0, 0xFFFFFFFF, 0⟩]

/-- Block registers of the MTR page, from its register summary and block tables. -/
def regsMtr : List RegDef :=
  [⟨0x040, 1, 1, 0x1000, .wo, .none, 0x0, 0xFFFFFFFF, 0⟩,
   ⟨0x044, 3, 1, 0x1000, .ro, .v, 0x0, 0x0, 0⟩,
   ⟨0x050, 1, 1, 0x1000, .ro, .n, 0x0, 0x0, 0⟩,
   ⟨0x054, 1, 1, 0x1000, .ro, .v, 0x0, 0x0, 0⟩,
   ⟨0x058, 1, 1, 0x1000, .ro, .k, 0x0, 0x0, 0⟩,
   ⟨0x05C, 1, 1, 0x1000, .rwl, .n, 0x0, 0x3F, 2⟩,
   ⟨0x060, 2, 1, 0x1000, .ro, .n, 0x0, 0x0, 0⟩,
   ⟨0x068, 1, 1, 0x1000, .rw, .w, 0x0, 0xFFFFFFFF, 0⟩,
   ⟨0x06C, 2, 1, 0x1000, .ro, .k, 0x0, 0x0, 0⟩,
   ⟨0x074, 1, 1, 0x1000, .sc, .v, 0x0, 0xFFFFFFFF, 0⟩,
   ⟨0x100, 54, 1, 0x1000, .ro, .v, 0x0, 0x0, 0⟩,
   ⟨0x200, 24, 8, 0x100, .ro, .v, 0x0, 0x0, 0⟩,
   ⟨0x260, 3, 8, 0x100, .ro, .n, 0x0, 0x0, 0⟩,
   ⟨0x26C, 5, 8, 0x100, .ro, .none, 0x0, 0x0, 0⟩,
   ⟨0x280, 20, 8, 0x100, .ro, .n, 0x0, 0x0, 0⟩,
   ⟨0x2D0, 6, 8, 0x100, .rwl, .n, 0x0, 0xFFFFFFFF, 2⟩,
   ⟨0x2E8, 6, 8, 0x100, .ro, .none, 0x0, 0x0, 0⟩]

/-- Block registers of the PQ page, from its register summary and block tables. -/
def regsPq : List RegDef :=
  [⟨0x040, 1, 1, 0x1000, .rw, .w, 0x0, 0x7, 0⟩,
   ⟨0x044, 1, 1, 0x1000, .ro, .v, 0x0, 0x0, 0⟩,
   ⟨0x048, 1, 1, 0x1000, .ro, .k, 0x0, 0x0, 0⟩,
   ⟨0x04C, 1, 1, 0x1000, .sc, .v, 0x0, 0xFFFFFFFF, 0⟩,
   ⟨0x200, 384, 1, 0x1000, .ro, .v, 0x0, 0x0, 0⟩,
   ⟨0xC00, 256, 1, 0x1000, .ro, .v, 0x0, 0x0, 0⟩,
   ⟨0x100, 4, 8, 0x20, .ro, .v, 0x0, 0x0, 0⟩,
   ⟨0x110, 3, 8, 0x20, .ro, .k, 0x0, 0x0, 0⟩,
   ⟨0x11C, 1, 8, 0x20, .ro, .none, 0x0, 0x0, 0⟩]

/-- Block registers of the HEAT page, from its register summary and block tables. -/
def regsHeat : List RegDef :=
  [⟨0x040, 1, 1, 0x1000, .sc, .v, 0x0, 0xFFFFFFFF, 0⟩,
   ⟨0x100, 13, 24, 0x80, .ro, .v, 0x0, 0x0, 0⟩,
   ⟨0x134, 1, 24, 0x80, .ro, .none, 0x0, 0x0, 0⟩,
   ⟨0x138, 11, 24, 0x80, .ro, .n, 0x0, 0x0, 0⟩,
   ⟨0x164, 7, 24, 0x80, .ro, .none, 0x0, 0x0, 0⟩]

/-- Block registers of the PULSE page, from its register summary and block tables. -/
def regsPulse : List RegDef :=
  [⟨0x040, 1, 1, 0x1000, .sc, .v, 0x0, 0xFFFFFFFF, 0⟩,
   ⟨0x100, 4, 16, 0x20, .ro, .v, 0x0, 0x0, 0⟩,
   ⟨0x110, 1, 16, 0x20, .ro, .n, 0x0, 0x0, 0⟩,
   ⟨0x114, 1, 16, 0x20, .ro, .k, 0x0, 0x0, 0⟩,
   ⟨0x118, 2, 16, 0x20, .ro, .none, 0x0, 0x0, 0⟩]

/-- Block registers of the LOOP page, from its register summary and block tables. -/
def regsLoop : List RegDef :=
  [⟨0x040, 1, 1, 0x1000, .wo, .none, 0x0, 0xFFFFFFFF, 0⟩,
   ⟨0x044, 1, 1, 0x1000, .sc, .v, 0x0, 0xFFFFFFFF, 0⟩,
   ⟨0x048, 1, 1, 0x1000, .rw, .w, 0x0, 0xFF, 0⟩,
   ⟨0x04C, 2, 1, 0x1000, .ro, .v, 0x0, 0x0, 0⟩,
   ⟨0x100, 8, 8, 0x180, .ro, .v, 0x0, 0x0, 0⟩,
   ⟨0x120, 1, 8, 0x180, .ro, .v, 0x77, 0x0, 0⟩,
   ⟨0x124, 1, 8, 0x180, .ro, .v, 0x0, 0x0, 0⟩,
   ⟨0x128, 1, 8, 0x180, .ro, .k, 0x0, 0x0, 0⟩,
   ⟨0x12C, 1, 8, 0x180, .ro, .v, 0x0, 0x0, 0⟩,
   ⟨0x130, 1, 8, 0x180, .ro, .k, 0x0, 0x0, 0⟩,
   ⟨0x134, 1, 8, 0x180, .rwl, .v, 0x0, 0xFF, 0⟩,
   ⟨0x138, 1, 8, 0x180, .rwl, .v, 0x0, 0xFFFFF, 0⟩,
   ⟨0x13C, 1, 8, 0x180, .ro, .none, 0x0, 0x0, 0⟩,
   ⟨0x140, 46, 8, 0x180, .rwl, .v, 0x0, 0xFFFFFFFF, 2⟩,
   ⟨0x1F8, 2, 8, 0x180, .ro, .none, 0x0, 0x0, 0⟩,
   ⟨0x200, 4, 8, 0x180, .rw, .v, 0x0, 0xFFFFFFFF, 0⟩,
   ⟨0x210, 18, 8, 0x180, .ro, .v, 0x0, 0x0, 0⟩,
   ⟨0x258, 1, 8, 0x180, .rwl, .v, 0x0, 0xFFF7, 0⟩,
   ⟨0x25C, 1, 8, 0x180, .rwl, .v, 0x0, 0xFFFFFF, 0⟩,
   ⟨0x260, 4, 8, 0x180, .rwl, .v, 0x0, 0xFFFFFFFF, 0⟩,
   ⟨0x270, 1, 8, 0x180, .ro, .v, 0x0, 0x0, 0⟩,
   ⟨0x274, 3, 8, 0x180, .ro, .none, 0x0, 0x0, 0⟩]

/-- Block registers of the LCAP page, from its register summary and block tables. -/
def regsLcap : List RegDef :=
  [⟨0x040, 1, 1, 0x1000, .wo, .none, 0x0, 0xFFFFFFFF, 0⟩,
   ⟨0x044, 1, 1, 0x1000, .ro, .v, 0x0, 0x0, 0⟩,
   ⟨0x048, 1, 1, 0x1000, .rw, .v, 0x0, 0x3FFF0003, 0⟩,
   ⟨0x04C, 1, 1, 0x1000, .ro, .v, 0x0, 0x0, 0⟩,
   ⟨0x050, 4, 1, 0x1000, .rw, .v, 0x0, 0x7FFFFFFF, 0⟩,
   ⟨0x060, 12, 1, 0x1000, .ro, .v, 0x0, 0x0, 0⟩,
   ⟨0x100, 960, 1, 0x1000, .ro, .v, 0x0, 0x0, 0⟩]

/-- Block registers of the PRG page, from its register summary and block tables. -/
def regsPrg : List RegDef :=
  [⟨0x040, 8, 1, 0x1000, .ro, .v, 0x0, 0x0, 0⟩,
   ⟨0x060, 1, 1, 0x1000, .ro, .k, 0x0, 0x0, 0⟩,
   ⟨0x064, 1, 1, 0x1000, .wo, .none, 0x0, 0xFFFFFFFF, 0⟩,
   ⟨0x068, 1, 1, 0x1000, .ro, .v, 0x0, 0x0, 0⟩,
   ⟨0x06C, 1, 1, 0x1000, .sc, .v, 0x0, 0xFFFFFFFF, 0⟩,
   ⟨0x070, 4, 1, 0x1000, .ro, .none, 0x0, 0x0, 2⟩,
   ⟨0x080, 32, 1, 0x1000, .rw, .w, 0x0, 0xFFFFFFFF, 0⟩,
   ⟨0x100, 3, 16, 0x20, .ro, .v, 0x0, 0x0, 0⟩,
   ⟨0x10C, 2, 16, 0x20, .ro, .k, 0x0, 0x0, 0⟩,
   ⟨0x114, 2, 16, 0x20, .ro, .v, 0x0, 0x0, 0⟩,
   ⟨0x11C, 1, 16, 0x20, .ro, .k, 0x0, 0x0, 0⟩]

/-- Block registers of the FORCE page, from its register summary and block tables. -/
def regsForce : List RegDef :=
  [⟨0x040, 1, 1, 0x1000, .wo, .none, 0x0, 0xFFFFFFFF, 0⟩,
   ⟨0x044, 1, 1, 0x1000, .ro, .v, 0x0, 0x0, 0⟩,
   ⟨0x048, 1, 1, 0x1000, .rw, .v, 0x0, 0xF, 0⟩,
   ⟨0x04C, 3, 1, 0x1000, .rw, .v, 0x0, 0xFFFFFFFF, 0⟩,
   ⟨0x058, 1, 1, 0x1000, .ro, .v, 0x0, 0x0, 0⟩,
   ⟨0x05C, 1, 1, 0x1000, .rw, .w, 0x0, 0x3, 0⟩,
   ⟨0x060, 1, 1, 0x1000, .ro, .k, 0x0, 0x0, 0⟩,
   ⟨0x064, 39, 1, 0x1000, .ro, .none, 0x0, 0x0, 2⟩,
   ⟨0x100, 256, 1, 0x1000, .ro, .v, 0x0, 0x0, 0⟩]

/-- Block registers of the SLV page, from its register summary and block tables. -/
def regsSlv : List RegDef :=
  [⟨0x040, 1, 1, 0x1000, .rwl, .n, 0x3012C, 0xFFFFF, 2⟩,
   ⟨0x044, 1, 1, 0x1000, .ro, .v, 0xFFFF, 0x0, 0⟩,
   ⟨0x048, 3, 1, 0x1000, .ro, .v, 0x0, 0x0, 0⟩,
   ⟨0x054, 1, 1, 0x1000, .ro, .k, 0x0, 0x0, 0⟩,
   ⟨0x058, 1, 1, 0x1000, .ro, .n, 0x0, 0x0, 0⟩,
   ⟨0x05C, 1, 1, 0x1000, .wo, .none, 0x0, 0xFFFFFFFF, 0⟩,
   ⟨0x060, 1, 1, 0x1000, .ro, .v, 0x0, 0x0, 0⟩,
   ⟨0x064, 1, 1, 0x1000, .ro, .k, 0x0, 0x0, 0⟩]

/-- Block registers of the SLOT page, from its register summary and block tables. -/
def regsSlot : List RegDef :=
  [⟨0x040, 4, 1, 0x1000, .ro, .v, 0x0, 0x0, 0⟩,
   ⟨0x050, 1, 1, 0x1000, .wo, .none, 0x0, 0xFFFFFFFF, 0⟩,
   ⟨0x054, 32, 1, 0x1000, .ro, .v, 0x0, 0x0, 0⟩,
   ⟨0x0D4, 5, 1, 0x1000, .ro, .k, 0x0, 0x0, 0⟩,
   ⟨0x0E8, 1, 1, 0x1000, .ro, .v, 0x0, 0x0, 0⟩,
   ⟨0x0EC, 1, 1, 0x1000, .sc, .v, 0x0, 0xFFFFFFFF, 0⟩]

/-- Block registers of the SDATA page, from its register summary and block tables. -/
def regsSdata : List RegDef :=
  [⟨0x040, 1, 1, 0x1000, .rw, .v, 0x0, 0xFFFFFFFF, 0⟩,
   ⟨0x044, 1, 1, 0x1000, .wo, .none, 0x0, 0xFFFFFFFF, 0⟩,
   ⟨0x048, 4, 1, 0x1000, .ro, .v, 0x0, 0x0, 0⟩,
   ⟨0x100, 960, 1, 0x1000, .rw, .v, 0x0, 0xFFFFFFFF, 0⟩]

/-- Block registers of the CAN page, from its register summary and block tables. -/
def regsCan : List RegDef :=
  [⟨0x040, 1, 1, 0x1000, .wo, .none, 0x0, 0xFFFFFFFF, 0⟩,
   ⟨0x044, 2, 1, 0x1000, .ro, .v, 0x0, 0x0, 0⟩,
   ⟨0x04C, 1, 1, 0x1000, .ro, .n, 0x0, 0x0, 0⟩,
   ⟨0x050, 4, 1, 0x1000, .ro, .v, 0x0, 0x0, 0⟩,
   ⟨0x060, 8, 1, 0x1000, .ro, .k, 0x0, 0x0, 0⟩,
   ⟨0x080, 2, 1, 0x1000, .ro, .v, 0x0, 0x0, 0⟩,
   ⟨0x088, 1, 1, 0x1000, .rw, .w, 0x0, 0x3FF, 0⟩,
   ⟨0x08C, 4, 1, 0x1000, .ro, .v, 0x0, 0x0, 0⟩,
   ⟨0x09C, 1, 1, 0x1000, .sc, .v, 0x0, 0xFFFFFFFF, 0⟩,
   ⟨0x0A0, 24, 1, 0x1000, .ro, .none, 0x0, 0x0, 2⟩,
   ⟨0x100, 160, 1, 0x1000, .ro, .v, 0x0, 0x0, 0⟩,
   ⟨0x380, 32, 1, 0x1000, .ro, .none, 0x0, 0x0, 2⟩,
   ⟨0x400, 64, 1, 0x1000, .ro, .v, 0x0, 0x0, 0⟩]

/-- Block registers of the ETH page, from its register summary and block tables. -/
def regsEth : List RegDef :=
  [⟨0x040, 1, 1, 0x1000, .rwl, .n, 0x0, 0xFFFFFFFF, 1⟩,
   ⟨0x044, 1, 1, 0x1000, .rwl, .n, 0x18, 0x3F, 1⟩,
   ⟨0x048, 1, 1, 0x1000, .rwl, .n, 0x0, 0xFFFFFFFF, 1⟩,
   ⟨0x04C, 2, 1, 0x1000, .ro, .n, 0x0, 0x0, 0⟩,
   ⟨0x054, 1, 1, 0x1000, .ro, .v, 0x0, 0x0, 0⟩,
   ⟨0x058, 8, 1, 0x1000, .ro, .k, 0x0, 0x0, 0⟩,
   ⟨0x078, 4, 1, 0x1000, .ro, .v, 0x0, 0x0, 0⟩,
   ⟨0x088, 1, 1, 0x1000, .sc, .v, 0x0, 0xFFFFFFFF, 0⟩,
   ⟨0x08C, 29, 1, 0x1000, .ro, .none, 0x0, 0x0, 2⟩]

/-- Block registers of the DPX page, from its register summary and block tables. -/
def regsDpx : List RegDef :=
  [⟨0x040, 1, 1, 0x1000, .rwl, .n, 0x103432, 0x1FFFFF, 2⟩,
   ⟨0x044, 1, 1, 0x1000, .ro, .v, 0x0, 0x0, 0⟩,
   ⟨0x048, 6, 1, 0x1000, .ro, .k, 0x0, 0x0, 0⟩,
   ⟨0x060, 1, 1, 0x1000, .ro, .v, 0x0, 0x0, 0⟩,
   ⟨0x064, 1, 1, 0x1000, .ro, .k, 0x0, 0x0, 0⟩,
   ⟨0x068, 1, 1, 0x1000, .rwl, .n, 0x0, 0x3F, 1⟩,
   ⟨0x06C, 1, 1, 0x1000, .sc, .v, 0x0, 0xFFFFFFFF, 0⟩]

/-- Block registers of the PNT page, from its register summary and block tables. -/
def regsPnt : List RegDef :=
  [⟨0x040, 1, 1, 0x1000, .rw, .w, 0x0, 0xFFFFFFFF, 0⟩,
   ⟨0x044, 2, 1, 0x1000, .ro, .v, 0x0, 0x0, 0⟩,
   ⟨0x100, 960, 1, 0x1000, .ro, .v, 0x0, 0x0, 0⟩]

/-- Block registers of the NET page, from its register summary and block tables. -/
def regsNet : List RegDef :=
  [⟨0x040, 4, 1, 0x1000, .ro, .n, 0x0, 0x0, 0⟩,
   ⟨0x050, 1, 1, 0x1000, .rwl, .n, 0x0, 0xFFFFFFFF, 1⟩,
   ⟨0x054, 1, 1, 0x1000, .ro, .n, 0x0, 0x0, 0⟩,
   ⟨0x058, 1, 1, 0x1000, .rw, .w, 0x0, 0xFFF, 0⟩,
   ⟨0x05C, 3, 1, 0x1000, .ro, .n, 0x0, 0x0, 0⟩,
   ⟨0x068, 3, 1, 0x1000, .ro, .v, 0x0, 0x0, 0⟩,
   ⟨0x074, 1, 1, 0x1000, .ro, .n, 0x0, 0x0, 0⟩,
   ⟨0x078, 2, 1, 0x1000, .ro, .k, 0x0, 0x0, 0⟩,
   ⟨0x080, 1, 1, 0x1000, .wo, .none, 0x0, 0xFFFFFFFF, 0⟩,
   ⟨0x084, 1, 1, 0x1000, .ro, .v, 0x0, 0x0, 0⟩,
   ⟨0x088, 1, 1, 0x1000, .rwl, .n, 0x0, 0x3F, 2⟩,
   ⟨0x08C, 10, 1, 0x1000, .ro, .v, 0x0, 0x0, 0⟩,
   ⟨0x100, 128, 1, 0x1000, .ro, .v, 0x0, 0x0, 0⟩]
/-! Offsets of the registers, under their names in the register summaries. -/
namespace Off
def PAGE_ID : Nat := 0x000
def PAGE_CAP : Nat := 0x004
def PAGE_CTRL : Nat := 0x008
def PAGE_STAT : Nat := 0x00C
def PAGE_IRQ : Nat := 0x010
def PAGE_IRQ_EN : Nat := 0x014
def PAGE_ERR : Nat := 0x018
def PAGE_WSEQ : Nat := 0x01C
def PAGE_LOCK : Nat := 0x020
def SYS_CAP : Nat := 0x040
def SYS_STAT : Nat := 0x044
def SYS_CFG : Nat := 0x048
def SYS_OPTIME_S : Nat := 0x04C
def SYS_PWRCYC : Nat := 0x050
def MODE_CUR : Nat := 0x040
def MODE_CMD : Nat := 0x044
def MODE_CMD_STAT : Nat := 0x048
def MODE_DEG : Nat := 0x04C
def MODE_SH_CAUSE : Nat := 0x050
def MODE_SH_IDLE_S : Nat := 0x054
def MODE_WAKE_SRC : Nat := 0x058
def MODE_WAKE_CAUSE : Nat := 0x05C
def PROF_ACTIVE : Nat := 0x040
def PROF_CRC0 : Nat := 0x044
def PROF_BOOT_SEL : Nat := 0x054
def PROF_LAST_GOOD : Nat := 0x058
def PROF_CMD : Nat := 0x05C
def PROF_CMD_STAT : Nat := 0x060
def PROF_PINS : Nat := 0x064
def RST_CAUSE : Nat := 0x040
def RST_DEFAULTED : Nat := 0x044
def RST_CMD : Nat := 0x048
def RST_COUNTS : Nat := 0x04C
def RST_COUNTS_CLR : Nat := 0x050
def RST_WDT : Nat := 0x054
def ORD_BARRIER : Nat := 0x040
def ORD_BAR_STAT : Nat := 0x044
def ORD_MG_CFG : Nat := 0x048
def ORD_MG_COUNT : Nat := 0x04C
def ORD_MG_LAST : Nat := 0x050
def ORD_REL_DROP : Nat := 0x054
def ORD_ESC_COUNT : Nat := 0x058
def MEM_CFG : Nat := 0x040
def MEM_CE_MAIN : Nat := 0x044
def MEM_CE_SRAM : Nat := 0x048
def MEM_UE_MAIN : Nat := 0x04C
def MEM_UE_SRAM : Nat := 0x050
def MEM_UE_ADDR : Nat := 0x054
def MEM_UE_INFO : Nat := 0x058
def MEM_ERASED : Nat := 0x05C
def MEM_SAND_POS : Nat := 0x060
def MEM_SAND_STAT : Nat := 0x064
def MEM_CE_LIFE : Nat := 0x068
def MEM_UE_LIFE : Nat := 0x06C
def MEM_CLR : Nat := 0x070
def MEM_LOOP_BLK_NS : Nat := 0x074
def MEM_TELEM_SKIP : Nat := 0x078
def DPX_CFG : Nat := 0x040
def DPX_STAT : Nat := 0x044
def DPX_RX_MSG : Nat := 0x048
def DPX_TX_MSG : Nat := 0x04C
def DPX_RX_DROP : Nat := 0x050
def DPX_RETX : Nat := 0x054
def DPX_HS_FAIL : Nat := 0x058
def DPX_CMD_DROP : Nat := 0x05C
def DPX_INGEST : Nat := 0x060
def DPX_INGEST_PEAK : Nat := 0x064
def DPX_ROOT_SLOT : Nat := 0x068
def DPX_CLR : Nat := 0x06C
def NET_STATIONS : Nat := 0x040
def NET_ZONES : Nat := 0x044
def NET_IMG_ID : Nat := 0x048
def NET_IMG_CRC : Nat := 0x04C
def NET_SVC_ADDR : Nat := 0x050
def NET_NETID : Nat := 0x054
def NET_SEL : Nat := 0x058
def NET_SD_CFG : Nat := 0x05C
def NET_SD_PTS : Nat := 0x060
def NET_SD_KGEN : Nat := 0x064
def NET_SD_STAT : Nat := 0x068
def NET_SD_VER : Nat := 0x06C
def NET_SD_USEQ : Nat := 0x070
def NET_SD_DSEQ : Nat := 0x074
def NET_SD_DROP : Nat := 0x078
def NET_SD_DOWNS : Nat := 0x07C
def NET_CMD : Nat := 0x080
def NET_CMD_STAT : Nat := 0x084
def NET_KEX_SLOT : Nat := 0x088
def NET_KEX_BUF0 : Nat := 0x08C
def NET_UPMAP0 : Nat := 0x100
def PNT_BASE : Nat := 0x040
def PNT_INFO : Nat := 0x044
def PNT_VER : Nat := 0x048
def PNT_PT0 : Nat := 0x100
def SLV_CFG : Nat := 0x040
def SLV_LANES : Nat := 0x044
def SLV_EFF : Nat := 0x048
def SLV_BUSY : Nat := 0x04C
def SLV_NNZ_USED : Nat := 0x050
def SLV_LANE_FLT : Nat := 0x054
def SLV_UCODE : Nat := 0x058
def SLV_CMD : Nat := 0x05C
def SLV_CMD_STAT : Nat := 0x060
def SLV_COMMITS : Nat := 0x064
def SLOT_CFG : Nat := 0x040
def SLOT_PERIOD_MS : Nat := 0x044
def SLOT_DEADLINE_US : Nat := 0x048
def SLOT_LIMITS : Nat := 0x04C
def SLOT_CMD : Nat := 0x050
def SLOT_CMD_STAT : Nat := 0x054
def SLOT_STAT : Nat := 0x058
def SLOT_SCREED_ID : Nat := 0x05C
def SLOT_N_VAR : Nat := 0x060
def SLOT_N_UNK : Nat := 0x064
def SLOT_NNZ : Nat := 0x068
def SLOT_IDX : Nat := 0x06C
def SLOT_FLOP_WIDE_K : Nat := 0x070
def SLOT_FLOP_NARROW_K : Nat := 0x074
def SLOT_TILES : Nat := 0x078
def SLOT_T_IT0_US : Nat := 0x07C
def SLOT_T_FACT_US : Nat := 0x080
def SLOT_T_ITER_US : Nat := 0x084
def SLOT_RES_CYCLE : Nat := 0x088
def SLOT_RES_FLAGS : Nat := 0x08C
def SLOT_RES_ITER : Nat := 0x090
def SLOT_RES_A_LO : Nat := 0x094
def SLOT_RES_A_HI : Nat := 0x098
def SLOT_RES_B_LO : Nat := 0x09C
def SLOT_RES_B_HI : Nat := 0x0A0
def SLOT_RES_MERIT_LO : Nat := 0x0A4
def SLOT_RES_MERIT_HI : Nat := 0x0A8
def SLOT_RES_HASH0 : Nat := 0x0AC
def SLOT_RES_T_US : Nat := 0x0CC
def SLOT_EFF : Nat := 0x0D0
def SLOT_OVERRUNS : Nat := 0x0D4
def SLOT_SKIM_REJ : Nat := 0x0D8
def SLOT_DEADLINES : Nat := 0x0DC
def SLOT_SHIFTS : Nat := 0x0E0
def SLOT_STALES : Nat := 0x0E4
def SLOT_WARM_MATCH : Nat := 0x0E8
def SLOT_CLR : Nat := 0x0EC
def SDATA_SEL : Nat := 0x040
def SDATA_CMD : Nat := 0x044
def SDATA_CMD_STAT : Nat := 0x048
def SDATA_VIEW : Nat := 0x04C
def SDATA_INFO : Nat := 0x050
def SDATA_SIZE : Nat := 0x054
def SDATA_BUF0 : Nat := 0x100
def LOOP_CMD : Nat := 0x040
def LOOP_CLR : Nat := 0x044
def LOOP_MISS_EVT : Nat := 0x048
def LOOP_CMD_STAT : Nat := 0x04C
def LOOP_CONF : Nat := 0x050
def LCAP_CMD : Nat := 0x040
def LCAP_CMD_STAT : Nat := 0x044
def LCAP_SEL : Nat := 0x048
def LCAP_INFO : Nat := 0x04C
def LCAP_CFG0 : Nat := 0x050
def LCAP_STAT0 : Nat := 0x060
def LCAP_TRIG_S0 : Nat := 0x070
def LCAP_WIN0 : Nat := 0x100
def SLC_CMD : Nat := 0x040
def SLC_CMD_STAT : Nat := 0x044
def SLC_GSTAT : Nat := 0x048
def SLC_TP_CFG : Nat := 0x04C
def SLC_FENCES : Nat := 0x050
def SLC_FIELD_MA : Nat := 0x054
def SLC_CLR : Nat := 0x058
def ADC_CFG : Nat := 0x040
def ADC_STAT : Nat := 0x044
def ADC_CMD : Nat := 0x048
def ADC_CMD_STAT : Nat := 0x04C
def ADC_SCAN_US : Nat := 0x050
def ADC_SCANS : Nat := 0x054
def ADC_SETTLE_US : Nat := 0x058
def ADC_CAL_DONE : Nat := 0x05C
def ADC_CAL_FAIL : Nat := 0x060
def ADC_CLR : Nat := 0x064
def MTR_CMD : Nat := 0x040
def MTR_CMD_STAT : Nat := 0x044
def MTR_CFG : Nat := 0x048
def MTR_STAT : Nat := 0x04C
def MTR_SAVE_SEQ : Nat := 0x050
def MTR_SAVE_AGE_MS : Nat := 0x054
def MTR_UNSAVED_MS : Nat := 0x058
def MTR_KEY_SLOT : Nat := 0x05C
def MTR_REC_NEXT : Nat := 0x060
def MTR_REC_OLDEST : Nat := 0x064
def MTR_REC_SEL : Nat := 0x068
def MTR_SAVES : Nat := 0x06C
def MTR_SAVE_FAIL : Nat := 0x070
def MTR_CLR : Nat := 0x074
def MTR_RECWIN0 : Nat := 0x100
def PQ_SEL : Nat := 0x040
def PQ_EVT_NEXT : Nat := 0x044
def PQ_EVT_LOST : Nat := 0x048
def PQ_CLR : Nat := 0x04C
def PQ_HARM0 : Nat := 0x200
def PQ_RING0 : Nat := 0xC00
def PRG_IMG_ID : Nat := 0x040
def PRG_IMG_REV : Nat := 0x044
def PRG_IMG_CRC : Nat := 0x048
def PRG_BLOCKS : Nat := 0x04C
def PRG_EXCH_CARRIED : Nat := 0x050
def PRG_EXCH_REINIT : Nat := 0x054
def PRG_EXCH_NEW : Nat := 0x058
def PRG_EXCH_DROP : Nat := 0x05C
def PRG_WR_DROP : Nat := 0x060
def PRG_ALM_ACK : Nat := 0x064
def PRG_ALM_STAT : Nat := 0x068
def PRG_CLR : Nat := 0x06C
def PRG_HIN0_LO : Nat := 0x080
def FORCE_CMD : Nat := 0x040
def FORCE_CMD_STAT : Nat := 0x044
def FORCE_T_KIND : Nat := 0x048
def FORCE_T_ADDR : Nat := 0x04C
def FORCE_T_VAL_LO : Nat := 0x050
def FORCE_T_VAL_HI : Nat := 0x054
def FORCE_COUNT : Nat := 0x058
def FORCE_SEL : Nat := 0x05C
def FORCE_APPLIED : Nat := 0x060
def FORCE_WIN0 : Nat := 0x100
def CAN_CMD : Nat := 0x040
def CAN_CMD_STAT : Nat := 0x044
def CAN_STAT : Nat := 0x048
def CAN_RATE : Nat := 0x04C
def CAN_BITRATE : Nat := 0x050
def CAN_MATRIX : Nat := 0x054
def CAN_ERRCFG : Nat := 0x058
def CAN_CYCLE : Nat := 0x05C
def CAN_RX_OK : Nat := 0x060
def CAN_RX_NOMATCH : Nat := 0x064
def CAN_RX_OVF : Nat := 0x068
def CAN_TX_OK : Nat := 0x06C
def CAN_SLOT_LOST : Nat := 0x070
def CAN_EVT_DROP : Nat := 0x074
def CAN_BUSOFFS : Nat := 0x078
def CAN_DLC_ERR : Nat := 0x07C
def CAN_Q_FILL : Nat := 0x080
def CAN_LAST_ERR : Nat := 0x084
def CAN_SIG_SEL : Nat := 0x088
def CAN_SIG_VAL_LO : Nat := 0x08C
def CAN_SIG_VAL_HI : Nat := 0x090
def CAN_SIG_STAT : Nat := 0x094
def CAN_SIG_AGE_MS : Nat := 0x098
def CAN_CLR : Nat := 0x09C
def CAN_FILT_MATCH0 : Nat := 0x100
def CAN_CAND_NOM0 : Nat := 0x300
def CAN_TRACE0 : Nat := 0x400
def TIME_CFG : Nat := 0x040
def TIME_JUMP_US : Nat := 0x044
def TIME_HOLD_MIN : Nat := 0x048
def TIME_STAT : Nat := 0x04C
def TIME_NOW_S : Nat := 0x050
def TIME_NOW_NS : Nat := 0x054
def TIME_NOW_NS32 : Nat := 0x058
def TIME_EPOCH : Nat := 0x05C
def TIME_EPOCH_CAUSE : Nat := 0x060
def TIME_OFFSET_NS : Nat := 0x064
def TIME_RATE_PPB : Nat := 0x068
def TIME_JUMP_LO : Nat := 0x06C
def TIME_JUMP_HI : Nat := 0x070
def TIME_GM_LO : Nat := 0x074
def TIME_GM_HI : Nat := 0x078
def TIME_UTC_OFS : Nat := 0x07C
def TIME_CMD : Nat := 0x080
def TIME_CMD_STAT : Nat := 0x084
def TIME_SET_S : Nat := 0x088
def TIME_SET_NS : Nat := 0x08C
def TIME_REFUSALS : Nat := 0x090
def TIME_MASTER_CHG : Nat := 0x094
def TIME_OUTLIERS : Nat := 0x098
def TIME_CLR : Nat := 0x09C
def ETH_IP_ADDR : Nat := 0x040
def ETH_IP_PREFIX : Nat := 0x044
def ETH_IP_GW : Nat := 0x048
def ETH_MAC_LO : Nat := 0x04C
def ETH_MAC_HI : Nat := 0x050
def ETH_LINK : Nat := 0x054
def ETH_RX_OK : Nat := 0x058
def ETH_TX_OK : Nat := 0x05C
def ETH_RX_ERR : Nat := 0x060
def ETH_RX_DISC : Nat := 0x064
def ETH_DRA_DROP : Nat := 0x068
def ETH_USB_DRA_DROP : Nat := 0x06C
def ETH_PRP_DUP : Nat := 0x070
def ETH_PRP_WRONG_LAN : Nat := 0x074
def ETH_PRP_NODES : Nat := 0x078
def ETH_TS_RX_NS32 : Nat := 0x07C
def ETH_TS_TX_NS32 : Nat := 0x080
def ETH_PTP_OFS_NS : Nat := 0x084
def ETH_CLR : Nat := 0x088
def RTC_CAL_DATE : Nat := 0x040
def RTC_CAL_TIME : Nat := 0x044
def RTC_CAL_SUB : Nat := 0x048
def RTC_FLAGS : Nat := 0x04C
def RTC_SET_DATE : Nat := 0x050
def RTC_SET_TIME : Nat := 0x054
def RTC_ALM_DATE : Nat := 0x058
def RTC_ALM_TIME : Nat := 0x05C
def RTC_ALM_CTRL : Nat := 0x060
def RTC_CD_LOAD : Nat := 0x064
def RTC_CD_VAL : Nat := 0x068
def RTC_PWRREQ_CFG : Nat := 0x06C
def RTC_TRIM : Nat := 0x070
def RTC_STAT : Nat := 0x074
def RTC_VBK_MV : Nat := 0x078
def RTC_SWO_DATE : Nat := 0x07C
def RTC_SWO_TIME : Nat := 0x080
def RTC_SWO_SUB : Nat := 0x084
def RTC_SWO_MISSED : Nat := 0x088
def RTC_ADJ_LAST : Nat := 0x08C
def RTC_CMD : Nat := 0x090
def RTC_CMD_STAT : Nat := 0x094
def SAFE_STAT : Nat := 0x040
def SAFE_CFG_CRC : Nat := 0x044
def SAFE_CFG_ID : Nat := 0x048
def SAFE_CFG_REV : Nat := 0x04C
def SAFE_FW_A : Nat := 0x050
def SAFE_FW_B : Nat := 0x054
def SAFE_CMD : Nat := 0x058
def SAFE_CMD_STAT : Nat := 0x05C
def SAFE_CONFIRM_CRC : Nat := 0x060
def SAFE_TRIPS : Nat := 0x064
def SAFE_LAST_TRIP : Nat := 0x068
def SAFE_DISCREP : Nat := 0x06C
def SAFE_CLR : Nat := 0x070
def POL_STAT : Nat := 0x040
def POL_CLR : Nat := 0x044
def PAIR_STAT : Nat := 0x040
def PAIR_CFG : Nat := 0x044
def PAIR_PEER_ID0 : Nat := 0x048
def PAIR_CMD : Nat := 0x058
def PAIR_CMD_STAT : Nat := 0x05C
def PAIR_PL2_UA : Nat := 0x060
def PAIR_MIRROR_US : Nat := 0x064
def PAIR_CMP_EPOCHS : Nat := 0x068
def PAIR_MISMATCH : Nat := 0x06C
def PAIR_MM_EXPL : Nat := 0x070
def PAIR_MM_LAST : Nat := 0x074
def PAIR_TAKEOVERS : Nat := 0x078
def PAIR_TAKE_LAST : Nat := 0x07C
def PAIR_HANDOVERS : Nat := 0x080
def PAIR_DRILL_CFG : Nat := 0x084
def PAIR_DRILL_STAT : Nat := 0x088
def PAIR_DRILL_NEXT_S : Nat := 0x08C
def PAIR_CLR : Nat := 0x090
def SEC_LCS : Nat := 0x040
def SEC_STAT : Nat := 0x044
def SEC_DEVICE_ID0 : Nat := 0x048
def SEC_KU_COUNTER : Nat := 0x058
def SEC_TAMPER : Nat := 0x05C
def SEC_TAMPER_CAUSE : Nat := 0x060
def SEC_TAMPER_S : Nat := 0x064
def SEC_TAMPER_EN : Nat := 0x068
def SEC_SLOT_MAP0 : Nat := 0x06C
def SEC_SLOT_MAP1 : Nat := 0x070
def SEC_ANCHOR_MAP : Nat := 0x074
def SEC_SLOT_SEL : Nat := 0x078
def SEC_SLOT_INFO : Nat := 0x07C
def SEC_SLOT_GEN : Nat := 0x080
def SEC_SLOT_CRED : Nat := 0x084
def SEC_CMD : Nat := 0x088
def SEC_CMD_STAT : Nat := 0x08C
def SEC_WIN_SEL : Nat := 0x090
def SEC_WIN_LEN : Nat := 0x094
def SEC_NONCE0 : Nat := 0x098
def SEC_KU_LAST : Nat := 0x0A8
def SEC_KU_REJ : Nat := 0x0AC
def SEC_CLR : Nat := 0x0B0
def SEC_WIN0 : Nat := 0x400
def UPD_CMD : Nat := 0x040
def UPD_CMD_STAT : Nat := 0x044
def UPD_STAT : Nat := 0x048
def UPD_ARG : Nat := 0x04C
def UPD_PKG_LEN : Nat := 0x050
def UPD_RCVD : Nat := 0x054
def UPD_MISSING : Nat := 0x058
def UPD_RESULT : Nat := 0x05C
def UPD_RUN_PKG : Nat := 0x060
def UPD_RUN_REV : Nat := 0x064
def UPD_PREV_PKG : Nat := 0x068
def UPD_TRIAL : Nat := 0x06C
def UPD_HEALTH_LEFT_S : Nat := 0x070
def UPD_HEALTH : Nat := 0x074
def UPD_SVN_MIN1 : Nat := 0x078
def UPD_BUF0 : Nat := 0x100
def EVT_CFG : Nat := 0x040
def EVT_STAT : Nat := 0x044
def EVT_COUNT : Nat := 0x048
def EVT_FIRST_SEQ : Nat := 0x04C
def EVT_LAST_SEQ : Nat := 0x050
def EVT_NEXT_SEQ : Nat := 0x054
def EVT_OVF : Nat := 0x058
def EVT_FRZ_LOST : Nat := 0x05C
def EVT_UNNUM : Nat := 0x060
def EVT_CRC_BAD : Nat := 0x064
def EVT_RD_IDX : Nat := 0x068
def EVT_RD_SEQ : Nat := 0x06C
def EVT_CMD : Nat := 0x070
def EVT_CMD_STAT : Nat := 0x074
def EVT_CNT_CLR : Nat := 0x078
def EVT_AUTH0 : Nat := 0x080
def EVT_WIN0 : Nat := 0x100
def DISP_CFG : Nat := 0x040
def DISP_STAT : Nat := 0x044
def DISP_TEMP : Nat := 0x048
def DISP_CMD : Nat := 0x04C
def DISP_CMD_STAT : Nat := 0x050
def DISP_RECT : Nat := 0x054
def DISP_SEL : Nat := 0x058
def DISP_UPDATES : Nat := 0x05C
def DISP_HELD : Nat := 0x060
def DISP_INTERRUPTS : Nat := 0x064
def DISP_STRESS_MAX : Nat := 0x068
def DISP_LEDGER_MAX : Nat := 0x06C
def DISP_LAST_MS : Nat := 0x070
def DISP_CLR : Nat := 0x074
def DISP_BUF0 : Nat := 0x100
def PWR_STAT : Nat := 0x040
def PWR_VIN_A_MV : Nat := 0x044
def PWR_VIN_B_MV : Nat := 0x048
def PWR_P_IN_MW : Nat := 0x04C
def PWR_FIELD_MA : Nat := 0x050
def PWR_FIELD_LIM : Nat := 0x054
def PWR_HOLDUP_MJ : Nat := 0x058
def PWR_T_BASE : Nat := 0x05C
def PWR_T_BASE_MAX : Nat := 0x060
def PWR_LASTGASP : Nat := 0x064
def PWR_PFAILS : Nat := 0x068
def PWR_IN_LOSSES : Nat := 0x06C
def PWR_IND : Nat := 0x070
def PWR_CMD : Nat := 0x074
def PWR_CMD_STAT : Nat := 0x078
def PWR_CLR : Nat := 0x07C
def HEAT_CLR : Nat := 0x040
def PULSE_CLR : Nat := 0x040
end Off

namespace Page

/-- Every page kind, in the order of *Page map*. -/
def all : List Page :=
  [.sys, .rst, .mode, .prof, .ord, .mem, .rtc, .time, .evt, .sec, .upd, .pair, .safe, .pol, .disp, .pwr,
   .slc, .adc, .mtr, .pq, .heat, .pulse, .loop, .lcap, .prg, .force, .slv, .slot, .sdata, .can, .eth, .dpx, .pnt, .net]

/-- Base of the first page of the kind; further instances follow 4 KiB apart (R27). -/
def base0 : Page → Nat
  | .sys => 0x00000
  | .rst => 0x01000
  | .mode => 0x02000
  | .prof => 0x03000
  | .ord => 0x04000
  | .mem => 0x05000
  | .rtc => 0x06000
  | .time => 0x07000
  | .evt => 0x08000
  | .sec => 0x09000
  | .upd => 0x0A000
  | .pair => 0x0B000
  | .safe => 0x0C000
  | .pol => 0x0D000
  | .disp => 0x0E000
  | .pwr => 0x0F000
  | .slc => 0x10000
  | .adc => 0x14000
  | .mtr => 0x18000
  | .pq => 0x19000
  | .heat => 0x1A000
  | .pulse => 0x1B000
  | .loop => 0x20000
  | .lcap => 0x26000
  | .prg => 0x28000
  | .force => 0x29000
  | .slv => 0x30000
  | .slot => 0x31000
  | .sdata => 0x39000
  | .can => 0x40000
  | .eth => 0x48000
  | .dpx => 0x4C000
  | .pnt => 0x4D000
  | .net => 0x4E000

/-- How many instances *Page map* lists for the kind (R27). -/
def count : Page → Nat
  | .slc | .adc | .eth => 4
  | .loop | .can => 6
  | .slot => 8
  | _ => 1

/-- Instance number of the first page: CAN1 and ETH1 carry 1 (R27). -/
def inst0 : Page → Nat
  | .can | .eth => 1
  | _ => 0

/-- Block code (R27). -/
def blockCode : Page → Nat
  | .sys => 0x0101
  | .rst => 0x0102
  | .mode => 0x0103
  | .prof => 0x0104
  | .ord => 0x0105
  | .mem => 0x0106
  | .rtc => 0x0107
  | .time => 0x0108
  | .evt => 0x0109
  | .sec => 0x010A
  | .upd => 0x010B
  | .pair => 0x010C
  | .safe => 0x010D
  | .pol => 0x010E
  | .disp => 0x010F
  | .pwr => 0x0110
  | .slc => 0x0201
  | .adc => 0x0202
  | .mtr => 0x0203
  | .pq => 0x0204
  | .heat => 0x0205
  | .pulse => 0x0206
  | .loop => 0x0301
  | .lcap => 0x0302
  | .prg => 0x0303
  | .force => 0x0304
  | .slv => 0x0401
  | .slot => 0x0402
  | .sdata => 0x0403
  | .can => 0x0501
  | .eth => 0x0502
  | .dpx => 0x0503
  | .pnt => 0x0504
  | .net => 0x0505

/-- Summary bit of the first page (R27). -/
def sum0 : Page → Nat
  | .sys => 0
  | .rst => 1
  | .mode => 2
  | .prof => 3
  | .ord => 4
  | .mem => 5
  | .rtc => 6
  | .time => 7
  | .evt => 8
  | .sec => 9
  | .upd => 10
  | .pair => 11
  | .safe => 12
  | .pol => 13
  | .disp => 14
  | .pwr => 15
  | .slc => 16
  | .adc => 20
  | .mtr => 24
  | .pq => 25
  | .heat => 26
  | .pulse => 27
  | .loop => 28
  | .lcap => 34
  | .prg => 35
  | .force => 36
  | .slv => 37
  | .slot => 38
  | .sdata => 46
  | .can => 47
  | .eth => 53
  | .dpx => 57
  | .pnt => 58
  | .net => 59

/-- Base address of instance `i` (counted from 0). -/
def base (p : Page) (i : Nat) : Nat := p.base0 + 0x1000 * i

/-- Address of the register at offset `o` of instance `i`. -/
def reg (p : Page) (i o : Nat) : Nat := p.base i + o

/-- Summary bit of instance `i`. -/
def sumBit (p : Page) (i : Nat) : Nat := p.sum0 + i

/-- The page is present on the variant (*Variant contents*). -/
def present (v : Variant) : Page → Nat → Bool
  | .safe, _ => v.safety
  | .pol, _ => v.safety
  | .pair, _ => v.pair
  | .slc, i => i < v.groups
  | .adc, i => i < v.groups
  | .can, i => i < v.segments
  | p, i => i < p.count

/-- Domain that holds the page (R591). -/
def domain : Page → Domain
  | .rtc => .bkp
  | .sys | .rst | .mode | .prof | .sec | .pair | .pwr => .aon
  | .ord | .mem | .upd | .prg | .force | .slv | .slot | .sdata | .eth | .dpx | .pnt | .net => .cmp
  | _ => .ctl

/-- Block registers of the page kind. -/
def regs : Page → List RegDef
  | .sys => regsSys
  | .rst => regsRst
  | .mode => regsMode
  | .prof => regsProf
  | .ord => regsOrd
  | .mem => regsMem
  | .rtc => regsRtc
  | .time => regsTime
  | .evt => regsEvt
  | .sec => regsSec
  | .upd => regsUpd
  | .pair => regsPair
  | .safe => regsSafe
  | .pol => regsPol
  | .disp => regsDisp
  | .pwr => regsPwr
  | .slc => regsSlc
  | .adc => regsAdc
  | .mtr => regsMtr
  | .pq => regsPq
  | .heat => regsHeat
  | .pulse => regsPulse
  | .loop => regsLoop
  | .lcap => regsLcap
  | .prg => regsPrg
  | .force => regsForce
  | .slv => regsSlv
  | .slot => regsSlot
  | .sdata => regsSdata
  | .can => regsCan
  | .eth => regsEth
  | .dpx => regsDpx
  | .pnt => regsPnt
  | .net => regsNet

/-- The register definition at an offset of the page, if one is defined there. -/
def defAt (p : Page) (o : Nat) : Option RegDef :=
  if o < 0x40 then regsHeader.find? (·.has o) else p.regs.find? (·.has o)

/-- Lowest privilege that may write the page's registers other than its command register (R43). -/
def writePriv : Page → Priv
  | .prof | .prg | .net | .dpx => .config
  | .force | .upd | .mem | .rst | .sec | .evt | .safe | .pol => .service
  | _ => .operate

/-- PAGE_RESET is refused on this page (R33). -/
def resetDenied : Page → Bool
  | .sys | .rst | .sec | .pair | .safe | .pol => true
  | _ => false

/-- Event bits of PAGE_IRQ above ERR that the owning chapter defines. -/
def irqDefined : Page → Nat
  | .mode | .ord | .upd | .disp | .slv | .eth => 0xE
  | .prof | .pol | .pq | .force => 0x6
  | .mem | .time | .evt | .sec | .pwr | .slc | .adc | .prg | .dpx => 0x1E
  | .rtc | .safe | .mtr | .lcap => 0x3E
  | .pair => 0x7E
  | .can => 0xFE
  | .slot => 0x1FE
  | .loop => 0x3FFFFFE
  | .heat | .pulse | .sdata | .net => 0x2
  | .sys | .rst | .pnt => 0

end Page

/-- A decoded register address: page kind, instance counted from 0, offset. -/
structure RegAddr where
  page : Page
  inst : Nat
  off  : Nat
deriving DecidableEq, Repr

/-- The page kind whose instances span the address. -/
def pageOfAddr (a : Nat) : Option Page :=
  Page.all.find? fun p => p.base0 ≤ a && a < p.base0 + 0x1000 * p.count

/-- Decode a byte address; `none` outside every listed page (R27). -/
def decodeAddr (a : Nat) : Option RegAddr :=
  (pageOfAddr a).map fun p => ⟨p, (a - p.base0) / 0x1000, (a - p.base0) % 0x1000⟩

/-- Byte address of a decoded register. -/
def RegAddr.addr (r : RegAddr) : Nat := r.page.reg r.inst r.off

/-- Definition of the register at an address, if any. -/
def regDefAt (a : Nat) : Option RegDef :=
  (decodeAddr a).bind fun r => r.page.defAt r.off

/-- The value a register returns to (R81): its reset value. -/
def regReset (a : Nat) : Word :=
  match regDefAt a with
  | some d => w32 d.rst
  | none => 0

/-- Retention class of the register at an address. -/
def regClass (a : Nat) : RClass :=
  match regDefAt a with
  | some d => d.cls
  | none => .none

end Sys2Proof
end

