-- ==== Sys2Proof/Machine/State.lean ====
section
/-!
DEFINITION. The state of the controller as plain data, the reasons a step can stop, and the state right after reset.
-/
namespace Sys2Proof.Machine

/-- Reasons a step stops with a fault. No command of the model raises one: the manual gives every command of its table an effect. -/
inductive Fault
  /-- Raised by nobody; the type may not be empty. Safe. -/
  | none
deriving DecidableEq, Repr

/-- Reasons a step is refused. -/
inductive Refusal
  /-- A command of the table without a meaning yet, by its mnemonic. Safe: the machine stops. -/
  | notModelled (mnemonic : String)
deriving DecidableEq, Repr

/-- What a command leaves to be settled in the order of *Trigger precedence* (R62). -/
inductive Trigger
  | reset (k : ResetKind)
  | tokenLost (cause : Nat)
  | safeHold (c : ShCause) (param : Nat)
  | tokenGained
  | unit
  | fault (eng : Eng) (cause : Nat)
  | endSessions
  | toStandby
  | decommission
deriving DecidableEq, Repr

/-- A frame or signal the controller sends, in the order sent by the last command. Log entries 71 and 94, DESIGN CHOICE. -/
inductive Out
  | accept (port : Port) (payload : List Byte)
  | errorPlain (port : Port) (status : Err)
  | ready (slot : Nat) (priv : Priv)
  | close (port : Port) (slot : Nat)
  | response (slot : Nat) (seq : Nat) (r : Resp)
  | notify (slot : Nat) (seq num risen pending : Nat)
  | pl1 (seq ack : Nat) (f : Pl1Out)
  | dpxHello (station downSeq upExpect hbMs : Nat) (snapReq : Bool) (device : List Byte) (time : Time64)
  | dpxAck (station seq : Nat) (status : Err) (snapReq : Bool) (lastSet : Nat)
  | dpxCmd (station seq flags : Nat) (frag : SetFrag)
  | dpxSafe (station : Nat) (bytes : List Byte)
  | dtls (station : Nat) (r : DtlsReply)
  | arp (port : Nat) (addr : Word)
  | icmp (port : Nat)
  | ptp (leg : Nat)
  | prpSup
  | can (seg id : Nat) (ide fdf brs : Bool) (data : List Byte)
deriving DecidableEq, Repr

/-- The whole machine. -/
structure State where
  pending : List Instr := []
  variant : Variant := .dxn7448
  now     : Nat := 0
  free    : Nat := 0
  regs    : List (Nat × Word) := []
  shadow  : List (Nat × Word) := []
  cmdq    : List (Nat × List QCmd) := []
  out     : List Out := []
  trig    : List Trigger := []
  opNs    : Nat := 0
  edge    : List (Nat × Word) := []
  host    : HostState := {}
  md      : ModeState := {}
  ord     : OrdState := {}
  evt     : EvtState := {}
  mem     : MemState := {}
  net     : NetState := {}
  lp      : LoopState := {}
  slv     : SolverState := {}
  pair    : PairState := {}
  time    : TimeState := {}
  rtc     : RtcState := {}
  eth     : EthState := {}
  fld     : FieldState := {}
  prg     : PrgState := {}
  can     : CanState := {}
  safe    : SafeState := {}
  keys    : SecState := {}
  mtr     : MtrState := {}
  prof    : ProfState := {}
  upd     : UpdState := {}
  panel   : PanelState := {}
  pwr     : PwrState := {}
deriving DecidableEq, Repr

/-- The controller right after its first power-on reset, as it left manufacture: BOOT in P0 (R59, R61, R77), every register at its reset value, no key, anchor,
profile, network image or record (log entries 58 and 59, DESIGN CHOICE). Log entry 80, DEDUCED. -/
def State.reset : State := {
  md := { causes := [0], defaulted := [1, 2, 0] }
  lp := { loops := List.replicate 48 {}, caps := List.replicate 4 {} }
  slv := { slots := List.replicate 8 {}, lanes := List.replicate 8 {} }
  pair := { absentFrom := some 0 }
  rtc := { stampOn := true }
  eth := { ports := List.replicate 4 {} }
  fld := { slcs := List.replicate 48 {}, grps := List.replicate 4 {} }
  prg := { tasks := List.replicate 16 {} }
  can := { segs := List.replicate 6 {} }
  safe := { fns := List.replicate 32 {}, conns := List.replicate 64 {} }
  keys := { slots := List.replicate 64 none, anchors := List.replicate 5 none }
  mtr := {
    w := { els := List.replicate 8 {}, heats := List.replicate 24 {}, pulses := List.replicate 16 {} }
    c := { els := List.replicate 8 {}, heats := List.replicate 24 {}, pulses := List.replicate 16 {} }
    corr := List.replicate 48 0
    bills := List.replicate 32 {} } }

end Sys2Proof.Machine
end

