-- ==== Sys2Proof/Machine/Flags.lean ====
section
/-!
DEFINITION. Registers as the one home of stored register values, and the flags the page header computes from events: PAGE_IRQ and page rises (R55),
PAGE_ERR (R34), PAGE_WSEQ (R35), command completion words, saturating and wrapping counters.
-/
namespace Sys2Proof.Machine

/-- Value at a key of an association list. -/
def lookupA {α : Type} (k : Nat) : List (Nat × α) → Option α
  | [] => none
  | (j, v) :: m => if j = k then some v else lookupA k m

/-- Insert or replace in a list sorted by key. -/
def insertA {α : Type} (k : Nat) (v : α) : List (Nat × α) → List (Nat × α)
  | [] => [(k, v)]
  | (j, w) :: m => if k < j then (k, v) :: (j, w) :: m else if k = j then (k, v) :: m else (j, w) :: insertA k v m

/-- Remove a key. -/
def eraseA {α : Type} (k : Nat) : List (Nat × α) → List (Nat × α)
  | [] => []
  | (j, w) :: m => if j = k then m else (j, w) :: eraseA k m

/-- How long what a commit replaced can still be asked for: longer than a loop frame. -/
def histNs : Nat := 2 * ms

/-- What stood just before instant `t`, from what changes replaced, oldest first, and what stands now: a change at or after `t` is not seen (R20). -/
def asOf {α : Type} (t : Nat) (cur : α) (h : List (Nat × α)) : α := ((h.find? fun x => t ≤ x.1).map (·.2)).getD cur

/-- Note what a change at `now` replaces. -/
def noteOld {α : Type} (now : Nat) (old : α) (h : List (Nat × α)) : List (Nat × α) := (h.filter fun x => now < x.1 + histNs) ++ [(now, old)]

/-- Stored value of the register at an address; a register not listed holds its reset value. -/
def regGet (m : List (Nat × Word)) (a : Nat) : Word := (lookupA a m).getD (regReset a)

/-- Store a register value; the reset value is represented by absence, so that equal register files are equal lists. -/
def regPut (m : List (Nat × Word)) (a : Nat) (v : Word) : List (Nat × Word) :=
  if v = regReset a then eraseA a m else insertA a v m

/-- Read a stored register by address. -/
def State.rd (s : State) (a : Nat) : Word := regGet s.regs a
/-- Write a stored register by address. -/
def State.wr (s : State) (a : Nat) (v : Word) : State := { s with regs := regPut s.regs a v }

/-- Read a stored register of a page. -/
def State.rdp (s : State) (p : Page) (i o : Nat) : Word := s.rd (p.reg i o)
/-- Write a stored register of a page. -/
def State.wrp (s : State) (p : Page) (i o : Nat) (v : Word) : State := s.wr (p.reg i o) v

/-- Add `n` to a 32-bit counter that saturates. -/
def State.satp (s : State) (p : Page) (i o : Nat) (n : Nat := 1) : State :=
  s.wrp p i o (w32 (satAdd max32 (s.rdp p i o).toNat n))

/-- Add `n` to a 32-bit counter modulo 2³². -/
def State.modp (s : State) (p : Page) (i o : Nat) (n : Nat := 1) : State :=
  s.wrp p i o (s.rdp p i o + w32 n)

/-- Add `n` to a field that saturates at its largest value. -/
def State.satf (s : State) (p : Page) (i o lo width : Nat) (n : Nat := 1) : State :=
  let w := s.rdp p i o
  s.wrp p i o (w.put lo width (satAdd (2 ^ width - 1) (w.fld lo width) n))

/-- Replace a field of a stored register. -/
def State.putf (s : State) (p : Page) (i o lo width v : Nat) : State :=
  s.wrp p i o ((s.rdp p i o).put lo width v)

/-- The device sets bits of an event register; they stand against a host's clearing of the same instant (R31). Log entry 97, DEDUCED. -/
def State.devSet (s : State) (a : Nat) (m : Word) : State :=
  { s.wr a (s.rd a ||| m) with edge := insertA a ((lookupA a s.edge).getD 0 ||| m) s.edge }

/-- A W1C write: each 1 clears its bit unless the device set it in the same instant (R29, R31). Log entry 97, DEDUCED. -/
def State.w1c (s : State) (a : Nat) (v : Word) : State := s.wr a (s.rd a &&& ~~~(v &&& ~~~((lookupA a s.edge).getD 0)))

/-- The bytes of SEC.DEVICE_ID (R493). -/
def deviceId : List Byte := (List.range 4).flatMap fun k => (Config.deviceId k).bytes

/-- Append a frame to what the controller sends. -/
def State.emit (s : State) (o : Out) : State := { s with out := s.out ++ [o] }

/-- The number of the next PL1 frame of a direction (R459): SEQ is 32 bits wide. -/
def pl1Next (q : Nat) : Nat := (q + 1) % 2 ^ 32
/-- An ACK covers frame `q` (R459). -/
def pl1Acked (ack q : Nat) : Bool := (ack + 2 ^ 32 - q) % 2 ^ 32 < 2 ^ 31

/-- Send a PL1 frame while the session is up and CMP runs: it takes the next SEQ, acknowledges the
frames accepted, and waits for its own acknowledgement (R459). -/
def State.pl1Send (s : State) (f : Pl1Out) : State :=
  if s.pair.session && s.md.pstate.cmp then
    let q := pl1Next s.pair.txSeq
    { s with pair := { s.pair with txSeq := q, unacked := s.pair.unacked ++ [(q, f, s.now)] }, out := s.out ++ [.pl1 q s.pair.rxSeq f] }
  else s

/-- Leave a trigger for settlement (R62). -/
def State.trigger (s : State) (t : Trigger) : State := { s with trig := s.trig ++ [t] }

/-- A value the manual leaves open, new at each use (log entry 1, DESIGN CHOICE). -/
def State.fresh (s : State) (tag : Nat) : Nat × State :=
  (Config.freeNat tag s.free, { s with free := s.free + 1 })

/-- PAGE_IRQ as a session sees it: on the SDATA page the completions are those of its own commands (R235). -/
def State.irqWord (s : State) (x : Session) (p : Page) (i : Nat) : Word :=
  s.rdp p i Off.PAGE_IRQ ||| (if p == .sdata then x.sdIrq else 0)

/-- The page's masked event word, PAGE_IRQ AND PAGE_IRQ_EN (R55). -/
def State.masked (s : State) (p : Page) (i : Nat) : Word :=
  s.rdp p i Off.PAGE_IRQ &&& s.rdp p i Off.PAGE_IRQ_EN

/-- A session that subscribed to the page of summary bit `b` takes note of its rise (R57). -/
def noteRise (b : Nat) (x : Session) : Session :=
  match x.sub with
  | some u => if u.mask.testBit b then { x with sub := some { u with risen := u.risen ||| (1 <<< b) } } else x
  | none => x

/-- A page's rise reaches every session that subscribed to it (R57). -/
def State.rise (s : State) (p : Page) (i : Nat) : State :=
  { s with host := { s.host with sessions := s.host.sessions.map (noteRise (p.sumBit i)) } }

/-- A page rises when its masked event word changes from zero to non-zero (R55). -/
def State.riseIf (s : State) (p : Page) (i : Nat) (old : Word) : State :=
  if old = 0 ∧ s.masked p i ≠ 0 then s.rise p i else s

/-- Set an event bit of PAGE_IRQ on a page that is present. -/
def State.irq (s : State) (p : Page) (i bit : Nat) : State :=
  if p.present s.variant i then
    let old := s.masked p i
    (s.devSet (p.reg i Off.PAGE_IRQ) (w32 (2 ^ bit))).riseIf p i old
  else s

/-- A refused access to a present page loads PAGE_ERR and sets PAGE_IRQ[ERR] (R34). -/
def State.refuse (s : State) (p : Page) (i : Nat) (e : Err) : State :=
  let cnt := satAdd 255 ((s.rdp p i Off.PAGE_ERR).fld 8 8) 1
  let ws := (s.rdp p i Off.PAGE_WSEQ).fld 0 16
  (s.wrp p i Off.PAGE_ERR (w32 (e.code + 256 * cnt + 65536 * ws))).irq p i 0

/-- An accepted register write counts in PAGE_WSEQ, modulo 65,536 (R35). -/
def State.accepted (s : State) (p : Page) (i : Nat) (n : Nat := 1) : State :=
  s.putf p i Off.PAGE_WSEQ 0 16 ((s.rdp p i Off.PAGE_WSEQ).fld 0 16 + n)

/-- A CMD_STAT word of the common layout: STATUS, TAG, DONE. -/
def statWord (e : Err) (tag : Nat) : Word := w32 (e.code + 256 * (tag % 256) + 2 ^ 24)

/-- A command completes: its status word is loaded and the page's CMD_DONE event set. -/
def State.complete (s : State) (p : Page) (i o : Nat) (e : Err) (tag : Nat) (doneBit : Nat := 1) : State :=
  (s.wrp p i o (statWord e tag)).irq p i doneBit

/-- Commands waiting in the queue of the command register at `a`. -/
def State.queue (s : State) (a : Nat) : List QCmd := (lookupA a s.cmdq).getD []

/-- Replace the queue of a command register. -/
def State.setQueue (s : State) (a : Nat) (q : List QCmd) : State :=
  { s with cmdq := if q.isEmpty then eraseA a s.cmdq else insertA a q s.cmdq }

/-- The capacity of every command queue (OP-3). -/
def queueMax : Nat := 4

/-- The session in a slot. -/
def State.sess? (s : State) (slot : Nat) : Option Session := s.host.sessions.find? (·.slot == slot)

/-- Update the session in a slot. -/
def State.updSess (s : State) (slot : Nat) (f : Session → Session) : State :=
  { s with host := { s.host with sessions := s.host.sessions.map fun x => if x.slot == slot then f x else x } }

/-- Do something as the mode of the session's module permits: a write mirrored from the ACTIVE, whose session stands at slot 8 or above, is judged by
the partner's mode (R109). -/
def State.asPeer (s : State) (sess : Nat) (f : State → State) : State :=
  if sess < 8 then f s
  else
    let m := s.md.mode
    let p := Mode.ofCode s.pair.peerMode
    let t := f { s with md := { s.md with mode := p } }
    if t.md.mode == p then { t with md := { t.md with mode := m } } else t

/-- A transition to DORMANT is under way: an engine between epochs has crossed and begins none (R60, R63). -/
def State.leaving (s : State) : Bool := s.md.crossing.any fun c => c.cmd.word.fld 0 4 == 0

/-- Where the device's setting of a session's own SDATA events in this instant is noted (R31). -/
def sessEdge (slot : Nat) : Nat := Page.reg .sdata 0 Off.PAGE_IRQ + 1 + slot

/-- Set an SDATA event in the session that issued the command (R235); the page rises for that session. -/
def State.sessIrq (s : State) (slot bit : Nat) : State :=
  match s.sess? slot with
  | none => s
  | some x =>
    let m := w32 (2 ^ bit)
    let en := s.rdp .sdata 0 Off.PAGE_IRQ_EN
    let old := s.irqWord x .sdata 0 &&& en
    let s := { s with edge := insertA (sessEdge slot) ((lookupA (sessEdge slot) s.edge).getD 0 ||| m) s.edge }
    s.updSess slot fun y =>
      let y := { y with sdIrq := y.sdIrq ||| m }
      if old = 0 ∧ m &&& en ≠ 0 then noteRise (Page.sumBit .sdata 0) y else y

/-- Privilege of the session in a slot; none where there is no ready session. -/
def State.privOf (s : State) (slot : Nat) : Priv :=
  match s.sess? slot with
  | some x => if x.ready then x.priv else .none
  | none => .none

end Sys2Proof.Machine
end

