-- ==== Sys2Proof/Machine/Log.lean ====
section
/-!
DEFINITION. Recording in the snag log: what a record carries (R513–R517), numbering (R518, R107), the hold buffer (R595), the freeze buffer (R522),
the full log (R519).
-/
namespace Sys2Proof.Machine

/-- The controller holds the role token; the DXN-7448-NP always does (R22, R514). -/
def State.hasToken (s : State) : Bool := !s.variant.pair || s.pair.token

/-- The controller numbers its own records: the ACTIVE and the DXN-7448-NP (R518). -/
def State.ownNumbers (s : State) : Bool := !s.variant.pair || (s.pair.decided && s.pair.token)

/-- Capacity of the hold buffer and of the freeze buffer (R595, R522). -/
def evtBufMax : Nat := 256

/-- Records that the log's ordinary slots 0–65,534 hold (R519). -/
def evtSlots : Nat := 65535

/-- Size of an event-number block (R107). -/
def evtBlock : Nat := 256

/-- Start a new block of the series from `nextBlock` on. -/
def evtReserve (e : EvtState) : EvtState :=
  { e with block := ⟨e.nextBlock, e.nextBlock + evtBlock⟩, nextBlock := e.nextBlock + evtBlock }

/-- A used-up block gives way to the next block granted (R518). -/
def evtTurn (e : EvtState) : EvtState :=
  if e.block.next < e.block.stop then e else match e.granted with | b :: bs => { e with block := b, granted := bs } | [] => e

/-- Take the next number (R518): the ACTIVE reserves a further block when its own is used up and mirrors the reservation (R107); a STANDBY
uses only a granted block; none is free where R595 holds the record. -/
def State.takeSeq (s : State) : Option (Nat × State) :=
  let e := evtTurn s.evt
  if s.variant.pair && !s.pair.decided then none
  else if e.block.next < e.block.stop then
    some (e.block.next, { s with evt := { e with block := { e.block with next := e.block.next + 1 } } })
  else if s.ownNumbers then
    let e' := evtReserve e
    some (e'.block.next,
      ({ s with evt := { e' with block := { e'.block with next := e'.block.next + 1 } } }).pl1Send (.reserve .events e'.block.next e'.block.stop false))
  else none

/-- Operating time in whole seconds (R517). -/
def State.optimeS (s : State) : Nat := s.opNs / sec

/-- PWRCYC_SUB of a record: power-cycle count and subsecond in 1/256 s (R513). -/
def State.pwrSub (s : State) : Nat :=
  (s.rdp .sys 0 Off.SYS_PWRCYC).fld 0 24 + 2 ^ 24 * ((s.opNs % sec) * 256 / sec)

/-- Codes of the program range (R515). -/
def progCode (c : Nat) : Bool := 0xF000 ≤ c

/-- A record as it stands at its release, without a number (R513–R517). -/
def State.mkRec (s : State) (code : Nat) (p1 p2 p3 : Word) (madeGood : Bool) : Snag :=
  { code := code
    flags := (Config.severity code).toNat + 4 * b2n s.time.valid + 8 * b2n madeGood + 16 * b2n (progCode code) + 32 * b2n s.hasToken
    source := if progCode code then 8 else code / 256
    seq := 0
    optime := s.optimeS
    pwrSub := s.pwrSub
    p1 := p1, p2 := p2, p3 := p3 }

/-- Store a numbered record in the next slot of the log (R519, R520). -/
def State.storeAt (s : State) (r : Snag) : State :=
  ({ s with evt := { s.evt with log := s.evt.log ++ [r] } }).irq .evt 0 2

/-- Count a record that a full log does not store (R519). -/
def State.overflowed (s : State) : State := s.satp .evt 0 Off.EVT_OVF

/-- The log fills: the overflow record takes slot 65,535 with its own number and stamp, naming the record that found the log full. Log entry 92, DEDUCED. -/
def State.fillLog (s : State) (r : Snag) : State :=
  match s.takeSeq with
  | none => s
  | some (n, s) =>
    let o := { s.mkRec 0x1101 (w32 (r.code + 65536 * r.source)) 0 0 false with seq := n }
    let s := s.storeAt o
    ({ s with evt := { s.evt with full := true } }).irq .evt 0 3

/-- Store a record that already carries a number (R519, R522). -/
def State.storeNumbered (s : State) (r : Snag) : State :=
  if s.evt.full then s.overflowed
  else if s.evt.log.length ≥ evtSlots then (s.fillLog r).overflowed
  else s.storeAt r

/-- Number and store a record, or keep it in the hold or the freeze buffer (R518, R519, R522, R595). Log entry 92, DEDUCED. -/
def State.release (s : State) (r : Snag) : State :=
  if s.variant.pair && !s.ownNumbers && (!s.pair.decided || ((evtTurn s.evt).block.next ≥ (evtTurn s.evt).block.stop)) then
    if s.evt.hold.length < evtBufMax then { s with evt := { s.evt with hold := s.evt.hold ++ [r] } }
    else s.satp .evt 0 Off.EVT_UNNUM
  else
    let s := if s.evt.freeze.isNone && !s.evt.full && s.evt.log.length ≥ evtSlots then s.fillLog r else s
    match s.takeSeq with
    | none => { s with evt := { s.evt with hold := s.evt.hold ++ [r] } }
    | some (n, s) =>
      let r := { r with seq := n }
      if s.evt.freeze.isSome then
        if s.evt.frozen.length < evtBufMax then { s with evt := { s.evt with frozen := s.evt.frozen ++ [r] } }
        else s.satp .evt 0 Off.EVT_FRZ_LOST
      else if s.evt.full then s.overflowed
      else s.storeAt r

/-- Record an event: code and its three parameters (R515). -/
def State.record (s : State) (code : Nat) (p1 p2 p3 : Word) (madeGood : Bool := false) : State :=
  s.release (s.mkRec code p1 p2 p3 madeGood)

/-- Record an event of an epoch: a STANDBY stores no record of its shadow epochs (R518). -/
def State.recordEp (s : State) (code : Nat) (p1 p2 p3 : Word) : State :=
  if s.md.mode == .standby then s else s.record code p1 p2 p3

/-- Record an event that has no row of its own, with the general code of its source (R516): page, register offset, register value. -/
def State.recordGen (s : State) (source : Nat) (p : Page) (i o : Nat) (v : Word) : State :=
  s.record (source * 256 + 0xFF) (w32 (p.base i)) (w32 o) v

/-- Record a write whose old and new values a rule has recorded (0x0106). -/
def State.recordCfg (s : State) (addr : Nat) (old new : Word) : State := s.record 0x0106 (w32 addr) old new

/-- Record a clearing of counters (0x0107). -/
def State.recordClr (s : State) (addr : Nat) (v : Word) : State := s.record 0x0107 (w32 addr) v 0

/-- Held records take numbers in order of release as soon as numbers are available, then a 0x1103 record follows a loss (R595). -/
def drainHold : List Snag → State → State
  | [], s => s
  | r :: rs, s =>
    match s.takeSeq with
    | none => { s with evt := { s.evt with hold := r :: rs } }
    | some (n, s) => drainHold rs (s.storeNumbered { r with seq := n })

/-- Empty the hold buffer when numbering resumes (R595). -/
def State.resumeNumbering (s : State) : State :=
  let held := s.evt.hold
  let lost := (s.rdp .evt 0 Off.EVT_UNNUM).toNat - s.evt.unnumFrom
  let s := drainHold held { s with evt := { s.evt with hold := [] } }
  if s.evt.hold.isEmpty && lost > 0 then
    let s := { s with evt := { s.evt with unnumFrom := (s.rdp .evt 0 Off.EVT_UNNUM).toNat } }
    s.record 0x1103 0 (w32 lost) 0
  else s

/-- End of a freeze (R522): the held records are stored in SEQ order, then one 0x1103 record when FRZ_LOST increased. -/
def State.endFreeze (s : State) : State :=
  match s.evt.freeze with
  | none => s
  | some _ =>
    let held := s.evt.frozen
    let lost := (s.rdp .evt 0 Off.EVT_FRZ_LOST).toNat - s.evt.frzFrom
    let s := { s with evt := { s.evt with freeze := none, frozen := [] } }
    let s := s.putf .evt 0 Off.PAGE_CTRL 2 1 0
    let s := held.foldl (fun s r => s.storeNumbered r) s
    if lost > 0 then s.record 0x1103 (w32 lost) 0 0 else s

/-- The numbers of the last reserved block that no stored record carries (R595, P3 of the start record). -/
def evtSkipped (e : EvtState) : Nat :=
  if e.block.stop ≤ evtBlock then 0 else
  ((List.range evtBlock).filter fun k => !(e.log.any fun r => r.seq == e.block.stop - evtBlock + k)).length

end Sys2Proof.Machine
end

