-- ==== Sys2Proof/Machine/Out.lean ====
section
/-!
DEFINITION. What drives an output: *Output precedence* (R17), the owner's value (R596), ownerless outputs (R347), terminal ranges (R279).
-/
namespace Sys2Proof.Machine
open Sys2Proof.F64

/-- Slice Sn, n from 1; a slice outside the table is OFF. -/
def State.slc (s : State) (n : Nat) : Slc := if n = 0 then {} else s.fld.slcs.getD (n - 1) {}

/-- Update slice Sn. -/
def State.updSlc (s : State) (n : Nat) (f : Slc → Slc) : State :=
  if n = 0 then s else { s with fld := { s.fld with slcs := modAt s.fld.slcs (n - 1) f } }

/-- Slice group `g`. -/
def State.grp (s : State) (g : Nat) : Grp := s.fld.grps.getD g {}

/-- Update slice group `g`. -/
def State.updGrp (s : State) (g : Nat) (f : Grp → Grp) : State := { s with fld := { s.fld with grps := modAt s.fld.grps g f } }

/-- The group that carries slice Sn. -/
def grpOf (n : Nat) : Nat := (n - 1) / 12

/-- Output functions of *Slice functions* (R270). -/
def isOut (f : Nat) : Bool := 0xA ≤ f && f ≤ 0xE
/-- SDO, the safety output. -/
def isSdo (f : Nat) : Bool := f == 0xB

/-- A released value brought into its terminal range (R279, *Output terminal ranges*). -/
def toTerminal (f : Nat) (v : F) : F :=
  if f = 0xA ∨ f = 0xB then (if isZ v then zero else one)
  else if f = 0xC then clamp zero one v
  else if f = 0xD then clamp zero (q 21 2) v
  else if f = 0xE then clamp zero (ofNat 22) v
  else v

/-- A value lies in its terminal range (R279, R358). -/
def inTerminal (f : Nat) (v : F) : Bool :=
  if f = 0xA ∨ f = 0xB then true
  else if f = 0xC then le zero v && le v one
  else if f = 0xD then le zero v && le v (q 21 2)
  else if f = 0xE then le zero v && le v (ofNat 22)
  else false

/-- TIME64 of an instant of the cycle timer (R21, R390). Log entry 65, DEDUCED. -/
def State.time64At (s : State) (t : Nat) : Time64 := let n := (t + s.time.ofs : Int).toNat; ⟨n / sec, n % sec⟩

/-- Segment C`n`, counted from 1. -/
def State.seg (s : State) (n : Nat) : Seg := if n = 0 then {} else s.can.segs.getD (n - 1) {}
/-- Update segment C`n`. -/
def State.updSeg (s : State) (n : Nat) (f : Seg → Seg) : State :=
  if n = 0 then s else { s with can := { s.can with segs := modAt s.can.segs (n - 1) f } }

/-- The descriptor of a configured signal. -/
def sigOf (g : Seg) (n : Nat) : Option SigD := g.cfg.bind fun c => c.sigs.find? (·.num == n)

/-- Station number and local index of a point index (R9). -/
def ptStation (i : Nat) : Nat := i / 2048
/-- Local index of a point index (R9). -/
def ptLocal (i : Nat) : Nat := i % 2048
/-- Point index of a station's local point (R9). -/
def ptIndex (st l : Nat) : Nat := 2048 * st + l

/-- The station with a number. -/
def State.stn? (s : State) (n : Nat) : Option Stn := s.net.stns.find? (·.num == n)
/-- Update a station. -/
def State.updStn (s : State) (n : Nat) (f : Stn → Stn) : State :=
  { s with net := { s.net with stns := s.net.stns.map fun x => if x.num == n then f x else x } }

/-- The mask of an output, once its forced value has been released (R350). -/
def State.maskVal (s : State) (t : Target) : Option F :=
  (s.prg.forced.find? fun m => m.1 == t).map (·.2)

/-- Outputs are gated or de-energised whatever the owner commits: rank 1 of R17, and BOOT and DORMANT (R60, R17 for the DXN-7448-NP). -/
def State.gated (s : State) : Bool := !s.hasToken || s.md.mode == .boot || s.md.mode == .dormant

/-- The value and the rank that R17 gives slice Sn. -/
def State.drivenSlc (s : State) (n : Nat) : Nat × F :=
  let x := s.slc n
  let f := x.cfg.func
  let fault := if isSdo f then zero else toTerminal f (ofF32 x.cfg.faultVal)
  if s.gated then (1, zero)
  else if isSdo f && !s.safe.sdo.contains n then (2, zero)
  else if (s.grp (grpOf n)).cause.isSome then (3, fault)
  else if s.md.mode == .safeHold && !isSdo f then (4, toTerminal f (ofF32 x.cfg.safeVal))
  else if x.held then (3, fault)
  else match s.maskVal (.slice n) with
    | some v => (5, toTerminal f v)
    | none =>
      if isSdo f then (6, one)
      else if s.md.mode == .commission then (6, zero)
      else if x.cfg.owned then (6, toTerminal f (x.own.getD (ofF32 x.cfg.safeVal)))
      else (6, toTerminal f x.last)

/-- The value and the rank that R17 gives a CAN transmit signal (R363, R378, R379): in COMMISSION its SAFE value unless masked. -/
def State.drivenCan (s : State) (k n : Nat) : Nat × F :=
  let g := s.seg k
  let d := sigOf g n
  let safe := match d with | some d => d.safe | none => zero
  let x := g.txs.find? (·.num == n)
  if s.gated then (1, zero)
  else if s.md.mode == .safeHold then (4, safe)
  else match s.maskVal (.can k n) with
    | some v => (5, v)
    | none =>
      if s.md.mode == .commission then (6, safe)
      else match x with
        | some x => (6, x.own.getD safe)
        | none => (6, safe)

/-- The value and the rank that R17 gives a commanded station point (R596). -/
def State.drivenPt (s : State) (i : Nat) : Nat × F :=
  let safe := (lookupA i s.net.safeVals).getD zero
  let o := (s.stn? (ptStation i)).bind fun (x : Stn) => x.outs.find? fun y => y.idx == ptLocal i
  if s.gated then (1, zero)
  else if s.md.mode == .safeHold then (4, safe)
  else match s.maskVal (.point i) with
    | some v => (5, v)
    | none =>
      if s.md.mode == .commission then (6, safe)
      else match o with
        | some o => (6, o.own.getD safe)
        | none => (6, safe)

/-- The value and the rank that R17 gives an output. -/
def State.driven (s : State) : Target → Nat × F
  | .slice n => s.drivenSlc n
  | .can k n => s.drivenCan k n
  | .point i => s.drivenPt i

/-- The value of an output that its owner stands for: what it committed, before its first commit the safe value (R17, R596). -/
def State.ownVal (s : State) : Target → F
  | .slice n => let x := s.slc n; toTerminal x.cfg.func (x.own.getD (ofF32 x.cfg.safeVal))
  | .can k n =>
    let safe := match sigOf (s.seg k) n with | some d => d.safe | none => zero
    (((s.seg k).txs.find? (·.num == n)).bind (·.own)).getD safe
  | .point i =>
    let o := (s.stn? (ptStation i)).bind fun (x : Stn) => x.outs.find? fun y => y.idx == ptLocal i
    (o.bind (·.own)).getD ((lookupA i s.net.safeVals).getD zero)

/-- The output stands de-energised: gated, or COMMISSION without a mask (R60). -/
def State.deEnergised (s : State) (t : Target) : Bool :=
  s.gated || (s.md.mode == .commission && (s.maskVal t).isNone)

/-- What stands at the terminal of slice Sn: a tripped output is off (R284). -/
def State.terminal (s : State) (n : Nat) : F := if (s.slc n).tripped then zero else (s.drivenSlc n).2

end Sys2Proof.Machine
end

