-- ==== Sys2Proof/Machine/Net.lean ====
section
/-!
DEFINITION. The point database and DPX (R131–R163, R593, R594): versions, station states, handshakes, uplink sets, downlink queues, the DPX, NET and
PNT pages. Key material for R146 and R148 is read in the meanings of NET.CMD.
-/
namespace Sys2Proof.Machine
open Sys2Proof.F64

/-- A station's entry of the network image. -/
def State.stnCfg (s : State) (n : Nat) : Option StationCfg := s.net.img.bind fun i => i.stations.find? (·.num == n)

/-- A point's entry of its station's point table. -/
def State.ptCfg (s : State) (st l : Nat) : Option PointCfg := (s.stnCfg st).bind fun c => c.points.find? (·.idx == l)

/-! Point values (R134) -/

/-- A value's unused bytes are zero and a BOOL is 0 or 1 (R134). -/
def valFormOk (typ : Nat) (v : Word64) : Bool :=
  let n := v.toNat
  match typ with
  | 1 => n ≤ 1
  | 2 | 3 | 4 => n < 2 ^ 32
  | 5 | 6 | 8 => true
  | 7 => n < 65536
  | _ => false

/-- A FLOAT32 or FLOAT64 that is NaN or infinite (R134). -/
def valBad (typ : Nat) (v : Word64) : Bool :=
  if typ = 4 then !fin (ofF32 (lo32 v)) else if typ = 5 then !fin v else false

/-- A point's value as binary64; a TIME64 counts as its seconds with fraction (log entry 22, DEDUCED). -/
def ptNum (typ : Nat) (v : Word64) : F :=
  match typ with
  | 2 => ofInt (lo32 v).toInt
  | 4 => ofF32 (lo32 v)
  | 5 => v
  | 8 => add (ofNat (lo32 v).toNat) (div (ofNat (hi32 v).toNat) (ofNat sec))
  | _ => ofNat v.toNat

/-- A binary64 value as a point value of a type: rounded to the nearest representable value, clamped to the type's range. -/
def ptVal (typ : Nat) (x : F) : Word64 :=
  let n := rintI x
  match typ with
  | 1 => if isZ x then 0 else 1
  | 2 => (sw32 (clampI (-(2 ^ 31)) (2 ^ 31 - 1) n)).setWidth 64
  | 3 => BitVec.ofInt 64 (clampI 0 (2 ^ 32 - 1) n)
  | 4 => (toF32 x).setWidth 64
  | 5 => x
  | 6 => BitVec.ofInt 64 (clampI 0 (2 ^ 64 - 1) n)
  | 7 => BitVec.ofInt 64 (clampI 0 65535 n)
  | _ => BitVec.ofInt 64 (clampI 0 (2 ^ 64 - 1) n)

/-! Versions (R137, R138) -/

/-- Versions of a station that an uncommitted slot cycle or the PNT freeze refers to (R138), and those that a snapshot of an instant just past would (R20). -/
def State.verRefs (s : State) (st : Nat) : List Nat :=
  (match s.stn? st with | some x => (x.hist.filter fun h => s.now < h.1 + histNs).map (·.2) | none => []) ++
  (s.slv.slots.flatMap fun sl => match sl.cyc with
    | some c => (c.snap.filter (·.1 == st)).map (·.2)
    | none => []) ++ (match s.net.pntFrz with | some (n, v) => if n = st then [v] else [] | none => [])

/-- Make `pts` the station's current version and keep the older versions still referred to (R137, R138). -/
def State.newVersion (s : State) (st : Nat) (pts : List Pt) : State :=
  let s := s.updStn st fun x => { x with hist := noteOld s.now x.ver x.hist }
  let refs := s.verRefs st
  s.updStn st fun x => { x with
    old := ((x.ver, x.pts) :: x.old).filter fun v => refs.contains v.1
    ver := (x.ver + 1) % 2 ^ 32
    pts := pts }

/-- Release the versions nothing refers to any more (R138). -/
def State.pruneVersions (s : State) : State :=
  { s with net := { s.net with stns := s.net.stns.map fun x =>
      if x.old.isEmpty then x else { x with old := x.old.filter fun v => (s.verRefs x.num).contains v.1 } } }

/-- The points of a version of a station. -/
def ptsAt (x : Stn) (ver : Nat) : List Pt := if x.ver = ver then x.pts else (lookupA ver x.old).getD x.pts

/-- The version of a station that stood just before instant `t` (R20). -/
def verAt (x : Stn) (t : Nat) : Nat := asOf t x.ver x.hist

/-- Subtract microseconds from a TIME64 (R151). -/
def timeMinusUs (t : Time64) (u : Nat) : Time64 := let n := t.s * sec + t.ns - u * us; ⟨n / sec, n % sec⟩

/-- Count `n` point updates in the running second (DPX.INGEST). -/
def State.countIngest (s : State) (n : Nat) : State :=
  if s.now < s.net.secFrom + sec then { s with net := { s.net with secCount := s.net.secCount + n } }
  else
    let last := if s.now < s.net.secFrom + 2 * sec then s.net.secCount else 0
    let s := { s with net := { s.net with secFrom := s.now - s.now % sec, lastSec := last, secCount := n } }
    if last > (s.rdp .dpx 0 Off.DPX_INGEST_PEAK).toNat then s.wrp .dpx 0 Off.DPX_INGEST_PEAK (w32 last) else s

/-- The value, quality and stamp that an entry gives its point (R134, R135, R594). -/
def entryPt (now : Nat) (time : Time64) (e : PtEntry) : Pt :=
  let ql := Qual.ofCode e.qual
  let bad := valBad e.typ e.val
  { idx := e.index, val := e.val
    qual := if bad then .bad else ql
    reason := if bad then .formatValue else if ql == .good then .none else .station
    ts := timeMinusUs time e.tofs, at_ := now }

/-- Apply a completed set to a station's points: the points listed change (R137). -/
def applyEntries (now : Nat) (time : Time64) (pts : List Pt) (es : List PtEntry) : List Pt :=
  pts.map fun p => match es.find? (·.index == p.idx) with
    | some e => entryPt now time e
    | none => p

/-- Update a local point of station 0000 at its producer's commit (R132); a value that is not finite is BAD (R134). -/
def State.localPoint (s : State) (l : Nat) (v : F) (ql : Qual) (ts : Time64) : State :=
  match s.stn? 0, s.ptCfg 0 l with
  | some x, some c =>
    let w := ptVal c.typ v
    let bad := valBad c.typ w
    s.newVersion 0 (x.pts.map fun p => if p.idx == l then
      { p with
        val := w, qual := if bad then .bad else ql
        reason := if bad then .formatValue else if ql == .good then .none else .station
        ts := ts, at_ := s.now } else p)
  | _, _ => s

/-! Downlink (R151, R153, R156–R159) -/

/-- DPX is served (R593): CMP powered, the token held, a mode of R593. -/
def State.servesDpx (s : State) : Bool :=
  s.md.pstate.cmp && s.hasToken && !(s.md.mode == .boot || s.md.mode == .dormant || s.md.mode == .standby)

/-- DPX.CFG fields. -/
def State.retxMs (s : State) : Nat := (s.rdp .dpx 0 Off.DPX_CFG).fld 0 8
def State.retxMax (s : State) : Nat := (s.rdp .dpx 0 Off.DPX_CFG).fld 8 4
def State.hbMiss (s : State) : Nat := (s.rdp .dpx 0 Off.DPX_CFG).fld 12 4
def State.dpxWindow (s : State) : Nat := (s.rdp .dpx 0 Off.DPX_CFG).fld 16 5

/-- Size of a downlink SEQ block (R159). -/
def dseqBlock : Nat := 64

/-- Take the next downlink SEQ of a station, reserving and mirroring a block when the last is used up (R159, R107). -/
def State.takeDseq (s : State) (st : Nat) : Nat × State :=
  match s.stn? st with
  | none => (0, s)
  | some x =>
    if x.dseq.next < x.dseq.stop then
      (x.dseq.next % 2 ^ 32, s.updStn st fun x => { x with dseq := { x.dseq with next := x.dseq.next + 1 } })
    else
      let s := s.updStn st fun x => { x with dseq := ⟨x.dnext + 1, x.dnext + dseqBlock⟩, dnext := x.dnext + dseqBlock }
      (x.dnext % 2 ^ 32, s.pl1Send (.reserve (.downSeq st) x.dnext (x.dnext + dseqBlock) false))

/-- Count a record received on the station's DTLS session (R145). -/
def State.countRx (s : State) (st : Nat) : State := s.updStn st fun x => { x with dtls := x.dtls.map fun d => { d with rx := d.rx + 1 } }

/-- Count a record sent on the station's DTLS session (R145); the ACTIVE reserves and mirrors records in blocks of 4,096 (R160). -/
def State.countRecord (s : State) (st : Nat) : State :=
  let s := match (s.stn? st).bind (·.dtls) with
    | some d => if d.records % 4096 = 0 then s.pl1Send (.reserve (.records st) d.records (d.records + 4096) false) else s
    | none => s
  s.updStn st fun x => { x with dtls := x.dtls.map fun d => { d with records := d.records + 1 } }

/-- Send a message on a station's session (R145, R161). -/
def State.dpxTx (s : State) (st : Nat) (o : Out) : State := ((s.emit o).modp .dpx 0 Off.DPX_TX_MSG).countRecord st

/-- Send queued COMMAND messages while the window has room (R156, R157). -/
def pumpLoop (st : Nat) : Nat → State → State
  | 0, s => s
  | k + 1, s =>
    match s.stn? st with
    | none => s
    | some x =>
      let open_ := (x.cmdQ.filter (·.seq.isSome)).length
      match x.cmdQ.find? (·.seq.isNone) with
      | none => s
      | some m =>
        if open_ ≥ s.dpxWindow ∨ !s.servesDpx then s
        else
          let (n, s) := s.takeDseq st
          let s := s.updStn st fun x => { x with
            cmdQ := (x.cmdQ.filter (·.seq.isSome)) ++ { m with seq := some n, sentAt := s.now } :: (x.cmdQ.filter (·.seq.isNone)).tail }
          let s := s.dpxTx st (.dpxCmd st n m.flags m.frag)
          pumpLoop st k s

/-- Send what the station's window admits. -/
def State.pump (s : State) (st : Nat) : State :=
  match s.stn? st with
  | some x => pumpLoop st x.cmdQ.length s
  | none => s

/-- Cut a set's entries into fragments of at most 72 (R151). -/
def chunk72 : Nat → List PtEntry → List (List PtEntry)
  | 0, _ => []
  | k + 1, es => if es.length ≤ 72 then [es] else es.take 72 :: chunk72 k (es.drop 72)

/-- Queue one COMMAND set for a station (R153): flags bit 0 RESYNC, bit 1 FULL. -/
def State.queueSet (s : State) (st flags : Nat) (es : List PtEntry) : State :=
  match s.stn? st with
  | none => s
  | some x =>
    let parts := chunk72 32 es
    let id := if (x.setId + 1) % 2 ^ 32 = 0 then 1 else (x.setId + 1) % 2 ^ 32
    let mk := fun (i : Nat) (p : List PtEntry) =>
      ({ seq := none, flags := flags, frag := { setId := id, baseId := 0, time := s.time64At s.now, frag := i, count := parts.length, entries := p } } : DownMsg)
    let msgs := (List.range parts.length).map fun i => mk i (parts.getD i [])
    (s.updStn st fun x => { x with setId := id, cmdQ := x.cmdQ ++ msgs }).pump st

/-- A COMMAND entry of an OUT point with a value (R151). -/
def State.outEntry (s : State) (st l : Nat) (v : F) : PtEntry :=
  let typ := match s.ptCfg st l with | some c => c.typ | none => 5
  { index := l, typ := typ, qual := 0, tofs := 0, val := ptVal typ v }

/-- Note the value sent for an OUT point; it is not yet acknowledged (R136). -/
def State.noteSent (s : State) (st l : Nat) (v : F) : State :=
  s.updStn st fun x => { x with outs := x.outs.map fun o => if o.idx == l then { o with cmd := v, acked := false } else o }

/-- One COMMAND set with FULL: every OUT point at the value R17 drives (R143, R160, R593). -/
def State.sendFull (s : State) (st : Nat) (resync : Bool) : State :=
  match s.stn? st with
  | none => s
  | some x =>
    let es := x.outs.map fun o => s.outEntry st o.idx (s.drivenPt (ptIndex st o.idx)).2
    let s := x.outs.foldl (fun s o => s.noteSent st o.idx (s.drivenPt (ptIndex st o.idx)).2) s
    s.queueSet st (2 + b2n resync) es

/-- A release to a station's group (R93, R139): the owner's values stand; the set is queued, or discarded and counted. -/
def State.releasePts (s : State) (st : Nat) (vals : List (Nat × F)) : State :=
  let s := s.updStn st fun x => { x with outs := x.outs.map fun o => match lookupA o.idx vals with
    | some v => { o with own := some v }
    | none => o }
  match s.stn? st with
  | none => s.satp .ord 0 Off.ORD_REL_DROP
  | some x =>
    if x.st == .up && s.servesDpx then
      let es := vals.map fun p => s.outEntry st p.1 (s.drivenPt (ptIndex st p.1)).2
      let s := vals.foldl (fun s p => s.noteSent st p.1 (s.drivenPt (ptIndex st p.1)).2) s
      s.queueSet st 0 es
    else
      ((s.updStn st fun x => { x with drop := satAdd max32 x.drop 1 }).satp .ord 0 Off.ORD_REL_DROP).satp .dpx 0 Off.DPX_CMD_DROP

/-! Leaving UP (R141, R142) -/

/-- A station leaves UP or JOINING (R142); `to_` DOWN or DISABLED, `why` the reason of the record. -/
def State.stationDown (s : State) (st : Nat) (to_ : StnState) (why : Nat) : State :=
  match s.stn? st with
  | none => s
  | some x =>
    if x.st == .up || x.st == .joining then
      let n := x.cmdQ.length + x.safeQ.length
      let s := s.updStn st fun x => { x with
                                              dtls := none, buf := [], reasm := none, ready := [], owed := [], cmdQ := [], safeQ := [], lastSet := none,
                                              drop := satAdd max32 x.drop n, downs := satAdd max32 x.downs 1, st := to_ }
      let s := s.satp .dpx 0 Off.DPX_CMD_DROP n
      let s := s.newVersion st (x.pts.map fun p => { p with qual := .bad, reason := .stationDown, at_ := s.now })
      (s.irq .dpx 0 1).record 0x0B01 (w32 st) (Config.downReason why) 0
    else s

/-- The station is served no more (R144): what waits for it, and what it has sent and is not applied, goes; its session and its points stay as they are mirrored. -/
def State.stopServing (s : State) : State :=
  { s with net := { s.net with
    hs := []
    stns := s.net.stns.map fun (x : Stn) => { x with cmdQ := [], safeQ := [], buf := [], reasm := none, ready := [], owed := [] } } }

/-! Handshakes (R145–R148) -/

/-- A handshake is refused or dropped and counted (R145, R147). -/
def State.hsFail (s : State) : State := (s.satp .dpx 0 Off.DPX_HS_FAIL).irq .dpx 0 3

/-- A ClientHello (R145, R147): `offers` whether it offers *DTLS parameters*, `cookie` whether it returns a valid cookie, and the PSK identity. -/
def State.clientHello (s : State) (offers cookie : Bool) (netid : Word) (wellFormed : Bool) (st g : Nat) : State :=
  if !s.servesDpx then s
  else if !offers then s.hsFail.emit (.dtls st .handshakeFailure)
  else if s.net.hs.length ≥ 32 then s.hsFail
  else if !cookie then s.emit (.dtls st .helloRetry)
  else
    let ok := match s.stn? st with
      | some x => wellFormed && st != 0 && (match s.net.img with | some g => netid == g.netid | none => false) && x.enabled && (g == x.kgen || (x.nextOk && g == x.kgen + 1))
      | none => false
    if ok then { s with net := { s.net with hs := s.net.hs ++ [(st, g)] } }.emit (.dtls st .serverHello)
    else (s.hsFail.emit (.dtls st .unknownPsk)).record 0x0B02 (w32 st) (Config.downReason 32) 0

/-- A PSK handshake completes (R141, R147, R148), and its traffic secrets are mirrored (R160). -/
def State.handshakeDone (s : State) (st g : Nat) : State :=
  if !(s.net.hs.contains (st, g)) || !s.servesDpx then s
  else
    let s := { s with net := { s.net with hs := s.net.hs.erase (st, g) } }
    let s := s.stationDown st .down 5
    match s.stn? st with
    | none => s
    | some x =>
      if !x.enabled then s else
      let (k, s) := s.fresh 71
      let key := Config.trafficSecret k
      let s := s.updStn st fun x => { x with
        dtls := some { gen := g, keyedAt := s.now, records := 0, helloOk := false, secret := key }, buf := [], reasm := none, ready := [], owed := [], lastSet := none }
      let s := s.pl1Send (.reserve (.secrets st g false key) 0 0 false)
      if x.nextOk && g == x.kgen + 1 then
        (s.updStn st fun x => { x with kgen := g, nextOk := false }).recordGen 0x0B .net 0 Off.NET_SD_KGEN (w32 g)
      else s

/-- Key update after 2²³ records in either direction or 24 h (R145), and the new traffic secrets are mirrored (R160). -/
def State.dtlsKeyUpdate (s : State) (st : Nat) : State :=
  match (s.stn? st).bind (·.dtls) with
  | some d =>
    if s.servesDpx && (d.records ≥ 2 ^ 23 || d.rx ≥ 2 ^ 23 || s.now ≥ d.keyedAt + 24 * 3600 * sec) then
      let (k, s) := s.fresh 71
      let key := Config.trafficSecret k
      let s := (s.updStn st fun x => { x with dtls := some { d with keyedAt := s.now, records := 0, rx := 0, secret := key } }).emit (.dtls st .keyUpdate)
      s.pl1Send (.reserve (.secrets st d.gen d.helloOk key) 0 0 false)
    else s
  | none => s

/-- A fatal alert or a failed record-protection check (R141). -/
def State.dtlsFail (s : State) (st : Nat) : State :=
  (s.stationDown st .down 3).updStn st fun x => { x with dtls := none }

/-! Messages (R149–R156) -/

/-- A message is discarded and counted (R149, R156). -/
def State.rxDrop (s : State) : State := s.satp .dpx 0 Off.DPX_RX_DROP

/-- The header is one R149 accepts from station `st` as type `typ`. -/
def hdrOk (h : DpxHdr) (st typ : Nat) : Bool :=
  h.magic == 0x5044 && h.version == 1 && h.typ == typ && h.station == st && h.len + 16 == h.recLen && h.len ≤ 1184

/-- The SEQ that an ACK may acknowledge (R154, R158): the highest accepted in order, short of a message that completes a set not yet applied and mirrored. -/
def ackSeq (x : Stn) : Nat :=
  match x.owed ++ x.ready.map (·.1.seq) with
  | [] => (x.useq + 2 ^ 32 - 1) % 2 ^ 32
  | q :: _ => (q + 2 ^ 32 - 1) % 2 ^ 32

/-- Send an ACK (R154); only who serves DPX sends (R144, R593). -/
def State.ack (s : State) (st : Nat) (e : Err) (snap : Bool) : State :=
  match s.stn? st with
  | some x => if s.servesDpx then s.dpxTx st (.dpxAck st (ackSeq x) e snap (x.lastSet.getD 0)) else s
  | none => s

/-- Every set of a station that was applied has reached the partner (R154). -/
def State.setsMirrored (s : State) (st : Nat) : Bool :=
  !s.pair.session || !(s.pair.unacked.any fun x => match x.2.1 with | .dataset n .. => n == st | _ => false)

/-- The ACK of applied sets leaves once they are mirrored (R154). -/
def State.ackApplied (s : State) (st : Nat) : State :=
  match s.stn? st with
  | some x => if !x.owed.isEmpty && s.setsMirrored st then (s.updStn st fun x => { x with owed := [] }).ack st .ok false else s
  | none => s

/-- The ACKs of every station whose applied sets have reached the partner. -/
def State.ackAllApplied (s : State) : State := (s.net.stns.map (·.num)).foldl (fun s st => s.ackApplied st) s

/-- A station HELLO (R150, R141). -/
def State.dpxHello (s : State) (st : Nat) (h : DpxHdr) (m : HelloMsg) : State :=
  match s.stn? st, s.stnCfg st with
  | some x, some c => match x.dtls with
    | none => s
    | some d =>
      if !s.servesDpx then s
      else if !hdrOk h st 1 then s.rxDrop
      else
        let s := (s.modp .dpx 0 Off.DPX_RX_MSG).countRx st
        if d.helloOk then s.stationDown st .down 4
        else if m.proto ≠ 1 ∨ m.zero ≠ 0 ∨ m.station ≠ h.station then
          (s.ack st .format false).recordGen 0x0B .net 0 Off.NET_SD_STAT (w32 x.st.code)
        else if m.points ≠ c.points.length then
          (s.ack st .range false).recordGen 0x0B .net 0 Off.NET_SD_PTS (w32 m.points)
        else
          let dn := if x.dseq.next < x.dseq.stop then x.dseq.next else x.dnext
          let s := s.updStn st fun x => { x with
                                                 st := .joining, useq := m.upSeq, lastRx := s.now, lastSet := none, buf := [], reasm := none, ready := [], owed := [], fwId := m.fwId,
                                                 dtls := x.dtls.map fun y => { y with helloOk := true } }
          s.dpxTx st (.dpxHello st (dn % 2 ^ 32) m.upSeq c.hbMs true deviceId (s.time64At s.now))
  | _, _ => s

/-- A DELTA or heartbeat is refused with STATE (R152): the station is JOINING, or the base is not the set last applied on its session. It is judged in SEQ order,
when the sets accepted before it have been applied. Log entry 23, DEDUCED. -/
def deltaRefused (x : Stn) (baseId : Nat) : Bool := x.st == .joining || x.lastSet != some baseId

/-- Why the entries of a fragment refuse their set (R151, R152): NOTFOUND for an index outside the table, FORMAT otherwise. -/
def State.entriesErr (s : State) (st : Nat) (seen : List PtEntry) (f : SetFrag) : Option Err :=
  let bad := f.entries.any fun e => e.index ≥ 2048 || e.qual ≥ 4 || !valFormOk e.typ e.val
  let miss := f.entries.any fun e => (s.ptCfg st e.index).isNone
  let typ := f.entries.any fun e => match s.ptCfg st e.index with | some c => c.typ != e.typ | none => false
  let idx := (seen ++ f.entries).map (·.index)
  let rep := decide (idx.eraseDups.length ≠ idx.length)
  if f.entries.length > 72 ∨ f.setId = 0 ∨ f.count = 0 ∨ f.count > 32 ∨ bad then some .format
  else if miss then some .notFound
  else if typ ∨ rep then some .format
  else none

/-- Refuse a set (R152): nothing of it is applied. -/
def State.refuseSet (s : State) (st : Nat) (e : Err) : State :=
  (s.updStn st fun x => { x with reasm := none }).ack st e true

/-- A DELTA with one fragment and no entries is a heartbeat (R152). -/
def heartbeatSet (r : RxSet) : Bool := !r.snapshot && r.frag.count = 1 && r.entries.isEmpty

/-- A set is complete: a heartbeat is checked and answered, any other set waits to be applied (R152, R158). -/
def State.setDone (s : State) (st : Nat) (r : RxSet) : State :=
  match s.stn? st, s.stnCfg st with
  | some x, some c =>
    let s := s.updStn st fun x => { x with reasm := none }
    if r.snapshot then
      let full := c.points.all fun p => r.entries.any (·.index == p.idx)
      if !full ∨ r.entries.length ≠ c.points.length then s.refuseSet st .format
      else s.updStn st fun x => { x with ready := x.ready ++ [(r, s.now)] }
    else if x.ready.isEmpty && deltaRefused x r.frag.baseId then s.refuseSet st .state
    else if x.ready.isEmpty && heartbeatSet r then s.ack st .ok false
    else s.updStn st fun x => { x with ready := x.ready ++ [(r, s.now)] }
  | _, _ => s

/-- One fragment in SEQ order (R151, R152). -/
def State.takeFrag (s : State) (st seq : Nat) (snapshot : Bool) (f : SetFrag) : State :=
  let begin_ := fun (s : State) =>
    if f.frag ≠ 0 then s.refuseSet st .format
    else if !snapshot && (match s.stn? st with | some x => x.ready.isEmpty && deltaRefused x f.baseId | none => true) then s.refuseSet st .state
    else match s.entriesErr st [] f with
      | some e => s.refuseSet st e
      | none =>
        let r : RxSet := { snapshot := snapshot, frag := f, next := 1, entries := f.entries, seq := seq }
        if f.count = 1 then s.setDone st r
        else (s.updStn st fun x => { x with reasm := some r }).ack st .ok false
  match (s.stn? st).bind (·.reasm) with
  | none => begin_ s
  | some r =>
    if f.setId = r.frag.setId ∧ r.snapshot = snapshot ∧ f.frag = r.next ∧ f.count = r.frag.count then
      match s.entriesErr st r.entries f with
      | some e => s.refuseSet st e
      | none =>
        let r := { r with next := r.next + 1, entries := r.entries ++ f.entries, seq := seq }
        if r.next = f.count then s.setDone st r
        else (s.updStn st fun x => { x with reasm := some r }).ack st .ok false
    else
      let s := s.refuseSet st .format
      if f.frag = 0 then begin_ s else s

/-- Accept messages in SEQ order, first the one given, then buffered successors (R156). -/
def acceptChain (st : Nat) : Nat → State → State
  | 0, s => s
  | k + 1, s =>
    match s.stn? st with
    | none => s
    | some x => match lookupA x.useq x.buf with
      | none => s
      | some (snap, f) =>
        let s := s.updStn st fun x => { x with buf := eraseA x.useq x.buf, useq := (x.useq + 1) % 2 ^ 32, lastRx := s.now }
        acceptChain st k ((s.modp .dpx 0 Off.DPX_RX_MSG).takeFrag st x.useq snap f)

/-- A SNAPSHOT or DELTA message (R149, R150, R156). -/
def State.dpxSet (s : State) (st : Nat) (h : DpxHdr) (f : SetFrag) : State :=
  match s.stn? st with
  | none => s
  | some x => match x.dtls with
    | none => s
    | some d =>
      if !s.servesDpx then s
      else if !(hdrOk h st 2 || hdrOk h st 3) then s.rxDrop
      else if !d.helloOk then s.ack st .state false
      else
        let s := s.countRx st
        let ahead := (h.seq + 2 ^ 32 - x.useq) % 2 ^ 32
        let behind := (x.useq + 2 ^ 32 - h.seq) % 2 ^ 32
        if ahead ≤ 15 then
          acceptChain st 16 (s.updStn st fun x => { x with buf := insertA h.seq (h.typ == 2, f) x.buf, lastRx := s.now })
        else if behind ≤ 64 then (s.updStn st fun x => { x with lastRx := s.now }).ack st .ok false
        else s.rxDrop

/-- SD_DROP and SD_DOWNS of every station return to 0, where a reset clears class K (R80, R162). -/
def State.clearDrops (s : State) : State :=
  { s with net := { s.net with stns := s.net.stns.map fun (x : Stn) => { x with drop := 0, downs := 0 } } }

/-- A completed set waits longer than 5 ms to be applied (R158). -/
def State.setsWait (s : State) : Bool := s.net.stns.any fun x => x.ready.any fun r => s.now > r.2 + 5 * ms

/-- INGEST_SAT rises when sets begin to wait longer than 5 ms, and falls with the last of them (R158, R161). -/
def State.refreshSat (s : State) : State :=
  if s.setsWait == s.net.sat then s
  else
    let s := { s with net := { s.net with sat := s.setsWait } }
    if s.net.sat then s.irq .dpx 0 4 else s

/-- The oldest completed set of a station is applied (R137, R143, R154, R158): a DELTA that is refused in its turn is dropped; an empty one, and a heartbeat, make no
version. Its ACK leaves when it is mirrored. -/
def State.setApply (s : State) (st : Nat) : State :=
  match s.stn? st with
  | none => s
  | some x => match x.ready with
    | [] => s
    | (r, _) :: rest =>
      let s := s.updStn st fun x => { x with ready := rest }
      if !r.snapshot && deltaRefused x r.frag.baseId then s.ack st .state true
      else if heartbeatSet r then s.ack st .ok false
      else
      let s := if !r.snapshot && r.entries.isEmpty then s else s.newVersion st (applyEntries s.now r.frag.time x.pts r.entries)
      let s := s.updStn st fun x => { x with lastSet := some r.frag.setId, owed := x.owed ++ [r.seq] }
      let s := s.countIngest r.entries.length
      if x.st == StnState.joining && r.snapshot then
        ((s.updStn st fun x => { x with st := .up }).irq .dpx 0 2).sendFull st false
      else s

/-- A data set of a station that awaits its re-execution (R96). -/
def State.deferSet (s : State) (st : Nat) : State := { s with ord := { s.ord with redo := s.ord.redo ++ [st] } }

/-- A station's ACK of downlink messages (R154, R156, R136). -/
def State.dpxAckRx (s : State) (st : Nat) (h : DpxHdr) (m : AckMsg) : State :=
  match s.stn? st with
  | none => s
  | some x => match x.dtls with
    | none => s
    | some _ =>
      if !s.servesDpx then s
      else if !hdrOk h st 5 then s.rxDrop
      else
        let s := (s.modp .dpx 0 Off.DPX_RX_MSG).countRx st
        let isAcked := fun (d : DownMsg) => match d.seq with | some n => (m.ackSeq + 2 ^ 32 - n) % 2 ^ 32 < 2 ^ 31 | none => false
        let left := x.cmdQ.filter fun d => !isAcked d
        let gone := x.cmdQ.filter isAcked
        let sets := (gone.map (·.frag.setId)).filter fun i => !(left.any (·.frag.setId == i))
        let done := (gone.filter fun d => sets.contains d.frag.setId).flatMap fun d => d.frag.entries
        let s := s.updStn st fun x => { x with
          cmdQ := left, lastAck := m.status
          outs := x.outs.map fun o =>
            let typ := match s.ptCfg st o.idx with | some c => c.typ | none => 5
            if done.any (fun e => e.index == o.idx && e.val == ptVal typ o.cmd) then { o with acked := true } else o }
        s.pump st

/-- A COMMAND message is unacknowledged for RETX_MS (R157). -/
def State.dpxRetransmit (s : State) (st seq : Nat) : State :=
  match s.stn? st with
  | none => s
  | some x => match x.cmdQ.find? (·.seq == some seq) with
    | none => s
    | some m =>
      if !s.servesDpx || s.now < m.sentAt + s.retxMs * ms then s
      else if m.tries ≥ s.retxMax then s.stationDown st .down 2
      else
        let s := s.updStn st fun x => { x with cmdQ := x.cmdQ.map fun y => if y.seq == some seq then { y with tries := y.tries + 1, sentAt := s.now } else y }
        ((s.emit (.dpxCmd st seq m.flags m.frag)).satp .dpx 0 Off.DPX_RETX).countRecord st

/-- No valid message for HB_MISS heartbeat intervals (R141). -/
def State.hbTimeout (s : State) (st : Nat) : State :=
  match s.stn? st, s.stnCfg st with
  | some x, some c =>
    if s.servesDpx && (x.st == .up || x.st == .joining) && s.now ≥ x.lastRx + s.hbMiss * c.hbMs * ms then s.stationDown st .down 1 else s
  | _, _ => s

/-- A SAFE message is sent to an UP station, ahead of its COMMAND queue (R142, R155). -/
def State.sendSafe (s : State) (st : Nat) (bs : List Byte) : State :=
  match s.stn? st with
  | some x => if x.st == .up && s.servesDpx then s.dpxTx st (.dpxSafe st bs) else s
  | none => s

/-! NET.CMD (R148, R162) -/

/-- ENABLE (R162). -/
def State.netEnable (s : State) (st : Nat) : Err × State :=
  match s.stn? st with
  | none => (.notFound, s)
  | some x => if x.st == .disabled then (.ok, s.updStn st fun x => { x with st := .down, enabled := true }) else (.state, s)

/-- DISABLE (R162, R142). -/
def State.netDisable (s : State) (st : Nat) : Err × State :=
  match s.stn? st with
  | none => (.notFound, s)
  | some x =>
    if x.st == .disabled then (.state, s)
    else if x.st == .down then
      let s := s.newVersion st (x.pts.map fun p => { p with qual := .bad, reason := .stationDown, at_ := s.now })
      let s := s.updStn st fun x => { x with st := .disabled, enabled := false, dtls := none }
      (.ok, s.recordGen 0x0B .net 0 Off.NET_SD_STAT (w32 StnState.disabled.code))
    else
      let s := s.stationDown st .disabled 6
      (.ok, s.updStn st fun x => { x with enabled := false })

/-- RESYNC (R162). -/
def State.netResync (s : State) (st : Nat) : Err × State :=
  match s.stn? st with
  | none => (.notFound, s)
  | some x => if x.st == .up then (.ok, (s.updStn st fun x => { x with st := .joining }).ack st .state true) else (.state, s)

/-- NEXT_GEN (R148). -/
def State.netNextGen (s : State) (st : Nat) : Err × State :=
  match s.stn? st with
  | none => (.notFound, s)
  | some _ => (.ok, s.updStn st fun x => { x with nextOk := true })

/-- DPX.CLR (R161): the K-class counters of the page and, with them, the counters NET shows per station stay (they belong to NET). -/
def State.dpxClr (s : State) (v : Word) : State :=
  if v.bit 0 then
    ([Off.DPX_RX_MSG, Off.DPX_TX_MSG, Off.DPX_RX_DROP, Off.DPX_RETX, Off.DPX_HS_FAIL, Off.DPX_CMD_DROP, Off.DPX_INGEST_PEAK].foldl
      (fun s o => s.wrp .dpx 0 o 0) (s.countIngest 0)).recordClr (Page.reg .dpx 0 Off.DPX_CLR) v
  else s

/-! PNT (R163) -/

/-- The station of the window. -/
def State.pntStation (s : State) : Nat := ptStation (s.rdp .pnt 0 Off.PNT_BASE).toNat

/-- A write of PNT.BASE (R163, R9). -/
def State.pntBase (s : State) (v : Word) : Err × State :=
  if v.toNat ≥ 2 ^ 23 ∨ ptLocal v.toNat > 1535 then (.range, s)
  else
    let s := if ptStation v.toNat ≠ s.pntStation then { s with net := { s.net with pntFrz := none } } else s
    (.ok, (s.wrp .pnt 0 Off.PNT_BASE v).pruneVersions)

/-- PAGE_CTRL[FREEZE] of the PNT page (R163). -/
def State.pntFreeze (s : State) (on : Bool) : State :=
  if on then (match s.net.pntFrz with
    | some _ => s
    | none => match s.stn? s.pntStation with
      | some x => { s with net := { s.net with pntFrz := some (x.num, x.ver) } }
      | none => { s with net := { s.net with pntFrz := some (s.pntStation, 0) } })
  else { s with net := { s.net with pntFrz := none } }.pruneVersions

/-- The version the window shows, with its points. -/
def State.pntView (s : State) : Nat × List Pt :=
  match s.stn? s.pntStation with
  | none => (0, [])
  | some x => match s.net.pntFrz with
    | some (n, v) => if n = x.num then (v, ptsAt x v) else (x.ver, x.pts)
    | none => (x.ver, x.pts)

/-- Owner of a station OUT point, coded as ORD.MG_LAST: engine and instance, from the profile's owners. -/
def State.ptOwner (s : State) (i : Nat) : Nat × Nat :=
  let loop := (List.range s.lp.loops.length).find? fun n => match (s.lp.loops.getD n {}).cfg with
    | some c => c.outKind == 1 && c.outRef.fld 0 23 == i
    | none => false
  let blk := s.prg.img.bind fun m => m.blocks.find? fun b => b.typ == 0x37 && b.ref.fld 0 23 == i
  let slot := (List.range s.slv.slots.length).find? fun k => match (s.slv.slots.getD k {}).cfg with
    | some c => c.outputs.any fun o => o.dest == .point i
    | none => false
  match loop, blk, slot with
  | some n, _, _ => (1, n)
  | _, some b, _ => (3, b.task)
  | _, _, some k => (4, k)
  | _, _, _ => (0, 0)

/-- One register of a point record (R163). -/
def State.pntRecord (s : State) (st l o : Nat) (pts : List Pt) : Word :=
  match s.ptCfg st l, pts.find? (·.idx == l) with
  | some c, some p =>
    let out := (s.stn? st).bind fun (x : Stn) => x.outs.find? fun y => y.idx == l
    let i := ptIndex st l
    let cmd := ptVal c.typ (s.drivenPt i).2
    let own := s.ptOwner i
    match o with
    | 0x00 => lo32 p.val
    | 0x04 => hi32 p.val
    | 0x08 => w32 (c.typ + 256 * p.qual.code + 1024 * b2n c.out + 2048 + 4096 * p.reason.code)
    | 0x0C => w32 p.ts.s
    | 0x10 => w32 p.ts.ns
    | 0x14 => if c.out then lo32 cmd else 0
    | 0x18 => if c.out then hi32 cmd else 0
    | _ => if c.out then w32 (own.1 + 16 * own.2 + 4096 * b2n (match out with | some x => x.acked && ptVal c.typ x.cmd == cmd | none => false)) else 0
  | _, _ => if o = 0x08 then w32 (256 * 2 + 4096 * PtReason.notConf.code) else 0

/-- Value of offset `o` of the PNT page, where it is computed. -/
def State.pntPageView (s : State) (o : Nat) : Option Word :=
  let base := (s.rdp .pnt 0 Off.PNT_BASE).toNat
  let st := ptStation base
  let v := s.pntView
  if o = Off.PNT_INFO then
    let n := ((List.range 120).filter fun k => (s.ptCfg st (ptLocal base + k)).isSome && ptLocal base + k ≤ 1535).length
    let state := match s.stn? st with | some x => x.st.code | none => 0
    some (w32 (st + 4096 * n + 2 ^ 20 * state))
  else if o = Off.PNT_VER then some (w32 v.1)
  else if 0x100 ≤ o then
    let l := ptLocal base + (o - 0x100) / 32
    some (if l > 1535 then 0 else s.pntRecord st l (o % 32) v.2)
  else none

/-! DPX and NET views -/

/-- Stations reached through DPX in a state (R132). -/
def State.stnCount (s : State) (p : Stn → Bool) : Nat := (s.net.stns.filter fun x => x.num != 0 && p x).length

/-- Value of offset `o` of the DPX page, where it is computed. -/
def State.dpxPageView (s : State) (o : Nat) : Option Word :=
  if o = Off.DPX_STAT then
    some (w32 (s.stnCount (fun x => match x.dtls with | some _ => true | none => false) + 65536 * s.stnCount (fun x => x.st == .up) + 2 ^ 31 * b2n s.setsWait))
  else if o = Off.DPX_INGEST_PEAK then
    some (w32 (max (s.rdp .dpx 0 Off.DPX_INGEST_PEAK).toNat (if s.now < s.net.secFrom + sec then 0 else s.net.secCount)))
  else if o = Off.DPX_INGEST then
    some (w32 ((if s.now < s.net.secFrom + sec then s.net.lastSec else if s.now < s.net.secFrom + 2 * sec then s.net.secCount else 0) % 2 ^ 24))
  else none

/-- The station of NET.SEL. -/
def State.netSel (s : State) : Nat := (s.rdp .net 0 Off.NET_SEL).fld 0 12

/-- Value of offset `o` of the NET page, where it is computed. -/
def State.netPageView (s : State) (o : Nat) : Option Word :=
  let st := s.netSel
  let x? := s.stn? st
  let c? := s.stnCfg st
  let ofX := fun (f : Stn → Nat) => some (match x? with | some x => w32 (f x) | none => 0)
  let ofC := fun (f : StationCfg → Nat) => some (match c? with | some c => w32 (f c) | none => 0)
  let ofI := fun (f : NetImage → Word) => some (match s.net.img with | some i => f i | none => 0)
  if o = Off.NET_STATIONS then
    ofI fun i => w32 (i.stations.length + 65536 * (i.stations.filter fun c => match s.stn? c.num with | some x => x.enabled | none => false).length)
  else if o = Off.NET_ZONES then
    ofI fun i => w32 (i.zones + 65536 * (i.stations.filter (·.kind == 2)).length + 2 ^ 24 * (i.stations.filter (·.kind == 3)).length)
  else if o = Off.NET_IMG_ID then ofI (·.id)
  else if o = Off.NET_IMG_CRC then ofI (·.crc)
  else if o = Off.NET_NETID then ofI (·.netid)
  else if o = Off.NET_SD_CFG then ofC fun c => c.kind + 16 * c.subtype + 256 * c.zone + 65536 * c.hbMs
  else if o = Off.NET_SD_PTS then ofC fun c => c.points.length + 65536 * (c.points.filter (·.out)).length
  else if o = Off.NET_SD_KGEN then ofX (·.kgen)
  else if o = Off.NET_SD_STAT then ofX fun x => x.st.code + 8 * b2n x.nextOk + 16 * b2n x.enabled + 256 * x.lastAck
  else if o = Off.NET_SD_VER then ofX (·.ver)
  else if o = Off.NET_SD_USEQ then ofX (·.useq)
  else if o = Off.NET_SD_DSEQ then ofX fun x => (if x.dseq.next < x.dseq.stop then x.dseq.next else x.dnext) % 2 ^ 32
  else if o = Off.NET_SD_DROP then ofX (·.drop)
  else if o = Off.NET_SD_DOWNS then ofX (·.downs)
  else if Off.NET_KEX_BUF0 ≤ o ∧ o < Off.NET_KEX_BUF0 + 40 then some (s.net.kexBuf.getD ((o - Off.NET_KEX_BUF0) / 4) 0)
  else if 0x100 ≤ o ∧ o < 0x300 then
    let n := (o - 0x100) / 4
    some (w32 (maskOf ((List.range 32).filter fun b => match s.stn? (32 * n + b) with | some x => x.st == .up | none => false)))
  else none

/-! Starts (R140) -/

/-- A station as it begins at a start or a wake from P2 (R140): station 0000 is UP. -/
def freshStn (c : StationCfg) (old : Option Stn) : Stn :=
  let en := if c.num = 0 then true else match old with | some x => x.enabled | none => c.enabled
  { num := c.num, enabled := en
    st := if c.num = 0 then .up else if en then .down else .disabled
    kgen := match old with | some x => x.kgen | none => c.kgen
    pts := c.points.map fun p => ⟨p.idx, 0, .bad, if en then .never else .stationDown, {}, 0⟩
    outs := (c.points.filter (·.out)).map fun p => { idx := p.idx }
    dnext := match old with | some x => x.dnext | none => 0
    drop := match old with | some x => x.drop | none => 0
    downs := match old with | some x => x.downs | none => 0 }

/-- The point database and every DTLS session begin anew (R140): at a start, and when CMP has been off. Station 0000 always exists (R132). -/
def State.startStations (s : State) : State :=
  match s.net.img with
  | none => { s with net := { s.net with stns := [freshStn ⟨0, 0, 0, 0, 0, true, 0, []⟩ none], hs := [], pntFrz := none } }
  | some i =>
    let cs := if i.stations.any (·.num == 0) then i.stations else ⟨0, 0, 0, 0, 0, true, 0, []⟩ :: i.stations
    { s with net := { s.net with stns := cs.map fun c => freshStn c (s.stn? c.num), hs := [], pntFrz := none, sat := false } }

/-- An uncorrectable error in point data of a version (R118): the points hit read BAD with MEM_ERROR in every version that shares their storage (R138), those that
hold the same value, quality, stamp and commit. -/
def State.poisonPoints (s : State) (st ver : Nat) (idxs : List Nat) : State :=
  s.updStn st fun x =>
    let lost := (ptsAt x ver).filter fun p => idxs.contains p.idx
    let hit := fun (p : Pt) => if lost.contains p then { p with qual := .bad, reason := .memError } else p
    { x with pts := x.pts.map hit, old := x.old.map fun v => (v.1, v.2.map hit) }

end Sys2Proof.Machine
end

