-- ==== Sys2Proof/Machine/Mem.lean ====
section
/-!
DEFINITION. Memory protection and background work (R111–R130): corrected errors, erasure, storms, uncorrectable errors by location, sanding, the CTL
SRAM scrub, telemetry, the MEM page.
-/
namespace Sys2Proof.Machine

/-- Main memory in bytes (R119). -/
def mainBytes : Nat := 2 ^ 34
/-- 24 h (R114). -/
def dayNs : Nat := 86400 * sec

/-- MEM.CFG[STORM] as a number of errors (R130). -/
def State.stormMax (s : State) : Nat :=
  let v := (s.rdp .mem 0 Off.MEM_CFG).fld 24 8
  if v = 0 then 64 else 16 * v

/-- Distinct codewords corrected at a symbol position in the last 24 h (R114). -/
def State.trackCount (s : State) (pos : Nat) : Nat :=
  ((s.mem.track.filter fun x => x.1 == pos && s.now < x.2.2 + dayNs).map (·.2.1)).eraseDups.length

/-- A corrected codeword enters the erasure tracker (R113, R114). -/
def State.trackPos (s : State) (cw pos : Nat) : State :=
  let s := { s with mem := { s.mem with track := (s.mem.track.filter fun x => s.now < x.2.2 + dayNs && !(x.1 == pos && x.2.1 == cw)) ++ [(pos, cw, s.now)] } }
  let n := s.trackCount pos
  let er := s.rdp .mem 0 Off.MEM_ERASED
  if !(s.rdp .mem 0 Off.MEM_CFG).bit 8 || n < 16 then s
  else if !er.bit 8 then ((s.wrp .mem 0 Off.MEM_ERASED (w32 (pos + 256))).irq .mem 0 3).record 0x0302 (w32 pos) (w32 n) 0
  else if er.fld 0 6 = pos then s
  else s.irq .mem 0 1

/-- The storm condition after a corrected error (R115). -/
def State.storm (s : State) (sram : Bool) : State :=
  let s := { s with mem := { s.mem with ce := (s.mem.ce.filter fun x => s.now < x.2 + 60 * sec) ++ [(sram, s.now)] } }
  let n := s.mem.ce.length
  if !(s.rdp .mem 0 Off.MEM_CFG).bit 14 || n ≤ s.stormMax then s
  else
    let upto := match s.mem.ce[n - 1 - s.stormMax]? with | some x => x.2 + 60 * sec | none => s.now
    let fresh := match s.mem.stormOver with | some u => decide (s.now ≥ u + 60 * sec) | none => true
    let s := ({ s with mem := { s.mem with stormOver := some upto } }).irq .mem 0 1
    if fresh then s.record 0x0303 (w32 (s.mem.ce.filter (!·.1)).length) (w32 (s.mem.ce.filter (·.1)).length) (w32 s.stormMax) else s

/-- A corrected main-memory codeword (R113) or SRAM word (R116). -/
def State.corrected (s : State) (sram : Bool) (cw : Nat) (poss : List Nat) : State :=
  let s := (s.satp .mem 0 (if sram then Off.MEM_CE_SRAM else Off.MEM_CE_MAIN)).satp .mem 0 Off.MEM_CE_LIFE
  let s := if sram then s else poss.foldl (fun s p => s.trackPos cw p) s
  s.storm sram

/-- MEM.UE_INFO[CLASS] by region (R118, R130). -/
def ueClass (region : Nat) : Nat := if region = 3 ∨ region = 6 then 2 else if region = 7 then 3 else 1

/-- MEM.UE_INFO of an error. -/
def ueInfo (e : MemErr) (bySand : Bool) : Word :=
  w32 (e.region + 16 * ueClass e.region + 64 * b2n e.sram + 128 * b2n bySand
    + 256 * (match e.eng with | some g => g.code | none => 0) + 65536 * (match e.eng with | some g => g.inst | none => 0))

/-- Two locations are the same. -/
def sameLoc (a b : MemErr) : Bool := a.sram == b.sram && a.index == b.index

/-- The location is poisoned (R117). -/
def State.poisoned (s : State) (e : MemErr) : Bool := s.mem.poison.any fun p => sameLoc p e

/-- The owner of a location writes it, or a scrub finds it written: it is poisoned no more (R117). -/
def State.unpoison (s : State) (p : MemErr → Bool) : State := { s with mem := { s.mem with poison := s.mem.poison.filter fun e => !p e } }

/-- The decoder's outcome (R112, R114, R116, R117). RS(36,32) corrects two symbols, or one beside the erased position; SEC-DED corrects one bit and detects two.
Beyond that a pattern fails or is taken for another word. A poisoned location always fails. -/
def State.decoded (s : State) : MemFind → MemOut
  | .clean => .clean
  | .wrong ps e =>
    let er := s.rdp .mem 0 Off.MEM_ERASED
    let open_ := fun (_ : Unit) =>
      if Config.detects e.index ps then MemOut.failed else .mistaken (((Config.miscorrected e.index ps).map (· % 36)).take 2)
    if s.poisoned e then .failed
    else if e.sram then (if ps.length ≤ 1 then .corrected ps else if ps.length = 2 then .failed else open_ ())
    else
      let (others, most) := if er.bit 8 then (ps.filter (· != er.fld 0 6), 1) else (ps, 2)
      if others.length ≤ most then .corrected ps else open_ ()

/-- Making good of the engine that owns a location (R96, R118). -/
def State.ownerFault (s : State) (e : MemErr) (cause : Nat) : State :=
  match e.eng with
  | some g => s.trigger (.fault g cause)
  | none => s

/-- The handling of an uncorrectable error by location (R118). -/
def State.handleUe (s : State) (e : MemErr) : State :=
  match e.region with
  | 1 => s.ownerFault e (if e.sram then 4 else 1)
  | 2 =>
    let s := match e.eng, e.screed with
      | some (.slot n), true => { s with slv := { s.slv with slots := modAt s.slv.slots n fun x => { x with copy2 := false } } }
      | _, _ => s
    s.ownerFault e 5
  | 3 => s.trigger (.safeHold .cmpFault 0x0301)
  | 4 => ((s.poisonPoints e.station e.ver e.points).netResync e.station).2
  | 5 => s.ownerFault e (if e.sram then 4 else 1)
  | 6 => s.trigger (.safeHold .ctlFault 0x0301)
  | _ => s

/-- An uncorrectable error is found (R117): counted, shown and recorded once while the location stays poisoned; a scrub poisons it; the reader or the scrub has it
handled. -/
def State.uncorrectable (s : State) (e : MemErr) (byScrub : Bool) : State :=
  if s.poisoned e then (if byScrub then s else s.handleUe e)
  else
    let s := (s.satp .mem 0 (if e.sram then Off.MEM_UE_SRAM else Off.MEM_UE_MAIN)).satp .mem 0 Off.MEM_UE_LIFE
    let a := w32 (e.index % 2 ^ 29)
    let i := ueInfo e byScrub
    let s := (((s.wrp .mem 0 Off.MEM_UE_ADDR a).wrp .mem 0 Off.MEM_UE_INFO i).irq .mem 0 2).record 0x0301 a i 0
    let s := if byScrub then { s with mem := { s.mem with poison := e :: s.mem.poison } } else s
    s.handleUe e

/-- What a scrub found at a location; one that is clean has been written since it was poisoned. -/
def State.scrubFind (s : State) (sram : Bool) (cw : Nat) (f : MemFind) : State :=
  let f := match f with | .clean => MemFind.clean | .wrong ps e => .wrong ps { e with sram := sram, index := cw }
  match f, s.decoded f with
  | .wrong _ _, .corrected ps => s.corrected sram cw ps
  | .wrong _ _, .mistaken ps => s.corrected sram cw ps
  | .wrong _ e, .failed => s.uncorrectable e true
  | _, _ => s.unpoison fun p => p.sram == sram && p.index == cw

/-- What a reader other than a scrub finds (R113, R117): whether it has data, and the state. -/
def State.readFind (s : State) (f : MemFind) : Bool × State :=
  match f, s.decoded f with
  | .wrong _ e, .corrected ps => (true, s.corrected e.sram e.index ps)
  | .wrong _ e, .mistaken ps => (true, s.corrected e.sram e.index ps)
  | .wrong _ e, .failed => (false, s.uncorrectable e false)
  | _, _ => (true, s)

/-- The check that staged effects and new state pass before a commit record is written (R89): an error that the decoder corrects is counted and the epoch goes on;
what it cannot read, and what it takes for another word, which the CRC or the second copy shows (R112), makes the epoch uncommitted. Points that cannot be read only
become BAD (R118). -/
def State.commitCheck (s : State) (f : MemFind) : Bool × State :=
  match f, s.decoded f with
  | .wrong _ e, .corrected ps => (true, s.corrected e.sram e.index ps)
  | .wrong _ e, .mistaken ps =>
    let s := s.corrected e.sram e.index ps
    if e.region = 4 then (true, s) else (false, s.handleUe e)
  | .wrong _ e, .failed => (e.region == 4, s.uncorrectable e false)
  | _, _ => (true, s)

/-- The checks of an epoch, and whether it may commit. -/
def State.commitChecks (s : State) : List MemFind → Bool × State
  | [] => (true, s)
  | f :: fs =>
    let (ok, s) := s.commitCheck f
    let (all, s) := s.commitChecks fs
    (ok && all, s)

/-- An epoch commits where its checks pass (R89); where they fail, what it did is discarded, and `held` is what stays for its re-execution. -/
def State.checked (s : State) (chk : List MemFind) (commit held : State → State) : State :=
  let (ok, s) := s.commitChecks chk
  if ok then commit s else held s

/-- Sanding runs (R119). -/
def State.sanding (s : State) : Bool := (s.rdp .mem 0 Off.MEM_CFG).bit 0 && s.md.pstate.cmp

/-- MEM.CFG[SAND_PERIOD_H] in nanoseconds. -/
def State.sandPeriod (s : State) : Nat := (s.rdp .mem 0 Off.MEM_CFG).fld 16 8 * 3600 * sec

/-- A sweep that its period does not suffice for is late from then on (R122). -/
def State.sandLate (s : State) : State :=
  if s.sanding && !s.mem.overdue && s.now > s.mem.sweepFrom + s.sandPeriod then
    ({ s with mem := { s.mem with late := true, overdue := true } }).irq .mem 0 4
  else s

/-- The next sanding burst (R119, R122): two codewords; the end of the sweep, of which LATE clears where it was on time. MEM.SAND_STAT[SWEEPS] counts modulo
65,536. Log entry 100, DESIGN CHOICE. -/
def State.sandBurst (s : State) (f0 f1 : MemFind) : State :=
  if !s.sanding then s
  else
    let cw := s.mem.sandPos / 32
    let s := ((s.scrubFind false cw f0).scrubFind false (cw + 1) f1).sandLate
    let pos := s.mem.sandPos + 64
    if pos < mainBytes then { s with mem := { s.mem with sandPos := pos } }
    else { s with mem := { s.mem with
      sandPos := 0, sweepFrom := s.now, sweeps := (s.mem.sweeps + 1) % 65536, late := s.mem.late && s.mem.overdue, overdue := false } }

/-- A write to MEM.CFG (R119): where it starts sanding, the sweep goes on from the address it had reached, and its time counts from here. Log entry 100, DESIGN
CHOICE. -/
def State.sandCfg (s : State) (was : Bool) : State :=
  if (s.rdp .mem 0 Off.MEM_CFG).bit 0 && !was then { s with mem := { s.mem with sweepFrom := s.now, overdue := false } } else s

/-- A sweep of the CTL SRAM (R123): what it found, by word index; words that it found clean have been written since they were poisoned. -/
def State.sramScrub (s : State) (fs : List (Nat × MemFind)) : State :=
  if !s.md.pstate.ctl then s
  else
    let s := fs.foldl (fun s f => s.scrubFind true f.1 f.2) s
    s.unpoison fun p => p.sram && !(fs.any fun f => f.1 == p.index)

/-- The longest wait for the CTL SRAM that a sample may meet, in ns (R125). -/
def loopBlkMax : Nat := 1600

/-- A loop sample waits for the CTL SRAM (R125, R130): how long is open, at most 1.6 µs; MEM.LOOP_BLK_NS keeps the longest. Log entry 13, DESIGN CHOICE. -/
def State.loopWaits (s : State) : State :=
  let w := (Config.measure (Page.reg .mem 0 Off.MEM_LOOP_BLK_NS) s.now).toNat % (loopBlkMax + 1)
  { s with mem := { s.mem with loopBlk := max s.mem.loopBlk w } }

/-- A telemetry sample falls due (R129). -/
def State.telemetry (s : State) (taken : Bool) : State := if taken then s else s.satp .mem 0 Off.MEM_TELEM_SKIP

/-- MEM.CLR (R130). -/
def State.memClr (s : State) (v : Word) : State :=
  if !v.bit 0 then s
  else
    let s := [Off.MEM_CE_MAIN, Off.MEM_CE_SRAM, Off.MEM_UE_MAIN, Off.MEM_UE_SRAM].foldl (fun s o => s.wrp .mem 0 o 0) s
    s.recordClr (Page.reg .mem 0 Off.MEM_CLR) v

/-- MEM.CFG accepts a value (R130). -/
def memCfgOk (w : Word) : Bool := 1 ≤ w.fld 16 8 && w.fld 16 8 ≤ 168

/-- Value of offset `o` of the MEM page, where it is computed. -/
def State.memPageView (s : State) (o : Nat) : Option Word :=
  if o = Off.MEM_SAND_POS then some (w32 s.mem.sandPos) -- the low 32 bits of the 34-bit byte address (log entry 100, DESIGN CHOICE)
  else if o = Off.MEM_SAND_STAT then some (w32 (s.mem.sweeps + 65536 * b2n s.mem.late + 2 ^ 17 * b2n s.sanding))
  else if o = Off.MEM_LOOP_BLK_NS then some (w32 s.mem.loopBlk)
  else none

/-- PAGE_STAT[STATE] of the MEM page (R130). -/
def State.memPageState (s : State) : Nat := b2n ((s.rdp .mem 0 Off.MEM_ERASED).bit 8)

end Sys2Proof.Machine
end

