-- ==== Sys2Proof/Machine/Cal.lean ====
section
/-!
DEFINITION. The civil calendar (R405): days since 1600-01-01, leap years, days of the week, and their inverses, on natural numbers.
-/
namespace Sys2Proof.Cal

/-- A leap year (R405). -/
def leap (y : Nat) : Bool := y % 4 == 0 && (y % 100 != 0 || y % 400 == 0)

/-- Days of a month (R405). -/
def monthLen (y m : Nat) : Nat := if m = 2 then (if leap y then 29 else 28) else if m = 4 ∨ m = 6 ∨ m = 9 ∨ m = 11 then 30 else 31

/-- Days before 1 January of year `y`, from 1600-01-01. -/
def daysToYear (y : Nat) : Nat := let k := y - 1600; 365 * k + (k + 3) / 4 - (k + 99) / 100 + (k + 399) / 400

/-- Days of the months before month `m`. -/
def daysToMonth (y m : Nat) : Nat := ((List.range (m - 1)).map fun i => monthLen y (i + 1)).foldl (· + ·) 0

/-- Days from 1600-01-01 to a date. -/
def daysOf (y m d : Nat) : Nat := daysToYear y + daysToMonth y m + (d - 1)

/-- Year of a day number: an estimate, one less when it is too late, one more when it is too early. -/
def yearOf (n : Nat) : Nat :=
  let y := 1600 + n * 400 / 146097
  if daysToYear y > n then y - 1 else if daysToYear (y + 1) ≤ n then y + 1 else y

/-- Month and day of day `k` of a year, counted from zero. -/
def monthOf (y : Nat) : Nat → Nat → Nat → Nat × Nat
  | 0, m, k => (m, k + 1)
  | f + 1, m, k => if k < monthLen y m then (m, k + 1) else monthOf y f (m + 1) (k - monthLen y m)

/-- The date of a day number: year, month, day. -/
def dateOf (n : Nat) : Nat × Nat × Nat :=
  let y := yearOf n
  let md := monthOf y 11 1 (n - daysToYear y)
  (y, md.1, md.2)

/-- Day of the week, 1 for Monday to 7 for Sunday (R405): 2000-01-01, a whole number of weeks after 1600-01-01, is 6. -/
def dow (n : Nat) : Nat := (n + 5) % 7 + 1

/-- Day of the year, from 1. -/
def dayOfYear (n : Nat) : Nat := n - daysToYear (yearOf n) + 1

/-- Day number of 1970-01-01, where TIME64 begins. -/
def epochDay : Nat := 135140

/-- Seconds of a day. -/
def daySec : Nat := 86400

/-- A valid calendar date (R405). -/
def validDate (y m d : Nat) : Bool := 2000 ≤ y && y ≤ 2399 && 1 ≤ m && m ≤ 12 && 1 ≤ d && d ≤ monthLen y m

end Sys2Proof.Cal
end

