-- ==== Sys2Proof/Machine/Rtc.lean ====
section
/-!
DEFINITION. The backup domain (R402–R418): calendar, alarm, countdown, PWR_REQ, the switch-over stamp, the RTC page; and the time base's epochs (R396), which
adjust the calendar (R410).
-/
namespace Sys2Proof.Machine

/-! The calendar (R405–R408) -/

/-- 2399-12-31 23:59:59 in nanoseconds since 1970 (R408). -/
def calEnd : Int := (((Cal.daysOf 2399 12 31 - Cal.epochDay) * Cal.daySec + 86399) * sec : Nat)
/-- 2000-01-01 00:00:00 in nanoseconds since 1970, the reset value of the calendar. -/
def calReset : Int := 946684800000000000

/-- The calendar in nanoseconds since 1970 (TAI). -/
def State.calNs (s : State) : Int := if s.rtc.atEnd then calEnd else min calEnd (s.now + s.rtc.ofs)

/-- A date and time of day as nanoseconds since 1970. -/
def nsOf (y m d hh mm ss : Nat) : Int := ((Cal.daysOf y m d - Cal.epochDay) * Cal.daySec + hh * 3600 + mm * 60 + ss : Nat) * (sec : Int)

/-- Layout of RTC.CAL_DATE. -/
def dateWord (y m d dow : Nat) : Word := w32 (y + 2 ^ 16 * m + 2 ^ 24 * d + 2 ^ 29 * dow)
/-- Layout of RTC.CAL_TIME. -/
def timeWord (hh mm ss : Nat) : Word := w32 (hh + 256 * mm + 65536 * ss)

/-- RTC.CAL_DATE, CAL_TIME and CAL_SUB of a calendar time (R405, R417). -/
def calWords (ns : Int) : Word × Word × Word :=
  let n := ns.toNat
  let s := n / sec
  let days := s / Cal.daySec + Cal.epochDay
  let (y, m, d) := Cal.dateOf days
  let r := s % Cal.daySec
  (dateWord y m d (Cal.dow days), timeWord (r / 3600) (r / 60 % 60) (r % 60), w32 (n % sec * 32768 / sec))

/-- The calendar registers; DOW reads 0 until the first tick after a backup loss (R417). -/
def State.calRegs (s : State) : Word × Word × Word :=
  let w := calWords s.calNs
  match s.rtc.fresh with
  | some t => if (s.now - t) * 32768 < sec then (w.1.put 29 3 0, w.2) else w
  | none => w

/-- A date and a time as SET_CAL and ARM_ALM check them (R409): none when any field is impossible. -/
def dateOk (d t : Word) : Option Int :=
  let y := d.fld 0 16
  let hh := t.fld 0 5
  let mm := t.fld 8 6
  let ss := t.fld 16 6
  if Cal.validDate y (d.fld 16 4) (d.fld 24 5) && hh < 24 && mm < 60 && ss < 60 then some (nsOf y (d.fld 16 4) (d.fld 24 5) hh mm ss) else none

/-- Set or clear a bit of RTC.FLAGS. -/
def State.rtcFlag (s : State) (i : Nat) (b : Bool) : State :=
  if b then s.devSet (Page.rtc.reg 0 Off.RTC_FLAGS) (w32 (2 ^ i)) else s.wrp .rtc 0 Off.RTC_FLAGS ((s.rdp .rtc 0 Off.RTC_FLAGS).setBit i false)
/-- RTC.FLAGS[INVALID]. -/
def State.calInvalid (s : State) : Bool := (s.rdp .rtc 0 Off.RTC_FLAGS).bit 0
/-- The alarm is armed. -/
def State.alarmArmed (s : State) : Bool := (s.rdp .rtc 0 Off.RTC_ALM_CTRL).bit 0

/-! Wake and PWR_REQ (R412–R415) -/

/-- A wake source fires: it counts where MODE.WAKE_SRC arms it and the controller sleeps (R69, R77). -/
def State.noteWake (s : State) (bit : Nat) : State :=
  if (s.rdp .mode 0 Off.MODE_WAKE_SRC).bit bit && (s.md.pstate == .p2 || s.md.pstate == .p3) then
    { s with md := { s.md with wakes := s.md.wakes ||| 2 ^ bit } }
  else s

/-- PWR_REQ asserts (R415): a further assertion restarts a pulse and changes nothing else. -/
def State.assertPwr (s : State) : State := { s with rtc := { s.rtc with pwrReq := some s.now } }

/-- PWR_REQ pulses end (R415). -/
def State.pulseEnd (s : State) : State :=
  let c := s.rdp .rtc 0 Off.RTC_PWRREQ_CFG
  match s.rtc.pwrReq with
  | some t => if !c.bit 2 && s.now ≥ t + c.fld 16 8 * sec then { s with rtc := { s.rtc with pwrReq := none } } else s
  | none => s

/-- The armed alarm fires (R414). -/
def State.fireAlarm (s : State) (skipped : Bool) : State :=
  let s := if skipped then s.rtcFlag 4 true else s
  let s := ((s.rtcFlag 3 true).wrp .rtc 0 Off.RTC_ALM_CTRL 0).irq .rtc 0 2
  let s := s.record 0x0A08 (s.rdp .rtc 0 Off.RTC_ALM_DATE) (s.rdp .rtc 0 Off.RTC_ALM_TIME) (s.rdp .rtc 0 Off.RTC_FLAGS)
  let s := s.noteWake 2
  if (s.rdp .rtc 0 Off.RTC_PWRREQ_CFG).bit 1 then s.assertPwr else s

/-- The time of the armed alarm. -/
def State.alarmNs (s : State) : Option Int :=
  if s.alarmArmed then dateOk (s.rdp .rtc 0 Off.RTC_ALM_DATE) (s.rdp .rtc 0 Off.RTC_ALM_TIME) else none

/-- ALARM_FIRE: the calendar's counting has reached the alarm time (R414). -/
def State.alarmReached (s : State) : State :=
  match s.alarmNs with
  | some a => if !s.rtc.lost && !s.rtc.atEnd && a ≤ s.calNs then s.fireAlarm false else s
  | none => s

/-- A signed 32-bit register value that saturates. -/
def satI32 (n : Int) : Word := sw32 (clampI (-(2 ^ 31)) (2 ^ 31 - 1) n)

/-- An adjustment of the calendar to `ns` (R410): why 1 SET_CAL, 2 epoch opening, 3 periodic. The adjustment acts before the alarm is decided (R416). -/
def State.adjustCal (s : State) (old ns : Int) (why : Nat) : State :=
  let d := (ns - old) / (ms : Int)
  let s := { s with rtc := { s.rtc with ofs := ns - s.now, fresh := none, atEnd := false, syncAt := some s.now } }
  let s := s.wrp .rtc 0 Off.RTC_ADJ_LAST (satI32 d)
  let s := if why ≤ 2 then s.rtcFlag 0 false else s
  let s := if why ≤ 2 ∨ (ns - old).natAbs > sec then s.record 0x0A04 (satI32 d) (w32 why) s.calRegs.1 else s
  match s.alarmNs with
  | some a => if old < a ∧ a ≤ ns then s.fireAlarm true else s
  | none => s

/-! Time-base epochs (R396) -/

/-- The time base now. -/
def State.timeNow (s : State) : Time64 := s.time64At s.now

/-- The time base is valid by its state (R390). -/
def State.timeValid (s : State) : Bool :=
  match s.time.st with
  | .locked | .host => true
  | .holdover | .jumpHold => match s.time.servoAt with
    | some t => s.now ≤ t + (s.rdp .time 0 Off.TIME_HOLD_MIN).fld 0 11 * 60 * sec
    | none => false
  | _ => false

/-- Take validity from the state, with its event (R390, R399). -/
def State.refreshValid (s : State) : State :=
  let v := s.timeValid
  if v == s.time.valid then s else ({ s with time := { s.time with valid := v } }).irq .time 0 4

/-- Open a time-base epoch: the time base becomes `ns` (R396). Both records carry the new epoch's number and cause (log entry 40, DEDUCED). Every cause but
START and a SET_CAL in progress adjusts the calendar (R410). -/
def State.openEpoch (s : State) (cause : Nat) (ns : Int) (cal : Bool) : State :=
  let old := s.timeNow
  let n := s.time.epoch + 1
  let s := { s with time := { s.time with ofs := ns - s.now, epochAt := s.now, epoch := n, cause := cause } }
  let new := s.timeNow
  let p3 := w32 (cause + 256 * (n % 2 ^ 24))
  let s := (s.record 0x0A01 (w32 old.s) (w32 old.ns) p3).record 0x0A02 (w32 new.s) (w32 new.ns) p3
  let s := s.irq .time 0 3
  if cal then s.adjustCal s.calNs ns 2 else s

/-! Events of the backup domain -/

/-- VBK_MEASURE (R403). -/
def State.vbkMeasure (s : State) (mv : Nat) : State :=
  let s := { s with rtc := { s.rtc with vbk := mv } }
  if mv < 2200 then (s.rtcFlag 1 true).irq .rtc 0 4 else s

/-- A W1C write of RTC.FLAGS (R403, R417): VBK_LOW clears only at 2.4 V or more. -/
def State.rtcFlagsClear (s : State) (v : Word) : State :=
  let m : Nat := (v.toNat &&& 0b111110) &&& (if s.rtc.vbk ≥ 2400 then 0b111110 else 0b111100)
  s.w1c (Page.rtc.reg 0 Off.RTC_FLAGS) (w32 m)

/-- BKP stops below 1.8 V (R403): possible only without a supply; B-class fields are at reset from the next start. -/
def State.bkpExhausted (s : State) : State :=
  if s.md.pstate == .p4 then
    let s := ((s.wrp .rtc 0 Off.RTC_ALM_CTRL 0).wrp .rtc 0 Off.RTC_ALM_DATE 0).wrp .rtc 0 Off.RTC_ALM_TIME 0
    { s with
      rtc := { s.rtc with lost := true, cd := none, pwrReq := none, stampOn := false }
      keys := { s.keys with slots := List.replicate 64 none } }
  else s

/-- CD_LOAD (R412). -/
def State.cdLoad (s : State) (v : Word) : State :=
  let n := v.fld 0 24
  { s with rtc := { s.rtc with cd := if n = 0 then none else some ⟨s.now, n⟩ } }

/-- Instant at which a countdown reaches zero. -/
def cdEnd (c : Countdown) : Nat := c.at_ + c.n * sec / 64

/-- COUNTDOWN_EXPIRY (R412). -/
def State.cdExpiry (s : State) : State :=
  match s.rtc.cd with
  | some c =>
    if s.now < cdEnd c then s
    else
      let s := { s with rtc := { s.rtc with cd := none } }
      let s := (s.rtcFlag 5 true).irq .rtc 0 3
      let s := s.record 0x0A09 0 0 (s.rdp .rtc 0 Off.RTC_FLAGS)
      let s := s.noteWake 1
      if (s.rdp .rtc 0 Off.RTC_PWRREQ_CFG).bit 0 then s.assertPwr else s
  | none => s

/-- CALENDAR_END (R408). -/
def State.calendarEnd (s : State) : State :=
  if !s.rtc.atEnd && s.now + s.rtc.ofs ≥ calEnd then
    let s := { s with rtc := { s.rtc with atEnd := true } }
    let s := s.rtcFlag 0 true
    s.recordGen 0x0A .rtc 0 Off.RTC_FLAGS (s.rdp .rtc 0 Off.RTC_FLAGS)
  else s

/-- The calendar against a valid time base, at most every 64 s (R410): `cal` is the calendar as BKP counted it. -/
def State.rtcSync (s : State) (cal : Int) : State :=
  let base := s.now + s.time.ofs
  let due := match s.rtc.syncAt with | some t => s.now ≥ t + 64 * sec | none => true
  let s := { s with rtc := { s.rtc with ofs := if s.rtc.atEnd then s.rtc.ofs else cal - s.now } }
  if s.time.valid && due && (base - s.calNs).natAbs > 2 * ms then s.adjustCal s.calNs base 3 else s

/-- RTC_TRIM: the measured correction in steps, held within its range (R411). -/
def State.rtcTrim (s : State) (steps : Int) : State :=
  if s.time.st == .locked then s.wrp .rtc 0 Off.RTC_TRIM ((0 : Word).put 0 10 ((clampI (-512) 511 steps) % 1024).toNat) else s

/-- A change-over to backup supply (R402, R404). -/
def State.changeOver (s : State) (to_ : BkpSrc) : State :=
  let was := s.rtc.src
  let s := { s with rtc := { s.rtc with src := to_ } }
  if was == .main && to_ != .main then
    if !s.rtc.stampOn then s
    else if (s.rdp .rtc 0 Off.RTC_FLAGS).bit 6 then s.satp .rtc 0 Off.RTC_SWO_MISSED
    else
      let w := s.calRegs
      let s := ((s.wrp .rtc 0 Off.RTC_SWO_DATE w.1).wrp .rtc 0 Off.RTC_SWO_TIME w.2.1).wrp .rtc 0 Off.RTC_SWO_SUB w.2.2
      { (s.rtcFlag 6 true) with rtc := { s.rtc with stampOn := false } }
  else s

/-! Commands of the RTC and TIME pages (R400, R409, R413, R418) -/

/-- The calendar date of a command is impossible (R409). -/
def State.dateErr (s : State) : State := (s.rtcFlag 2 true).irq .rtc 0 5

/-- Set the time base to an instant and enter HOST (R400). -/
def State.hostSet (s : State) (ns : Int) (cal : Bool) : State :=
  let s := { s with time := { s.time with st := .host } }
  (s.openEpoch 4 ns cal).refreshValid

/-- SET_CAL (R409, R418). -/
def State.setCal (s : State) (priv : Priv) : Err × State :=
  if !priv.ge .service then (.denied, s)
  else if !(s.md.mode == .commission || s.md.mode == .maintenance) then (.mode, s)
  else if s.time.st != .free then (.state, s)
  else match dateOk (s.rdp .rtc 0 Off.RTC_SET_DATE) (s.rdp .rtc 0 Off.RTC_SET_TIME) with
  | none => (.range, s.dateErr)
  | some ns => (.ok, (s.adjustCal s.calNs ns 1).hostSet ns false)

/-- ARM_ALM (R413). -/
def State.armAlm (s : State) : Err × State :=
  match dateOk (s.rdp .rtc 0 Off.RTC_ALM_DATE) (s.rdp .rtc 0 Off.RTC_ALM_TIME) with
  | none => (.range, s.dateErr)
  | some ns => if ns ≤ s.calNs then (.state, s) else (.ok, s.wrp .rtc 0 Off.RTC_ALM_CTRL 1)

/-- Execute an RTC.CMD (R418). -/
def State.execRtcCmd (s : State) (c : QCmd) : State :=
  let op := c.word.fld 0 4
  let r : Err × State :=
    if op = 1 then s.setCal c.priv
    else if op = 0 ∨ op > 5 then (.range, s)
    else if !c.priv.ge .operate then (.denied, s)
    else if op = 2 then s.armAlm
    else if op = 3 then (.ok, s.wrp .rtc 0 Off.RTC_ALM_CTRL 0)
    else if op = 4 then (.ok, s.rtcFlag 6 false)
    else if s.rtc.pwrReq.isSome then (.ok, { s with rtc := { s.rtc with pwrReq := none } })
    else (.state, s)
  r.2.complete .rtc 0 Off.RTC_CMD_STAT r.1 (c.word.fld 8 8)

/-- RTC.PWRREQ_CFG accepts a value (R417). -/
def pwrReqOk (w : Word) : Bool := 1 ≤ w.fld 16 8

/-- Value of offset `o` of the RTC page, where it is computed. -/
def State.rtcPageView (s : State) (o : Nat) : Option Word :=
  if o = Off.RTC_CAL_DATE then some s.calRegs.1
  else if o = Off.RTC_CAL_TIME then some s.calRegs.2.1
  else if o = Off.RTC_CAL_SUB then some s.calRegs.2.2
  else if o = Off.RTC_CD_VAL then some (match s.rtc.cd with
    | some c => w32 (c.n - (s.now - c.at_) * 64 / sec + 2 ^ 24)
    | none => 0)
  else if o = Off.RTC_PWRREQ_CFG then some ((s.rdp .rtc 0 o).setBit 24 s.rtc.pwrReq.isSome)
  else if o = Off.RTC_STAT then some (w32 (s.calNs.toNat / sec / 2 ^ 32 + 4 * s.rtc.src.code + 16 * b2n s.time.valid))
  else if o = Off.RTC_VBK_MV then some (w32 (s.rtc.vbk % 8192))
  else none

/-- PAGE_STAT[STATE] of the RTC page (R417). -/
def State.rtcPageState (s : State) : Nat := b2n s.calInvalid

end Sys2Proof.Machine
end

