-- ==== Sys2Proof/Machine/Time.lean ====
section
/-!
DEFINITION. The network time clock (R387–R400): master selection, the servo's samples, jumps, holdover, the TIME page.
-/
namespace Sys2Proof.Machine

/-- The profile in force, TIME.CFG[PROFILE] at the start (R387, R399): 0 none, 1 default, 2 power. -/
def State.ptpProfile (s : State) : Nat := s.time.cfg.fld 0 2
/-- TIME.CFG[JUMP_N] in force. -/
def State.jumpN (s : State) : Nat := s.time.cfg.fld 20 4
/-- TIME.CFG[QUAL_N] in force. -/
def State.qualN (s : State) : Nat := s.time.cfg.fld 24 4
/-- TIME.JUMP_US in nanoseconds. -/
def State.jumpNs (s : State) : Nat := (s.rdp .time 0 Off.TIME_JUMP_US).toNat * us
/-- The announce interval of the profile (*PTP profiles*). -/
def State.announceNs (s : State) : Nat := if s.ptpProfile = 1 then 2 * sec else sec

/-- TIME.CFG accepts a value. -/
def timeCfgOk (w : Word) : Bool :=
  w.fld 0 2 < 3 && w.fld 8 8 ≤ 127 && 2 ≤ w.fld 20 4 && 4 ≤ w.fld 24 4
/-- TIME.JUMP_US accepts a value. -/
def jumpUsOk (w : Word) : Bool := 10 ≤ w.toNat && w.toNat ≤ 1000000
/-- TIME.HOLD_MIN accepts a value. -/
def holdMinOk (w : Word) : Bool := 1 ≤ w.fld 0 11 && w.fld 0 11 ≤ 1440

/-- Insertion into an ascending list. -/
def insInt (x : Int) : List Int → List Int
  | [] => [x]
  | y :: ys => if x ≤ y then x :: y :: ys else y :: insInt x ys

/-- The median of samples (R391, R393, R395); of an even number the manual does not say (log entry 39, DESIGN CHOICE). -/
def medianInt (l : List Int) : Int :=
  let l := l.foldr insInt []
  let n := l.length
  if n % 2 = 1 then l.getD (n / 2) 0 else Config.medianEven (l.getD (n / 2 - 1) 0) (l.getD (n / 2) 0)

/-! Master selection (R388) -/

/-- The order in which announces are compared; a tie goes to E1 (R388). The order of the data sets is IEEE 1588's (log entry 41, PRESUMED). -/
def masterKey (m : Master) : List Nat := [m.prio1, m.cls, m.acc, m.var, m.prio2, m.id.toNat, m.steps, m.leg]

/-- Lexicographic order. -/
def lexLt : List Nat → List Nat → Bool
  | [], _ => false
  | _ :: _, [] => false
  | a :: as, b :: bs => a < b || (a == b && lexLt as bs)

/-- The better of two masters. -/
def betterMaster (a : Option Master) (b : Master) : Option Master :=
  match a with
  | some m => if lexLt (masterKey b) (masterKey m) then some b else some m
  | none => some b

/-- The best of the qualified masters: two announces have come within four intervals (log entry 41, PRESUMED). -/
def bestMaster (l : List Master) : Option Master := (l.filter fun m => 2 ≤ m.count).foldl betterMaster none

/-- Masters whose announces still arrive: none has been missing for three intervals (*PTP profiles*). -/
def State.liveMasters (s : State) : List Master := s.time.masters.filter fun m => s.now < m.last + 3 * s.announceNs

/-- No sample of the selected master has been used yet, nor has a host set the time: the first step is still to be made (R390, R391). -/
def State.unstepped (s : State) : Bool := !s.time.stepped && s.time.servoAt.isNone && s.time.st != .host

/-- A master is selected: its clockIdentity and UTC offset show, its samples start afresh; a change from another master or leg is counted and
recorded (R388). Log entry 79, DEDUCED. -/
def State.selectMaster (s : State) (m : Master) : State :=
  let s := (s.wrp .time 0 Off.TIME_GM_LO (lo32 m.id)).wrp .time 0 Off.TIME_GM_HI (hi32 m.id)
  let s := s.wrp .time 0 Off.TIME_UTC_OFS m.utc
  if s.time.sel == some (m.leg, m.id) then s
  else
    let changed := match s.time.lastSel with | some l => l != (m.leg, m.id) | none => false
    let st := if (s.time.st == .free || s.time.st == .holdover) && s.unstepped then .qualifying else s.time.st
    let s := { s with time := { s.time with
      sel := some (m.leg, m.id), lastSel := some (m.leg, m.id), samples := [], refused := [], recent := [], run := 0, st := st } }
    let s := if changed then
        (s.satp .time 0 Off.TIME_MASTER_CHG).record 0x0A07 (lo32 m.id) (hi32 m.id) (w32 m.leg)
      else s
    s.refreshValid

/-- No master is left: HOLDOVER, but JUMP_HOLD, FREE and HOST stay (R390, R398). -/
def State.loseMaster (s : State) : State :=
  let st := match s.time.st with
    | .qualifying => .holdover
    | .locked => .holdover
    | x => x
  ({ s with time := { s.time with sel := none, samples := [], refused := [], recent := [], run := 0, st := st } }).refreshValid

/-- Reselect among the masters that live. -/
def State.reselect (s : State) : State :=
  let s := { s with time := { s.time with masters := s.liveMasters } }
  match bestMaster s.time.masters with
  | some m => s.selectMaster m
  | none => if s.time.sel.isSome then s.loseMaster else s

/-- PTP runs: a profile is selected and CMP is powered (R384, R387). -/
def State.ptpRuns (s : State) : Bool := s.ptpProfile ≠ 0 && s.md.pstate.cmp

/-- PTP_ANNOUNCE on a leg in a domain (R387, R388). -/
def State.ptpAnnounce (s : State) (dom : Nat) (m : Master) : State :=
  if !s.ptpRuns || dom ≠ s.time.cfg.fld 8 8 || 2 ≤ m.leg then s
  else
    let old := s.time.masters.find? fun x => x.leg == m.leg && x.id == m.id
    let c := match old with
      | some x => if s.now ≤ x.last + 4 * s.announceNs then x.count + 1 else 1
      | none => 1
    let rest := s.time.masters.filter fun x => !(x.leg == m.leg && x.id == m.id)
    ({ s with time := { s.time with masters := { m with last := s.now, count := min 2 c } :: rest } }).reselect

/-- PTP_ANNOUNCE_TIMEOUT: announces have been missing for three intervals (R388, R390). -/
def State.ptpTimeout (s : State) : State := s.reselect

/-! Samples (R391–R395) -/

/-- A signed 64-bit value in a register pair. -/
def State.wrPairI (s : State) (p : Page) (i o : Nat) (n : Int) : State :=
  let w := BitVec.ofInt 64 n
  (s.wrp p i o (lo32 w)).wrp p i (o + 4) (hi32 w)

/-- A step by an offset, which is local time minus master time (R391, R395). -/
def State.stepBy (s : State) (cause : Nat) (off : Int) : State :=
  s.openEpoch cause (s.now + s.time.ofs - off) true

/-- A used sample disciplines the rate within ±100 ppm; its value is the servo's (R392, log entry 42, DESIGN CHOICE). -/
def State.disciplineRate (s : State) : State :=
  let (v, s) := s.fresh 0x392
  s.wrp .time 0 Off.TIME_RATE_PPB (sw32 ((v % 200001 : Nat) - (100000 : Int)))

/-- Samples that agree within 10 µs. -/
def agree (l : List Int) : Bool := l.all fun a => l.all fun b => (a - b).natAbs ≤ 10 * us

/-- A sample in QUALIFYING (R391): one outside the agreement restarts the count. -/
def State.qualSample (s : State) (off : Int) : State :=
  let l := off :: s.time.samples
  if !agree l then { s with time := { s.time with samples := [off] } }
  else if l.length < s.qualN then { s with time := { s.time with samples := l } }
  else
    let s := { s with time := { s.time with samples := [], refused := [], run := 0, stepped := true, st := .locked, servoAt := some s.now } }
    (s.stepBy 2 (medianInt l)).refreshValid

/-- JUMP_N consecutive samples have been refused (R393). -/
def State.enterJumpHold (s : State) : State :=
  let m := medianInt s.time.refused
  let s := { s with time := { s.time with st := .jumpHold, jump := true, refused := [], run := 0 } }
  let s := s.wrPairI .time 0 Off.TIME_JUMP_LO m
  let s := (s.satp .time 0 Off.TIME_REFUSALS).irq .time 0 2
  (s.record 0x0A03 (s.rdp .time 0 Off.TIME_JUMP_LO) (s.rdp .time 0 Off.TIME_JUMP_HI) (s.rdp .time 0 Off.TIME_REFUSALS)).refreshValid

/-- A sample in LOCKED, HOLDOVER or HOST (R392, R393). Log entry 79, DEDUCED. -/
def State.servoSample (s : State) (off : Int) : State :=
  if off.natAbs > s.jumpNs then
    let s := s.satp .time 0 Off.TIME_OUTLIERS
    let s := { s with time := { s.time with refused := off :: s.time.refused } }
    if s.jumpN ≤ s.time.refused.length then s.enterJumpHold else s
  else
    (({ s with time := { s.time with refused := [], st := .locked, jump := false, servoAt := some s.now } }).disciplineRate).refreshValid

/-- A sample in JUMP_HOLD (R393, R394). -/
def State.jumpSample (s : State) (off : Int) : State :=
  if off.natAbs > s.jumpNs then
    ({ s with time := { s.time with run := 0 } }).satp .time 0 Off.TIME_OUTLIERS
  else
    let s := { s with time := { s.time with run := s.time.run + 1 } }
    if s.time.run < s.qualN then s
    else
      let s := { s with time := { s.time with st := .locked, jump := false, run := 0, refused := [], servoAt := some s.now } }
      (s.recordGen 0x0A .time 0 Off.TIME_STAT (w32 (s.time.st.code))).refreshValid

/-- TIME.NOW_NS32 at this instant (R397). -/
def State.ns32 (s : State) : Word := w32 (s.now - s.time.epochAt)

/-- A stamp of an instant on the count of R397. -/
def State.stamp32 (s : State) (t : Nat) : Word := sw32 ((t : Int) - s.time.epochAt)

/-- PTP_SYNC_SAMPLE on a leg, with the instants of the event messages it rests on: the offset shows on the leg; the selected master's leg feeds the
servo (R388). An event message sent since the last sample left on that leg only. -/
def State.ptpSample (s : State) (leg : Nat) (id : Word64) (off : Int) (rx tx : Nat) : State :=
  if !s.ptpRuns || 2 ≤ leg then s
  else
    let s := if s.rdp .eth leg Off.ETH_TS_TX_NS32 = s.stamp32 tx then s else s.emit (.ptp leg)
    let s := ((s.wrp .eth leg Off.ETH_PTP_OFS_NS (satI32 off)).wrp .eth leg Off.ETH_TS_RX_NS32 (s.stamp32 rx)).wrp .eth leg Off.ETH_TS_TX_NS32 (s.stamp32 tx)
    if s.time.sel != some (leg, id) then s
    else
      let s := s.wrp .time 0 Off.TIME_OFFSET_NS (satI32 off)
      let s := { s with time := { s.time with recent := (off :: s.time.recent).take 15 } }
      match s.time.st with
      | .free => s
      | .qualifying => s.qualSample off
      | .jumpHold => s.jumpSample off
      | _ => s.servoSample off

/-! Start, sleep, takeover -/

/-- The time base at a start (R389, R396): loaded from the RTC, or zero when the RTC is invalid, in state FREE, with epoch 1. -/
def State.startTime (s : State) : State :=
  let ns := if s.calInvalid then 0 else s.calNs
  let cfg := s.rdp .time 0 Off.TIME_CFG
  let s := { s with time := { ofs := s.time.ofs, cfg := cfg } }
  s.openEpoch 1 ns false

/-- Entry to P2 (R390, R398): HOLDOVER in any state but FREE or HOST; no master is heard. -/
def State.timeSleep (s : State) : State :=
  let st := match s.time.st with
    | .free => .free
    | .host => .host
    | _ => .holdover
  let t := s.time
  ({ s with time := { t with st := st, masters := [], sel := none, samples := [], refused := [], recent := [], run := 0 } }).refreshValid

/-- Takeover (R396, R398): the new ACTIVE opens an epoch and keeps its own servo state. -/
def State.timeTakeover (s : State) : State := s.openEpoch 5 (s.now + s.time.ofs) true

/-! The TIME page (R399, R400) -/

/-- SET_TIME (R400). -/
def State.setTime (s : State) : Err × State :=
  let ns := (s.rdp .time 0 Off.TIME_SET_NS).toNat
  let sS := (s.rdp .time 0 Off.TIME_SET_S).toNat
  if !s.md.pstate.cmp then (.mode, s)
  else if s.time.st != .free then (.state, s)
  else if ns > 999999999 then (.range, s)
  else (.ok, s.hostSet (((if sS < 946684800 then sS + 2 ^ 32 else sS) * sec + ns : Nat) : Int) true)

/-- ACCEPT_STEP (R395, R400). -/
def State.acceptStep (s : State) : Err × State :=
  if s.time.st != .jumpHold || s.time.recent.length < s.jumpN then (.state, s)
  else
    let m := medianInt (s.time.recent.take s.jumpN)
    let s := { s with time := { s.time with st := .locked, jump := false, run := 0, refused := [] } }
    (.ok, (s.stepBy 3 m).refreshValid)

/-- Execute a TIME.CMD (R400). -/
def State.execTimeCmd (s : State) (c : QCmd) : State :=
  let op := c.word.fld 0 4
  let r : Err × State :=
    if op = 0 ∨ op > 2 then (.range, s)
    else if !c.priv.ge .service then (.denied, s)
    else if op = 1 then s.setTime
    else s.acceptStep
  r.2.complete .time 0 Off.TIME_CMD_STAT r.1 (c.word.fld 8 8)

/-- TIME.CLR (R399). -/
def State.timeClr (s : State) (v : Word) : State :=
  if v.bit 0 then
    (((s.wrp .time 0 Off.TIME_REFUSALS 0).wrp .time 0 Off.TIME_MASTER_CHG 0).wrp .time 0 Off.TIME_OUTLIERS 0).recordClr (Page.reg .time 0 Off.TIME_CLR) v
  else s

/-- Value of offset `o` of the TIME page, where it is computed. -/
def State.timePageView (s : State) (o : Nat) : Option Word :=
  let t := s.time
  if o = Off.TIME_STAT then
    some (w32 (t.st.code + 8 * b2n t.valid + 16 * b2n t.stepped + 32 * (match t.sel with | some (l, _) => l | none => 0) + 64 * b2n t.jump))
  else if o = Off.TIME_NOW_S then some (w32 s.timeNow.s)
  else if o = Off.TIME_NOW_NS then some (w32 s.timeNow.ns)
  else if o = Off.TIME_NOW_NS32 then some s.ns32
  else if o = Off.TIME_EPOCH then some (w32 t.epoch)
  else if o = Off.TIME_EPOCH_CAUSE then some (w32 t.cause)
  else none

/-- PAGE_STAT[STATE] of the TIME page (R399). -/
def State.timePageState (s : State) : Nat := s.time.st.code

end Sys2Proof.Machine
end

