-- ==== Sys2Proof/Machine/Eth.lean ====
section
/-!
DEFINITION. The Ethernet ports (R382–R386, R401): port roles, PRP on E1 and E2, leg state, the ETH pages; and MODE.DEG, which shows the legs.
-/
namespace Sys2Proof.Machine

/-- Port Em, by its page instance m − 1. -/
def State.port (s : State) (i : Nat) : EthPort := s.eth.ports.getD i {}
/-- Update a port. -/
def State.updPort (s : State) (i : Nat) (f : EthPort → EthPort) : State := { s with eth := { s.eth with ports := modAt s.eth.ports i f } }

/-- MODE.DEG: lanes, groups, segments and PRP legs out of service (*MODE.DEG fields*). -/
def State.degNow (s : State) : Nat :=
  let ix := fun {α : Type} (l : List α) (p : α → Bool) => maskOf ((List.range l.length).filter fun k => match l[k]? with | some x => p x | none => false)
  ix s.slv.lanes (fun (x : Lane) => x.fenced) + 2 ^ 8 * ix s.fld.grps (fun (g : Grp) => g.cause.isSome) +
    2 ^ 12 * ix s.can.segs (fun (g : Seg) => g.st == .fenced) + 2 ^ 18 * ix (s.eth.ports.take 2) (fun (p : EthPort) => p.down)

/-! Receiving (R382–R385) -/

/-- Node-table entries last (R385). -/
def nodeLife : Nat := 60 * sec
/-- The node table holds (R385). -/
def nodeMax : Nat := 4352
/-- The duplicate-discard window (R385). -/
def dupWindow : Nat := 400 * ms

/-- The node table without the entries forgotten. -/
def State.nodesNow (s : State) : List (Nat × Nat) := s.eth.nodes.filter fun n => s.now < n.2 + nodeLife

/-- A frame names its sender to the node table. -/
def State.noteNode (s : State) (mac : Nat) : State :=
  let l := s.nodesNow
  if (lookupA mac l).isSome ∨ l.length < nodeMax then { s with eth := { s.eth with nodes := insertA mac s.now l } }
  else { s with eth := { s.eth with nodes := l } }

/-- A frame of a node on a leg out of service counts in its run of seconds (R386). -/
def State.noteRun (s : State) (leg mac : Nat) : State :=
  if (lookupA mac s.nodesNow).isNone then s
  else s.updPort leg fun p =>
    if !p.down then p
    else match p.runFrom with
      | none => { p with runFrom := some s.now, runLast := 0 }
      | some t =>
        let k := (s.now - t) / sec
        if k ≤ p.runLast + 1 then { p with runLast := k } else { p with runFrom := some s.now, runLast := 0 }

/-- The second copy of a pair: the other leg has delivered it within the window (R385). -/
def State.duplicate (s : State) (leg mac seq : Nat) : Bool :=
  s.eth.seen.any fun x => x.mac == mac && x.seq == seq && x.leg != leg && s.now < x.at_ + dupWindow

/-- Remember a copy delivered. -/
def State.noteSeen (s : State) (leg mac seq : Nat) : State :=
  { s with eth := { s.eth with seen := (s.eth.seen.filter fun x => s.now < x.at_ + dupWindow) ++ [⟨mac, seq, leg, s.now⟩] } }

/-- The kind is served on the port (*Port roles*); PTP under a profile of R387. -/
def State.roleOk (s : State) (port : Nat) (k : EthKind) : Bool :=
  match k with
  | .dpx => port < 2
  | .ptp => port < 2 && s.ptpProfile ≠ 0
  | .prpSup => port < 2
  | .dra => 2 ≤ port
  | .arp _ => true
  | .icmp => true
  | .other => false

/-- The controller answers ARP for an address on a port: its own in force since the start, and on the pair the service address it presents (R382, R383). -/
def State.ownsAddr (s : State) (port : Nat) (a : Word) : Bool :=
  let ip := s.eth.ips.getD (if port = 1 then 0 else port) 0
  (a == ip && ip != 0) || (port < 2 && s.servesDpx && a == s.rdp .net 0 Off.NET_SVC_ADDR && a != 0)

/-- A frame accepted for its port's role is answered where the controller itself answers it. -/
def State.ethAnswer (s : State) (port : Nat) (k : EthKind) : State :=
  match k with
  | .arp a => if s.ownsAddr port a then s.emit (.arp port a) else s
  | .icmp => s.emit (.icmp port)
  | _ => s

/-- Port roles and tags (R382, R383). -/
def State.ethRole (s : State) (port : Nat) (f : EthFrame) : State :=
  if f.tag && !(port < 2 && s.ptpProfile = 2) then s.satp .eth port Off.ETH_RX_DISC
  else if port < 2 && f.kind == .dra then s.satp .eth port Off.ETH_DRA_DROP
  else if !s.roleOk port f.kind then s.satp .eth port Off.ETH_RX_DISC
  else s.ethAnswer port f.kind

/-- PRP reception on a leg (R385). PTP messages are not taken for duplicates. -/
def State.prpRx (s : State) (leg : Nat) (f : EthFrame) : State :=
  match f.rct with
  | none => s.ethRole leg f
  | some (lan, seq) =>
    let s := (s.noteNode f.mac).noteRun leg f.mac
    let s := if lan ≠ leg then s.satp .eth leg Off.ETH_PRP_WRONG_LAN else s
    if f.kind == .ptp then s.ethRole leg f
    else if s.duplicate leg f.mac seq then s.modp .eth leg Off.ETH_PRP_DUP
    else (s.noteSeen leg f.mac seq).ethRole leg f

/-- ETH_FRAME_RX (R382): a frame on a powered port with its link up. -/
def State.ethRx (s : State) (port : Nat) (f : EthFrame) : State :=
  if !s.md.pstate.cmp || !(s.port port).link then s
  else if !f.good then s.satp .eth port Off.ETH_RX_ERR
  else
    let s := (s.modp .eth port Off.ETH_RX_OK).updPort port fun p => { p with lastRx := some s.now }
    if port < 2 then s.prpRx port f else s.ethRole port f

/-! Legs (R386) -/

/-- A leg goes down: why 1 link lost, 2 silent. -/
def State.legDown (s : State) (leg why : Nat) : State :=
  if (s.port leg).down then s
  else
    let s := s.updPort leg fun p => { p with down := true, runFrom := none, runLast := 0 }
    ((s.irq .eth leg 2).record 0x0A05 (w32 (leg + 1)) (w32 why) (w32 s.degNow)).trigger .unit

/-- ETH_LINK_CHANGE: a link down because of the power state is not lost (R384, R401). -/
def State.ethLink (s : State) (port : Nat) (up fd1000 : Bool) : State :=
  if !s.md.pstate.cmp || 4 ≤ port then s
  else
    let was := (s.port port).link
    let s := s.updPort port fun p => { p with link := up, fd1000 := up && fd1000, runFrom := if up then p.runFrom else none }
    let s := if was == up then s else s.irq .eth port 1
    if port < 2 && was && !up then s.legDown port 1 else s

/-- PRP_LEG_SILENT: no valid frame for 6 s while the other leg receives (R386). -/
def State.legSilent (s : State) (leg : Nat) : State :=
  if !s.md.pstate.cmp || 2 ≤ leg then s
  else
    let since := ((s.port leg).lastRx).getD s.eth.upAt
    let other := match (s.port (1 - leg)).lastRx with | some t => since < t && s.now < t + 6 * sec | none => false
    if s.now ≥ since + 6 * sec && other then s.legDown leg 2 else s

/-- PRP_LEG_RETURN: linked at full speed, with frames of a node in each of 10 consecutive seconds (R386). -/
def State.legReturn (s : State) (leg : Nat) : State :=
  let p := s.port leg
  let ran := match p.runFrom with | some t => s.now ≥ t + 10 * sec && 9 ≤ p.runLast | none => false
  if s.md.pstate.cmp && leg < 2 && p.down && p.link && p.fd1000 && ran then
    let s := s.updPort leg fun p => { p with down := false, runFrom := none, runLast := 0, lastRx := some s.now }
    ((s.irq .eth leg 3).record 0x0A06 (w32 (leg + 1)) 0 (w32 s.degNow)).trigger .unit
  else s

/-- PRP_SUPERVISION_TX: every 2 s while the pair is powered (R385). -/
def State.prpSupervise (s : State) : State :=
  let due := match s.eth.supAt with | some t => s.now ≥ t + 2 * sec | none => true
  if s.md.pstate.cmp && due then ({ s with eth := { s.eth with supAt := some s.now } }).emit .prpSup else s

/-- Ports at a start: links come up again; the addresses of the ETH pages come into force (R401). A leg out of service before is in service until it
fails again. -/
def State.startEth (s : State) : State :=
  { s with eth := { ports := List.replicate 4 {}, ips := (List.range 4).map fun i => s.rdp .eth i Off.ETH_IP_ADDR, upAt := s.now } }

/-- Ports at a wake from P2: as at a start, with the addresses that are in force since it. -/
def State.wakeEth (s : State) : State := { s with eth := { ports := List.replicate 4 {}, ips := s.eth.ips, upAt := s.now } }

/-- In P2 and P3 every link is down, which loses no leg (R384). -/
def State.ethOff (s : State) : State :=
  { s with eth := { s.eth with
    ports := s.eth.ports.map fun (p : EthPort) => { p with link := false, fd1000 := false, runFrom := none, runLast := 0 } } }

/-- Frames sent on the ports, by what each carries (R382, R385): those of the pair go out on both legs, PTP messages on their own (R388). -/
def State.txPorts (s : State) : Out → List Nat
  | .accept p _ => portOf p
  | .errorPlain p _ => portOf p
  | .ready k _ => sessPort k
  | .close p _ => portOf p
  | .response k _ _ => sessPort k
  | .notify k _ _ _ _ => sessPort k
  | .dpxHello .. => [0, 1]
  | .dpxAck .. => [0, 1]
  | .dpxCmd .. => [0, 1]
  | .dpxSafe .. => [0, 1]
  | .dtls .. => [0, 1]
  | .arp p _ => if p < 2 then [0, 1] else [p]
  | .ptp leg => [leg]
  | .icmp p => if p < 2 then [0, 1] else [p]
  | .prpSup => [0, 1]
  | .pl1 .. => []
  | .can .. => []
where
  portOf : Port → List Nat
    | .e3 => [2]
    | .e4 => [3]
    | .usb => []
  sessPort (k : Nat) : List Nat :=
    match s.sess? k with
    | some x => portOf x.port
    | none => []

/-- Count what was sent in ETH.TX_OK (R401). -/
def State.countTx (s : State) : State :=
  s.out.foldl (fun t o => (s.txPorts o).foldl (fun t i => if (s.port i).link then t.modp .eth i Off.ETH_TX_OK else t) t) s

/-- ETH.CLR (R401). -/
def State.ethClr (s : State) (i : Nat) (v : Word) : State :=
  if v.bit 0 then
    ((List.range 8).foldl (fun s k => s.wrp .eth i (Off.ETH_RX_OK + 4 * k) 0) s).recordClr (Page.reg .eth i Off.ETH_CLR) v
  else s

/-- A write to an address register of ETH2 is refused with ACCESS (R401). -/
def ethReadOnly (i o : Nat) : Bool := i = 1 && (o = Off.ETH_IP_ADDR || o = Off.ETH_IP_PREFIX || o = Off.ETH_IP_GW)

/-- ETH.IP_PREFIX accepts a value. -/
def ipPrefixOk (w : Word) : Bool := 8 ≤ w.fld 0 6 && w.fld 0 6 ≤ 30

/-- Registers that only E1 and E2 have. -/
def prpOnly (o : Nat) : Bool :=
  o = Off.ETH_PRP_DUP || o = Off.ETH_PRP_WRONG_LAN || o = Off.ETH_PRP_NODES || o = Off.ETH_TS_RX_NS32 || o = Off.ETH_TS_TX_NS32 || o = Off.ETH_PTP_OFS_NS

/-- Value of offset `o` of an ETH page, where it is computed. -/
def State.ethPageView (s : State) (i o : Nat) : Option Word :=
  let p := s.port i
  if o = Off.ETH_LINK then some (w32 (b2n p.link + 2 * b2n p.fd1000 + 4 * b2n (i < 2 && p.link && !p.down)))
  else if ethReadOnly i o then some (s.rdp .eth 0 o)
  else if o = Off.ETH_MAC_LO then some (w32 ((Config.macAddr (if i = 1 then 0 else i)).toNat))
  else if o = Off.ETH_MAC_HI then some (w32 ((Config.macAddr (if i = 1 then 0 else i)).toNat / 2 ^ 32))
  else if 2 ≤ i ∧ prpOnly o then some 0
  else if o = Off.ETH_PRP_NODES then some (w32 s.nodesNow.length)
  else if o = Off.ETH_USB_DRA_DROP ∧ i ≠ 3 then some 0
  else none

/-- PAGE_STAT[STATE] of an ETH page (R401). -/
def State.ethPageState (s : State) (i : Nat) : Nat :=
  let p := s.port i
  if !p.link then 0 else if i < 2 && p.down && p.fd1000 then 2 else 1

end Sys2Proof.Machine
end

