-- ==== Sys2Proof/Machine/Can.lean ====
section
/-!
DEFINITION. ShaiqLink segments (R359–R381): signals, filters and queues, the schedule matrix, event frames, rate detection, bus-off, fences.
-/
namespace Sys2Proof.Machine
open Sys2Proof.F64

/-! Signals (R361, R362) -/

/-- Value of a received signal from the payload as a number. -/
def sigDecode (d : SigD) (payload : Nat) : F :=
  let raw := (payload >>> d.start) % 2 ^ d.len
  let x := match d.typ with
    | .bool => ofNat raw
    | .uint => ofNat raw
    | .int => ofInt (if raw < 2 ^ (d.len - 1) then raw else (raw : Int) - 2 ^ d.len)
    | .f32 => ofF32 (w32 raw)
    | .f64 => BitVec.ofNat 64 raw
  add (mul d.scale x) d.offset

/-- Raw bits of a transmit signal's value (R361). -/
def sigEncode (d : SigD) (v : F) : Nat :=
  let x := div (sub v d.offset) d.scale
  match d.typ with
  | .bool => (clampI 0 1 (rintI x)).toNat
  | .uint => (clampI 0 (2 ^ d.len - 1) (rintI x)).toNat
  | .int => (BitVec.ofInt d.len (clampI (-(2 ^ (d.len - 1))) (2 ^ (d.len - 1) - 1) (rintI x))).toNat
  | .f32 => (toF32 x).toNat
  | .f64 => x.toNat

/-- The payload of transmit frame `f` of a segment from the values held under R363. -/
def State.txPayload (s : State) (n f : Nat) : List Byte :=
  match (s.seg n).cfg with
  | none => []
  | some c =>
    let sigs := c.sigs.filter fun d => d.num ≥ 512 && d.frame == f
    let bits := sigs.foldl (fun a d => a ||| (sigEncode d (s.drivenCan n d.num).2 <<< d.start)) 0
    natLE ((c.tx.getD f ⟨0, false, false, 8, true, false⟩).bytes) bits

/-- FD data lengths (R445). -/
def fdLen (n : Nat) : Nat := ([0, 1, 2, 3, 4, 5, 6, 7, 8, 12, 16, 20, 24, 32, 48, 64].find? (n ≤ ·)).getD 64

/-- The rate candidate in use. -/
def rateOf (g : Seg) : RateCand := match g.cfg with
  | some c => c.cands.getD g.cand ⟨0, 0, 0, 0⟩
  | none => ⟨0, 0, 0, 0⟩

/-- Worst-case duration of a frame in nanoseconds (R367). -/
def frameNs (g : Seg) (ide fdf : Bool) (n : Nat) : Nat :=
  let r := rateOf g
  if fdf then Config.canFdNs ide n r.nom r.data
  else
    let k := if ide then 54 else 34
    (k + 8 * n + 13 + (k + 8 * n - 1) / 4) * 1000000 / max 1 r.nom

/-- Send a frame and count it. -/
def State.canSend (s : State) (n id : Nat) (ide fdf : Bool) (brs : Bool) (data : List Byte) : State :=
  (s.emit (.can n id ide fdf brs data)).modp .can (n - 1) Off.CAN_TX_OK

/-! Base cycles (R366, R368) -/

/-- Frame 0 of the base cycles: the origin of R22, 0 before one is set. -/
def State.canOrigin (s : State) : Nat := s.slv.origin.getD 0

/-- Length of a base cycle in nanoseconds. -/
def baseNs (c : CanCfg) : Nat := max 1 c.baseMs * ms

/-- The base cycle in which an instant lies (R366). -/
def State.canCycleAt (s : State) (c : CanCfg) (t : Nat) : Nat := (t - s.canOrigin) / baseNs c

/-- A base cycle of the segment starts at its frame of the cycle timer: a pending state is taken, the reference frame sent; a segment that becomes ACTIVE
sends no event frame queued before (R366, R368, R372, R377, R378). -/
def State.canBase (s : State) (n : Nat) : State :=
  match (s.seg n).cfg with
  | none => s
  | some c =>
    if s.now < s.canOrigin || (s.now - s.canOrigin) % baseNs c != 0 || (s.seg n).st == .off then s
    else
    let k := s.canCycleAt c s.now
    let g := s.seg n
    let s := s.updSeg n fun g => { g with
      cycle := k, st := g.nextBase.getD g.st, nextBase := none, evtQ := if g.nextBase == some .active then [] else g.evtQ }
    let s := match g.nextBase, g.job with
      | some _, some j => (s.updSeg n fun g => { g with job := none }).complete .can (n - 1) Off.CAN_CMD_STAT .ok (j.word.fld 8 8)
      | _, _ => s
    if (s.seg n).st == .active && c.refEn then
      let t64 := s.time64At s.now
      let b1 := b2n s.time.valid + 2 * b2n g.takeover + 4 * b2n (s.md.mode == .safeHold)
      let data := natLE 1 (k % max 1 c.matLen) ++ natLE 1 b1 ++ natLE 2 (k / max 1 c.matLen) ++ natLE 4 (if s.time.valid then t64.s else 0)
      (s.canSend n c.refId false false false data).updSeg n fun g => { g with takeover := false }
    else s

/-- A transmit slot occurs in the running base cycle (R366). -/
def slotOccurs (c : CanCfg) (cycle : Nat) (x : TxSlot) : Bool := (cycle % max 1 c.matLen) % max 1 x.rep == x.cyc

/-- A TT frame is loaded from the values held, 5 µs before its slot starts (R369). -/
def State.canLoad (s : State) (n k : Nat) : State :=
  let g := s.seg n
  match g.cfg with
  | none => s
  | some c => match c.slots[k]? with
    | some x => if g.st == .active && slotOccurs c (s.canCycleAt c (s.now + 5 * us)) x then
        let p := s.txPayload n x.frame
        s.updSeg n fun g => { g with loaded := insertA k p g.loaded }
      else s
    | none => s

/-- A transmit slot ends: its frame was sent, or it was withdrawn and counted (R369, R375). -/
def State.canSlot (s : State) (n k : Nat) (sent : Bool) : State :=
  let g := s.seg n
  match g.cfg with
  | none => s
  | some c => match c.slots[k]? with
    | some x =>
      if !slotOccurs c (s.canCycleAt c (s.now - 1)) x then s
      else if g.st == .busOff then s.satp .can (n - 1) Off.CAN_SLOT_LOST
      else if g.st != .active then s
      else match lookupA k g.loaded with
        | none => s
        | some p =>
          let s := s.updSeg n fun g => { g with loaded := eraseA k g.loaded }
          let f := c.tx.getD x.frame ⟨0, false, false, 8, true, false⟩
          if sent then s.canSend n f.id f.ide f.fdf (f.fdf && (rateOf g).data != 0) p
          else (s.satp .can (n - 1) Off.CAN_SLOT_LOST).irq .can (n - 1) 7
    | none => s

/-- Padded CAN payload of a Polien telegram (R445). -/
def polPad (bs : List Byte) : List Byte := bs ++ List.replicate (fdLen bs.length - bs.length) 0

/-- The polien identifier and format a queue entry is sent with: TX_ID of its connection (R445). -/
def State.polTxId (s : State) (conn : Nat) : Nat := match s.safe.cfg.conns.getD conn none with
  | some c => c.txId
  | none => 0

/-- Send what fits of the Polien queue, then of the event queue, each frame built from the values that stand then (R363), with the bus times the frames took
(R370, R445). -/
def windowLoop (n endNs : Nat) : Nat → List Nat → State → State
  | _, [], s => s
  | cur, d :: ds, s =>
    let g := s.seg n
    match g.polQ with
    | (conn, bs) :: r =>
      let id := s.polTxId conn
      let ide := id.testBit 29
      if cur + frameNs g ide true (fdLen bs.length) ≤ endNs then
        windowLoop n endNs (cur + d) ds ((s.updSeg n fun g => { g with polQ := r }).canSend n (id % 2 ^ 29) ide true true (polPad bs))
      else s
    | [] => match g.evtQ with
      | f :: r =>
        let fd := (match g.cfg with | some c => c.tx.getD f ⟨0, false, false, 8, false, false⟩ | none => ⟨0, false, false, 8, false, false⟩)
        if cur + frameNs g fd.ide fd.fdf fd.bytes ≤ endNs then
          windowLoop n endNs (cur + d) ds ((s.updSeg n fun g => { g with evtQ := r }).canSend n fd.id fd.ide fd.fdf (fd.fdf && (rateOf g).data != 0) (s.txPayload n f))
        else s
      | [] => s

/-- An arbitration window of the running base cycle (R370): `durs` are the bus times of the frames sent, in order. -/
def State.canWindow (s : State) (n w : Nat) (durs : List Nat) : State :=
  let g := s.seg n
  match g.cfg with
  | none => s
  | some c => match c.windows[w]? with
    | some (st, len) => if g.st == .active then windowLoop n ((st + len) * us) (st * us) durs s else s
    | none => s

/-! Releases (R93, R363, R370, R374) -/

/-- The event frames that a release of signals queues: those whose signals it changes, and those it writes with ALWAYS (R363). -/
def evtFrames (c : CanCfg) (changed written : List Nat) : List Nat :=
  (List.range c.tx.length).filter fun f => match c.tx[f]? with
    | some d => !d.tt && (c.sigs.any fun x => x.num ≥ 512 && x.frame == f && (changed.contains x.num || (d.always && written.contains x.num)))
    | none => false

/-- A release to a segment's group (R93, R370): the owner's values stand; event frames are queued all together or the group is discarded. -/
def State.releaseCan (s : State) (n : Nat) (vals : List (Nat × F)) : State :=
  let before := vals.map fun p => (p.1, (s.drivenCan n p.1).2)
  let s := s.updSeg n fun g => { g with txs := g.txs.map fun x => match lookupA x.num vals with
    | some v => { x with own := some v, last := v }
    | none => x }
  let g := s.seg n
  match g.cfg with
  | none => s.satp .ord 0 Off.ORD_REL_DROP
  | some c =>
    if g.st != .active then s.satp .ord 0 Off.ORD_REL_DROP
    else
      let changed := (before.filter fun p => p.2 != (s.drivenCan n p.1).2).map (·.1)
      let fs := evtFrames c changed (vals.map (·.1))
      if g.evtQ.length + fs.length > 32 then
        (s.satp .ord 0 Off.ORD_REL_DROP).satp .can (n - 1) Off.CAN_EVT_DROP fs.length
      else
        s.updSeg n fun g => { g with evtQ := g.evtQ ++ fs }

/-! Fences (R376) -/

/-- The points of station 0000 that mirror receive signals of a fenced segment turn BAD with them (R362). Log entry 78, DEDUCED. -/
def State.fencePoints (s : State) (n : Nat) : State :=
  match (s.seg n).cfg with
  | none => s
  | some c => (c.sigs.filter (·.num < 512)).foldl (fun s d => match d.point, lookupA d.num (s.seg n).rxVals with
    | some l, some (v, at_) => s.localPoint l v .bad (s.time64At at_)
    | _, _ => s) s

/-- Fence segment C`n` (R376); a detection under way for CAN.CMD DETECT ends with it. Log entry 78, DEDUCED. -/
def State.fenceSeg (s : State) (n cause : Nat) : State :=
  let g := s.seg n
  if n = 0 ∨ n > s.variant.segments ∨ g.cfg.isNone then s
  else if g.st == .fenced then (if cause = 4 then s.updSeg n fun g => { g with cause := 4, retest := false } else s)
  else
    let s := s.updSeg n fun g => { g with st := .fenced, cause := cause, fencedAt := s.now, nextBase := none, retest := false, recovering := false }
    let s := match g.job with
      | some j => if cause = 2 then s
        else (s.updSeg n fun g => { g with job := none }).complete .can (n - 1) Off.CAN_CMD_STAT .state (j.word.fld 8 8)
      | none => s
    let s := s.fencePoints n
    ((s.irq .can (n - 1) 2).record 0x0601 (w32 n) (w32 cause) 0).trigger .unit

/-- Start a rate detection (R371): the stored candidate first when `stored`, then table order. -/
def State.startDetect (s : State) (n : Nat) (stored : Bool) : State :=
  match (s.seg n).cfg with
  | none => s
  | some c =>
    let r := s.rdp .can (n - 1) Off.CAN_RATE
    let all := List.range c.cands.length
    let k := r.fld 0 4
    let ord := if stored && r.bit 4 && k < c.cands.length then k :: all.filter (· ≠ k) else all
    s.updSeg n fun g => { g with
      order := ord.tail, cand := ord.headD 0, candFrom := s.now, detFrom := s.now, okRun := 0, seen := false, brsOk := false, failed := false
      firstTry := true, dataSeen := false, silent := false, nextBase := none
      st := if g.st == .fenced then .fenced else .detecting, retest := g.st == .fenced }

/-- A candidate fails: the next one, after a full pass the table again (R372, R373). -/
def State.nextCand (s : State) (n : Nat) : State :=
  match (s.seg n).cfg with
  | none => s
  | some c => s.updSeg n fun g => { g with
      cand := g.order.headD 0
      order := if g.order.length ≤ 1 then List.range c.cands.length else g.order.tail
      candFrom := s.now, okRun := 0, seen := false, brsOk := false, failed := false, firstTry := false }

/-- A detection is under way. -/
def detecting (g : Seg) : Bool := g.st == .detecting && g.nextBase.isNone || (g.st == .fenced && g.retest)

/-- The state a passing candidate leads to (R371, R378): MONITOR on a module without the token. -/
def State.segLive (s : State) : SegState := if s.hasToken then .active else .monitor

/-- A candidate passes (R372, R376). -/
def State.rateFound (s : State) (n : Nat) (silent : Bool) : State :=
  let g := s.seg n
  let s := s.wrp .can (n - 1) Off.CAN_RATE (w32 (g.cand + 16))
  let s := s.updSeg n fun g => { g with dataSeen := g.brsOk, silent := silent, nextBase := some s.segLive, okRun := 0 }
  let s := s.irq .can (n - 1) 6
  let s := if g.st == .fenced then
      let s := s.updSeg n fun g => { g with st := .detecting, cause := 0, retest := false }
      (((s.irq .can (n - 1) 3).record 0x0602 (w32 n) (w32 g.cause) 0).trigger .unit)
    else s
  match g.job with
  | some j => if j.word.fld 0 4 = 1 then
      (s.updSeg n fun g => { g with job := none }).complete .can (n - 1) Off.CAN_CMD_STAT .ok (j.word.fld 8 8)
    else s
  | none => s

/-! Reception (R362, R364, R365) -/

/-- A frame matches filter `(match, mask)` (R364). -/
def filterHit (f : CanFrame) (m : Word × Word) : Bool :=
  m.1.bit 31 && ((f.id ^^^ (m.1.fld 0 29)) &&& (m.2.fld 0 29)) == 0 && (!m.2.bit 29 || m.1.bit 29 == f.ide) && (!m.2.bit 30 || m.1.bit 30 == f.fdf)

/-- Index of the first matching filter. -/
def firstFilter (f : CanFrame) (fs : List (Word × Word)) : Option Nat := (List.range fs.length).find? fun k => filterHit f (fs.getD k (0, 0))

/-- Note a received frame in the trace window, newest first. -/
def State.traceFrame (s : State) (n : Nat) (f : CanFrame) (k : Nat) (urgent : Bool) : State :=
  s.updSeg n fun g => { g with trace := (⟨f, k, urgent, s.time64At s.now⟩ :: g.trace).take 16 }

/-- A frame received without error counts in CAN.RX_OK and, during rate detection, for the candidate (R359, R372). -/
def State.canHeard (s : State) (n : Nat) (f : CanFrame) : State :=
  let s := s.modp .can (n - 1) Off.CAN_RX_OK
  if detecting (s.seg n) then
    let s := s.updSeg n fun g => { g with okRun := g.okRun + 1, seen := true, brsOk := g.brsOk || f.brs }
    if (s.seg n).okRun ≥ 8 then s.rateFound n false else s
  else s

/-- The filters put a frame into URGENT or BULK, or it is counted (R364). -/
def State.canFilter (s : State) (n : Nat) (c : CanCfg) (f : CanFrame) : State :=
  if f.rtr then s.satp .can (n - 1) Off.CAN_RX_NOMATCH
  else match firstFilter f c.filters with
    | none => (s.traceFrame n f 0 false).satp .can (n - 1) Off.CAN_RX_NOMATCH
    | some k =>
      let urgent := (c.filters.getD k (0, 0)).2.bit 31
      let s := s.traceFrame n f k urgent
      match (List.range c.rx.length).find? (fun i => match c.rx[i]? with | some d => d.id == f.id && d.ide == f.ide | none => false) with
      | none => s
      | some i =>
        let w : RxWait := ⟨f, i, s.now⟩
        let g := s.seg n
        if urgent then
          if g.urgent.length ≥ 64 then (s.satf .can (n - 1) Off.CAN_RX_OVF 0 16).irq .can (n - 1) 5
          else s.updSeg n fun g => { g with urgent := g.urgent ++ [w] }
        else if g.bulk.length ≥ 256 then (s.satf .can (n - 1) Off.CAN_RX_OVF 16 16).irq .can (n - 1) 5
        else s.updSeg n fun g => { g with bulk := g.bulk ++ [w] }

/-- Decode one frame into the signals of its descriptor in one step (R362). -/
def State.decodeFrame (s : State) (n : Nat) (w : RxWait) : State :=
  match (s.seg n).cfg with
  | none => s
  | some c =>
    let len := (c.rx.getD w.desc ⟨0, false, false, 0, false, false⟩).bytes
    let payload := leNat w.frame.data
    let sigs := c.sigs.filter fun d => d.num < 512 && d.frame == w.desc && d.start + d.len ≤ 8 * w.frame.data.length
    let s := if w.frame.data.length < len then s.satp .can (n - 1) Off.CAN_DLC_ERR else s
    let s := s.updSeg n fun g => { g with rxVals := sigs.foldl (fun m d => insertA d.num (sigDecode d payload, w.at_) m) g.rxVals }
    sigs.foldl (fun s d => match d.point with
      | some l => s.localPoint l (sigDecode d payload) .good (s.time64At w.at_)
      | none => s) s

/-- The next queued frame is decoded; URGENT first (R365). -/
def State.canDecode (s : State) (n : Nat) : State :=
  match (s.seg n).urgent, (s.seg n).bulk with
  | w :: r, _ => (s.updSeg n fun g => { g with urgent := r }).decodeFrame n w
  | [], w :: r => (s.updSeg n fun g => { g with bulk := r }).decodeFrame n w
  | [], [] => s

/-- Quality and reason of a receive signal (R362, R380). -/
def State.rxQual (s : State) (n sig : Nat) : Qual × Nat :=
  let g := s.seg n
  match sigOf g sig, lookupA sig g.rxVals with
  | some d, some (_, at_) =>
    if g.st == .fenced then (.bad, 2) else if s.now > at_ + d.timeoutMs * ms then (.bad, 1) else (.good, 0)
  | _, _ => if g.st == .fenced then (.bad, 2) else (.bad, 3)

/-- A receive signal grows older than its timeout (R362): the point that mirrors it turns BAD. -/
def State.sigTimeout (s : State) (n sig : Nat) : State :=
  match sigOf (s.seg n) sig, lookupA sig (s.seg n).rxVals with
  | some d, some (v, at_) =>
    if s.now > at_ + d.timeoutMs * ms then
      match d.point with
      | some l => s.localPoint l v .bad (s.time64At at_)
      | none => s
    else s
  | _, _ => s

/-! Errors, detection, bus-off (R360, R372–R375) -/

/-- A bus error: kind and phase for CAN.LAST_ERR, the counters as the controller's hardware leaves them (R360), the end of a candidate (R372). -/
def State.canError (s : State) (n kind : Nat) (dataPhase : Bool) (tec rec_ : Nat) : State :=
  let g := s.seg n
  if g.cfg.isNone || g.st == .off then s
  else
    let s := s.updSeg n fun g => { g with tec := tec, rec_ := rec_, lastErr := kind % 8 + 8 * b2n dataPhase }
    if detecting g then s.nextCand n else s

/-- A candidate's dwell ends (R372, R373). -/
def State.canDwell (s : State) (n : Nat) : State :=
  let g := s.seg n
  match g.cfg with
  | none => s
  | some c =>
    if !detecting g ∨ s.now < g.candFrom + c.dwellMs * ms then s
    else if c.master && g.firstTry && !g.seen then s.rateFound n true
    else s.nextCand n

/-- No candidate has passed within DETECT_MAX_S (R373, R376). -/
def State.canDetectTimeout (s : State) (n : Nat) : State :=
  let g := s.seg n
  match g.cfg with
  | none => s
  | some c =>
    if !detecting g ∨ s.now < g.detFrom + c.detectMaxS * sec then s
    else
      let s := if g.st == .fenced then s.updSeg n fun g => { g with retest := false } else s.fenceSeg n 2
      match g.job with
      | some j => (s.updSeg n fun g => { g with job := none }).complete .can (n - 1) Off.CAN_CMD_STAT (if j.word.fld 0 4 = 1 then .timeout else .state) (j.word.fld 8 8)
      | none => s

/-- Bus-off (R375). -/
def State.canBusOff (s : State) (n : Nat) : State :=
  let g := s.seg n
  match g.cfg with
  | none => s
  | some c =>
    if g.st != .active then s
    else
      let s := s.satp .can (n - 1) Off.CAN_EVT_DROP g.evtQ.length
      let hist := (s.now :: g.busoffAt).filter fun t => t + c.winS * sec > s.now
      let s := s.updSeg n fun g => { g with evtQ := [], busoffAt := hist, st := .busOff, recovering := false, loaded := [] }
      let s := (s.satp .can (n - 1) Off.CAN_BUSOFFS).irq .can (n - 1) 4
      let s := s.recordGen 0x09 .can (n - 1) Off.CAN_BUSOFFS (s.rdp .can (n - 1) Off.CAN_BUSOFFS)
      if hist.length ≥ c.busoffMax then s.fenceSeg n 1 else s

/-- BUSOFF_HOLD_MS after a bus-off the recovery sequence starts (R375). -/
def State.canHoldExpiry (s : State) (n : Nat) : State :=
  let g := s.seg n
  match g.cfg, g.busoffAt with
  | some c, t :: _ => if g.st == .busOff && s.now ≥ t + c.holdMs * ms then s.updSeg n fun g => { g with recovering := true } else s
  | _, _ => s

/-- The recovery sequence completes (R375): ACTIVE from the next base cycle. -/
def State.canRecovered (s : State) (n : Nat) : State :=
  let g := s.seg n
  if g.st == .busOff && g.recovering then s.updSeg n fun g => { g with recovering := false, nextBase := some s.segLive, tec := 0, rec_ := 0 } else s

/-- The retest of a fenced segment begins, 10 s after the fence or the retest before (R376). -/
def State.canRetest (s : State) (n : Nat) : State :=
  let g := s.seg n
  if g.st == .fenced && g.cause ≠ 4 && s.now ≥ g.fencedAt + 10 * sec && !g.retest then (s.startDetect n true).updSeg n fun g => { g with fencedAt := s.now } else s

/-! CAN.CMD (R381), CAN.CLR (R380) -/

/-- Execute one CAN.CMD; the commands that end with a detection leave their job on the segment. -/
def State.execCanCmd (s : State) (n : Nat) (c : QCmd) : State :=
  let g := s.seg n
  let done := fun (s : State) (e : Err) => s.complete .can (n - 1) Off.CAN_CMD_STAT e (c.word.fld 8 8)
  let op := c.word.fld 0 4
  if op = 1 then
    if s.md.mode != .commission then done s .mode
    else if g.st == .fenced ∨ g.cfg.isNone then done s .state
    else
      let s := s.wrp .can (n - 1) Off.CAN_RATE ((s.rdp .can (n - 1) Off.CAN_RATE).setBit 4 false)
      (s.startDetect n false).updSeg n fun g => { g with job := some c }
  else if op = 2 then
    if !c.priv.ge .service then done s .denied
    else if !(s.md.mode == .commission || s.md.mode == .maintenance) then done s .mode
    else done (s.fenceSeg n 4) .ok
  else if op = 3 then
    if !c.priv.ge .service then done s .denied
    else if !(s.md.mode == .commission || s.md.mode == .maintenance) then done s .mode
    else if g.st != .fenced ∨ g.cause ≠ 4 then done s .state
    else (s.startDetect n true).updSeg n fun g => { g with job := some c }
  else done s .range

/-- Execute waiting CAN.CMDs while none is under way (OP-3). -/
def runCanQueue (n : Nat) : List QCmd → State → State
  | [], s => s.setQueue (Page.reg .can (n - 1) Off.CAN_CMD) []
  | c :: cs, s => if (s.seg n).job.isSome then s.setQueue (Page.reg .can (n - 1) Off.CAN_CMD) (c :: cs) else runCanQueue n cs (s.execCanCmd n c)

/-- Execute what waits in a segment's queue. -/
def State.runCan (s : State) (n : Nat) : State := runCanQueue n (s.queue (Page.reg .can (n - 1) Off.CAN_CMD)) s

/-- CAN.CLR (R380). -/
def State.canClr (s : State) (n : Nat) (v : Word) : State :=
  if v.bit 0 then
    ([Off.CAN_RX_OK, Off.CAN_RX_NOMATCH, Off.CAN_RX_OVF, Off.CAN_TX_OK, Off.CAN_SLOT_LOST, Off.CAN_EVT_DROP, Off.CAN_BUSOFFS, Off.CAN_DLC_ERR].foldl
      (fun s o => s.wrp .can (n - 1) o 0) s).recordClr (Page.reg .can (n - 1) Off.CAN_CLR) v
  else s

/-! Starts, takeover, configuration (R371, R378, R379) -/

/-- Every configured segment starts its detection when the controller leaves BOOT (R371). -/
def State.startSegs (s : State) : State :=
  (List.range s.variant.segments).foldl (fun s k =>
    if (s.seg (k + 1)).cfg.isSome && (s.seg (k + 1)).st != .fenced then (s.updSeg (k + 1) fun g => { g with st := .detecting }).startDetect (k + 1) true else s) s

/-- At takeover the segments in MONITOR become ACTIVE at the next base cycle, marked TAKEOVER (R378). -/
def State.segsTakeover (s : State) : State :=
  (List.range s.variant.segments).foldl (fun s k => s.updSeg (k + 1) fun g =>
    let g := { g with takeover := true }
    if g.st == .monitor then { g with nextBase := some .active } else { g with nextBase := g.nextBase.map fun _ => .active }) s

/-- Without the token the segments monitor (R378). -/
def State.segsStandby (s : State) : State :=
  (List.range s.variant.segments).foldl (fun s k => s.updSeg (k + 1) fun g =>
    if g.st == .active || g.st == .busOff then { g with st := .monitor, nextBase := none, evtQ := [], polQ := [], loaded := [] } else g) s

/-- The configuration of a segment as a profile gives it, at a start or at a switch boundary (R379). -/
def State.applySeg (s : State) (n : Nat) (c : Option CanCfg) (start : Bool) : State :=
  let g := s.seg n
  let txs := match c with
    | some c => (c.sigs.filter (·.num ≥ 512)).map fun d => (g.txs.find? (·.num == d.num)).getD { num := d.num, last := d.safe }
    | none => []
  if start then s.updSeg n fun _ => { cfg := c, txs := txs.map fun x => { x with own := none } }
  else
    let key := fun (x : FrameD) => (x.id, x.ide)
    let newTx := match c with | some c => c.tx.map key | none => []
    let oldTx := match g.cfg with | some c => c.tx | none => []
    let keep := g.evtQ.filterMap fun e => oldTx[e]?.bind fun d => newTx.idxOf? (key d)
    let s := s.satp .can (n - 1) Off.CAN_EVT_DROP (g.evtQ.length - keep.length)
    let place := fun (k : Nat) => match c, g.cfg.bind fun (o : CanCfg) => o.cands[k]? with
      | some c, some r => c.cands.idxOf? r
      | _, _ => none
    let rate := s.rdp .can (n - 1) Off.CAN_RATE
    let lost := c.isSome && ((place g.cand).isNone || (rate.bit 4 && (place (rate.fld 0 4)).isNone))
    let s := match c, place (rate.fld 0 4) with
      | some _, some k => s.wrp .can (n - 1) Off.CAN_RATE (rate.put 0 4 k)
      | _, _ => s
    let s := match c, g.job with
      | none, some j => (s.updSeg n fun g => { g with job := none }).complete .can (n - 1) Off.CAN_CMD_STAT .aborted (j.word.fld 8 8)
      | _, _ => s
    let s := s.updSeg n fun g => { g with
      cfg := c, txs := txs, evtQ := keep, loaded := [], cand := (place g.cand).getD 0, st := if c.isNone then .off else g.st }
    let again := match c, g.cfg with
      | some c, some o => c.cands != o.cands && g.st == .detecting && g.nextBase.isNone
      | _, _ => false
    if (lost || again) && g.st != .fenced && c.isSome then (s.updSeg n fun g => { g with st := .detecting }).startDetect n true else s

/-! Views (R380) -/

/-- Value of offset `o` of page CAN`n`, where it is computed. -/
def State.canPageView (s : State) (n o : Nat) : Option Word :=
  let g := s.seg n
  let c? := g.cfg
  let ofC := fun (f : CanCfg → Word) => some (match c? with | some c => f c | none => 0)
  let sig := (s.rdp .can (n - 1) Off.CAN_SIG_SEL).fld 0 10
  let val := if sig < 512 then (match lookupA sig g.rxVals with | some (v, _) => v | none => zero)
    else if (sigOf g sig).isSome then (s.drivenCan n sig).2 else zero
  if o = Off.CAN_STAT then
    some (w32 (g.tec % 256 + 256 * (g.rec_ % 256) + 65536 * (if g.st == .busOff then 2 else if g.tec ≥ 128 ∨ g.rec_ ≥ 128 then 1 else 0)
      + 2 ^ 18 * b2n g.dataSeen + 2 ^ 19 * b2n g.silent + 2 ^ 20 * g.cause))
  else if o = Off.CAN_BITRATE then (let r := rateOf g; some (if g.st == .off then 0 else w32 (r.nom + 65536 * r.data)))
  else if o = Off.CAN_MATRIX then
    ofC fun c => w32 (c.baseMs + 256 * c.matLen + 65536 * (c.slots.length % 32) + 2 ^ 21 * (c.windows.length % 8) + 2 ^ 24 * b2n c.refEn + 2 ^ 25 * b2n c.master)
  else if o = Off.CAN_ERRCFG then ofC fun c => w32 (c.holdMs + 1024 * c.busoffMax + 65536 * c.winS)
  else if o = Off.CAN_CYCLE then ofC fun c => w32 (g.cycle % max 1 c.matLen + 256 * (g.cycle / max 1 c.matLen % 2 ^ 24))
  else if o = Off.CAN_Q_FILL then some (w32 (g.urgent.length + 65536 * g.bulk.length))
  else if o = Off.CAN_LAST_ERR then some (w32 g.lastErr)
  else if o = Off.CAN_SIG_VAL_LO then some (lo32 val)
  else if o = Off.CAN_SIG_VAL_HI then some (hi32 val)
  else if o = Off.CAN_SIG_STAT then
    if sig < 512 then (let ql := s.rxQual n sig; some (w32 (ql.1.code + 16 * ql.2)))
    else some (w32 (if (sigOf g sig).isSome then 256 + 512 * b2n (s.maskVal (.can n sig)).isSome else 256 + 2 + 16 * 3))
  else if o = Off.CAN_SIG_AGE_MS then
    some (match lookupA sig g.rxVals with | some (_, t) => w32 (min max32 ((s.now - t) / ms)) | none => if sig < 512 then w32 max32 else 0)
  else if 0x100 ≤ o ∧ o < 0x300 then
    ofC fun c => (let f := c.filters.getD ((o - 0x100) / 8) (0, 0); if o % 8 = 0 then f.1 else f.2)
  else if 0x300 ≤ o ∧ o < 0x380 then
    ofC fun c => match c.cands[(o - 0x300) / 8]? with
      | some r => if o % 8 = 0 then w32 (r.nom + 65536 * r.spNom) else w32 (r.data + 65536 * r.spData)
      | none => 0
  else if 0x400 ≤ o ∧ o < 0x500 then
    some (match g.trace[(o - 0x400) / 16]? with
      | some r => match o % 16 / 4 with
        | 0 => w32 (r.frame.id + 2 ^ 29 * b2n r.frame.ide + 2 ^ 30 * b2n r.frame.fdf + 2 ^ 31 * b2n r.frame.brs)
        | 1 => w32 (r.frame.data.length + 256 * r.filter + 2 ^ 14 * b2n r.urgent + 2 ^ 15 * b2n r.frame.esi)
        | 2 => w32 r.ts.s
        | _ => w32 r.ts.ns
      | none => 0)
  else none

end Sys2Proof.Machine
end

