-- ==== Sys2Proof/Machine/Field.lean ====
section
/-!
DEFINITION. Field slices and converters (R270–R294): scan, calibration, references, correction chain, discrete inputs, diagnostics, group fences,
the SLC and ADC pages.
-/
namespace Sys2Proof.Machine
open Sys2Proof.F64

/-- Conversion period in nanoseconds (R272, *Conversion periods*); 0 for a code rejected at load. -/
def convPeriod (code : Nat) : Nat :=
  ([125, 250, 500, 1000, 2000, 5000, 10000, 20000, 40000].getD code 0) * us

/-- Settling bound of a reference (R275, *Settling bounds*). -/
def settleBound (ref : Nat) : Nat := ([8, 4, 2].getD ref 8) * ms

/-- Converter slots a slice takes (R270). -/
def slotsOf (c : SlcCfg) : Nat :=
  if 1 ≤ c.func ∧ c.func ≤ 4 then 1 else if c.func = 5 then (if c.opt1 = 1 then 2 else 1) else 0

/-- The twelve slice numbers of group `g`. -/
def grpSlices (g : Nat) : List Nat := (List.range 12).map (12 * g + 1 + ·)

/-- The scan of group `g`: slice numbers ascending, a two-slot RTD twice (R272). -/
def State.scan (s : State) (g : Nat) : List Nat :=
  (grpSlices g).flatMap fun n => List.replicate (slotsOf (s.slc n).cfg) n

/-- Begin a conversion: REF_SETTLED and the user calibration count as they stand now (R276, R281). -/
def State.beginConv (s : State) (g : Nat) : State :=
  let n := (s.scan g).getD (s.grp g).pos 0
  let o := 0x100 + 0x40 * ((n - 1) % 12)
  s.updGrp g fun x => { x with
    convFrom := s.now, convOk := x.settled, convFault := x.refFault,
    usr := (s.rdp .slc g (o + 0x1C), s.rdp .slc g (o + 0x20)) }

/-- Start the settling check of group `g` (R275): a conversion in progress is no longer GOOD (R276), and REF_FAULT is that of the check before. Log entry 75, DEDUCED. -/
def State.startCheck (s : State) (g : Nat) : State :=
  s.updGrp g fun x => { x with settled := false, refFault := false, convOk := false, checkFrom := s.now, lastMeas := none, faultFrom := none }

/-- Restart the scan at its first slot (R290, R291). -/
def State.restartScan (s : State) (g : Nat) : State :=
  (s.updGrp g fun x => { x with pos := 0, inCal := false, scanFrom := s.now }).beginConv g

/-- A group starts: reference from ADC.CFG, check started, scan from slot 0, inputs without data (R275, R280). -/
def State.startGroup (s : State) (g : Nat) : State :=
  let s := s.updGrp g fun x => { ({} : Grp) with cfg := x.cfg, refUsed := x.cfg.ref, running := true, fencedAt := s.now }
  let s := (grpSlices g).foldl (fun s n => s.updSlc n fun x => { ({} : Slc) with cfg := x.cfg, last := x.last, candAt := s.now }) s
  (s.startCheck g).restartScan g

/-- The converters of the groups in service start when the adapter connects them (R452): the check of the reference first. -/
def State.startConverters (s : State) : State :=
  (List.range s.variant.groups).foldl (fun s g =>
    if (s.grp g).running && (s.grp g).cause.isNone then (s.startCheck g).restartScan g else s) s

/-- The adapter steers this module's converter and modulator inputs to its partner (R452): they are idle. -/
def State.steeredAway (s : State) : Bool := s.md.mode == .standby

/-- The scan ends: ADC.SCAN_US, ADC.SCANS, the next scan begins at once (R272, R273). -/
def State.endScan (s : State) (g : Nat) : State :=
  (s.updGrp g fun x => { x with
    pos := 0, inCal := false, scans := (x.scans + 1) % 2 ^ 32,
    scanUs := (s.now - x.scanFrom) / us, scanFrom := s.now }).beginConv g

/-- A calibration slot ends the scan in progress (R273). -/
def calDue (x : Grp) : Bool := x.cfg.calN != 0 && (x.scans + 1) % x.cfg.calN == 0

/-- The converter moves on after a conversion (R272, R273, R126). -/
def State.nextConv (s : State) (g : Nat) : State :=
  let x := s.grp g
  if x.pos + 1 < (s.scan g).length then (s.updGrp g fun x => { x with pos := x.pos + 1 }).beginConv g
  else if calDue x && x.settled then (s.updGrp g fun x => { x with inCal := true }).beginConv g
  else s.endScan g

/-- The points of station 0000 that mirror slice Sn take its value, quality and stamp (R15, R132, R280, R594). -/
def State.mirrorSlc (s : State) (n : Nat) : State :=
  let x := s.slc n
  s.net.mirrors.foldl (fun s m => if m.1 == .slice n then s.localPoint m.2 x.val x.qual x.ts else s) s

/-- Fence group `g` (R287): a further cause leaves the first, except HOST (log entry 16, DEDUCED); a self-test that fails in BOOT fences the group as it starts. -/
def State.fenceGroup (s : State) (g cause : Nat) : State :=
  if !(Page.present s.variant .slc g) then s
  else if !(s.grp g).running then (if cause = 6 && s.md.mode == .boot then s.updGrp g fun x => { x with cause := some 6 } else s)
  else match (s.grp g).cause with
  | some _ => if cause = 5 then s.updGrp g fun x => { x with cause := some 5 } else s
  | none =>
    let s := s.updGrp g fun x => { x with cause := some cause, fencedAt := s.now, fences := satAdd 65535 x.fences 1, inCal := false }
    let s := (grpSlices g).foldl (fun s n => s.updSlc n fun x =>
      if x.cfg.func = 0 ∨ isOut x.cfg.func ∨ x.cfg.func = 0xF then x else { x with qual := .bad, reason := 6, lead := none }) s
    let s := (grpSlices g).foldl (fun s n => s.mirrorSlc n) s
    let s := ((s.satp .slc g Off.SLC_FENCES).irq .slc g 1).record 0x0601 (w32 g) (w32 cause) 0
    s.trigger .unit

/-- Unfence group `g` (R290): scan and settling restart, outputs keep their fault values until their owner's next release, inputs
are debounced anew; the calibrations of the retest passed (R274, R289). -/
def State.unfenceGroup (s : State) (g : Nat) : State :=
  match (s.grp g).cause with
  | none => s
  | some c =>
    let s := s.updGrp g fun x => { x with cause := none, retesting := false, calRun := 0 }
    let s := (grpSlices g).foldl (fun s n => s.updSlc n fun x =>
      if isOut x.cfg.func && !isSdo x.cfg.func then { x with held := true } else { x with candAt := s.now }) s
    let s := (s.startCheck g).restartScan g
    ((s.irq .slc g 2).record 0x0602 (w32 g) (w32 c) 0).trigger .unit

/-! Conversions -/

/-- Nominal range of an input function (R573), in the unit its quality is judged in; none for functions without one. -/
def nominal (c : SlcCfg) : Option (F × F) :=
  match c.func with
  | 1 => some (zero, ofNat 10)
  | 2 => some (ofInt (-10), ofNat 10)
  | 3 => some (zero, ofNat 20)
  | 4 => some (ofNat 4, ofNat 20)
  | 5 => some (ofInt (-200), ofNat (if c.opt0 then 600 else 850))
  | _ => none

/-- Quality and reason of a finite value against the nominal range (R280). -/
def gradeOf (c : SlcCfg) (v : F) : Qual × Nat :=
  match nominal c with
  | none => (.good, 0)
  | some (lo, hi) =>
    let tol := div (mul (sub hi lo) (ofNat 5)) (ofNat 100)
    if c.func = 4 && lt v (q 36 10) then (.bad, 2)
    else if lt hi v then (if lt (add hi tol) v then .bad else .uncertain, 1)
    else if lt v lo then (if lt v (sub lo tol) then .bad else .uncertain, 2)
    else (.good, 0)

/-- A 24-bit code as a number. -/
def code24 (w : Word) : Int := let n := w.fld 0 24; if n < 2 ^ 23 then n else (n : Int) - 2 ^ 24

/-- A code as SLC.RAW shows it, sign-extended (R292). -/
def rawWord (w : Word) : Word := sw32 (code24 w)

/-- CAL_ZERO or CAL_GAIN in use: the mean of the last two results of the kind (R273). -/
def calVal (g kind : Nat) (xs : List Word64) : F := if xs.isEmpty then Config.cal0 g kind else mean xs

/-- The first two stages of the chain (R278): self-calibration and factory, from the converter's or decimator's value. -/
def State.factoryStage (n : Nat) (c : SlcCfg) (x : F) : F :=
  let opt := b2n c.opt0 + 2 * c.opt1
  mul (sub x (Config.fOfs n c.func opt)) (Config.fGain n c.func opt)

/-- The stages from `xf` on (R278): linearised value and engineering value. -/
def userStages (c : SlcCfg) (usr : Word × Word) (xf : F) : F × F :=
  let xu := mul (sub xf (ofF32 usr.1)) (ofF32 usr.2)
  let xl := if c.func = 5 then Config.t90 (b2n c.opt0) xu else xu
  (xl, add (mul (ofF32 c.engScale) xl) (ofF32 c.engOfs))

/-- Load a new input value with its quality (R280): a BAD one leaves SLC.VAL. -/
def State.loadInput (s : State) (n : Nat) (val : F) (raw : Word) (ql : Qual) (reason : Nat) : State :=
  (s.updSlc n fun x => { x with val := if ql == .bad then x.val else val, raw := raw, qual := ql, reason := reason, ts := s.time64At s.now, at_ := some s.now, lead := none }).mirrorSlc n

/-- The conversion of a slice completes (R276, R278, R280; log entry 17, DEDUCED for the order of the conditions). -/
def State.convValue (s : State) (g n : Nat) (code : Word) (wire ovc : Bool) : State :=
  let x := s.grp g
  let sl := s.slc n
  let c := sl.cfg
  let cx := mul (sub (ofInt (code24 code)) (calVal g 0 x.zeros)) (calVal g 1 x.gains)
  let xf := State.factoryStage n c cx
  let two := slotsOf c == 2
  let first := two && (x.pos + 1 < (s.scan g).length) && (s.scan g).getD (x.pos + 1) 0 == n
  if first then s.updSlc n fun y => { y with raw := rawWord code, lead := if x.convOk then some xf else none }
  else
    let xf' := match sl.lead with | some m => if two then sub m xf else xf | none => xf
    let ok := x.convOk && (!two || sl.lead.isSome)
    let (xl, val) := userStages c x.usr xf'
    let raw := rawWord code
    if !ok then s.loadInput n val raw .bad (if x.convFault then 5 else 4)
    else if ovc && c.opt0 && (c.func == 3 || c.func == 4) then s.loadInput n val raw .bad 7
    else if wire && (c.func == 3 || c.func == 4 || c.func == 5) then s.loadInput n val raw .bad 3
    else if !fin val then s.loadInput n val raw .bad 1
    else
      let (ql, why) := gradeOf c xl
      s.loadInput n val raw ql why

/-- A conversion of group `g` ends (R272, R287 for one that lasts beyond 2 × P). -/
def State.conversionEnd (s : State) (g : Nat) (code : Word) (wire ovc : Bool) : State :=
  let x := s.grp g
  let sc := s.scan g
  if !x.running || x.cause.isSome || sc.isEmpty || x.inCal || s.steeredAway then s
  else if s.now > x.convFrom + 2 * convPeriod x.cfg.period then s.fenceGroup g 3
  else (s.convValue g (sc.getD x.pos 0) code wire ovc).nextConv g

/-- The calibration slot ends (R273, R274, R126): odd slots measure zero, even slots the reference. -/
def State.calibrationSlot (s : State) (g : Nat) (res : Word64) (inWindow : Bool) : State :=
  let x := s.grp g
  if !x.running || x.cause.isSome || !x.inCal || s.steeredAway then s
  else if s.now > x.convFrom + 2 * convPeriod x.cfg.period then s.fenceGroup g 3
  else
    let keep := fun (xs : List Word64) => (res :: xs).take 2
    if inWindow then
      let s := s.updGrp g fun x => { x with
        zeros := if x.calNo % 2 = 1 then keep x.zeros else x.zeros
        gains := if x.calNo % 2 = 0 then keep x.gains else x.gains
        calNo := x.calNo + 1, calRun := 0 }
      (s.modp .adc g Off.ADC_CAL_DONE).endScan g
    else
      let s := s.updGrp g fun x => { x with calNo := x.calNo + 1, calRun := satAdd 255 x.calRun 1 }
      let s := ((s.satp .adc g Off.ADC_CAL_FAIL).irq .adc g 2).endScan g
      if (s.grp g).calRun ≥ 3 then s.fenceGroup g 3 else s

/-- Two reference measurements agree within 20 ppm (R275), taken relative to the later one. -/
def agree20 (a b : Nat) : Bool := (if a ≤ b then b - a else a - b) * 1000000 ≤ 20 * b

/-- A reference measurement of the settling check (R275, R276). -/
def State.settleCheck (s : State) (g meas : Nat) : State :=
  let x := s.grp g
  if !x.running || x.cause.isSome || x.settled || s.steeredAway then s
  else match x.lastMeas with
  | some a =>
    if agree20 a meas then
      (s.updGrp g fun x => { x with
        settled := true, refFault := false, faultFrom := none, lastMeas := none,
        settleUs := (s.now - x.checkFrom) / us }).irq .adc g 1
    else
      let s := s.updGrp g fun x => { x with lastMeas := some meas }
      match x.faultFrom with
      | some f => if x.refUsed = 0 ∧ s.now ≥ f + sec then s.fenceGroup g 3 else s
      | none => s
  | none => s.updGrp g fun x => { x with lastMeas := some meas }

/-- The settling bound passes (R276). -/
def State.settleTimeout (s : State) (g : Nat) : State :=
  let x := s.grp g
  if !x.running || x.cause.isSome || x.settled || s.steeredAway || s.now < x.checkFrom + settleBound x.refUsed then s
  else (s.updGrp g fun x => { x with refFault := true, faultFrom := some (x.faultFrom.getD s.now) }).irq .adc g 3

/-! Discrete inputs (R282), modulators (R283) -/

/-- The slice is sampled by the group's isolated logic every 10 µs: DI, SDI, CNT (R271). -/
def sampledDI (f : Nat) : Bool := f == 7 || f == 8 || f == 9

/-- A sample that falls into a test pulse or the 40 µs after it is left out of a tested SDI's debounced state (R433). -/
def inPulse (now : Nat) (low : List Nat) : Bool := low.any fun t => t ≤ now && now < t + 440 * us

/-- A tested SDI (R433). -/
def State.testedSdi (s : State) (n : Nat) : Bool := s.safe.cfg.slcs.any fun c => c.slice == n && c.func == 8 && c.tested

/-- One sample of slice Sn (R282): the level, debounced over FILT_MS; an accepted edge counts on a CNT slice; the value and quality of a frequency come with its
gate; a sensor supply over current makes the input BAD at once and leaves SLC.VAL (R280). -/
def State.sampleDI (s : State) (n : Nat) (level ovc : Bool) : State :=
  let x := s.slc n
  let c := x.cfg
  if !sampledDI c.func then s
  else if s.testedSdi n && inPulse s.now (s.grp (grpOf n)).tpLow then s
  else
    let s := if x.cand == level then s else s.updSlc n fun y => { y with cand := level, candAt := s.now }
    let x := s.slc n
    if s.now - x.candAt < c.filtMs * ms then (if ovc then (s.updSlc n fun y => { y with qual := .bad, reason := 7 }).mirrorSlc n else s)
    else
      let cnt := c.func == 9
      let edge := cnt && x.at_.isSome && x.lvl != level && (if c.opt1 % 2 = 1 then !level else level)
      let count := if edge then (x.count + 1) % 2 ^ 32 else x.count
      let hold := cnt && c.opt0 && !ovc
      (s.updSlc n fun y => { y with
        lvl := level, raw := if cnt then 0 else w32 (b2n level), count := count
        val := if ovc || (cnt && c.opt0) then y.val else if cnt then ofNat count else ofNat (b2n level)
        qual := if ovc then .bad else if hold then y.qual else .good, reason := if ovc then 7 else if hold then y.reason else 0
        ts := s.time64At s.now, at_ := some s.now
        gateN := if edge then y.gateN + 1 else y.gateN, gateT0 := if edge && y.gateN = 0 then s.now else y.gateT0
        gateT1 := if edge then s.now else y.gateT1 }).mirrorSlc n

/-- One sample instant of group `g` (R271): a level and an over-current bit for each slice j of the group. -/
def State.sampleGroup (s : State) (g levels ovc : Nat) : State :=
  if !(s.grp g).running || (s.grp g).cause.isSome then s
  else (List.range 12).foldl (fun s j => s.sampleDI (12 * g + j + 1) (levels.testBit j) (ovc.testBit j)) s

/-- The frequency gate of a CNT slice ends (R282): edges divided by the time from the first to the last of them. -/
def State.cntGate (s : State) (n : Nat) : State :=
  let x := s.slc n
  if x.cfg.func ≠ 9 ∨ !x.cfg.opt0 ∨ (s.grp (grpOf n)).cause.isSome then s
  else
    let f := if x.gateN < 2 ∨ x.gateT1 ≤ x.gateT0 then zero else div (mul (ofNat x.gateN) (ofNat sec)) (ofNat (x.gateT1 - x.gateT0))
    (s.updSlc n fun y => { y with val := f, qual := .good, reason := 0, gateN := 0, ts := s.time64At s.now, at_ := some s.now }).mirrorSlc n

/-- A millisecond frame of a MOD slice ends (R283): the mean of its 80 samples through the chain; `stuck` for a bitstream without a transition. -/
def State.modFrame (s : State) (n : Nat) (samples : List Int) (stuck : Bool) : State :=
  let x := s.slc n
  let g := grpOf n
  if x.cfg.func ≠ 6 ∨ !(s.grp g).running ∨ (s.grp g).cause.isSome ∨ s.steeredAway then s
  else
    let o := 0x100 + 0x40 * ((n - 1) % 12)
    let xf := State.factoryStage n x.cfg (mean (samples.map ofInt))
    let (_, val) := userStages x.cfg (s.rdp .slc g (o + 0x1C), s.rdp .slc g (o + 0x20)) xf
    if stuck then s.loadInput n val 0 .bad 9
    else if !fin val then s.loadInput n val 0 .bad 1
    else s.loadInput n val 0 .good 0

/-! Diagnostics (R284), test pulses (R286) -/

/-- Offset of the block of slice Sn in its page (R292). -/
def slcOff (n o : Nat) : Nat := 0x100 + 0x40 * ((n - 1) % 12) + o

/-- An output at its current limit switches off (R284). -/
def State.overcurrent (s : State) (n : Nat) : State :=
  let f := (s.slc n).cfg.func
  let g := grpOf n
  if n = 0 ∨ !(f == 0xA || f == 0xB || f == 0xC || f == 0xF) ∨ !Page.present s.variant .slc g then s
  else
    let s := s.updSlc n fun x => { x with tripped := true, tripAt := s.now, reason := 7 }
    (s.satf .slc g (slcOff n 0x3C) 0 16).irq .slc g 3

/-- The readback lies outside the tolerance of R573 ff. around the driven value: SDO on from 15 V, off to 5 V; AO 0.5 % of span. -/
def rbWrong (f : Nat) (driven rb : F) : Bool :=
  if isSdo f then (if isZ driven then lt (ofNat 5) rb else lt rb (ofNat 15))
  else lt (if f = 0xD then q 5 100 else q 8 100) (abs (sub rb driven))

/-- A readback that has differed for 2 ms, or agrees again (R284). Log entry 75, DEDUCED. -/
def State.readback (s : State) (n : Nat) (rb : Word) : State :=
  let f := (s.slc n).cfg.func
  let g := grpOf n
  if n = 0 ∨ !(isSdo f || f == 0xD || f == 0xE) ∨ !Page.present s.variant .slc g then s
  else
    let s := s.updSlc n fun x => { x with rb := rb }
    let o := slcOff n 0x3C
    if rbWrong f (s.terminal n) (ofF32 rb) then
      let s := s.updSlc n fun x => { x with reason := 8 }
      ((s.satf .slc g o 16 15).putf .slc g o 31 1 1).irq .slc g 3
    else s.putf .slc g o 31 1 0

/-- A test-pulse supply falls to 0 V in every group (R286): 0 TPA, 1 TPB. -/
def State.testPulse (s : State) (b : Bool) : State :=
  { s with fld := { s.fld with grps := s.fld.grps.map fun x =>
      { x with tpLow := if b then [x.tpLow.getD 0 0, s.now] else [s.now, x.tpLow.getD 1 0] } } }

/-! Fence commands, retests (R289, R293) -/

/-- The modes of FENCE, UNFENCE, SET_REF and user calibration. -/
def commMaint (m : Mode) : Bool := m == .commission || m == .maintenance

/-- All four conditions hold. -/
def retestPass (r : Retest) : Bool := r.supply && r.frames && r.cal && r.rb

/-- Execute the SLC.CMD queue of group `g` up to an UNFENCE that needs a retest (R293); the result of one, where it is known, is `r`. -/
def runSlcQueue (g : Nat) (r : Option Retest) : List QCmd → State → State
  | [], s => s.setQueue (Page.reg .slc g Off.SLC_CMD) []
  | c :: cs, s =>
    let done := fun (s : State) (e : Err) => s.complete .slc g Off.SLC_CMD_STAT e (c.word.fld 8 8) 4
    let op := c.word.fld 0 4
    if op ≠ 1 ∧ op ≠ 2 then runSlcQueue g r cs (done s .range)
    else if !c.priv.ge .service then runSlcQueue g r cs (done s .denied)
    else if !commMaint s.md.mode then runSlcQueue g r cs (done s .mode)
    else if op = 1 then runSlcQueue g r cs (done (s.fenceGroup g 5) .ok)
    else if (s.grp g).cause ≠ some 5 then runSlcQueue g r cs (done s .state)
    else match r with
      | none => s.setQueue (Page.reg .slc g Off.SLC_CMD) (c :: cs)
      | some x => if retestPass x then runSlcQueue g r cs (done (s.unfenceGroup g) .ok) else runSlcQueue g none cs (done s .state)

/-- A retest of group `g` (R289): 10 s after the fence or the retest before, for every cause but HOST, and for an UNFENCE that waits for it. -/
def State.groupRetest (s : State) (g : Nat) (r : Retest) : State :=
  let x := s.grp g
  match x.cause with
  | none => s
  | some 5 => runSlcQueue g (some r) (s.queue (Page.reg .slc g Off.SLC_CMD)) s
  | some _ => if s.now < x.fencedAt + 10 * sec then s else if retestPass r then s.unfenceGroup g else s.updGrp g fun x => { x with fencedAt := s.now }

/-! Register writes of the SLC and ADC pages -/

/-- Nominal span that R281 refers a user offset to; zero for functions without one (log entry 18, DEDUCED). -/
def nominalSpan (c : SlcCfg) : F :=
  if c.func = 5 then (if c.opt0 then q 295188 100 else q 37196 100)
  else if c.func = 0xD then ofNat 10
  else if c.func = 0xE then ofNat 16
  else match nominal c with
  | some (lo, hi) => sub hi lo
  | none => zero

/-- A write to USR_OFS or USR_GAIN of slice Sn (R281). -/
def State.usrCal (s : State) (n : Nat) (gain : Bool) (v : Word) : Err × State :=
  let x := ofF32 v
  let ok := fin x && (if gain then le (q 9 10) x && le x (q 11 10) else le (mul (ofNat 100) (abs x)) (mul (ofNat 5) (nominalSpan (s.slc n).cfg)))
  if !ok then (.range, s)
  else
    let o := slcOff n (if gain then 0x20 else 0x1C)
    let old := s.rdp .slc (grpOf n) o
    (.ok, (s.wrp .slc (grpOf n) o v).recordCfg (Page.reg .slc (grpOf n) o) old v)

/-- SLC.CLR (R292): the counters go to zero, DIAG[RB_MISMATCH] tells what is now. -/
def State.slcClr (s : State) (g : Nat) (v : Word) : State :=
  let s := if v.bit 0 then (grpSlices g).foldl (fun s n => s.wrp .slc g (slcOff n 0x3C) (s.rdp .slc g (slcOff n 0x3C) &&& 0x80000000)) (s.wrp .slc g Off.SLC_FENCES 0) else s
  if v.bit 0 then s.recordClr (Page.reg .slc g Off.SLC_CLR) v else s

/-- ADC.CLR (R294). -/
def State.adcClr (s : State) (g : Nat) (v : Word) : State :=
  if v.bit 0 then ((s.wrp .adc g Off.ADC_CAL_DONE 0).wrp .adc g Off.ADC_CAL_FAIL 0).recordClr (Page.reg .adc g Off.ADC_CLR) v else s

/-- Switch the reference of group `g` (R275, R277, R291): a calibration in progress is discarded and the scan ends without it. -/
def State.setRef (s : State) (g ref : Nat) : State :=
  if (s.grp g).refUsed = ref then s
  else
    let s := (s.updGrp g fun x => { x with refUsed := ref }).startCheck g
    if (s.grp g).inCal then s.endScan g else s

/-- Execute an ADC.CMD (R294). -/
def State.execAdcCmd (s : State) (g : Nat) (c : QCmd) : State :=
  let ref := c.word.fld 4 2
  let r : Err × State :=
    if c.word.fld 0 4 ≠ 1 ∨ ref = 3 then (.range, s)
    else if !c.priv.ge .config then (.denied, s)
    else if !commMaint s.md.mode then (.mode, s)
    else if ref = 1 ∧ (s.slc (12 * g + 12)).cfg.func ≠ 0 then (.state, s)
    else (.ok, s.setRef g ref)
  r.2.complete .adc g Off.ADC_CMD_STAT r.1 (c.word.fld 8 8) 4

/-! A new configuration (R291) -/

/-- Apply the slice and converter configuration of a profile at a start or a switch boundary (R275, R291, R292). -/
def State.applyField (s : State) (cfgs : List SlcCfg) (adcs : List AdcCfg) (start : Bool) : State :=
  let old := s
  let s := (List.range 48).foldl (fun (s : State) k =>
    let x := s.slc (k + 1)
    let c := if x.cfg.safety then { x.cfg with owned := false } else cfgs.getD k {}
    if !start && x.cfg.func == c.func && x.cfg.opt0 == c.opt0 && x.cfg.opt1 == c.opt1 then s.updSlc (k + 1) fun y => { y with cfg := c }
    else
      let why := if (s.grp (grpOf (k + 1))).cause.isSome && c.func != 0 && !isOut c.func && c.func != 0xF then 6 else 0xA
      let s := s.updSlc (k + 1) fun y => { ({} : Slc) with cfg := c, last := y.last, candAt := s.now, reason := why }
      if start then s else s.mirrorSlc (k + 1)) s
  (List.range 4).foldl (fun (s : State) g =>
    let a := adcs.getD g {}
    let b := (old.grp g).cfg
    let s := s.updGrp g fun x => { x with cfg := a }
    if start then s
    else
      let s := if (s.grp g).refUsed ≠ a.ref then s.setRef g a.ref else s
      if b.period ≠ a.period ∨ b.ref ≠ a.ref ∨ old.scan g ≠ s.scan g then s.restartScan g else s) s

/-! Register views (R292, R294) -/

/-- SLC.FUNC of a slice. -/
def slcFuncWord (c : SlcCfg) : Word :=
  w32 (c.func + 16 * b2n c.opt0 + 32 * c.opt1 + 256 * b2n c.safety + 512 * b2n c.owned + 65536 * c.filtMs)

/-- DEENERG of SLC.STAT: an output that stands de-energised, or supplies off with the CTL domain or the token (R285, R292). -/
def State.slcDeenerg (s : State) (n : Nat) : Bool :=
  let x := s.slc n
  x.cfg.func == 0 || !(s.grp (grpOf n)).running || s.gated || x.tripped || (isSdo x.cfg.func && !s.safe.sdo.contains n) ||
    (isOut x.cfg.func && !isSdo x.cfg.func && s.md.mode == .commission && (s.maskVal (.slice n)).isNone)

/-- Value of offset `o` of the block of slice Sn, where it is computed. -/
def State.slcView (s : State) (n o : Nat) : Option Word :=
  let x := s.slc n
  let v := if isOut x.cfg.func then s.terminal n else x.val
  match o with
  | 0x00 => some (slcFuncWord x.cfg)
  | 0x04 => some (w32 (x.qual.code + 16 * x.reason + 256 * b2n x.tripped + 512 * b2n (s.slcDeenerg n)))
  | 0x08 => some (lo32 v)
  | 0x0C => some (hi32 v)
  | 0x10 => some x.raw
  | 0x14 => some (w32 x.ts.s)
  | 0x18 => some (w32 x.ts.ns)
  | 0x24 => some x.cfg.engScale
  | 0x28 => some x.cfg.engOfs
  | 0x2C => some x.cfg.faultVal
  | 0x30 => some (if (s.rdp .slc (grpOf n) (slcOff n 0x3C)).bit 31 then x.rb
      else if isSdo x.cfg.func || x.cfg.func == 0xD || x.cfg.func == 0xE then Config.measure (Page.reg .slc (grpOf n) (slcOff n 0x30)) s.now else 0)
  | 0x34 => some (w32 x.count)
  | 0x38 => some (w32 x.cfg.param)
  | _ => none

/-- Value of offset `o` of SLC page `g`, where it is computed. -/
def State.slcPageView (s : State) (g o : Nat) : Option Word :=
  let x := s.grp g
  if o = Off.SLC_GSTAT then some (w32 (b2n x.cause.isSome + 2 * b2n x.retesting + 16 * x.cause.getD 0 + 65536 * x.fences))
  else if o = Off.SLC_TP_CFG then some (w32 (s.fld.tpMs + 65536 * s.fld.tpUse))
  else if o = Off.SLC_FIELD_MA then some (Config.measure (Page.reg .slc g o) s.now &&& 0xFFFF)
  else if 0x100 ≤ o ∧ o < 0x400 then s.slcView (12 * g + (o - 0x100) / 0x40 + 1) ((o - 0x100) % 0x40)
  else none

/-- PAGE_STAT[STATE] of SLC page `g` (R292). -/
def State.slcPageState (s : State) (g : Nat) : Nat :=
  let x := s.grp g
  if x.retesting then 2 else if x.cause.isSome then 1 else if !x.running || s.gated || s.md.mode == .commission then 3 else 0

/-- The converter of group `g` scans: it runs, is not fenced and has slots. -/
def State.scanning (s : State) (g : Nat) : Bool := (s.grp g).running && (s.grp g).cause.isNone && !(s.scan g).isEmpty

/-- Value of offset `o` of ADC page `g`, where it is computed. -/
def State.adcPageView (s : State) (g o : Nat) : Option Word :=
  let x := s.grp g
  if o = Off.ADC_CFG then some (w32 (x.cfg.period + 16 * x.cfg.ref + 256 * x.cfg.calN))
  else if o = Off.ADC_STAT then
    some (w32 (b2n x.settled + 2 * b2n x.refFault + 4 * x.refUsed + 16 * b2n (calDue x && s.scanning g) + 32 * b2n (s.scanning g) + 256 * (s.scan g).length + 65536 * x.calRun))
  else if o = Off.ADC_SCAN_US then some (w32 (x.scanUs % 2 ^ 20))
  else if o = Off.ADC_SCANS then some (w32 x.scans)
  else if o = Off.ADC_SETTLE_US then some (w32 (x.settleUs % 65536))
  else none

/-- PAGE_STAT[STATE] of ADC page `g` (R294). -/
def State.adcPageState (s : State) (g : Nat) : Nat :=
  if !s.scanning g then 0 else if (s.grp g).refFault then 3 else if (s.grp g).settled then 1 else 2

end Sys2Proof.Machine
end

