-- ==== Sys2Proof/Machine/Exchange.lean ====
section
/-!
DEFINITION. The hand-offs of R15 that several engines share: sources read with quality and age (R245), and the release of an epoch's outputs in
its output groups (R92, R93).
-/
namespace Sys2Proof.Machine
open Sys2Proof.F64

/-- An age no consumer accepts, for a source that has never had a value. -/
def neverAge : Nat := 2 ^ 63

/-- Slice Sn as a source: SLC.VAL with its quality, aged from the end of the conversion (R245). -/
def State.slcSrc (s : State) (n : Nat) : Src :=
  let x := s.slc n
  if isOut x.cfg.func then ⟨s.terminal n, .good, 0⟩
  else ⟨x.val, x.qual, match x.at_ with | some t => s.now - t | none => neverAge⟩

/-- A pulse-frequency slice as a source (R245, R282). -/
def State.slcFreq (s : State) (n : Nat) : Src := s.slcSrc n

/-- A CAN signal as a source, aged from the end of the frame (R245, R362). -/
def State.canSrc (s : State) (n sig : Nat) : Src :=
  match lookupA sig (s.seg n).rxVals with
  | some (v, t) => ⟨v, (s.rxQual n sig).1, s.now - t⟩
  | none => ⟨zero, .bad, neverAge⟩

/-- A point's value of one version, as binary64 with its quality. -/
def State.ptRead (s : State) (pts : List Pt) (st l : Nat) : Option (F × Qual × Nat) :=
  match pts.find? (·.idx == l), s.ptCfg st l with
  | some p, some c => some (ptNum c.typ p.val, p.qual, p.at_)
  | _, _ => none

/-- A point as a source, aged from the point-ingest commit (R245); an index outside the table is BAD (R9, R135). -/
def State.ptSrc (s : State) (i : Nat) : Src :=
  match s.stn? (ptStation i) with
  | none => ⟨zero, .bad, neverAge⟩
  | some x => match s.ptRead x.pts (ptStation i) (ptLocal i) with
    | some (v, ql, t) => ⟨v, ql, s.now - t⟩
    | none => ⟨zero, .bad, neverAge⟩

/-- A release to slice group `g` (R93, R285, R290): the owners' values stand; a fenced group's release is discarded and counted; a release that
commands a tripped output on, 1 s or more after the trip, turns it on again (R284). -/
def State.releaseSlcs (s : State) (g : Nat) (vals : List (Nat × F)) : State :=
  let fenced := (s.grp g).cause.isSome
  let s := vals.foldl (fun s p => s.updSlc p.1 fun x =>
    let x := { x with own := some p.2, last := p.2 }
    if fenced then x
    else
      let x := { x with held := false }
      if x.tripped && !isZ p.2 && s.now ≥ x.tripAt + sec then { x with tripped := false, reason := 0 } else x) s
  if fenced then s.satp .ord 0 Off.ORD_REL_DROP else s

/-- Note what an owner committed where the mode releases nothing: in shadow and in COMMISSION (R60). -/
def State.noteOwn (s : State) (t : Target) (v : F) : State :=
  match t with
  | .slice n => s.updSlc n fun x => { x with own := some v }
  | .can n sig => s.updSeg n fun g => { g with txs := g.txs.map fun x => if x.num == sig then { x with own := some v } else x }
  | .point i => s.updStn (ptStation i) fun x => { x with outs := x.outs.map fun o => if o.idx == ptLocal i then { o with own := some v } else o }

/-- The slice values of group `g` among an epoch's outputs. -/
def slcPart (g : Nat) (os : List (Target × F)) : List (Nat × F) :=
  os.filterMap fun o => match o.1 with | .slice n => if n ≠ 0 ∧ grpOf n = g then some (n, o.2) else none | _ => none
/-- The signal values of segment `n` among an epoch's outputs. -/
def canPart (n : Nat) (os : List (Target × F)) : List (Nat × F) :=
  os.filterMap fun o => match o.1 with | .can k sig => if k = n then some (sig, o.2) else none | _ => none
/-- The point values of a station among an epoch's outputs, by local index. -/
def ptPart (st : Nat) (os : List (Target × F)) : List (Nat × F) :=
  os.filterMap fun o => match o.1 with | .point i => if ptStation i = st then some (ptLocal i, o.2) else none | _ => none
/-- The stations among an epoch's outputs. -/
def stationsOf (os : List (Target × F)) : List Nat :=
  (os.filterMap fun o => match o.1 with | .point i => some (ptStation i) | _ => none).eraseDups

/-- Release an epoch's outputs in the output groups of R92, in their order. -/
def State.releaseOuts (s : State) (os : List (Target × F)) : State :=
  if !s.md.mode.drives then os.foldl (fun s o => s.noteOwn o.1 o.2) s
  else
    let s := (List.range 4).foldl (fun s g => let p := slcPart g os; if p.isEmpty then s else s.releaseSlcs g p) s
    let s := (List.range 6).foldl (fun s k => let p := canPart (k + 1) os; if p.isEmpty then s else s.releaseCan (k + 1) p) s
    (stationsOf os).foldl (fun s st => s.releasePts st (ptPart st os)) s

/-- Release one output. -/
def State.commitOut (s : State) (t : Target) (v : F) : State := s.releaseOuts [(t, v)]

/-- In STANDBY an epoch runs on mirrored inputs that have all arrived, or is skipped and counted (R460); elsewhere it runs on the module's own. -/
def State.shadowInputs (s : State) (e : Eng) : Bool × State :=
  if s.md.mode != .standby then (true, s)
  else if s.pair.arrived.contains e then (true, { s with pair := { s.pair with arrived := s.pair.arrived.erase e, ran := (s.pair.ran.erase e) ++ [e] } })
  else (false, { s with pair := { s.pair with ran := s.pair.ran.erase e, skipped := s.pair.skipped + 1 } })

/-- Forget what an owner committed, at its start (R596). -/
def State.dropOwn (s : State) (t : Target) : State :=
  match t with
  | .slice n => s.updSlc n fun x => { x with own := none }
  | .can n sig => s.updSeg n fun g => { g with txs := g.txs.map fun x => if x.num == sig then { x with own := none } else x }
  | .point i => s.updStn (ptStation i) fun x => { x with outs := x.outs.map fun o => if o.idx == ptLocal i then { o with own := none } else o }

end Sys2Proof.Machine
end

