-- ==== Sys2Proof/Machine/Ord.lean ====
section
/-!
DEFINITION. Epochs and making good (R88–R110): writes on their way to an engine, barriers, the making-good procedure with its limit, the ORD page.
-/
namespace Sys2Proof.Machine

/-! Writes and barriers (R94, R108, R590) -/

/-- A write accepted before `t` leaves the list when the epoch start of `e` serves it. -/
def pendServed (e : Eng) (t : Nat) (w : PendWrite) : Option PendWrite :=
  if !w.engs.contains e || w.at_ ≥ t then some w
  else if w.first then none
  else
    let r := w.engs.erase e
    if r.isEmpty then none else some { w with engs := r }

/-- An epoch of engine `e` that starts at the instant `t`: writes accepted before reach it (R94, R244). -/
def State.reachedAt (s : State) (e : Eng) (t : Nat) : State :=
  { s with ord := { s.ord with pend := s.ord.pend.filterMap (pendServed e t) } }

/-- An epoch of engine `e` starts: what has been accepted reaches it (R94). -/
def State.reached (s : State) (e : Eng) : State := s.reachedAt e (s.now + 1)

/-- The instances whose epochs a register's writes await (R590), and whether the first of them serves; none on a direct page. -/
def State.pageEngines (s : State) (p : Page) (i o : Nat) : List Eng × Bool :=
  let loops := fun (ns : List Nat) => (ns.filter fun n => match s.lp.loops[n]? with | some l => l.cfg.isSome && l.running | none => false).map Eng.loop
  let slots := ((List.range 8).filter fun k => match s.slv.slots[k]? with | some x => x.started | none => false).map Eng.slot
  let tasks := (List.range 16).filter fun n => match s.prg.tasks[n]? with | some x => x.running | none => false
  match p with
  | .loop =>
    if 0x100 ≤ o ∧ o < 0xD00 then (loops [8 * i + (o - 0x100) / 0x180], false) else (loops ((List.range 8).map (8 * i + ·)), true)
  | .lcap =>
    if 0x100 ≤ o then ([], false)
    else if Off.LCAP_CFG0 ≤ o ∧ o < Off.LCAP_CFG0 + 16 then (loops [(s.rdp .lcap 0 o).fld 0 6], false)
    else (loops ((s.lp.caps.filter fun c => c.st == .armed || c.st == .running).map (·.loop)).eraseDups, true)
  | .mtr | .pq | .heat | .pulse => ([.metering], false)
  | .prg => if 0x100 ≤ o ∧ o < 0x300 then ((tasks.filter (· == (o - 0x100) / 0x20)).map Eng.task, false) else (tasks.map Eng.task, false)
  | .slot => (slots.filter (· == .slot i), false)
  | .slv | .sdata => (slots, false)
  | .safe | .pol => if s.variant.safety then ([.safety], false) else ([], false)
  | _ => ([], false)

/-- Note an accepted write that is on its way to an engine. -/
def State.notePend (s : State) (sess : Nat) (p : Page) (i o : Nat) : State :=
  let (es, first) := s.pageEngines p i o
  if es.isEmpty || s.ord.pend.contains ⟨sess, es, first, s.now⟩ then s
  else { s with ord := { s.ord with pend := s.ord.pend ++ [⟨sess, es, first, s.now⟩] } }

/-- Every earlier write of the session has reached its engine (R108). -/
def State.barrierMet (s : State) (slot : Nat) : Bool := !(s.ord.pend.any (·.sess == slot))

/-- The longest time a barrier waits (R108). -/
def barrierMax : Nat := 65 * sec

/-- ORD.BAR_STAT of a completed barrier. -/
def barWord (tag : Nat) (e : Err) : Word := w32 (tag + 65536 * e.code)
/-- ORD.BAR_STAT while a barrier is incomplete. -/
def barPending (tag : Nat) : Word := w32 (tag + 256)

/-- A barrier completes: ORD.BAR_STAT and BAR_DONE (R51, R108). -/
def State.endBarrier (s : State) (slot : Nat) (b : Barrier) (e : Err) : State :=
  (s.updSess slot fun x => { x with barrier := none, barStat := barWord b.tag e }).irq .ord 0 1

/-- A write to ORD.BARRIER, or a DRA BARRIER (R51, R108): BUSY while the session's last is pending; complete at once when nothing is under way. -/
def State.barrierWrite (s : State) (slot tag : Nat) (viaSeq : Option Nat) : Err × State :=
  match s.sess? slot with
  | none => (.session, s)
  | some x =>
    if x.barrier.isSome then (.busy, s)
    else
      let b : Barrier := ⟨tag, s.now, viaSeq⟩
      if s.barrierMet slot then (.ok, s.endBarrier slot b .ok)
      else (.ok, s.updSess slot fun x => { x with barrier := some b, barStat := barPending tag })

/-- The outcome a session's barrier has reached: OK when its writes are served, TIMEOUT after 65 s. -/
def State.barrierOutcome (s : State) (slot : Nat) : Option (Barrier × Err) :=
  match (s.sess? slot).bind (·.barrier) with
  | none => none
  | some b => if s.barrierMet slot then some (b, .ok) else if s.now ≥ b.since + barrierMax then some (b, .timeout) else none

/-! Making good (R95–R103) -/

/-- ORD.MG_CFG[LIMIT]. -/
def State.mgLimit (s : State) : Nat := (s.rdp .ord 0 Off.ORD_MG_CFG).fld 0 8
/-- ORD.MG_CFG[WINDOW_S] in nanoseconds. -/
def State.mgWindow (s : State) : Nat := (s.rdp .ord 0 Off.ORD_MG_CFG).fld 16 12 * sec

/-- ORD.MG_LAST of an episode (R110): engine code, instance, cause, duration in whole milliseconds, rounded up. -/
def mgWord (code inst cause durNs : Nat) : Word :=
  w32 (code + 16 * inst + 4096 * cause + 65536 * min 65535 ((durNs + ms - 1) / ms))

/-- Making goods of an instance that lie in the window. -/
def State.mgRecent (s : State) (e : Eng) : List (Eng × Nat) :=
  s.ord.hist.filter fun h => h.1 == e && s.now < h.2 + s.mgWindow

/-- Making goods are dropped, and with them the epochs that await their re-execution and what metering journaled meanwhile (R103). -/
def State.mgDrop (s : State) (p : Eng → Bool) : State :=
  let s := if s.ord.mg.any (fun m => m.eng == .metering && p m.eng) then { s with mtr := { s.mtr with jrn := [] } } else s
  { s with
    ord := { s.ord with mg := s.ord.mg.filter fun m => !p m.eng, redo := s.ord.redo.filter fun n => !p (.ingest n) }
    lp := { s.lp with loops := s.lp.loops.mapIdx fun n l => if p (.loop n) then { l with due := none } else l }
    prg := { s.prg with tasks := s.prg.tasks.mapIdx fun n x => if p (.task n) then { x with job := none } else x } }

/-- The escalation of R102: MG_LIMIT, ORD.ESC_COUNT, a 0x0203 record, SAFE-HOLD. A making good of the instance that was running ends with that, without a 0x0202
record of its own. Log entry 99, DESIGN CHOICE. -/
def State.mgEscalate (s : State) (e : Eng) (cause : Nat) : State :=
  let s := (s.irq .ord 0 3).satp .ord 0 Off.ORD_ESC_COUNT
  let s := s.record 0x0203 (mgWord e.code e.inst cause 0) 0 0
  let s := s.mgDrop (· == e)
  s.trigger (.safeHold (if e.onCmp then .cmpFault else .ctlFault) 0x0203)

/-- Making good of an engine begins (R96) or, during making good, begins again from the same journal (R102). The limit counts both. The safety
domain is not made good (R89). The cause and the instant of detection stay those of the first fault. Log entry 99, DESIGN CHOICE. -/
def State.mgStart (s : State) (e : Eng) (cause : Nat) : State :=
  if e == .safety then s
  else if (s.mgRecent e).length ≥ s.mgLimit then s.mgEscalate e cause
  else
    let s := { s with ord := { s.ord with hist := (s.ord.hist.filter fun (h : Eng × Nat) => s.now < h.2 + s.mgWindow) ++ [(e, s.now)] } }
    if s.ord.mg.any (·.eng == e) then s
    else { s with ord := { s.ord with mg := s.ord.mg ++ [(⟨e, cause, s.now⟩ : MakingGood)] } }

/-- What making good of an engine has written anew: locations of its own that were poisoned (R117), and the bad copy of a screed (R118). -/
def State.rewritten (s : State) (e : Eng) : State :=
  let s := { s with mem := { s.mem with poison := s.mem.poison.filter fun p => p.eng != some e } }
  match e with
  | .slot n => { s with slv := { s.slv with slots := modAt s.slv.slots n fun x => { x with copy2 := true } } }
  | _ => s

/-- A making good completes (R96 step 6): counted, ORD.MG_LAST loaded, MG set, recorded. -/
def State.mgDone (s : State) (e : Eng) : State :=
  match s.ord.mg.find? (·.eng == e) with
  | none => s
  | some m =>
    let w := mgWord e.code e.inst m.cause (s.now - m.since)
    let s := ({ s with ord := { s.ord with mg := s.ord.mg.filter (·.eng != e) } }).rewritten e
    (((s.modp .ord 0 Off.ORD_MG_COUNT).wrp .ord 0 Off.ORD_MG_LAST w).irq .ord 0 2).record 0x0201 w 0 0

/-- Making goods in progress end without a commit (R103), each with MG set and a 0x0202 record (R110); ORD.MG_LAST stays. -/
def State.mgAbandon (s : State) (p : Eng → Bool) : State :=
  let gone := s.ord.mg.filter fun m => p m.eng
  gone.foldl (fun s m => (s.irq .ord 0 2).record 0x0202 (mgWord m.eng.code m.eng.inst m.cause (s.now - m.since)) 0 0) (s.mgDrop p)

/-- An engine is being made good. -/
def State.inMg (s : State) (e : Eng) : Bool := s.ord.mg.any (·.eng == e)

/-! Commit records (R91) -/

/-- A commit of engine `e` is written to the FRAM epoch journal (R91): its number, and the continuity counters as they stand; `sts` the stations it addressed. -/
def State.noteCommit (s : State) (e : Eng) (sts : List (Nat × Nat)) : State :=
  let n := match s.ord.commits.find? (·.eng == e) with | some r => r.num + 1 | none => 1
  { s with ord := { s.ord with commits := s.ord.commits.filter (·.eng != e) ++ [⟨e, n, s.evt.nextBlock, sts⟩] } }

/-! ORD page -/

/-- ORD.MG_CFG accepts a value (R110). -/
def mgCfgOk (w : Word) : Bool := 1 ≤ w.fld 0 8 && w.fld 0 8 ≤ 16 && 1 ≤ w.fld 16 12 && w.fld 16 12 ≤ 3600

/-- PAGE_STAT[STATE] of the ORD page (R110). -/
def State.ordPageState (s : State) : Nat := b2n (!s.ord.mg.isEmpty)

/-- Frame 0 begins now (R240). -/
def State.newFrames (s : State) : State := { s with lp := { s.lp with frame0 := s.now } }

end Sys2Proof.Machine
end

