-- ==== Sys2Proof/Machine/Loop.lean ====
section
/-!
DEFINITION. The loop engine (R238–R269): start, sources, the control law, cut-in, misses, tests, captures, commands.
-/
namespace Sys2Proof.Machine
open Sys2Proof.F64

/-- The page and loop block that carry loop `n` (R238). -/
def loopPage (n : Nat) : Nat := n / 8
/-- Loop block number of loop `n` within its page (R238). -/
def loopBlk (n : Nat) : Nat := n % 8
/-- Page offset of register `o` of the block of loop `n` (R238). -/
def loopOff (n o : Nat) : Nat := 0x100 + 0x180 * loopBlk n + o

/-- Loop `n`; a loop outside the table is OFF. -/
def State.loop (s : State) (n : Nat) : Loop := s.lp.loops.getD n {}

/-- Update loop `n`. -/
def State.updLoop (s : State) (n : Nat) (f : Loop → Loop) : State :=
  { s with lp := { s.lp with loops := modAt s.lp.loops n f } }

/-- Tuning parameter `k` of a loop (R247). -/
def tuneOf (l : Loop) (k : Nat) : F := l.tune.getD k 0

/-- The loop's period in seconds, PERIOD_MS / 1,000 (R246). -/
def loopT (c : LoopCfg) : F := div (ofNat c.periodMs) (ofNat 1000)

/-- Index names of *Tuning parameters* (R247). -/
def tKP : Nat := 0
def tTI : Nat := 1
def tTD : Nat := 2
def tN : Nat := 3
def tB : Nat := 4
def tC : Nat := 5
def tTT : Nat := 6
def tKFF : Nat := 7
def tFFofs : Nat := 8
def tOutLo : Nat := 9
def tOutHi : Nat := 10
def tOutRate : Nat := 11
def tSpLo : Nat := 12
def tSpHi : Nat := 13
def tSpRamp : Nat := 14
def tSpScale : Nat := 15
def tSpOfs : Nat := 16
def tPvScale : Nat := 17
def tPvOfs : Nat := 18
def tOutScale : Nat := 19
def tOutOfs : Nat := 20
def tInitOut : Nat := 21
def tFailOut : Nat := 22

/-- `lo ≤ x ≤ hi`, false for a NaN. -/
def inR (lo hi x : F) : Bool := le lo x && le x hi

/-- Range check of a tuning parameter against the loop's other parameters and its period (R247, *Tuning parameters*). -/
def tuneOk (period : F) (tune : List Word64) (k : Nat) (v : F) : Bool :=
  let g := fun i => tune.getD i 0
  fin v &&
  (if k = tKP then lt zero v
   else if k = tTI ∨ k = tTT then isZ v || le period v
   else if k = tTD then le zero v
   else if k = tN then inR (ofNat 2) (ofNat 100) v
   else if k = tB ∨ k = tC then inR zero one v
   else if k = tOutLo then lt v (g tOutHi)
   else if k = tOutHi then lt (g tOutLo) v
   else if k = tOutRate ∨ k = tSpRamp then le zero v
   else if k = tSpLo then lt v (g tSpHi)
   else if k = tSpHi then lt (g tSpLo) v
   else if k = tSpScale ∨ k = tPvScale ∨ k = tOutScale then !isZ v
   else if k = tInitOut ∨ k = tFailOut then inR (g tOutLo) (g tOutHi) v
   else true)

/-- Every tuning value of a configuration lies in its range, and so do period and phase (R240, R247). -/
def loopCfgOk (c : LoopCfg) : Bool :=
  1 ≤ c.periodMs && c.periodMs ≤ 600000 && c.phaseMs < c.periodMs && c.tune.length == 23 &&
  (List.range 23).all (fun k => tuneOk (loopT c) c.tune k (c.tune.getD k 0)) &&
  1 ≤ c.missLim && c.missLim ≤ 255 && 1 ≤ c.maxAge && c.maxAge ≤ 600000 &&
  !(c.initMode == .cascade && c.spKind == 0) && !(c.initMode == .track && c.trkKind == 0) && c.initMode != .off &&
  inR (c.tune.getD tSpLo 0) (c.tune.getD tSpHi 0) c.spLocal

/-- The outer loop of a loop whose set-point comes from a loop (R254). -/
def outerOf (c : LoopCfg) : Option Nat := if c.spKind = 1 then some (c.spRef.fld 0 6) else none

/-- Cascade chains: each inner loop's depth is one more than its outer loop's, at most 3, and an outer loop has OUT_KIND none (R254). -/
def cascadesOk (cs : List (Option LoopCfg)) : Bool :=
  cs.all fun oc => match oc with
    | none => true
    | some c => c.depth ≤ 3 && (match outerOf c with
        | none => c.depth == 0
        | some k => match cs.getD k none with
          | some o => o.outKind == 3 && c.depth == o.depth + 1
          | none => false)

/-- Slots of the schedule table for the loops of one depth from slot `k` on (R242). -/
def schedDepth (cs : List (Option LoopCfg)) (d : Nat) (k : Nat) : List (Nat × Nat) :=
  let ns := (List.range cs.length).filter fun n => match cs.getD n none with
    | some c => c.depth == d
    | none => false
  ns.zip ((List.range ns.length).map (· + k))

/-- The schedule table (R242): by depth, then number, two idle slots between one depth and the next that holds a loop. -/
def schedule (cs : List (Option LoopCfg)) : List (Nat × Nat) :=
  let step := fun (acc : List (Nat × Nat) × Nat) d =>
    let new := schedDepth cs d (if acc.1.isEmpty then 0 else acc.2 + 2)
    if new.isEmpty then acc else (acc.1 ++ new, (if acc.1.isEmpty then 0 else acc.2 + 2) + new.length)
  ([0, 1, 2, 3].foldl step ([], 0)).1

/-- Where a loop's output goes (OUT_KIND, OUT_REF). -/
def loopTarget (c : LoopCfg) : Option Target :=
  if c.outKind = 0 then some (.slice (c.outRef.fld 0 6))
  else if c.outKind = 1 then some (.point (c.outRef.fld 0 23))
  else if c.outKind = 2 then some (.can (c.outRef.fld 16 3) (c.outRef.fld 0 16))
  else none

/-- A source by kind code 1 slice, 2 point, 3 CAN signal (R245). -/
def State.srcOf (s : State) (kind : Nat) (ref : Word) : Option Src :=
  if kind = 1 then some (s.slcSrc (ref.fld 0 6))
  else if kind = 2 then some (s.ptSrc (ref.fld 0 23))
  else if kind = 3 then some (s.canSrc (ref.fld 16 3) (ref.fld 0 16))
  else none

/-- A value in output units converted to loop units: `(value − OUT_OFS) / OUT_SCALE` (R245, R255). -/
def toLoopUnits (l : Loop) (v : F) : F := div (sub v (tuneOf l tOutOfs)) (tuneOf l tOutScale)

/-- Set the mode of loop `n` with its reason (LOOP.MODE, MODE_CHG). -/
def State.setLoopMode (s : State) (n : Nat) (m : LoopMode) (reason : Nat) : State :=
  let l := s.loop n
  if l.mode == m then s.updLoop n fun l => { l with reason := reason }
  else (s.updLoop n fun l => { l with mode := m, prev := l.mode, reason := reason, changes := (l.changes + 1) % 65536 }).irq .loop
    (loopPage n) (10 + loopBlk n)

/-- End the test of loop `n` (R263). -/
def State.endTest (s : State) (n : Nat) : State :=
  if (s.loop n).test.isSome then (s.updLoop n fun l => { l with test := none }).irq .loop (loopPage n) (18 + loopBlk n) else s

/-- Every test ends: COMMISSION or MAINTENANCE is left, or a profile switch (R263). -/
def State.endTests (s : State) : State := (List.range s.lp.loops.length).foldl (fun s n => s.endTest n) s

/-! Frames and journals (R90, R240, R241, R244) -/

/-- The start of the frame that has begun (R240). -/
def State.frameStart (s : State) : Nat := s.lp.frame0 + (s.now - s.lp.frame0) / ms * ms

/-- The start of the last frame up to `t` in which a loop of this configuration samples (R240). -/
def dueFrame (frame0 : Nat) (c : LoopCfg) (t : Nat) : Option Nat :=
  let f := (t - frame0) / ms
  if t < frame0 ∨ f < c.phaseMs then none else some (frame0 + (f - (f - c.phaseMs) % c.periodMs) * ms)

/-- The input latch of loop `n` in the frame that starts at `F` (R241). -/
def State.latchAt (s : State) (n F : Nat) : Nat := F + 12 * (s.loop n).slot * us

/-- The output instant of loop `n` in the frame that starts at `F`, the sample's deadline (R241). -/
def State.outAt (s : State) (n F : Nat) : Nat := s.latchAt n F + 24 * us

/-- The configuration of the samples to come: that of a switched profile once there is one (R75). -/
def comingCfg (l : Loop) : Option LoopCfg := match l.next with | some c => some c | none => l.cfg

/-- The configuration of the sample of the frame that starts at `F`: a switch at that very instant is seen from the next frame on (R244). -/
def cfgIn (l : Loop) (frame0 F : Nat) : Option LoopCfg := if l.next.isSome && F == frame0 then l.cfg else comingCfg l

/-- The registers that describe a loop's test (R261). -/
def State.testRegs (s : State) (n : Nat) : List Word :=
  [0x158, 0x15C, 0x160, 0x164, 0x168, 0x16C].map fun o => s.rdp .loop (loopPage n) (loopOff n o)

/-- The host-writable values of loop `n` as the registers hold them. -/
def State.parOf (s : State) (n : Nat) : LoopPar :=
  let l := s.loop n
  ⟨l.tune, l.missLim, l.maxAge, l.spLocal, l.manOut, s.testRegs n⟩

/-- The remote set-point of a loop as a source: an outer loop's output or a slot's released value is good while no older than its producer's period (R245, R260). -/
def State.spSrc (s : State) (c : LoopCfg) : Option Src :=
  let fresh := fun (at_ : Option Nat) (per : Nat) => match at_ with | some t => decide (s.now - t ≤ per * ms) | none => false
  let q := fun (b : Bool) => if b then Qual.good else Qual.bad
  if c.spKind = 1 then
    let o := s.loop (c.spRef.fld 0 6)
    some ⟨o.u, q (fresh o.commitAt (match o.cfg with | some k => k.periodMs | none => 0) && o.running), 0⟩
  else if c.spKind = 2 then
    let x := s.slv.slots.getD (c.spRef.fld 0 3) {}
    match lookupA (c.spRef.fld 8 8) x.outVals with
    | some v => some ⟨v, q (fresh x.outAt (match x.cfg with | some k => k.periodMs | none => 0)), 0⟩
    | none => some ⟨zero, .bad, 0⟩
  else if c.spKind = 3 then some (s.slcSrc (c.spRef.fld 0 6))
  else if c.spKind = 4 then some (s.slcFreq (c.spRef.fld 0 6))
  else none

/-- The inner loop that is not in CASCADE and so opens the cascade of outer loop `n`: its working set-point at its last commit, in outer units (R254, R257).
Log entry 74, DEDUCED. -/
def State.openInner (s : State) (n : Nat) : Option Src :=
  let inner := (List.range s.lp.loops.length).find? fun k => match (s.loop k).cfg with
    | some c => outerOf c == some n && (s.loop k).mode != .cascade
    | none => false
  inner.map fun k =>
    let g := fun i => (s.loop k).par.tune.getD i 0
    let v := div (sub (s.loop k).r (g tSpOfs)) (g tSpScale)
    match (s.loop k).commitAt with | some t => ⟨v, .good, s.now - t⟩ | none => ⟨v, .bad, 0⟩

/-- The sources of loop `n` as they stand, their ages measured to the input latch of the frame that starts at `F` (R241, R245). -/
def State.journal (s : State) (n : Nat) (c : LoopCfg) (F : Nat) : LoopJr :=
  let d := { s with now := s.latchAt n F }
  ⟨F, (d.srcOf (c.pvKind + 1) c.pvRef).getD ⟨zero, .bad, 0⟩, d.srcOf c.ffKind c.ffRef, d.srcOf c.trkKind c.trkRef, d.spSrc c, d.openInner n, false⟩

/-- The input latch: what comes from slices is captured then (R241, R245). -/
def hwLatch (c : LoopCfg) (j k : LoopJr) : LoopJr :=
  { j with
    pv := if c.pvKind = 0 then k.pv else j.pv
    ff := if c.ffKind = 1 then k.ff else j.ff
    trk := if c.trkKind = 1 then k.trk else j.trk
    sp := if c.spKind = 3 ∨ c.spKind = 4 then k.sp else j.sp
    latched := true }

/-- A sample start (R94, R241): the journal, and the registers with what was written; making good holds the writes back (R103). -/
def atFrame (l : Loop) (p : LoopPar) (held : Bool) (j : LoopJr) : Loop :=
  if held then { l with jr := some j }
  else { l with jr := some j, par := p, cutIn := l.cutIn || l.cutWr, cutWr := false, manWr := l.manWr || l.manNew, manNew := false, spNew := false }

/-- What the time up to `t` brings loop `n`: a sample start reads the exchange area and the registers, an input latch the slices (R241); what takes effect at
the very instant is seen by the next (R244). Log entry 65, DEDUCED. -/
def State.passLoop (s : State) (t n : Nat) (l : Loop) : Loop :=
  if !(l.running || l.next.isSome) then l
  else
    let l := match (comingCfg l).bind fun c => (dueFrame s.lp.frame0 c t).bind fun F => (cfgIn l s.lp.frame0 F).map fun k => (k, F) with
      | some (c, F) => if s.now < F && !(l.next.isSome && F == s.lp.frame0) then atFrame l (s.parOf n) (s.inMg (.loop n)) (s.journal n c F) else l
      | none => l
    match l.jr with
    | some j => match cfgIn l s.lp.frame0 j.frame with
      | some c => if !j.latched && s.now < s.latchAt n j.frame && s.latchAt n j.frame ≤ t then { l with jr := some (hwLatch c j (s.journal n c j.frame)) } else l
      | none => l
    | none => l

/-- What the time up to `t` brings the loops. -/
def State.passFrames (s : State) (t : Nat) : List Loop :=
  if s.md.mode.loopsRun then (s.lp.loops.zip (List.range s.lp.loops.length)).map fun x => s.passLoop t x.2 x.1 else s.lp.loops

/-- The sample start of loop `n` in the frame that starts at `F`, where none has been taken: one that begins with the frames themselves. -/
def State.atStart (s : State) (n F : Nat) : State :=
  let l := s.loop n
  match cfgIn l s.lp.frame0 F with
  | none => s
  | some c =>
    if l.jr.any fun j => j.frame == F then s
    else s.updLoop n fun l => atFrame l (s.parOf n) (s.inMg (.loop n)) (s.journal n c F)

/-- Load the configuration values a loop takes from the profile (R267). -/
def loadLoop (c : LoopCfg) (l : Loop) : Loop :=
  { l with cfg := some c, tune := c.tune, missLim := c.missLim, maxAge := c.maxAge, spLocal := c.spLocal,
           manOut := c.tune.getD tInitOut 0, cutWr := false, manNew := false, spNew := false }

/-- Start loop `n` (R256), with the profile's configuration as it stands now (R267): INIT_MODE with REASON 0x02, u[−1] from the driven value or INIT_OUT,
cut-in at the first PID sample. -/
def State.startLoop (s : State) (n : Nat) : State :=
  match comingCfg (s.loop n) with
  | none => s
  | some c =>
    let l0 := loadLoop c (s.loop n)
    let s := match loopTarget c with
      | some t => s.dropOwn t
      | none => s
    let u0 := match loopTarget c with
      | none => tuneOf l0 tInitOut
      | some t => if s.deEnergised t then tuneOf l0 tInitOut else toLoopUnits l0 (s.driven t).2
    let was := (s.loop n).mode
    let s := s.updLoop n fun l => { loadLoop c l with
      mode := c.initMode, prev := .off, reason := 2, changes := 0, running := true, stat := 0, missRun := 0, longest := 0, u := u0, i := 0, d := 0, h := 0,
      cutIn := true, fresh := true, manWr := false, lastMan := false, sampMode := .off, test := none, commitAt := none, next := none,
      jr := none, sampled := none, due := none }
    let s := s.updLoop n fun l => { l with par := s.parOf n }
    let s := match dueFrame s.lp.frame0 c s.now with
      | some F => if F = s.now then s.atStart n F else s
      | none => s
    if was == c.initMode then s else s.irq .loop (loopPage n) (10 + loopBlk n)

/-- Start every configured loop. -/
def State.startLoops (s : State) : State := (List.range s.lp.loops.length).foldl (fun s n => s.startLoop n) s

/-- End every capture as `st` that is armed or running and satisfies `p` (R265). -/
def State.abortCaps (s : State) (p : Cap → Bool) : State :=
  let go := fun (s : State) (k : Nat) =>
    let c := s.lp.caps.getD k {}
    if (c.st == .armed || c.st == .running) && p c then
      ({ s with lp := { s.lp with caps := modAt s.lp.caps k fun c => { c with st := .aborted } } }).irq .lcap 0 (2 + k)
    else s
  (List.range 4).foldl go s

/-- Loops that a switched profile does not configure are OFF (R238), their captures end (R265); the others take theirs at their first sample after the
boundary (R75). -/
def State.switchLoops (s : State) (cs : List (Option LoopCfg)) : State :=
  (List.range s.lp.loops.length).foldl (fun s n => match cs.getD n none with
    | some c => s.updLoop n fun l => { l with next := some c }
    | none =>
      if (s.loop n).cfg.isNone then s.updLoop n fun l => { l with next := none }
      else ((s.abortCaps (·.loop == n)).updLoop n fun l => { l with
        cfg := none, next := none, mode := .off, prev := l.mode, running := false, jr := none, due := none }).irq .loop (loopPage n) (10 + loopBlk n)) s

/-- Stop every loop: at SAFE-HOLD every loop stops and takes no sample (R256), every capture ends as ABORTED (R265), waiting commands complete
with ABORTED (log entry 12, DESIGN CHOICE). -/
def State.stopLoops (s : State) : State :=
  let s := s.endTests
  let s := { s with lp := { s.lp with loops := s.lp.loops.map fun (l : Loop) => { l with running := false, jr := none, due := none } } }
  let s := s.abortCaps fun _ => true
  (List.range 6).foldl (fun s p =>
    (s.queue (Page.reg .loop p Off.LOOP_CMD)).foldl (fun s c => s.complete .loop p Off.LOOP_CMD_STAT .aborted (c.word.fld 8 8))
      (s.setQueue (Page.reg .loop p Off.LOOP_CMD) [])) s

/-! Tests -/

/-- PRBS taps by order (R262, *PRBS taps*). -/
def prbsTaps : Nat → List Nat
  | 5 => [5, 3]
  | 6 => [6, 5]
  | 7 => [7, 6]
  | 8 => [8, 6, 5, 4]
  | 9 => [9, 5]
  | 10 => [10, 7]
  | 11 => [11, 9]
  | 12 => [12, 11, 10, 4]
  | 13 => [13, 12, 11, 8]
  | 14 => [14, 13, 12, 2]
  | 15 => [15, 14]
  | _ => []

/-- One shift of the PRBS register, bits 1..n with n most significant (R262). -/
def prbsNext (n reg : Nat) : Nat :=
  let fb := (prbsTaps n).foldl (fun a k => a ^^ reg.testBit (k - 1)) false
  (2 * reg + b2n fb) % 2 ^ n

/-- The test signal d[j] (R262). -/
def testSignal (c : LoopCfg) (x : LoopTest) : F :=
  if x.kind = 1 then x.amp
  else if x.kind = 2 then (if x.reg.testBit (x.order - 1) then x.amp else neg x.amp)
  else if x.kind = 3 then
    let t := mul (ofNat x.j) (loopT c)
    let tc := mul (ofNat x.len) (loopT c)
    let f0 := div (ofNat x.f0) (ofNat 1000)
    let f1 := div (ofNat x.f1) (ofNat 1000)
    mul x.amp (Config.sin (mul twoPi (add (mul f0 t) (div (mul (sub f1 f0) (mul t t)) (mul (ofNat 2) tc)))))
  else zero

/-- The test after one scheduled sample: the index advances, each PRBS bit is held for HOLD samples; none when j reaches L (R261–R263). -/
def testStep (x : LoopTest) : Option LoopTest :=
  let j := x.j + 1
  if x.len ≠ 0 ∧ j ≥ x.len then none
  else some { x with j := j, reg := if x.kind = 2 ∧ j % x.hold = 0 then prbsNext x.order x.reg else x.reg }

/-- TEST_START for loop `n` (R261, R262): status and state. -/
def State.testStart (s : State) (n : Nat) : Err × State :=
  let l := s.loop n
  let g := fun (k : Nat) => (if l.running then l.par.test else s.testRegs n).getD k 0
  let cfg := g 0
  let len := (g 1).fld 0 24
  let kind := cfg.fld 0 2
  let onOut := cfg.bit 2
  let order := cfg.fld 4 4
  let hold := cfg.fld 8 8
  let f0 := (g 4).toNat
  let f1 := (g 5).toNat
  if !(s.md.mode == .commission || s.md.mode == .maintenance) then (.mode, s)
  else match l.cfg with
  | none => (.state, s)
  | some c =>
    if l.test.isSome then (.state, s)
    else if !(l.mode == .auto || l.mode == .cascade || (onOut && l.mode == .man)) then (.state, s)
    else if kind = 0 then (.range, s)
    else if kind = 2 ∧ (order < 5 ∨ hold = 0) then (.range, s)
    else if kind = 3 ∧ (len = 0 ∨ f1 * c.periodMs > 250 * 1000) then (.range, s)
    else
      let amp := pair64 (g 2) (g 3)
      (.ok, s.updLoop n fun l => { l with test := some ⟨kind, onOut, order, hold, len, amp, f0, f1, 0, 2 ^ order - 1⟩ })

/-! Commands (R250, R268) -/

/-- The modes in which SET_MODE is accepted (R250). -/
def setModeOk (m : Mode) : Bool := m == .commission || m == .run || m == .degraded || m == .maintenance

/-- SET_MODE on loop `n` (R250). -/
def State.loopSetMode (s : State) (n code : Nat) : Err × State :=
  let l := s.loop n
  match l.cfg, LoopMode.ofCode code with
  | _, none => (.range, s)
  | none, _ => (.notFound, s)
  | some c, some m =>
    if s.md.mode == .standby then (.state, s)
    else if !setModeOk s.md.mode then (.mode, s)
    else if l.mode == .off then (.notFound, s)
    else if m == .cascade && c.spKind == 0 then (.state, s)
    else if m == .track && c.trkKind == 0 then (.state, s)
    else
      let s := if l.mode == m then s else s.endTest n
      let s := s.setLoopMode n m 1
      (.ok, s.updLoop n fun l => { l with stat := l.stat.setBit 15 false })

/-- TEST_STOP on loop `n` (R263, R268). -/
def State.testStop (s : State) (n : Nat) : Err × State :=
  if (s.loop n).test.isSome then (.ok, s.endTest n) else (.state, s)

/-- What one LOOP.CMD of page `p` comes to (R268): operations above the session's privilege complete with DENIED (R592). -/
def State.loopOp (s : State) (p : Nat) (c : QCmd) : Err × State :=
  let op := c.word.fld 0 4
  let n := 8 * p + c.word.fld 4 3
  if op = 0 then (.ok, s)
  else if op = 1 then (if c.priv.ge .operate then s.loopSetMode n (c.word.fld 16 3) else (.denied, s))
  else if op = 2 then (if c.priv.ge .config then s.testStart n else (.denied, s))
  else if op = 3 then (if c.priv.ge .operate then s.testStop n else (.denied, s))
  else (.range, s)

/-- Execute one LOOP.CMD of page `p`. -/
def State.execLoopCmd (s : State) (p : Nat) (c : QCmd) : State := s.asPeer c.sess fun s =>
  let r := s.loopOp p c
  r.2.complete .loop p Off.LOOP_CMD_STAT r.1 (c.word.fld 8 8)

/-- A command takes effect at this sample start, of loop `n.1` in the frame that starts at `n.2`, if any: it names the loop and was accepted before (R244), or it
names one that takes no sample, or it takes no effect on a loop, NOP or an operation that fails (log entry 61, DEDUCED). -/
def State.loopCmdDue (s : State) (p : Nat) (n : Option (Nat × Nat)) (c : QCmd) : Bool :=
  let k := 8 * p + c.word.fld 4 3
  (match n with | some (m, F) => m == k && c.at_ < F | none => false) || c.word.fld 0 4 == 0 || (s.loopOp p c).1 != .ok || !((s.loop k).running && (s.loop k).cfg.isSome)

/-- Execute the commands at the head of the page's queue that take effect now, in acceptance order (OP-3). -/
def runLoopQueue (p : Nat) (n : Option (Nat × Nat)) : List QCmd → State → State
  | [], s => s.setQueue (Page.reg .loop p Off.LOOP_CMD) []
  | c :: cs, s =>
    if s.loopCmdDue p n c then runLoopQueue p n cs (s.execLoopCmd p c)
    else s.setQueue (Page.reg .loop p Off.LOOP_CMD) (c :: cs)

/-- Execute what waits in the queue of LOOP page `p`, at the sample start of loop `n` if any. -/
def State.runLoop (s : State) (p : Nat) (n : Option (Nat × Nat)) : State := runLoopQueue p n (s.queue (Page.reg .loop p Off.LOOP_CMD)) s

/-! The sample -/

/-- What a sample latched, in the loop's units (R241, R245): process variable, feedforward, tracking value, remote target, an open inner loop's value, each with
whether it is usable. -/
structure Latch where
  y     : F
  yQual : Qual
  yAge  : Nat
  ff    : Option (F × Bool)
  trk   : Option (F × Bool)
  tgt   : Option (F × Bool)
  inner : Option (F × Bool)
deriving DecidableEq, Repr

/-- A source is usable: not BAD and not older than `maxAge` milliseconds (R257, R260). -/
def srcGood (maxAge : Nat) (x : Src) : Bool := x.qual != .bad && x.age ≤ maxAge * ms

/-- A journal's sources as the sample of a loop reads them, each scaled once (R245). -/
def latchOf (l : Loop) (j : LoopJr) : Latch :=
  { y := add (mul (tuneOf l tPvScale) j.pv.val) (tuneOf l tPvOfs)
    yQual := j.pv.qual
    yAge := j.pv.age
    ff := j.ff.map fun x => (add (mul (tuneOf l tKFF) x.val) (tuneOf l tFFofs), srcGood l.maxAge x)
    trk := j.trk.map fun x => (toLoopUnits l x.val, srcGood l.maxAge x)
    tgt := j.sp.map fun x => (add (mul (tuneOf l tSpScale) x.val) (tuneOf l tSpOfs), srcGood l.maxAge x)
    inner := j.inner.map fun x => (x.val, srcGood l.maxAge x) }

/-- The override of a loop's output (R255), on an ACTIVE controller: rank 2–5 drives another value than the loop's own; once it does, until that rank drives no
more, while the loop's own value only follows it. Log entry 74, DEDUCED. -/
def State.overrideOf (s : State) (c : LoopCfg) (l : Loop) : Option F :=
  match loopTarget c with
  | none => none
  | some t =>
    let d := s.driven t
    if s.hasToken && 2 ≤ d.1 && d.1 ≤ 5 && (l.stat.bit 11 || !eq d.2 (s.ownVal t)) then some (toLoopUnits l d.2) else none

/-- How a sample computes (R249, R254, R255). -/
inductive Law
  | man
  | pid
  | track (t : F)
  | hold
deriving DecidableEq, Repr

/-- The law of a sample, the miss reason that a bad tracking value gives, and the CASC_OPEN and OVERRIDE flags. -/
def State.lawOf (s : State) (c : LoopCfg) (l : Loop) (x : Latch) : Law × Option Nat × Bool × Bool :=
  match s.overrideOf c l with
  | some t => (.track t, none, false, true)
  | none => match x.inner with
    | some (t, ok) => (.track t, if ok then none else some 4, true, false)
    | none => match l.mode with
      | .man => (.man, none, false, false)
      | .hold => (.hold, none, false, false)
      | .track => match x.trk with
        | some (t, ok) => (.track t, if ok then none else some 4, false, false)
        | none => (.track zero, some 4, false, false)
      | _ => (.pid, none, false, false)

/-- The miss reason of a sample, if it cannot complete (R257): a BAD process variable is looked at before an old one; MAN and HOLD use none. -/
def missWhy (l : Loop) (law : Law) (x : Latch) (trkMiss : Option Nat) (mgLate handover : Bool) : Option Nat :=
  if handover then some 5
  else if mgLate then some 3
  else
    let pv := if x.yQual == .bad then some 2 else if x.yAge > l.maxAge * ms then some 1 else none
    match law with
    | .man => none
    | .hold => none
    | .pid => pv
    | .track _ => if pv.isSome then pv else trkMiss

/-- Record one capture sample of loop `n` (R264). -/
def capRec (l : Loop) (rs y : F) (idx : Nat) (miss : Bool) : CapRec :=
  { rs := toF32 rs, y := toF32 y, u := toF32 l.u,
    info := w32 (idx % 65536 + 65536 * b2n miss + 2 ^ 17 * b2n (l.stat.bit 4 || l.stat.bit 5 || l.stat.bit 6) + 2 ^ 18 * b2n l.test.isSome + 2 ^ 19 * l.mode.code) }

/-- One scheduled sample of loop `n`, in the frame that starts at `frame`, reaches the captures armed before (R244, R264): the trigger, then every DECIM-th sample until COUNT records. -/
def State.capSample (s : State) (n frame : Nat) (rs y : F) (miss modeChanged testStart : Bool) (at_ : Time64) : State :=
  let l := s.loop n
  let go := fun (s : State) (k : Nat) =>
    let c := s.lp.caps.getD k {}
    if c.loop ≠ n then s else
    let fire := c.st == .armed && c.since < frame && (c.trig = 0 || (c.trig = 1 && testStart) || (c.trig = 2 && modeChanged) || (c.trig = 3 && miss))
    let c := if fire then { c with st := .running, idx := 0, trigAt := at_ } else c
    if c.st == .running then
      let c' := if c.idx % c.decim = 0 then { c with recs := c.recs ++ [capRec l rs y c.idx miss] } else c
      let c' := { c' with idx := c'.idx + 1 }
      let fin := c'.recs.length ≥ c'.count
      let c' := if fin then { c' with st := .done } else c'
      let s := { s with lp := { s.lp with caps := setAt s.lp.caps k c' } }
      if fin then s.irq .lcap 0 (2 + k) else s
    else s
  (List.range 4).foldl go s

/-- A missed sample (R258, R259); one whose law is not that of AUTO and CASCADE leads to a cut-in all the same (R251). -/
def State.loopMiss (s : State) (n why : Nat) (cut : Bool) : State :=
  let p := loopPage n
  let l := s.loop n
  let run := satAdd 65535 l.missRun 1
  let s := s.updLoop n fun l => { l with
    missRun := run, stat := (l.stat.setBit 0 true).put 1 3 why, manWr := l.manWr && l.mode == .man, cutIn := l.cutIn || cut }
  let s := (s.satp .loop p (loopOff n 0x28)).irq .loop p (2 + loopBlk n)
  let every := (s.rdp .loop p Off.LOOP_MISS_EVT).bit (loopBlk n)
  let s := if every || run == 1 then s.recordEp 0x0501 (w32 n) (w32 why) (w32 run) else s
  match l.cfg with
  | some c =>
    if run == l.missLim && c.failAct then
      let s := (s.endTest n).setLoopMode n .man 3
      s.updLoop n fun l => { l with stat := l.stat.setBit 15 true, manOut := tuneOf l tFailOut, manWr := true }
    else s
  | none => s

/-- The numbers a completed sample leaves: the new loop state with its status bits [14:4], and rs. -/
def loopCompute (c : LoopCfg) (l : Loop) (law : Law) (x : Latch) (dt : F) (onOut : Bool) (cascOpen ovr : Bool) : Loop × F :=
  let T := loopT c
  let g := tuneOf l
  let sgnV := fun (v : F) => if c.direct then neg v else v
  let dsp := if onOut then zero else dt
  let dout := if onOut then dt else zero
  let y := if x.yQual == .bad then l.y else x.y
  -- set-point
  let remote := l.mode == .cascade
  let spBad := remote && (match x.tgt with | some (_, ok) => !ok | none => true)
  let raw := if remote then (match x.tgt with | some (v, true) => v | _ => if l.commitAt.isSome then l.tgt else l.spLocal) else l.spLocal
  let tgt := if law == .hold then l.tgt else clamp (g tSpLo) (g tSpHi) raw
  let step := mul (g tSpRamp) T
  let ramped := if isZ (g tSpRamp) then tgt else add l.r (clamp (neg step) step (sub tgt l.r))
  let follow := c.spTrack && (match law with | .man => true | .track _ => true | _ => false)
  let r := match law with
    | .pid => ramped
    | _ => if follow then y else l.r
  let spLocal := if follow then y else l.spLocal
  let rs := clamp (g tSpLo) (g tSpHi) (add r dsp)
  -- feedforward
  let ffHeld := match x.ff with | some (_, ok) => !ok | none => false
  let ff := match x.ff with | some (v, true) => v | some (_, false) => l.ff | none => zero
  let P := mul (sgnV (g tKP)) (sub (mul (g tB) rs) y)
  let hNow := sub (mul (g tC) rs) y
  let den := add (g tTD) (mul (g tN) T)
  let ad := if isZ (g tTD) then zero else div (g tTD) den
  let bd := if isZ (g tTD) then zero else div (mul (mul (g tKP) (g tTD)) (g tN)) den
  let missed := l.stat.bit 0
  let stepU := mul (g tOutRate) T
  let rate := fun (u : F) => if isZ (g tOutRate) then u else clamp (sub l.u stepU) (add l.u stepU) u
  let stat0 := l.stat &&& w32 0x800E
  let flags := fun (hi lo rt : Bool) =>
    ((((((((((stat0.setBit 4 hi).setBit 5 lo).setBit 6 rt).setBit 7 (!eq r tgt)).setBit 8 spBad).setBit 9 ffHeld).setBit 10 cascOpen).setBit 11 ovr).setBit 12
      (x.yQual == .uncertain)).setBit 13 l.test.isSome).setBit 14 (if law == .hold then l.stat.bit 14 else !eq raw tgt)
  let base := { l with r := r, spLocal := spLocal, tgt := tgt, y := y, ff := ff, dTest := dt }
  match law with
  | .man =>
    let first := !l.lastMan
    let mo := if first && !l.manWr then l.u else l.manOut
    let vt := add mo dout
    let uc := clamp (g tOutLo) (g tOutHi) vt
    let u := rate uc
    ({ base with u := u, manOut := mo, manWr := false, lastMan := true, cutIn := true, stat := flags (lt (g tOutHi) vt) (lt vt (g tOutLo)) (!eq u uc) }, rs)
  | .hold => ({ base with lastMan := false, manWr := false, cutIn := true, stat := flags false false false }, rs)
  | .track t =>
    let u := clamp (g tOutLo) (g tOutHi) t
    ({ base with u := u, i := sub (sub u P) ff, d := zero, h := hNow, lastMan := false, manWr := false, cutIn := true,
                 stat := flags (lt (g tOutHi) t) (lt t (g tOutLo)) false }, rs)
  | .pid =>
    let hPrev := if l.cutIn || missed then hNow else l.h
    let d := if l.cutIn then zero else add (mul ad l.d) (mul bd (sgnV (sub hNow hPrev)))
    let i0 := if l.cutIn then sub (sub (sub l.u P) ff) dout else l.i
    let v := add (add (add P i0) d) ff
    let vt := add v dout
    let uc := clamp (g tOutLo) (g tOutHi) vt
    let u := rate uc
    let tt := if lt zero (g tTT) then g tTT else g tTI
    let i1 := if lt zero (g tTI) then
        add (add i0 (mul (div (mul (g tKP) T) (g tTI)) (sgnV (sub rs y)))) (mul (div T tt) (sub u vt))
      else i0
    ({ base with u := u, i := i1, d := d, h := hNow, cutIn := false, lastMan := false, manWr := false,
                 stat := flags (lt (g tOutHi) vt) (lt vt (g tOutLo)) (!eq u uc) }, rs)

/-- A completed sample: state, statistics, the staged output released at the output instant (R246, R258). -/
def State.loopComplete (s : State) (n : Nat) (c : LoopCfg) (law : Law) (x : Latch) (dt : F) (onOut cascOpen ovr : Bool) (at_ : Time64) (outAt : Nat) : State × F :=
  let l := s.loop n
  let p := loopPage n
  let run := l.missRun
  let s := if run > 0 then s.recordEp 0x0502 (w32 n) (w32 (l.stat.fld 1 3)) (w32 run) else s
  let (l', rs) := loopCompute c l law x dt onOut cascOpen ovr
  let s := s.updLoop n fun _ => { l' with tIn := at_, missRun := 0, longest := max l.longest run, commitAt := some outAt }
  let s := s.modp .loop p (loopOff n 0x30)
  let out := add (mul (tuneOf l tOutScale) l'.u) (tuneOf l tOutOfs)
  let s := match loopTarget c with
    | some t => s.commitOut t out
    | none => s
  (s, rs)

/-- A loop takes the configuration of a new profile at its first sample after the switch boundary, by cut-in (R75, R251), and ends its captures (R265); a mode that the new
configuration cannot run becomes INIT_MODE with REASON 0x04. -/
def State.takeNext (s : State) (n : Nat) : State :=
  match (s.loop n).next with
  | none => s
  | some c =>
    let s := s.abortCaps (·.loop == n)
    let l := s.loop n
    if l.cfg.isNone || l.mode == .off then (s.startLoop n).updLoop n fun x => { x with reason := 4, jr := l.jr }
    else
      let s := s.updLoop n fun l => { loadLoop c l with cutIn := true, next := none, manOut := l.manOut }
      let s := s.updLoop n fun l => { l with par := s.parOf n }
      if (l.mode == .cascade && c.spKind == 0) || (l.mode == .track && c.trkKind == 0) then s.setLoopMode n c.initMode 4 else s

/-- What the latch itself leaves: r[−1] = y at the first latch of a loop that has started (R256), and the mode of this sample (R264). -/
def State.latched (s : State) (n : Nat) (x : Latch) : State :=
  s.updLoop n fun l => { l with r := if l.fresh then x.y else l.r, fresh := false, sampMode := l.mode }

/-- Loop `n` samples in the frame that has begun, and has not yet (R240). -/
def State.loopFrame (s : State) (n : Nat) : Bool :=
  let l := s.loop n
  let F := s.frameStart
  s.lp.frame0 ≤ s.now && l.sampled != some F &&
  (if l.next.isSome && F == s.lp.frame0 then l.cfg.isSome && l.jr.any fun j => j.frame == F
   else match comingCfg l with | some c => dueFrame s.lp.frame0 c s.now == some F | none => false)

/-- The journal that a sample computes from: in STANDBY the mirrored inputs as they have come (R256, R460), elsewhere the journal of its start, with the slices
captured now where the latch has not come yet. -/
def State.sampleJr (s : State) (n : Nat) (c : LoopCfg) (F : Nat) : LoopJr :=
  let k := s.journal n c F
  if s.md.mode == .standby then k
  else match (s.loop n).jr with
    | some j => if j.latched then j else hwLatch c j k
    | none => k

/-- A loop as its sample works on it: with the values that the sample start took (R94). -/
def workOn (l : Loop) : Loop :=
  { l with tune := l.par.tune, missLim := l.par.missLim, maxAge := l.par.maxAge, spLocal := l.par.spLocal, manOut := l.par.manOut }

/-- The registers after a sample: what the host has written since its start stands, the rest is the sample's (OP-2). -/
def settleRegs (reg l : Loop) : Loop :=
  { l with
    tune := reg.tune, missLim := reg.missLim, maxAge := reg.maxAge
    spLocal := if reg.spNew then reg.spLocal else l.spLocal
    manOut := if reg.manNew then reg.manOut else l.manOut }

/-- The sample of loop `n` in the frame that starts at `F`, from its journal (R241–R264): it completes or it is missed, captures take it, a test advances. -/
def State.sampleBody (s : State) (n : Nat) (c : LoopCfg) (j : LoopJr) (mgLate handover : Bool) : State :=
  let l := s.loop n
  let at_ := s.time64At (s.latchAt n j.frame)
  let modeChanged := l.mode != l.sampMode
  let testStart := match l.test with | some x => x.j == 0 | none => false
  let x := latchOf l j
  let s := s.latched n x
  let l := s.loop n
  let (law, trkMiss, cascOpen, ovr) := s.lawOf c l x
  let dt := match l.test with | some x => testSignal c x | none => zero
  let onOut := match l.test with | some x => x.onOut | none => false
  let r : State × F × Bool := match missWhy l law x trkMiss mgLate handover with
    | some why => (s.loopMiss n why (law != .pid), clamp (tuneOf l tSpLo) (tuneOf l tSpHi) l.r, true)
    | none =>
      let (s, rs) := s.loopComplete n c law x dt onOut cascOpen ovr at_ (max s.now (s.outAt n j.frame))
      (s, rs, false)
  let s := r.1.capSample n j.frame r.2.1 x.y r.2.2 modeChanged testStart at_
  match (s.loop n).test with
  | none => s
  | some x => match testStep x with
    | some x' => s.updLoop n fun l => { l with test := some x' }
    | none => s.endTest n

/-- One scheduled sample of loop `n` in the frame that starts at `F`: `mgLate` when making good could not complete by the output instant, `handover` in the
handover frame of R467. A loop that is stopped takes no sample. -/
def State.takeSample (s : State) (n F : Nat) (mgLate handover : Bool) : State :=
  let s := (s.atStart n F).updLoop n fun l => { l with due := none }
  let s := if F = s.lp.frame0 then s else s.takeNext n
  if !(s.md.mode.loopsRun && (s.loop n).running) || s.leaving then s else
  let (whole, s) := s.shadowInputs (.loop n)
  if !whole then s else
  let s := ((s.updLoop n fun l => { l with sampled := some F }).reachedAt (.loop n) F).loopWaits
  let s := s.runLoop (loopPage n) (some (n, F))
  match (s.loop n).cfg with
  | none => s
  | some c =>
    let j := s.sampleJr n c F
    let reg := s.loop n
    let s := (s.updLoop n workOn).sampleBody n c j mgLate handover
    s.updLoop n (settleRegs reg)

/-- A sample whose re-execution has not come by the next frame is abandoned, and its making good with it (R100, R103). -/
def State.dropDue (s : State) (n F : Nat) : State :=
  match (s.loop n).due with
  | some (f, h) =>
    if f < F then
      let j := (s.loop n).jr
      ((s.takeSample n f true h).mgAbandon (· == .loop n)).updLoop n fun l => { l with jr := j }
    else s
  | none => s

/-- A sample that awaits the end of its loop's making good (R96): its journal stands. -/
def State.deferSample (s : State) (n F : Nat) (handover : Bool) : State :=
  (s.atStart n F).updLoop n fun l => { l with due := some (F, handover) }

/-- LOOP_SAMPLE (R240–R266): in the loop's own frame it takes its sample, once; a loop that is being made good takes it when that ends, or misses it where
making good comes too late (R100). Where what it staged fails its check, nothing commits, and it awaits its re-execution (R89). -/
def State.loopSample (s : State) (n : Nat) (mgLate handover : Bool) (chk : List MemFind) : State :=
  let F := s.frameStart
  let s := s.dropDue n F
  if !s.loopFrame n then s
  else if mgLate then (s.takeSample n F true handover).mgAbandon (· == .loop n)
  else if s.inMg (.loop n) then s.deferSample n F handover
  else s.checked chk (fun s => s.takeSample n F false handover) (fun s => s.deferSample n F handover)

/-- The re-execution of a loop (R96): the sample that waited commits before its output instant, and the making good is complete; or it is missed (R100). -/
def State.loopAgain (s : State) (n : Nat) : State :=
  match (s.loop n).due with
  | none => s.mgDone (.loop n)
  | some (F, h) =>
    if s.now ≤ s.outAt n F then (s.takeSample n F false h).mgDone (.loop n)
    else (s.takeSample n F true h).mgAbandon (· == .loop n)

/-! Register writes of the LOOP pages (R248, R252) -/

/-- Combine an HI word with the last LO word the session wrote to the pair; with none, with the pair's present LO word. -/
def State.pairValue (s : State) (sess loAddr : Nat) (present : Word64) (hi : Word) : Word64 :=
  let lo := match s.sess? sess with
    | some x => (lookupA loAddr x.lastLo).getD (lo32 present)
    | none => lo32 present
  pair64 lo hi

/-- Remember the LO word a session wrote to a pair (R248). -/
def State.noteLo (s : State) (sess loAddr : Nat) (v : Word) : State :=
  s.updSess sess fun x => { x with lastLo := insertA loAddr v x.lastLo }

/-- A write to the HI register of tuning pair `k` of loop `n`: range check, then the value and a cut-in (R247, R248, R251). -/
def State.tuneHi (s : State) (sess n k : Nat) (hi : Word) : Err × State :=
  let l := s.loop n
  match l.cfg with
  | none => (.range, s)
  | some c =>
    let v := s.pairValue sess (Page.reg .loop (loopPage n) (loopOff n (0x40 + 8 * k))) (tuneOf l k) hi
    if tuneOk (loopT c) l.tune k v then
      (.ok, s.updLoop n fun l => { l with tune := setAt l.tune k v, cutWr := true })
    else (.range, s)

/-- A write to SP_LOCAL_HI (R248). -/
def State.spLocalHi (s : State) (sess n : Nat) (hi : Word) : Err × State :=
  let l := s.loop n
  let v := s.pairValue sess (Page.reg .loop (loopPage n) (loopOff n 0x100)) l.spLocal hi
  if inR (tuneOf l tSpLo) (tuneOf l tSpHi) v then (.ok, s.updLoop n fun l => { l with spLocal := v, spNew := true }) else (.range, s)

/-- A write to MAN_OUT_HI (R248, R252). -/
def State.manOutHi (s : State) (sess n : Nat) (hi : Word) : Err × State :=
  let l := s.loop n
  let v := s.pairValue sess (Page.reg .loop (loopPage n) (loopOff n 0x108)) l.manOut hi
  if inR (tuneOf l tOutLo) (tuneOf l tOutHi) v then (.ok, s.updLoop n fun l => { l with manOut := v, manNew := true }) else (.range, s)

/-- LOOP.CLR: zero the K-class counters of the selected blocks and record the clearing (R267). -/
def State.loopClr (s : State) (p : Nat) (v : Word) : State :=
  let s := (bitsOf (v.fld 0 8) 8).foldl (fun s j =>
    (s.wrp .loop p (loopOff (8 * p + j) 0x28) 0).wrp .loop p (loopOff (8 * p + j) 0x30) 0) s
  s.recordClr (Page.reg .loop p Off.LOOP_CLR) v

/-! Captures (R264, R265, R269) -/

/-- The modes in which LCAP.CMD is accepted (R269). -/
def lcapModeOk (m : Mode) : Bool := setModeOk m || m == .standby

/-- LCAP.CMD ARM for capture `k` (R264, R265). -/
def State.capArm (s : State) (k : Nat) : Err × State :=
  let w := s.rdp .lcap 0 (Off.LCAP_CFG0 + 4 * k)
  let loop := w.fld 0 6
  let decim := w.fld 8 8
  let count := w.fld 16 15
  let c := s.lp.caps.getD k {}
  if !lcapModeOk s.md.mode then (.mode, s)
  else if c.st == .armed || c.st == .running then (.state, s)
  else if (s.loop loop).mode == .off then (.notFound, s)
  else if decim = 0 ∨ count = 0 ∨ count > 16384 then (.range, s)
  else (.ok, { s with lp := { s.lp with caps := setAt s.lp.caps k { st := .armed, loop := loop, trig := w.fld 6 2, decim := decim, count := count, since := s.now } } })

/-- LCAP.CMD STOP for capture `k`: a running capture ends as DONE, an armed one as IDLE (R269). -/
def State.capStop (s : State) (k : Nat) : Err × State :=
  let c := s.lp.caps.getD k {}
  if !lcapModeOk s.md.mode then (.mode, s)
  else if c.st == .running then
    (.ok, ({ s with lp := { s.lp with caps := setAt s.lp.caps k { c with st := .done } } }).irq .lcap 0 (2 + k))
  else if c.st == .armed then (.ok, { s with lp := { s.lp with caps := setAt s.lp.caps k { c with st := .idle } } })
  else (.ok, s)

/-- Execute an LCAP.CMD (R269): it completes with a status the owning rule names, DENIED below OPERATE (R592). -/
def State.execLcapCmd (s : State) (c : QCmd) : State :=
  let k := c.word.fld 4 2
  let r : Err × State :=
    if c.word.fld 0 4 = 1 then (if c.priv.ge .operate then s.capArm k else (.denied, s))
    else if c.word.fld 0 4 = 2 then (if c.priv.ge .operate then s.capStop k else (.denied, s))
    else (.range, s)
  r.2.complete .lcap 0 Off.LCAP_CMD_STAT r.1 (c.word.fld 8 8)

/-! Register views (R238, R267, R269) -/

/-- LOOP.CFG of a configuration. -/
def loopCfgWord (c : LoopCfg) : Word :=
  w32 (1 + 2 * b2n c.direct + 4 * b2n c.spTrack + 8 * b2n c.failAct + 16 * c.spKind + 256 * c.pvKind + 1024 * c.ffKind + 4096 * c.trkKind
    + 16384 * c.outKind + 65536 * c.initMode.code + 2 ^ 20 * c.depth)

/-- LO or HI word of a binary64 view. -/
def half (o : Nat) (v : Word64) : Word := if o % 8 = 0 then lo32 v else hi32 v

/-- Value of offset `o` of the block of loop `n`, where the model computes it from the loop's state. -/
def State.loopView (s : State) (n o : Nat) : Option Word :=
  let l := s.loop n
  let c? := l.cfg
  let ofC := fun (f : LoopCfg → Word) => some (match c? with | some c => f c | none => 0)
  if o = 0 then ofC loopCfgWord
  else if o = 4 then ofC fun c => w32 c.periodMs
  else if o = 8 then ofC fun c => w32 (c.phaseMs + 2 ^ 20 * l.slot)
  else if o = 0xC then ofC (·.pvRef)
  else if o = 0x10 then ofC (·.spRef)
  else if o = 0x14 then ofC (·.ffRef)
  else if o = 0x18 then ofC (·.trkRef)
  else if o = 0x1C then ofC (·.outRef)
  else if o = 0x20 then some (w32 (l.mode.code + 16 * l.prev.code + 256 * l.reason + 65536 * l.changes))
  else if o = 0x24 then some l.stat
  else if o = 0x2C then some (w32 (l.missRun + 65536 * l.longest))
  else if o = 0x34 then some (w32 l.missLim)
  else if o = 0x38 then some (w32 l.maxAge)
  else if 0x40 ≤ o ∧ o < 0xF8 then some (half o (tuneOf l ((o - 0x40) / 8)))
  else if o = 0x100 ∨ o = 0x104 then some (half o l.spLocal)
  else if o = 0x108 ∨ o = 0x10C then some (half o l.manOut)
  else if 0x110 ≤ o ∧ o < 0x150 then some (half o ([l.tgt, l.r, l.y, l.u, l.i, l.d, l.ff, l.dTest].getD ((o - 0x110) / 8) 0))
  else if o = 0x150 then some (w32 l.tIn.s)
  else if o = 0x154 then some (w32 l.tIn.ns)
  else if o = 0x170 then some (match l.test with | some x => w32 (x.j % 2 ^ 24 + 2 ^ 24) | none => 0)
  else none

/-- Value of offset `o` of LOOP page `p`, where it is computed. -/
def State.loopPageView (s : State) (p o : Nat) : Option Word :=
  if o = Off.LOOP_CONF then some (w32 (maskOf ((List.range 8).filter fun j => (s.loop (8 * p + j)).cfg.isSome)))
  else if 0x100 ≤ o ∧ o < 0xD00 then s.loopView (8 * p + (o - 0x100) / 0x180) ((o - 0x100) % 0x180)
  else none

/-- PAGE_STAT[STATE] of the LOOP pages (R267). -/
def State.loopPageState (s : State) : Nat :=
  match s.md.mode with
  | .run | .degraded | .maintenance => 1
  | .commission => 2
  | .standby => 3
  | _ => 0

/-- Value of offset `o` of the LCAP page, where it is computed. -/
def State.lcapView (s : State) (o : Nat) : Option Word :=
  let sel := s.rdp .lcap 0 Off.LCAP_SEL
  let c := s.lp.caps.getD (sel.fld 0 2) {}
  let start := sel.fld 16 14
  if o = Off.LCAP_INFO then some (w32 (min 240 (c.recs.length - start)))
  else if 0x60 ≤ o ∧ o < 0x70 then
    let d := s.lp.caps.getD ((o - 0x60) / 4) {}
    some (w32 (d.recs.length + 65536 * d.st.code))
  else if 0x70 ≤ o ∧ o < 0x90 then
    let d := s.lp.caps.getD ((o - 0x70) / 8) {}
    some (if o % 8 = 0 then w32 d.trigAt.s else w32 d.trigAt.ns)
  else if 0x100 ≤ o then
    some (match c.recs[start + (o - 0x100) / 16]? with
      | some r => [r.rs, r.y, r.u, r.info].getD (o % 16 / 4) 0
      | none => 0)
  else none

end Sys2Proof.Machine
end

