-- ==== Sys2Proof/Machine/Evt.lean ====
section
/-!
DEFINITION. Reading, freezing and clearing the snag log, and the EVT page (R520–R527).
-/
namespace Sys2Proof.Machine

/-- The seven words of a record before its CRC (R513). -/
def snagHead (r : Snag) : List Word :=
  [w32 (r.code + 65536 * r.flags + 2 ^ 24 * r.source), w32 r.seq, w32 r.optime, w32 r.pwrSub, r.p1, r.p2, r.p3]

/-- The eight words of a record (R513). -/
def snagWords (r : Snag) : List Word := snagHead r ++ [Hash.crc32 ((snagHead r).flatMap Word.bytes)]

/-- SEQ of slot 0. -/
def State.firstSeq (s : State) : Nat := match s.evt.log.head? with | some r => r.seq | none => 0
/-- SEQ of the last record stored. -/
def State.lastSeq (s : State) : Nat := match s.evt.log.getLast? with | some r => r.seq | none => 0

/-- Anchor `k` (R477). -/
def State.anchor (s : State) (k : Nat) : Option (List Byte) := s.keys.anchors.getD k none

/-- A message verifies under anchor `k`; an absent anchor verifies nothing (R477). -/
def State.verifies (s : State) (k : Nat) (msg sig : List Byte) : Bool :=
  match s.anchor k with
  | some a => P256.verify a msg sig
  | none => false

/-- EVT.CFG[READ_MODE] is FREEZE (R521). -/
def State.freezeMode (s : State) : Bool := (s.rdp .evt 0 Off.EVT_CFG).bit 0

/-- EVT.CFG accepts a value (R526). -/
def evtCfgOk (w : Word) : Bool := 1 ≤ w.fld 8 8

/-- A write of a number to EVT.RD_SEQ (R521). -/
def State.rdSeq (s : State) (slot : Nat) (v : Word) : Err × State :=
  let i := s.evt.log.findIdx fun r => v.toNat ≤ r.seq
  if i < s.evt.log.length then (.ok, s.updSess slot fun x => { x with rdIdx := i }) else (.notFound, s)

/-- The freeze begins (R522). -/
def State.beginFreeze (s : State) (slot : Nat) : State :=
  let s := { s with evt := { s.evt with freeze := some (slot, s.now), frozen := [], frzFrom := (s.rdp .evt 0 Off.EVT_FRZ_LOST).toNat } }
  s.putf .evt 0 Off.PAGE_CTRL 2 1 1

/-- A write of PAGE_CTRL[FREEZE] of the EVT page (R522); in SNAPSHOT mode the bit behaves as reserved. -/
def State.evtFreeze (s : State) (slot : Nat) (on : Bool) : Err × State :=
  match s.evt.freeze with
  | some (k, _) =>
    if k == slot then (.ok, if on then s else s.endFreeze) else if on && s.freezeMode then (.locked, s) else (.ok, s)
  | none => (.ok, if on && s.freezeMode then s.beginFreeze slot else s)

/-- The freeze ends FREEZE_MAX_S seconds after it began (R522). -/
def State.freezeTimeout (s : State) : State :=
  match s.evt.freeze with
  | some (_, t) => if s.now ≥ t + (s.rdp .evt 0 Off.EVT_CFG).fld 8 8 * sec then s.endFreeze else s
  | none => s

/-- The freeze ends with its session (R522). -/
def State.freezeOfSession (s : State) (slot : Nat) : State :=
  match s.evt.freeze with
  | some (k, _) => if k == slot then s.endFreeze else s
  | none => s

/-- The 96 bytes of a session's clear authorisation (R523). -/
def authBytes (x : Session) : List Byte := (List.range 24).flatMap fun k => ((lookupA k x.auth).getD 0).bytes

/-- The checks of a clear in their order (R524). -/
def State.clearErr (s : State) (x : Session) : Err :=
  let b := authBytes x
  if leAt b 0 2 ≠ 0x434C ∨ leAt b 2 1 ≠ 1 ∨ leAt b 3 1 ≠ 0 ∨ leAt b 24 8 ≠ 0 then .format
  else if sliceB b 4 16 ≠ deviceId ∨ !s.verifies 4 (b.take 32) (b.drop 32) then .auth
  else if leAt b 20 4 ≠ s.lastSeq then .state
  else match s.evt.freeze with
  | some (k, _) => if k == x.slot then .ok else .locked
  | none => .ok

/-- The clear record takes slot 0 with the next number (R524); without a number to take the command completes with STATE (log entry 37, DEDUCED). -/
def State.clearLog (s : State) : Err × State :=
  let last := s.lastSeq
  let n := s.evt.log.length
  let ovf := s.rdp .evt 0 Off.EVT_OVF
  match s.takeSeq with
  | none => (.state, s)
  | some (k, s) =>
    let r := { s.mkRec 0x1102 (w32 last) (w32 n) ovf false with seq := k }
    let s := { s with evt := { s.evt with log := [r], full := false } }
    (.ok, ((s.wrp .evt 0 Off.EVT_OVF 0).irq .evt 0 2).irq .evt 0 4)

/-- Modes in which an EVT.CMD CLEAR and the SEC.CMD operations that change keys are accepted (R494, R527). -/
def svcMode (m : Mode) : Bool := m == .commission || m == .maintenance || m == .safeHold

/-- Execute an EVT.CMD (R527). -/
def State.execEvtCmd (s : State) (c : QCmd) : State :=
  let r : Err × State :=
    if c.word.fld 0 4 ≠ 1 then (.range, s)
    else if !c.priv.ge .service then (.denied, s)
    else if !svcMode s.md.mode then (.mode, s)
    else match s.sess? c.sess with
    | none => (.session, s)
    | some x => match s.clearErr x with
      | .ok => s.clearLog
      | e => (e, s)
  r.2.complete .evt 0 Off.EVT_CMD_STAT r.1 (c.word.fld 8 8)

/-- EVT.CNT_CLR (R526). -/
def State.evtCntClr (s : State) (v : Word) : State :=
  if v.bit 0 then
    let s := (s.wrp .evt 0 Off.EVT_FRZ_LOST 0).wrp .evt 0 Off.EVT_UNNUM 0
    ({ s with evt := { s.evt with frzFrom := 0, unnumFrom := 0 } }).recordClr (Page.reg .evt 0 Off.EVT_CNT_CLR) v
  else s

/-- A PAGE_RESET of the EVT page beyond its registers: the freeze ends, the read positions and authorisations return to reset (R522, R33). -/
def State.evtReset (s : State) : State :=
  let s := s.endFreeze
  { s with host := { s.host with sessions := s.host.sessions.map fun (x : Session) => { x with rdIdx := 0, auth := [] } } }

/-- PAGE_STAT[STATE] of the EVT page (R526). -/
def State.evtPageState (s : State) : Nat := if s.evt.full then 2 else if s.evt.freeze.isSome then 1 else 0

/-- Value of offset `o` of the EVT page for a session, where it is computed. -/
def State.evtPageView (s : State) (x : Session) (o : Nat) : Option Word :=
  let e := s.evt
  if o = Off.EVT_STAT then some (w32 (b2n e.full + 2 * b2n e.freeze.isSome + 256 * (match e.freeze with | some (k, _) => k | none => 255)))
  else if o = Off.EVT_COUNT then some (w32 e.log.length)
  else if o = Off.EVT_FIRST_SEQ then some (w32 s.firstSeq)
  else if o = Off.EVT_LAST_SEQ then some (w32 s.lastSeq)
  else if o = Off.EVT_NEXT_SEQ then 
    let e := evtTurn e
    some (w32 (if e.block.next < e.block.stop then e.block.next else e.nextBlock))
  else if o = Off.EVT_CRC_BAD then some (w32 e.crcBad)
  else if o = Off.EVT_RD_IDX then some (w32 x.rdIdx)
  else if Off.EVT_AUTH0 ≤ o ∧ o < Off.EVT_AUTH0 + 96 then some ((lookupA ((o - Off.EVT_AUTH0) / 4) x.auth).getD 0)
  else if 0x100 ≤ o then
    let k := (o - 0x100) / 32
    some (match e.log[x.rdIdx + k]? with
      | some r => (snagWords r).getD ((o - 0x100) % 32 / 4) 0
      | none => 0)
  else none

end Sys2Proof.Machine
end

