-- ==== Sys2Proof/Machine/Sec.lean ====
section
/-!
DEFINITION. Keys, tamper, life cycle and attestation (R473–R494), and the SEC page.
-/
namespace Sys2Proof.Machine

/-- Slot usages (R476). -/
def useEmpty : Nat := 0
def useRoot : Nat := 1
def useKek : Nat := 2
def useSign : Nat := 3
def useCred : Nat := 4

/-- The commit record and material of slot `n`, if its commit record stands. -/
def State.keySlot (s : State) (n : Nat) : Option KeySlot := s.keys.slots.getD n none

/-- Slot `n` is occupied (R475). -/
def State.occupied (s : State) (n : Nat) : Bool := match s.keySlot n with | some k => k.usage ≠ useEmpty | none => false

/-- The key of slot `n` when it has the usage (R476). -/
def State.keyOf (s : State) (n usage : Nat) : Option (List Byte) :=
  match s.keySlot n with
  | some k => if k.usage = usage then some k.key else none
  | none => none

/-- The occupied slot that holds a credential identity. -/
def State.credSlot (s : State) (cred : Nat) : Option KeySlot :=
  (s.keys.slots.filterMap id).find? fun k => k.usage = useCred && k.cred = cred

/-- SEC.TAMPER[KEYS_ZEROED]. -/
def State.keysZeroed (s : State) : Bool := (s.rdp .sec 0 Off.SEC_TAMPER).bit 8

/-- Anchor 0, or the vendor anchor before it exists (R487). -/
def State.recoveryAnchor (s : State) : List Byte := if s.keys.lcs = 0 then Config.vendorAnchor else (s.anchor 0).getD []

/-- The secret of the recovery credential (R487). -/
def State.recoverySecret (s : State) : List Byte :=
  Hash.hkdfExpand32 (Hash.hkdfExtract deviceId (P256.agree Config.kuKey s.recoveryAnchor)) (Hash.ascii "DXRC1")

/-- When the recovery credential is accepted (R487). -/
def State.recoveryOpen (s : State) : Bool := s.keys.lcs = 0 || s.keys.lcs = 1 || s.keysZeroed

/-- A recovery session is open. -/
def State.recoverySession (s : State) : Bool := s.host.sessions.any fun x => x.ready && x.cred = 0

/-! Tamper (R484–R486) -/

/-- The tamper sources that count, by their bit in SEC.TAMPER_CAUSE: the internal ones always, the loops when enabled (R484). -/
def State.tamperMask (s : State) : Nat := 0b11111 + 2 ^ 5 * (s.rdp .sec 0 Off.SEC_TAMPER_EN).fld 0 2

/-- Some enabled source is active now. -/
def State.tamperActive (s : State) : Bool := s.keys.active &&& s.tamperMask ≠ 0

/-- Every slot and commit record zero. -/
def State.zeroSlots (s : State) : State := { s with keys := { s.keys with slots := List.replicate 64 none } }

/-- Sources that are open or active now. -/
def State.setActive (s : State) (src : Nat) (on : Bool) : State :=
  { s with keys := { s.keys with active := if on then s.keys.active ||| src else s.keys.active &&& (127 - src) } }

/-- TAMPER: sources fire (R485). A source that is not enabled only shows. Without supply the next start finds the cause. -/
def State.tamper (s : State) (src : Nat) : State :=
  let src := src &&& 127
  let s := s.setActive src true
  let m := src &&& s.tamperMask
  if m = 0 ∨ (s.md.pstate == .p4 && s.rtc.lost) then s
  else
    let s := s.zeroSlots
    let s := s.devSet (Page.sec.reg 0 Off.SEC_TAMPER_CAUSE) (w32 m)
    let s := s.satf .sec 0 Off.SEC_TAMPER 16 16
    let s := (s.putf .sec 0 Off.SEC_TAMPER 8 1 1).putf .sec 0 Off.SEC_TAMPER 9 1 (b2n s.calInvalid)
    let s := s.wrp .sec 0 Off.SEC_TAMPER_S (w32 (s.calNs.toNat / sec))
    let s := { s with keys := { s.keys with told := false } }
    if s.md.pstate == .p4 then { s with md := { s.md with causes := ResetKind.tamper.bit :: s.md.causes } }
    else s.trigger (.reset .tamper)

/-- TAMPER_SOURCE_CHANGE: a source becomes inactive, or an external loop changes while it is not enabled (R484). A source that counts and becomes active is
a tamper. -/
def State.tamperChange (s : State) (src : Nat) (on : Bool) : State :=
  if on then s.tamper src else s.setActive (src &&& 127) false

/-- At the first start after a zeroing (R485, R493): the page event and the record (log entry 43, DEDUCED). -/
def State.startSec (s : State) : State :=
  if s.keys.told then s
  else
    let s := { s with keys := { s.keys with told := true } }
    (s.irq .sec 0 2).record 0x0E02 (s.rdp .sec 0 Off.SEC_TAMPER_CAUSE) (w32 ((s.rdp .sec 0 Off.SEC_TAMPER).fld 16 16)) (s.rdp .sec 0 Off.SEC_TAMPER_S)

/-! Key updates (R479–R483) -/

/-- The 212 bytes of a session's key-update staging (R494). -/
def kuMsg (x : Session) : List Byte := (List.range 53).flatMap fun k => ((lookupA k x.kuStage).getD 0).bytes

/-- Bytes are zero. -/
def zeros (l : List Byte) : Bool := l.all (· == 0)

/-- Fields of a key-update message (R479). -/
def kuOp (b : List Byte) : Nat := leAt b 3 1
def kuSlot (b : List Byte) : Nat := leAt b 24 1
def kuUsage (b : List Byte) : Nat := leAt b 25 1
def kuPriv (b : List Byte) : Nat := leAt b 26 1
def kuLcs (b : List Byte) : Nat := leAt b 27 1
def kuCred (b : List Byte) : Nat := leAt b 28 4
def kuGen (b : List Byte) : Nat := leAt b 32 4
def kuSigner (b : List Byte) : Nat := leAt b 36 1
def kuCounter (b : List Byte) : Nat := leAt b 20 4
def kuData (b : List Byte) : List Byte := sliceB b 40 108

/-- Check 1: MAGIC, VERSION, OP and zero fields. -/
def kuForm (b : List Byte) : Bool :=
  let op := kuOp b
  let key := op = 1 || op = 2
  let d := kuData b
  leAt b 0 2 = 0x554B && leAt b 2 1 = 1 && 1 ≤ op && op ≤ 5 && zeros (sliceB b 37 3) &&
  (op ≠ 5 || kuSlot b = 0) && (key || kuUsage b = 0) && (op = 5 || kuLcs b = 0) &&
  ((key && kuUsage b = useCred) || (kuPriv b = 0 && kuCred b = 0)) &&
  (if op = 1 then zeros (sliceB d 65 3) else if op = 4 then zeros (d.drop 64) else zeros d)

/-- Check 3: the signer permitted for the operation and the life-cycle state; its key, if present. -/
def State.kuKey (s : State) (b : List Byte) : Option (List Byte) :=
  if kuOp b = 4 ∧ kuSlot b = 0 ∧ s.keys.lcs = 0 then (if kuSigner b = 0xFF then some Config.vendorAnchor else none)
  else if kuSigner b = 0 then s.anchor 0 else none

/-- Check 6: the life-cycle state accepts the operation and the target (R488). -/
def State.kuState (s : State) (b : List Byte) : Bool :=
  let l := s.keys.lcs
  if kuOp b = 4 then l ≠ 3
  else (l = 1 || l = 2) && (kuOp b ≠ 5 ||
    (kuLcs b = 2 && l = 1 && [0, 1, 2].all fun k => (s.anchor k).isSome) || kuLcs b = 3)

/-- Check 7: SLOT, USAGE, PRIV, anchor index; CRED_ID held by another slot. -/
def State.kuRange (s : State) (b : List Byte) : Err :=
  let op := kuOp b
  let n := kuSlot b
  if op = 5 then .ok
  else if op = 4 then (if n ≤ 4 then .ok else .range)
  else if 63 < n then .range
  else if op = 3 then .ok
  else if kuUsage b = 0 ∨ kuUsage b > (if op = 1 then 4 else 3) then .range
  else if kuUsage b = useCred then
    if kuPriv b = 0 ∨ 4 < kuPriv b ∨ kuCred b = 0 then .range
    else if (List.range 64).any fun k => k ≠ n && (match s.keySlot k with
      | some x => x.usage = useCred && x.cred = kuCred b
      | none => false) then .duplicate
    else .ok
  else .ok

/-- The unwrapped key of an INSTALL (R480). -/
def kuUnwrap (b : List Byte) : Option (List Byte) :=
  let d := kuData b
  let z := P256.agreeWith Config.kuKey (d.take 65)
  let kek := Hash.hkdfExpand32 (Hash.hkdfExtract (sliceB b 4 16 ++ sliceB b 20 4) z) (Hash.ascii "DXKU1")
  Aes.unwrap kek (sliceB d 68 40)

/-- *Key-update checks* in their order (R481). -/
def State.kuCheck (s : State) (b : List Byte) : Err :=
  if !kuForm b then .format
  else if sliceB b 4 16 ≠ deviceId then .auth
  else match s.kuKey b with
  | none => .auth
  | some a =>
    if !P256.verify a (b.take 148) (b.drop 148) then .auth
    else if kuCounter b ≤ (s.rdp .sec 0 Off.SEC_KU_COUNTER).toNat then .counter
    else if !s.kuState b then .state
    else match s.kuRange b with
    | .ok => if kuOp b = 1 ∧ (kuUnwrap b).isNone then .auth else .ok
    | e => e

/-- The material that a slot operation writes: the unwrapped key, a key from the random source, or zeros (R482). -/
def State.kuMaterial (s : State) (b : List Byte) : List Byte × State :=
  if kuOp b = 1 then ((kuUnwrap b).getD [], s)
  else if kuOp b = 2 then
    let (v, s) := s.fresh 0x482
    (natLE 32 v, s)
  else (List.replicate 32 0, s)

/-- The commit of a slot operation (R482): the other bank becomes the live one. -/
def State.kuCommitSlot (s : State) (b : List Byte) : State :=
  let (k, s) := s.kuMaterial b
  let n := kuSlot b
  let bank := match s.keySlot n with | some x => 1 - x.bank | none => 1
  let u := if kuOp b = 3 then useEmpty else kuUsage b
  { s with keys := { s.keys with slots := setAt s.keys.slots n (some ⟨u, kuPriv b, bank, kuCred b, kuGen b, k⟩) } }

/-- The life-cycle state changes (R488): its event, its record, the end of every session. -/
def State.setLcs (s : State) (l : Nat) : State :=
  let old := s.keys.lcs
  if old = l then s
  else
    let s := { s with keys := { s.keys with lcs := l } }
    let s := (s.irq .sec 0 4).record 0x0E03 (w32 old) (w32 l) (s.rdp .sec 0 Off.SEC_KU_COUNTER)
    let s := if l = 3 then s.trigger .decommission else s
    s.trigger .endSessions

/-- The commit of a message that passes every check (R482, R483), with its status. Log entry 83, DEDUCED. -/
def State.kuCommit (s : State) (b : List Byte) : Err × State :=
  let op := kuOp b
  let s := if op ≤ 3 then s.kuCommitSlot b
    else if op = 4 then { s with keys := { s.keys with anchors := setAt s.keys.anchors (kuSlot b) (some ((kuData b).take 64)) } }
    else s
  let s := s.wrp .sec 0 Off.SEC_KU_COUNTER (w32 (kuCounter b))
  if op = 5 then (.ok, s)
  else
    let s := (s.irq .sec 0 3).record 0x0E01 (w32 (op + 256 * kuSlot b + 65536 * kuUsage b)) (w32 (kuGen b)) (w32 (kuCounter b))
    if op ≤ 3 ∧ s.tamperActive then (.state, s.zeroSlots) else (.ok, s)

/-- The life-cycle state after a commit (R488). -/
def State.kuNextLcs (s : State) (b : List Byte) : Nat :=
  if kuOp b = 5 then kuLcs b else if kuOp b = 4 ∧ kuSlot b = 0 ∧ s.keys.lcs = 0 then 1 else s.keys.lcs

/-- SUBMIT (R481–R483): the status, and the life-cycle state that follows once the command has completed. Log entry 83, DEDUCED. -/
def State.submit (s : State) (c : QCmd) : Err × Nat × State :=
  match s.sess? c.sess with
  | none => (.session, s.keys.lcs, s)
  | some x =>
    let b := kuMsg x
    let r : Err × Nat × State :=
      if !svcMode s.md.mode then (.mode, s.keys.lcs, s)
      else match s.kuCheck b with
      | .ok =>
        let l := s.kuNextLcs b
        let r := s.kuCommit b
        (r.1, l, r.2)
      | e =>
        let s := s.satp .sec 0 Off.SEC_KU_REJ
        let s := if e == .auth || e == .counter then s.record 0x0E04 (w32 (kuOp b)) (w32 e.code) (w32 (kuCounter b)) else s
        (e, s.keys.lcs, s)
    (r.1, r.2.1, r.2.2.wrp .sec 0 Off.SEC_KU_LAST (w32 (kuOp b + 256 * kuSlot b + 65536 * r.1.code)))

/-! Attestation (R490) -/

/-- Occupied slots as a mask. -/
def State.slotMap (s : State) : Nat := maskOf ((List.range 64).filter s.occupied)

/-- The signed part of the report. -/
def State.attestBody (s : State) : List Byte :=
  let r := fun p o => (s.rdp p 0 o).bytes
  let flags := b2n s.keysZeroed + 2 * b2n s.keys.pufOk + 4 * b2n s.time.valid + 8 * b2n s.recoverySession
  let profCrc := match s.prof.stored.getD s.prof.active none with | some p => p.crc | none => 0
  let mtrPub := match s.keyOf (s.rdp .mtr 0 Off.MTR_KEY_SLOT).toNat useSign with
    | some k => P256.publicKey (P256.beNat k)
    | none => List.replicate 64 0
  natLE 2 0x5441 ++ [1, BitVec.ofNat 8 s.keys.lcs] ++ deviceId ++ (List.range 4).flatMap (fun k => r .sec (Off.SEC_NONCE0 + 4 * k)) ++
  natLE 4 s.timeNow.s ++ natLE 4 s.timeNow.ns ++ natLE 4 s.optimeS ++ r .sec Off.SEC_KU_COUNTER ++
  s.upd.run.pkg.bytes ++ profCrc.bytes ++
  (if s.variant.safety then s.safe.cfg.crc.bytes else [0, 0, 0, 0]) ++
  natLE 4 (match s.net.img with | some i => i.crc.toNat | none => 0) ++ natLE 8 s.slotMap ++ natLE 4 flags ++
  Hash.sha256 ((List.range 8).flatMap fun k => (s.anchor k).getD (List.replicate 64 0)) ++ P256.idPub ++ mtrPub

/-- ATTEST. -/
def State.attest (s : State) : Err × State :=
  let b := s.attestBody
  (.ok, { s with keys := { s.keys with report := b ++ P256.idSign b } })

/-- REPROV_DONE (R486). -/
def State.reprovDone (s : State) : Err × State :=
  let cred := s.keys.slots.any fun k => match k with | some x => x.usage = useCred | none => false
  if !svcMode s.md.mode then (.mode, s)
  else if s.tamperActive || (s.keyOf (s.rdp .dpx 0 Off.DPX_ROOT_SLOT).toNat useRoot).isNone || !cred then (.state, s)
  else (.ok, s.putf .sec 0 Off.SEC_TAMPER 8 1 0)

/-- Execute a SEC.CMD (R494). -/
def State.execSecCmd (s : State) (c : QCmd) : State :=
  let op := c.word.fld 0 4
  let r : Err × Nat × State :=
    if op = 0 ∨ 4 < op then (.range, s.keys.lcs, s)
    else if !c.priv.ge .service then (.denied, s.keys.lcs, s)
    else if op = 1 then s.submit c
    else if op = 2 then let r := s.attest; (r.1, s.keys.lcs, r.2)
    else if op = 3 then let r := s.reprovDone; (r.1, s.keys.lcs, r.2)
    else (.ok, s.keys.lcs, s.updSess c.sess fun x => { x with kuStage := [] })
  (r.2.2.complete .sec 0 Off.SEC_CMD_STAT r.1 (c.word.fld 8 8)).setLcs r.2.1

/-- SEC.CLR (R493). -/
def State.secClr (s : State) (v : Word) : State :=
  if v.bit 0 then ((s.wrp .sec 0 Off.SEC_KU_LAST 0).wrp .sec 0 Off.SEC_KU_REJ 0).recordClr (Page.reg .sec 0 Off.SEC_CLR) v else s

/-- The object that SEC.WIN_SEL names. -/
def State.secWin (s : State) : Nat := (s.rdp .sec 0 Off.SEC_WIN_SEL).fld 0 2

/-- A write to a SEC.WIN register (R493): only object 0 takes it. -/
def State.secWinWrite (s : State) (slot o : Nat) (v : Word) : Err × State :=
  if s.secWin ≠ 0 then (.access, s)
  else (.ok, s.updSess slot fun x => { x with kuStage := insertA ((o - Off.SEC_WIN0) / 4) v x.kuStage })

/-- Word `k` of bytes. -/
def wordAt (l : List Byte) (k : Nat) : Word := w32 (leAt l (4 * k) 4)

/-- Value of offset `o` of the SEC page for a session, where it is computed. -/
def State.secPageView (s : State) (x : Session) (o : Nat) : Option Word :=
  let sel := s.keySlot ((s.rdp .sec 0 Off.SEC_SLOT_SEL).fld 0 6)
  let win := s.secWin
  if o = Off.SEC_LCS then some (w32 s.keys.lcs)
  else if o = Off.SEC_STAT then
    some (w32 (b2n s.keys.pufOk + 2 * b2n ((s.queue (Page.reg .sec 0 Off.SEC_CMD)).any fun c => c.word.fld 0 4 = 1) + 4 * b2n s.recoverySession +
      8 * b2n s.tamperActive + 16 * b2n (s.keys.active.testBit 5) + 32 * b2n (s.keys.active.testBit 6)))
  else if Off.SEC_DEVICE_ID0 ≤ o ∧ o < Off.SEC_DEVICE_ID0 + 16 then some (Config.deviceId ((o - Off.SEC_DEVICE_ID0) / 4))
  else if o = Off.SEC_SLOT_MAP0 then some (w32 s.slotMap)
  else if o = Off.SEC_SLOT_MAP1 then some (w32 (s.slotMap / 2 ^ 32))
  else if o = Off.SEC_ANCHOR_MAP then some (w32 (maskOf ((List.range 8).filter fun k => (s.anchor k).isSome)))
  else if o = Off.SEC_SLOT_INFO then some (match sel with | some k => w32 (k.usage + 256 * k.priv + 65536 * k.bank + 2 ^ 17) | none => 0)
  else if o = Off.SEC_SLOT_GEN then some (match sel with | some k => w32 k.gen | none => 0)
  else if o = Off.SEC_SLOT_CRED then some (match sel with | some k => w32 k.cred | none => 0)
  else if o = Off.SEC_WIN_LEN then
    some (w32 (if win = 0 then (match x.kuStage.getLast? with | some (k, _) => 4 * (k + 1) | none => 0)
      else if win = 1 then s.keys.report.length else if win = 2 then Config.idCert.length else 0))
  else if Off.SEC_WIN0 ≤ o then
    let k := (o - Off.SEC_WIN0) / 4
    some (if win = 0 then (lookupA k x.kuStage).getD 0 else if win = 1 then wordAt s.keys.report k else if win = 2 then wordAt Config.idCert k else 0)
  else none

/-- PAGE_STAT[STATE] of the SEC page. -/
def State.secPageState (s : State) : Nat := s.keys.lcs

end Sys2Proof.Machine
end

