-- ==== Sys2Proof/Machine/Meter.lean ====
section
/-!
DEFINITION. Metering (R295–R331): windows and energy, demand, voltage events, thermal energy, saves, billing records, pulse outputs, the MTR, PQ, HEAT
and PULSE pages. Formulas are evaluated in the order written, every operation rounded to binary64, sums in the order of their index (log entry 44, DESIGN CHOICE).
-/
namespace Sys2Proof.Machine
open Sys2Proof.F64

/-- The length of an interval step (R313). -/
def stepNs : Nat := 200 * ms

/-- Electrical point `p` being built. -/
def State.el (s : State) (p : Nat) : ElPoint := s.mtr.w.els.getD p {}
/-- Update electrical point `p`. -/
def State.updEl (s : State) (p : Nat) (f : ElPoint → ElPoint) : State :=
  { s with mtr := { s.mtr with w := { s.mtr.w with els := modAt s.mtr.w.els p f } } }
/-- Configuration of electrical point `p`. -/
def State.elCfg (s : State) (p : Nat) : ElCfg := s.mtr.cfg.els.getD p {}
/-- Thermal point `k`'s configuration. -/
def State.heatCfg (s : State) (k : Nat) : HeatCfg := s.mtr.cfg.heats.getD k {}

/-! Load checks (R295, R307, R321) -/

/-- The MOD slices of an electrical point's channels that its connection uses. -/
def elSlices (c : ElCfg) : List Nat :=
  let v := fun k => c.chV.getD k 0
  let i := fun k => c.chI.getD k 0
  if c.conn = 0 then [v 0, v 1, v 2, i 0, i 1, i 2] else if c.conn = 1 then [v 0, v 2, i 0, i 2] else [v 0, i 0]

/-- Metering configuration of a profile holds together: channels on MOD slices of one clock, no slice twice; CNT flows on CNT slices, one point
each; pulse outputs on DO slices of their own (R295, R307, R313, R318, R321, R327–R331). -/
def mtrOk (slc : Nat → SlcCfg) (fitted : Nat) (owned : List Nat) (c : MtrCfg) : Bool :=
  let els := c.els.filter (·.on)
  let ch := els.flatMap elSlices
  let heats := c.heats.filter (·.on)
  let cnts := (heats.filter fun h => h.flowRef.fld 30 2 = 0).map fun h => h.flowRef.fld 0 6
  let outs := (c.pulses.filter (·.slice ≠ 0)).map (·.slice)
  1 ≤ c.saveS && c.saveS ≤ 60 && 5 ≤ c.billMin && c.billMin ≤ 1440 && 1440 % c.billMin = 0 &&
  1 ≤ c.demMin && c.demMin ≤ 60 && 60 % c.demMin = 0 && c.els.length ≤ 8 && c.heats.length ≤ 24 && c.pulses.length ≤ 16 &&
  els.all (fun e => e.conn ≤ 2 && e.unitExp ≤ 9 &&
    (elSlices e).all (fun n => 1 ≤ n && n ≤ fitted && (slc n).func == 6 && (slc n).opt0 == (slc ((elSlices e).headD 0)).opt0)) &&
  ch.eraseDups.length = ch.length && cnts.eraseDups.length = cnts.length && outs.eraseDups.length = outs.length &&
  cnts.all (fun n => 1 ≤ n && n ≤ fitted && (slc n).func == 9) &&
  heats.all (fun h => 1 ≤ h.vppMl && h.vppMl ≤ 1000000) &&
  c.pulses.all (fun o => o.slice = 0 || (o.slice ≤ fitted && (slc o.slice).func == 0xA && !owned.contains o.slice && 1 ≤ o.const && o.const < 2 ^ 32 &&
    10 ≤ o.width && o.width ≤ 500 && (if o.thermal then o.point < 24 && o.acc ≤ 2 else o.point < 8 && o.acc ≤ 7)))

/-! Samples (R296–R298) -/

/-- A signed field of a channel correction. -/
def sfld (w : Word) (lo : Nat) : Int := let n := w.fld lo 16; if n < 32768 then n else (n : Int) - 65536

/-- The chain of R297 for one decimated sample, up to the gain trim. -/
def State.meterSample (s : State) (n : Nat) (corr : Word) (x : F) : F :=
  let c := (s.slc n).cfg
  let g := grpOf n
  let o := slcOff n 0
  let v := (userStages c (s.rdp .slc g (o + 0x1C), s.rdp .slc g (o + 0x20)) (State.factoryStage n c x)).2
  mul v (add one (mul (ofInt (sfld corr 16)) (q 1 1000000)))

/-- The 32 taps over the sample at the head of a list and those before it. -/
def tapSum (d : Int) (l : List F) : F := sum ((List.range 32).map fun k => mul (Config.fdelayCoef d k) (l.getD k zero))

/-- Fractional delay of a window: `rev` holds the samples so far, newest first. -/
def fdelayRun (d : Int) : List F → List F → List F
  | _, [] => []
  | rev, x :: xs => tapSum d (x :: rev) :: fdelayRun d ((x :: rev).take 31) xs

/-- The corrected samples of a channel: `xs` is the window preceded by the 31 samples before it (R297). -/
def State.channel (s : State) (n : Nat) (corr : Word) (xs : List F) : List F :=
  let v := xs.map (s.meterSample n corr)
  fdelayRun (sfld corr 0) (v.take 31).reverse (v.drop 31)

/-! Windows (R299–R302, R304) -/

/-- Quality of channel `c` of a point over a window: what its samples had, BAD while its group is fenced or no slice is configured. -/
def State.chanQual (s : State) (n : Nat) (ql : Qual) : Qual := if n = 0 ∨ (s.grp (grpOf n)).cause.isSome then .bad else ql

/-- Elements of a connection as phase index (R300). -/
def elements (conn : Nat) : List Nat := if conn = 0 then [0, 1, 2] else if conn = 1 then [0, 2] else [0]

/-- Root mean square. -/
def rms (l : List F) : F := sqrt (div (sum (l.map fun x => mul x x)) (ofNat l.length))

/-- Add an energy to accumulator `k` with its residue (R301). -/
def accAdd (acc : List Nat) (res : List F) (k : Nat) (e : F) : List Nat × List F :=
  let t := add e (res.getD k zero)
  let n := floorI t
  (modAt acc k (· + n.toNat), setAt res k (sub t (ofInt n)))

/-- Add several energies. -/
def accAdds (acc : List Nat) (res : List F) : List (Nat × F) → List Nat × List F
  | [] => (acc, res)
  | (k, e) :: r => let x := accAdd acc res k e; accAdds x.1 x.2 r

/-- Which accumulators a billable window feeds (*Electrical accumulators*). -/
def energies (p ep eq es : F) (qv : F) : List (Nat × F) :=
  let imp := !lt p zero
  let lag := !lt qv zero
  [(if imp then 0 else 1, abs ep),
   (if imp && lag then 2 else if !imp && lag then 3 else if !imp then 4 else 5, abs eq),
   (if imp then 6 else 7, es)]

/-- Energy of a power over `n` samples in fine units (R301). -/
def winEnergy (p : F) (n : Nat) : F := div (div (mul p (ofNat n)) (ofNat 8000)) (q 36 10)

/-- Powers of one element: RMS values, P, Q, S; Q only with a fundamental (R300). -/
structure ElemPow where
  ph : Nat
  u  : F
  i  : F
  p  : F
  q  : F
  s  : F

/-- Bin `b` of the DFT of a channel's window resampled to 2,048 points (R304), real and imaginary part, scaled to RMS values as R300 and R329 use them
(log entry 44, DESIGN CHOICE). -/
def dftBin (xs : List F) (kk : Nat) (freq : F) (b : Nat) : F × F :=
  let ang := fun j => mul twoPi (div (ofNat (b * j % 2048)) (ofNat 2048))
  let weigh := fun f : F → F => sum ((List.range 2048).map fun j => mul (Config.resample xs kk freq j) (f (ang j)))
  let k := div (sqrt (ofNat 2)) (ofNat 2048)
  (mul k (weigh Config.cos), mul k (neg (weigh Config.sin)))

/-- Harmonic groups of a channel (R304): THD, G_1, then G_h in per cent of G_1. -/
def harmonics (xs : List F) (k : Nat) (freq : F) : List F :=
  let c2 := fun b => let c := dftBin xs k freq b; add (mul c.1 c.1) (mul c.2 c.2)
  let g := fun h => sqrt (add (add (mul (q 1 2) (c2 (k * h - k / 2)))
    (sum ((List.range (k - 1)).map fun i => c2 (k * h - (k / 2 - 1) + i)))) (mul (q 1 2) (c2 (k * h + k / 2))))
  let gs := (List.range 63).map fun h => g (h + 1)
  let g1 := gs.getD 0 zero
  let thd := div (mul (ofNat 100) (sqrt (sum ((gs.drop 1).map fun x => mul x x)))) g1
  thd :: g1 :: (gs.drop 1).map fun x => div (mul (ofNat 100) x) g1

/-- The measured frequency lies outside the range of the nominal one (R299). -/
def freqOut (f60 : Bool) (f : F) : Bool :=
  if f60 then lt f (ofNat 51) || lt (ofNat 69) f else lt f (q 85 2) || lt (q 115 2) f

/-- The first `n` channels of point `p` as metering takes them (R297): quality and corrected samples; none where the connection does not use the channel. -/
def State.mtrChans (s : State) (p n : Nat) (chans : List (Qual × List F)) : List (Qual × List F) :=
  let c := s.elCfg p
  (List.range n).map fun k =>
    let sl := if k < 3 then c.chV.getD k 0 else c.chI.getD (k - 3) 0
    let x := chans.getD k (.bad, [])
    if (elements c.conn).contains (k % 3) then (s.chanQual sl x.1, s.channel sl (s.mtr.corr.getD (6 * p + k) 0) x.2) else (.good, [])

/-- A window of point `p` ends (R299–R302, R304), with the frequency measured from its zero crossings and what metering took of its six channels. -/
def State.windowEnd (s : State) (p : Nat) (freq : F) (chans : List (Qual × List F)) : State :=
  let c := s.elCfg p
  if !s.mtr.running || !c.on || 8 ≤ p then s
  else
    let used := (elements c.conn).flatMap fun e => [e, e + 3]
    let ql := fun k => (chans.getD k (.bad, [])).1
    let xs := fun k => (chans.getD k (.bad, [])).2
    let n := match used.head? with | some k => (xs k).length | none => 0
    let noV := (elements c.conn).all fun e => ql e != .good
    let out := freqOut s.mtr.cfg.f60 freq
    let fixed := out || noV
    let kk := if s.mtr.cfg.f60 then 12 else 10
    let dir := fun x => if c.dir then neg x else x
    let pow := (elements c.conn).map fun e =>
      let u := xs e
      let i := xs (e + 3)
      let u1 := dftBin u kk freq kk
      let i1 := dftBin i kk freq kk
      let ur := rms u
      let ir := rms i
      ({ ph := e, u := ur, i := ir, p := dir (div (sum ((u.zip i).map fun x => mul x.1 x.2)) (ofNat n)),
         q := dir (sub (mul u1.2 i1.1) (mul u1.1 i1.2)), s := mul ur ir } : ElemPow)
    let x := s.el p
    let get := fun (f : ElemPow → F) (e : Nat) => match pow.find? (·.ph == e) with | some y => f y | none => zero
    let pT := sum (pow.map (·.p))
    let qT := if fixed then x.q else sum (pow.map (·.q))
    let sT := if c.conn = 1 then sqrt (add (mul pT pT) (mul qT qT)) else sum (pow.map (·.s))
    let pf := if isZ sT then zero else div pT sT
    let quals := (List.range 6).map fun k => if used.contains k then ql k else .good
    let billable := used.all fun k => ql k != .bad
    let y := { x with
      freq := freq, fOut := out, fixed := fixed, quals := quals, uncert := used.any (fun k => ql k == Qual.uncertain)
      rms := (List.range 3).map (get (·.u)) ++ (List.range 3).map (get (·.i))
      pqs := (List.range 3).map (get (·.p)) ++ (if fixed then (x.pqs.drop 3).take 3 else (List.range 3).map (get (·.q))) ++ (List.range 3).map (get (·.s))
      p := pT, q := qT, s := sT, pf := pf
      harm := if fixed then x.harm else (List.range 6).map fun k => if used.contains k then harmonics (xs k) kk freq else List.replicate 64 zero }
    if billable then
      let a := accAdds y.acc y.res (energies pT (winEnergy pT n) (winEnergy qT n) (winEnergy sT n) qT)
      s.updEl p fun _ => { y with acc := a.1, res := a.2, est := false, pGood := some pT, seen := true }
    else
      let a := match (if y.seen then y.pGood else none) with
        | some g => accAdds y.acc y.res [(if lt g zero then 9 else 8, winEnergy (abs g) n)]
        | none => (y.acc, y.res)
      let s := s.updEl p fun _ => { y with acc := a.1, res := a.2, est := true, errUs := y.errUs + n * 125 }
      if x.est then s else s.irq .mtr 0 5

/-! Voltage events (R305, R306) -/

/-- The 16 bytes of a PQ event record. -/
def pqBytes (e : PqRun) (udin : F) (durNs kind p : Nat) (cut : Bool) : List Byte :=
  natLE 4 e.start.s ++ natLE 4 e.start.ns ++ natLE 4 (Config.toUnits 1 (div (ofNat durNs) (ofNat ms))) ++
  natLE 2 (Config.toUnits 2 (mul (div e.ext udin) (ofNat 10000))) ++ natLE 1 (kind + 4 * e.chans) ++ natLE 1 (p + 8 * b2n e.inval + 16 * b2n cut)

/-- A voltage event of kind `k` (0 sag, 1 swell, 2 interruption) ends; its record is released with the interval step (R306). -/
def State.pqEnd (s : State) (p k : Nat) (cut : Bool) : State :=
  match (s.el p).runs.getD k none with
  | none => s
  | some e =>
    let b := pqBytes e (ofF32 (s.elCfg p).udin) (s.now - e.at_) (k + 1) p cut
    let s := s.updEl p fun x => { x with runs := setAt x.runs k none }
    { s with mtr := { s.mtr with done := s.mtr.done ++ [(p, k, b)] } }

/-- Every event of a point in progress ends with CUT. -/
def State.pqCut (s : State) (p : Nat) : State := (List.range 3).foldl (fun s k => s.pqEnd p k true) s

/-- One kind of event at a half-cycle (R305): `begin` and `stay` are whether it begins and whether it goes on. -/
def State.pqKind (s : State) (p k : Nat) (begin_ stay : Bool) (ext : F) (chans : Nat) : State :=
  match (s.el p).runs.getD k none with
  | some e =>
    let worse := if k = 1 then fmax e.ext ext else fmin e.ext ext
    if stay then s.updEl p fun x => { x with runs := setAt x.runs k (some { e with ext := worse, chans := e.chans ||| chans }) }
    else s.pqEnd p k false
  | none =>
    if begin_ then s.updEl p fun x => { x with runs := setAt x.runs k (some ⟨s.timeNow, s.now, !s.time.valid, ext, chans⟩) } else s

/-- A half-cycle (R305): the corrected samples of one cycle of each voltage channel give U_rms(1/2). -/
def State.halfCycle (s : State) (p : Nat) (chans : List (Qual × List F)) : State :=
  let c := s.elCfg p
  if !s.mtr.running || !c.on || 8 ≤ p then s
  else
    let els := elements c.conn
    let ql := fun k => (chans.getD k (.bad, [])).1
    let lost := maskOf (els.filter fun k => ql k == .bad)
    let x := s.el p
    let s := if lost &&& (7 - x.lost % 8) ≠ 0 then s.pqCut p else s
    let s := s.updEl p fun x => { x with lost := lost }
    let live := els.filter fun k => ql k != .bad
    if live.isEmpty then s
    else
      let udin := ofF32 c.udin
      let u := live.map fun k => (k, rms (chans.getD k (.bad, [])).2)
      let pct := fun (v : F) => mul (div v udin) (ofNat 100)
      let sag := ofNat (c.thr.fld 0 8)
      let swell := ofNat (c.thr.fld 8 8)
      let int_ := ofNat (c.thr.fld 16 8)
      let hyst := q (c.thr.fld 24 8) 10
      let lo := u.foldl (fun m x => fmin m x.2) inf
      let hi := u.foldl (fun m x => fmax m x.2) zero
      let ch := fun (f : F → Bool) => maskOf ((u.filter fun x => f (pct x.2)).map (·.1))
      let s := s.pqKind p 0 (u.any fun x => lt (pct x.2) sag) (!u.all fun x => le (add sag hyst) (pct x.2)) lo (ch fun y => lt y sag)
      let s := s.pqKind p 1 (u.any fun x => lt swell (pct x.2)) (!u.all fun x => le (pct x.2) (sub swell hyst)) hi (ch fun y => lt swell y)
      s.pqKind p 2 (u.all fun x => lt (pct x.2) int_) (!u.any fun x => le (add int_ hyst) (pct x.2)) lo (ch fun y => lt y int_)

/-- Release the records of the events that ended in a step (R306): ring, counters, page event, snag record; overwriting an unread one counts. -/
def State.pqRelease (s : State) : State :=
  let l := s.mtr.done
  let s := { s with mtr := { s.mtr with done := [] } }
  l.foldl (fun s (r : Nat × Nat × List Byte) =>
    let i := s.mtr.ringN % 64
    let s := if s.mtr.unread.contains i then (s.satp .pq 0 Off.PQ_EVT_LOST).irq .pq 0 2 else s
    let ring := if i < s.mtr.ring.length then setAt s.mtr.ring i r.2.2 else s.mtr.ring ++ [r.2.2]
    let s := { s with mtr := { s.mtr with ring := ring, ringN := s.mtr.ringN + 1, unread := i :: s.mtr.unread.erase i } }
    let s := (s.satp .pq 0 (0x110 + 0x20 * r.1 + 4 * r.2.1)).irq .pq 0 1
    s.record 0x0702 (w32 (leAt r.2.2 8 4)) (Config.meterParam 1 (leAt r.2.2 14 1)) (w32 r.1)) s

/-! Thermal points (R307–R309) -/

/-- A thermal input by the kind and the lower bits of its reference. -/
def State.heatSrc (s : State) (kind : Nat) (ref : Word) : Src :=
  if kind = 0 then s.slcSrc (ref.fld 0 6) else if kind = 1 then s.ptSrc (ref.fld 0 23) else s.canSrc (ref.fld 16 3) (ref.fld 0 16)

/-- What thermal point `k` reads at a step end (R308). -/
def State.heatIn (s : State) (k : Nat) : HeatIn :=
  let c := s.heatCfg k
  let cnt := c.flowRef.fld 30 2 = 0
  { count := (s.slc (c.flowRef.fld 0 6)).count
    fl := if cnt then s.slcSrc (c.flowRef.fld 0 6) else s.heatSrc (c.flowRef.fld 30 2 - 1) c.flowRef
    tf := s.heatSrc (c.tfRef.fld 30 2) c.tfRef
    tr := s.heatSrc (c.trRef.fld 30 2) c.trRef }

/-- What every thermal point reads. -/
def State.heatIns (s : State) : List HeatIn := (List.range 24).map s.heatIn

/-- One thermal point at the end of an interval step of `len` nanoseconds: 200 ms, or less at a final save (R308, R309, R315). -/
def State.heatStep (s : State) (len k : Nat) (i : HeatIn) : State :=
  let c := s.heatCfg k
  match s.mtr.w.heats[k]? with
  | none => s
  | some x =>
    if !c.on then s
    else
      let cnt := c.flowRef.fld 30 2 = 0
      let count := i.count
      let fl := i.fl
      let tf := i.tf
      let tr := i.tr
      let dn := match x.prev with | some o => (count + 2 ^ 32 - o % 2 ^ 32) % 2 ^ 32 | none => 0
      let dv := if cnt then mul (mul (ofNat dn) (ofNat c.vppMl)) (q 1 1000000) else div (mul fl.val (q len sec)) (ofNat 3600)
      let inT := fun (v : F) => le zero v && le v (ofNat 180)
      let range := !inT tf.val || !inT tr.val || c.press < 100 || 2500 < c.press
      let ok := fun (y : Src) => y.qual != .bad && y.age ≤ c.maxAge * ms
      let flowOk := ok fl && !range
      let billable := flowOk && ok tf && ok tr
      let press := ofNat c.press
      let m := mul dv (Config.rho (if c.flowLoc then tf.val else tr.val) press)
      let dh := sub (Config.enthalpy tf.val press) (Config.enthalpy tr.val press)
      let de := if lt (mul (abs (sub tf.val tr.val)) (ofNat 1000)) (ofNat c.dtMin) then zero else div (mul m dh) (q 36 10000)
      let vol := if flowOk then [(2, mul dv (ofNat 1000000))] else []
      let heat := if !billable then (match x.eGood with
          | some g => [(if lt g zero then 4 else 3, mul (abs g) (q len stepNs))]
          | none => [])
        else if lt zero de then [(0, de)] else if lt de zero then [(1, neg de)] else []
      let a := accAdds x.acc x.res (heat ++ vol)
      let bad := 8 * b2n (!ok fl || range) + 16 * b2n (!ok tf || range) + 32 * b2n (!ok tr || range) + 64 * b2n range
      let ql := if range then .bad else fl.qual.worst (tf.qual.worst tr.qual)
      let y := { x with
        acc := a.1, res := a.2, prev := some count, qual := ql, est := !billable, bad := bad
        errUs := if billable then x.errUs else x.errUs + len / 1000
        eGood := if billable then some (if len = stepNs then de else mul de (q stepNs len)) else x.eGood
        flow := if cnt then mul dv (q (3600 * sec) len) else fl.val
        tf := tf.val, tr := tr.val, power := div (mul de (q 36 10)) (q len ms) }
      let s := { s with mtr := { s.mtr with w := { s.mtr.w with heats := setAt s.mtr.w.heats k y } } }
      if !billable && !x.est then s.irq .heat 0 1 else s

/-- Every thermal point at a step end. -/
def State.heatSteps (s : State) (len : Nat) (ins : List HeatIn) : State :=
  (List.range 24).foldl (fun s k => match ins[k]? with | some i => s.heatStep len k i | none => s) s

/-! Pulse outputs (R321–R323) -/

/-- The accumulator a pulse output counts. -/
def pulseAcc (a : Accts) (c : PulseCfg) : Nat :=
  if c.thermal then ((a.heats.getD c.point {}).acc.getD c.acc 0) else ((a.els.getD c.point {}).acc.getD c.acc 0)

/-- One pulse output at a step commit (R322). -/
def State.pulseStep (s : State) (k : Nat) : State :=
  let c := s.mtr.cfg.pulses.getD k {}
  match s.mtr.w.pulses[k]? with
  | none => s
  | some o =>
    if c.slice = 0 then s
    else
      let pend := pulseAcc s.mtr.w c / c.const - o.e
      let n := min pend (200 / (2 * c.width))
      let fenced := (s.grp (grpOf c.slice)).cause.isSome
      let lag := n < pend
      let y : PulseOut := { e := o.e + n, back := min 65535 (pend - n), lag := lag, rel := if fenced then 0 else n }
      let s := { s with mtr := { s.mtr with w := { s.mtr.w with pulses := setAt s.mtr.w.pulses k y } } }
      let s := if fenced then s.satp .pulse 0 (0x114 + 0x20 * k) n else s
      if lag && !o.lag then s.irq .pulse 0 1 else s

/-- The pulse outputs at a step commit (R322, R596): the slices that emit pulses, and those that stand at their safe or fault value, are released; at rest, a pulse
output is off. -/
def State.pulseSteps (s : State) : State :=
  let s := (List.range 16).foldl (fun s k => s.pulseStep k) s
  s.releaseOuts ((List.range 16).filterMap fun k =>
    let n := (s.mtr.cfg.pulses.getD k {}).slice
    if n ≠ 0 && (0 < (s.mtr.w.pulses.getD k {}).rel || (s.slc n).own.isNone || (s.slc n).held) then some (Target.slice n, zero) else none)

/-- The slices of pulse outputs. -/
def pulseSlcs (c : MtrCfg) : List Nat := (c.pulses.map (·.slice)).filter (· ≠ 0)

/-- A pulse output whose source or CONST changes starts at its accumulator, so that no burst follows (R321). -/
def pulseStart (old new : PulseCfg) (a : Accts) (o : PulseOut) : PulseOut :=
  if old.slice = new.slice ∧ old.thermal = new.thermal ∧ old.point = new.point ∧ old.acc = new.acc ∧ old.const = new.const then o
  else { e := pulseAcc a new / new.const }

/-! Saves (R313–R315) -/

/-- The newest valid save. -/
def newestSave (m : MtrState) : Option MtrSave :=
  (m.bufs.filterMap id).foldl (fun (b : Option MtrSave) x =>
    if !x.ok then b else match b with | some y => if y.seq < x.seq then some x else b | none => some x) none

/-- The buffer that does not hold the newest valid save (R314). -/
def saveTarget (m : MtrState) : Nat :=
  match newestSave m, m.bufs.getD 0 none with
  | some x, some y => if x.seq = y.seq ∧ y.ok then 1 else 0
  | _, _ => 0

/-- Write a save (R314): `ok` is whether its verification passes; a save has its commit record (R91). -/
def State.saveTo (s : State) (last ok : Bool) : State :=
  let seq := (s.rdp .mtr 0 Off.MTR_SAVE_SEQ).toNat + 1
  let x : MtrSave := ⟨seq, s.calNs, s.optimeS, last, ok, s.mtr.w⟩
  let s := { s with mtr := { s.mtr with bufs := setAt s.mtr.bufs (saveTarget s.mtr) (some x) } }
  if ok then
    ((({ s with mtr := { s.mtr with savedAt := some s.now, saveNow := false } }).wrp .mtr 0 Off.MTR_SAVE_SEQ (w32 seq)).modp .mtr 0 Off.MTR_SAVES).noteCommit .metering []
  else
    let s := ({ s with mtr := { s.mtr with saveNow := true } }).satp .mtr 0 Off.MTR_SAVE_FAIL
    (s.irq .mtr 0 2).recordGen 0x07 .mtr 0 Off.MTR_SAVE_FAIL (s.rdp .mtr 0 Off.MTR_SAVE_FAIL)

/-- A save with `bad` failed verifications: one is retried, a second counts and the save is retried at the next step end (R314). -/
def State.save (s : State) (bad : Nat) : State := s.saveTo false (bad ≤ 1)

/-! Billing (R318–R320) -/

/-- The instant on the cycle timer of the latest whole multiple of a length in TAI, or, while the time base is not valid, on the cycle timer from the
last valid boundary (R303, R318); before any, from the metering start (log entry 47, DEDUCED). -/
def State.boundary (s : State) (len : Nat) : Nat :=
  let ofs := if s.time.valid then s.time.ofs else s.mtr.lastOfs.getD (-(s.mtr.startAt : Int))
  s.now - ((s.now + ofs : Int).toNat % len)

/-- A boundary has passed since the last step end. -/
def State.crossed (s : State) (len : Nat) : Bool := s.mtr.lastEnd < s.boundary len && s.boundary len ≤ s.now

/-- Configured points by number: electrical 0–7, thermal from 8 on. -/
def State.billPoints (s : State) : List Nat :=
  ((List.range 8).filter fun p => (s.elCfg p).on) ++ (((List.range 24).filter fun k => (s.heatCfg k).on).map (8 + ·))

/-- The words over which CFG_CRC runs. -/
def State.cfgWords (s : State) (n : Nat) : List Word :=
  if n < 8 then
    let c := s.elCfg n
    [w32 (b2n c.on + 2 * c.conn + 8 * b2n c.dir + 2 ^ 24 * c.unitExp), c.udin, c.thr] ++ (c.chV ++ c.chI).map w32 ++ (List.range 6).map fun k => s.mtr.corr.getD (6 * n + k) 0
  else
    let c := s.heatCfg (n - 8)
    [w32 (b2n c.on + 2 * b2n c.flowLoc + 256 * c.unitExp + 4096 * c.volExp), c.flowRef, c.tfRef, c.trRef, w32 c.vppMl, w32 c.press, w32 c.dtMin, w32 c.maxAge]

/-- The estimates of a point. -/
def acctEsts (a : Accts) (n : Nat) : List Nat :=
  if n < 8 then ((a.els.getD n {}).acc.drop 8) else ((a.heats.getD (n - 8) {}).acc.drop 3)

/-- Bytes 0–151 of a billing record (R318). -/
def State.billBytes (s : State) (n recno flags : Nat) (b : BillPt) : List Byte :=
  let t := s.timeNow
  let e := s.mtr.w.els.getD n {}
  let h := s.mtr.w.heats.getD (n - 8) {}
  let el := n < 8
  let accs := if el then e.acc.take 8 else h.acc.take 3 ++ List.replicate 5 0
  natLE 2 0x4D42 ++ [1, if el then 1 else 2] ++ natLE 4 recno ++ deviceId ++ natLE 1 (if el then n else n - 8) ++ natLE 1 flags ++ [0, 0] ++
  natLE 4 b.start.s ++ natLE 4 b.start.ns ++ natLE 4 t.s ++ natLE 4 t.ns ++ natLE 4 s.optimeS ++
  natLE 4 ((s.rdp .sys 0 Off.SYS_PWRCYC).fld 0 24) ++ (Config.cfgCrc (s.cfgWords n)).bytes ++
  accs.flatMap (natLE 8) ++ (acctEsts s.mtr.w n).flatMap (natLE 8) ++ natLE 8 ((if el then e.errUs else h.errUs) / 1000) ++
  natLE 8 (if el then Config.toUnits 3 (mul e.perMax (ofNat 1000)) else 0)

/-- Fix one billing record (R318, R319): nothing while the holding area is full. -/
def State.billFix (s : State) (n : Nat) : State :=
  if s.mtr.hold.length ≥ 256 then { s with mtr := { s.mtr with full := true } }
  else
    let b := s.mtr.bills.getD n {}
    let est := acctEsts s.mtr.w n
    let grown := (est.zip b.est).any fun x => x.2 < x.1
    let fl := (b.flags ||| b2n grown) ||| (32 * b2n (!s.time.valid))
    let slot := (s.rdp .mtr 0 Off.MTR_KEY_SLOT).fld 0 6
    let noKey := (s.keyOf slot useSign).isNone
    let r := s.billBytes n s.mtr.recNext (fl ||| (128 * b2n noKey)) b
    let s := { s with mtr := { s.mtr with
      full := false, recNext := (s.mtr.recNext + 1) % 2 ^ 32, hold := s.mtr.hold ++ [(r, slot)]
      bills := setAt s.mtr.bills n { start := s.timeNow, est := est, flags := 0 } } }
    if n < 8 then s.updEl n fun x => { x with perMax := zero } else s

/-- Fix one record for every configured point (R318); only the controller that holds the token does (R319). -/
def State.billAll (s : State) : State := if s.hasToken then s.billPoints.foldl (fun s n => s.billFix n) s else s

/-- Set a flag on the records in progress of the points given. -/
def State.billFlag (s : State) (pts : List Nat) (bit : Nat) : State :=
  { s with mtr := { s.mtr with bills := pts.foldl (fun l n => modAt l n fun b => { b with flags := b.flags ||| 2 ^ bit }) s.mtr.bills } }

/-- All 32 points. -/
def allPts : List Nat := List.range 32

/-- Records the NAND store keeps (R320). -/
def recMax : Nat := 262144

/-- No committed metering step waits for the partner's acknowledgement (R324). -/
def State.stepsMirrored (s : State) : Bool :=
  !s.pair.session || !(s.pair.unacked.any fun x => match x.2.1 with | .commit .metering .. => true | _ => false)

/-- BILLING_RECORD_SIGN (R319): the oldest fixed record is signed and stored; with no key in its slot SIG is zero and UNSIGNED set. -/
def State.billSign (s : State) : State :=
  match s.mtr.hold with
  | [] => s
  | (r, slot) :: rest =>
    if !s.md.pstate.cmp || !s.stepsMirrored then s
    else
      let key := s.keyOf slot useSign
      let r := match key with
        | some k => if r.getD 25 0 &&& 128 = 0 then r ++ P256.sign (P256.beNat k) r else r ++ List.replicate 64 0
        | none => setAt r 25 (r.getD 25 0 ||| 128) ++ List.replicate 64 0
      let n := leAt r 4 4
      let l := s.mtr.recs ++ [(n, r)]
      let s := { s with mtr := { s.mtr with hold := rest, recs := l.drop (l.length - recMax) } }
      let s := s.irq .mtr 0 4
      if key.isNone then s.recordGen 0x07 .mtr 0 Off.MTR_KEY_SLOT (s.rdp .mtr 0 Off.MTR_KEY_SLOT) else s

/-! The interval step (R303, R313, R318, R325, R328) -/

/-- Points whose configuration differs. -/
def changedPts (a b : MtrCfg) : List Nat :=
  ((List.range 8).filter fun p => a.els.getD p {} != b.els.getD p {}) ++
  (((List.range 24).filter fun k => a.heats.getD k {} != b.heats.getD k {}).map (8 + ·))

/-- Demand at the end of its period (R303). -/
def State.demandEnd (s : State) : State :=
  let t := s.timeNow.s
  { s with mtr := { s.mtr with w := { s.mtr.w with els := s.mtr.w.els.map fun (x : ElPoint) =>
    let imp := x.acc.getD 0 0
    let d := div (mul (ofNat (imp - x.demAcc)) (q 36 10)) (div (ofNat (s.now - x.demAt)) (ofNat sec))
    { x with
      dem := d, demAt := s.now, demAcc := imp, perMax := fmax x.perMax d
      maxDem := if lt x.maxDem d then d else x.maxDem, maxAt := if lt x.maxDem d then t else x.maxAt } } } }

/-- MTR.CMD MAXDEM_RESET (R328). -/
def State.maxdemReset (s : State) (w : Word) : State :=
  let s := { s with mtr := { s.mtr with w := { s.mtr.w with els := s.mtr.w.els.map fun (x : ElPoint) => { x with maxDem := zero, maxAt := 0 } } } }
  s.recordClr (Page.reg .mtr 0 Off.MTR_CMD) w

/-- The address of MTR.CMD. -/
def mtrCmdAddr : Nat := Page.reg .mtr 0 Off.MTR_CMD

/-- A command of MTR.CMD at the step end that performs it (R328). -/
def State.mtrCmd (s : State) (c : QCmd) : State := s.asPeer c.sess fun s =>
  let op := c.word.fld 0 4
  let tag := c.word.fld 8 8
  let done := fun (e : Err) (s : State) => s.complete .mtr 0 Off.MTR_CMD_STAT e tag
  if op = 0 ∨ 2 < op then done .range s
  else if !c.priv.ge (if op = 1 then .operate else .config) then done .denied s
  else if s.md.mode == .standby then done .state s
  else if op = 1 then done .ok { s with mtr := { s.mtr with saveNow := true } }
  else if !(s.md.mode == .commission || s.md.mode == .maintenance) then done .mode s
  else done .ok (s.maxdemReset c.word)

/-- Perform the commands that came before the step end. -/
def State.mtrCmds (s : State) : State :=
  let l := s.queue mtrCmdAddr
  (l.filter (·.at_ ≤ s.now)).foldl (fun s c => s.mtrCmd c) (s.setQueue mtrCmdAddr (l.filter fun c => !(c.at_ ≤ s.now)))

/-- What is built becomes what is committed (R89, R313): a rollback returns here, and the journal up to here is released (R90). -/
def State.mtrCommit (s : State) : State := { s with mtr := { s.mtr with c := { s.mtr.w with recNo := s.mtr.recNext }, jrn := [] } }

/-- The billing periods of the points that a configuration adds begin now (R318). -/
def State.billBegin (s : State) (c : MtrCfg) : State :=
  let new := ((List.range 8).filter fun p => (c.els.getD p {}).on && !(s.elCfg p).on) ++
    (((List.range 24).filter fun k => (c.heats.getD k {}).on && !(s.heatCfg k).on).map (8 + ·))
  { s with mtr := { s.mtr with bills := new.foldl (fun l n => modAt l n fun b => { b with start := s.timeNow, est := acctEsts s.mtr.w n }) s.mtr.bills } }

/-- The next step takes the corrections written before it (R298) and, after a profile switch, the new configuration (R325). -/
def State.mtrNext (s : State) : State :=
  let corr := (List.range 48).map fun k => s.rdp .mtr 0 (0x2D0 + 0x100 * (k / 6) + 4 * (k % 6))
  let s := { s with mtr := { s.mtr with corr := corr } }
  match s.mtr.next with
  | none => s
  | some c =>
    let ps := (List.range s.mtr.w.pulses.length).map fun k =>
      pulseStart (s.mtr.cfg.pulses.getD k {}) (c.pulses.getD k {}) s.mtr.w (s.mtr.w.pulses.getD k {})
    let s := s.billBegin c
    let s := ((pulseSlcs c).filter fun n => !(pulseSlcs s.mtr.cfg).contains n).foldl (fun s n => s.dropOwn (.slice n)) s
    { s with mtr := { s.mtr with cfg := c, next := none, w := { s.mtr.w with pulses := ps } } }

/-- The worst of a list of qualities. -/
def worstQ (l : List Qual) : Qual := l.foldl Qual.worst .good

/-- Measurement `k` of metering as a mirrored point takes it (R132; log entry 20, DESIGN CHOICE): of electrical point `p`, the registers URMS1 to DEM_W in their
order; from `p` = 8 on the thermal points' FLOW, TF, TR, POWER_KW. -/
def State.meterVal (s : State) (p k : Nat) : F × Qual × Time64 :=
  let t := s.time64At s.mtr.lastEnd
  if p < 8 then
    let x := s.mtr.c.els.getD p {}
    ((x.rms ++ x.pqs ++ [x.p, x.q, x.s, x.pf, x.dem]).getD k zero, worstQ x.quals, t)
  else
    let x := s.mtr.c.heats.getD (p - 8) {}
    ([x.flow, x.tf, x.tr, x.power].getD k zero, x.qual, t)

/-- The points of station 0000 that mirror a measurement of metering take it at the step's commit (R132, R313). -/
def State.mirrorMeter (s : State) : State :=
  s.net.mirrors.foldl (fun s m => match m.1 with
    | .meter p k => let v := s.meterVal p k; s.localPoint m.2 v.1 v.2.1 v.2.2
    | .slice _ => s) s

/-- The work of the end of step `no` since the metering start: thermal points, commands, demand, billing, saves, pulses, commit. `bad` counts failed
verifications of its save. -/
def State.stepEnd (s : State) (no bad : Nat) (ins : List HeatIn) : State :=
  let s := s.reached .metering
  let s := s.heatSteps stepNs ins
  let s := if s.crossed (s.mtr.cfg.demMin * 60 * sec) then s.demandEnd else s
  let s := s.mtrCmds
  let stepped := s.mtr.epoch ≠ s.time.epoch && s.time.cause ≠ 5
  let s := if stepped then s.billFlag allPts 6 else s
  let s := if s.time.valid then s else s.billFlag allPts 5
  let change := s.mtr.next.isSome
  let s := match s.mtr.next with | some c => s.billFlag (changedPts s.mtr.cfg c) 4 | none => s
  let bill := s.crossed (s.mtr.cfg.billMin * 60 * sec) || stepped || change
  let periodic := no % (5 * s.mtr.cfg.saveS) = 0
  let s := if bill then s.billAll else s
  let s := s.pulseSteps
  let s := if change then (List.range 8).foldl (fun s p => s.pqCut p) s else s
  let s := s.pqRelease
  let s := if bill || periodic || s.mtr.saveNow then s.save bad else s
  let ofs := if s.time.valid then some s.time.ofs else s.mtr.lastOfs
  let s := ({ s with mtr := { s.mtr with lastEnd := s.now, epoch := s.time.epoch, lastOfs := ofs } }).mtrCommit
  s.mirrorMeter.mtrNext.mtrCommit

/-- What `f` does as at instant `t`. -/
def State.atInstant (s : State) (t : Nat) (f : State → State) : State := { f { s with now := t } with now := s.now }

/-- Journal an event of metering (R90). -/
def State.journalMtr (s : State) (e : MtrEv) : State := { s with mtr := { s.mtr with jrn := s.mtr.jrn ++ [e] } }

/-- What a journaled event of metering does, as at its own instant. -/
def State.mtrDo (s : State) : MtrEv → State
  | .window t p freq chans => s.atInstant t fun s => s.windowEnd p freq chans
  | .half t p chans => s.atInstant t fun s => s.halfCycle p chans
  | .step t no bad ins => s.atInstant t fun s => s.stepEnd no bad ins

/-- An event of metering: journaled and, but while metering is being made good (R96, R98), done. -/
def State.mtrEvent (s : State) (e : MtrEv) : State := if s.inMg .metering then s.journalMtr e else (s.journalMtr e).mtrDo e

/-- METER_WINDOW_END (R299–R302, R304): a window of point `p` ends; for each of the six channels the worst quality of its samples and the decimated samples, preceded
by the 31 samples before the window. -/
def State.meterWindow (s : State) (p : Nat) (freq : F) (chans : List (Qual × List F)) : State :=
  if !s.mtr.running || !(s.elCfg p).on || 8 ≤ p then s else s.mtrEvent (.window s.now p freq (s.mtrChans p 6 chans))

/-- PQ_HALF_CYCLE (R305): as METER_WINDOW_END, for the three voltage channels over one cycle. -/
def State.meterHalf (s : State) (p : Nat) (chans : List (Qual × List F)) : State :=
  if !s.mtr.running || !(s.elCfg p).on || 8 ≤ p then s else s.mtrEvent (.half s.now p (s.mtrChans p 3 chans))

/-- METER_INTERVAL_STEP (R313): every 200 ms from the metering start. A step whose check fails does not commit, and awaits its re-execution (R89). -/
def State.intervalStep (s : State) (bad : Nat) (chk : List MemFind) : State :=
  let m := s.mtr
  if !m.running || !s.md.pstate.ctl || s.now < m.startAt + (m.steps + 1) * stepNs then s
  else
    let (go, s) := s.shadowInputs .metering
    let s := { s with mtr := { s.mtr with steps := m.steps + 1 } }
    if !go then s
    else
      let e := MtrEv.step s.now (m.steps + 1) bad s.heatIns
      if s.inMg .metering then s.journalMtr e else s.checked chk (fun s => s.mtrEvent e) (fun s => s.journalMtr e)

/-- Metering returns to its last internal commit (R89, R96). -/
def State.mtrRollback (s : State) : State := { s with mtr := { s.mtr with w := s.mtr.c, done := [] } }

/-- Metering is re-executed from its journal (R96): each event in its order, `wrap` about each, so that each step commits. -/
def State.mtrReplay (s : State) (wrap : (State → State) → State → State) : State :=
  s.mtr.jrn.foldl (fun s e => wrap (fun s => (s.journalMtr e).mtrDo e) s) { s with mtr := { s.mtr with jrn := [] } }

/-! Start and end (R315–R317, R321, R324) -/

/-- Accounts with nothing in them. -/
def accts0 : Accts := { els := List.replicate 8 {}, heats := List.replicate 24 {}, pulses := List.replicate 16 {} }

/-- What an estimate adds to a point: |saved power| × duration (R316). -/
def estEl (ns : Nat) (x : ElPoint) : ElPoint :=
  match x.pGood with
  | some g =>
    let a := accAdds x.acc x.res [(if lt g zero then 9 else 8, div (div (mul (abs g) (ofNat ns)) (ofNat 1000000)) (ofNat 3600))]
    { x with acc := a.1, res := a.2 }
  | none => x

/-- As `estEl`, for a thermal point, whose saved power is that of a step of 0.2 s. -/
def estHeat (ns : Nat) (x : HeatPoint) : HeatPoint :=
  match x.eGood with
  | some g =>
    let a := accAdds x.acc x.res [(if lt g zero then 4 else 3, div (mul (abs g) (ofNat ns)) (ofNat stepNs))]
    { x with acc := a.1, res := a.2 }
  | none => x

/-- What a restore takes from a save: accumulators, residues, mean powers, emitted counts, and the N-class maxima (R314, R316). -/
def restoreAccts (now : Nat) (a : Accts) : Accts :=
  { els := a.els.map fun (x : ElPoint) =>
      { acc := x.acc, res := x.res, errUs := x.errUs, pGood := x.pGood, maxDem := x.maxDem, maxAt := x.maxAt, perMax := x.perMax,
        demAt := now, demAcc := x.acc.getD 0 0 }
    heats := a.heats.map fun (x : HeatPoint) => { acc := x.acc, res := x.res, errUs := x.errUs, eGood := x.eGood }
    pulses := a.pulses.map fun (x : PulseOut) => { e := x.e } }

/-- The calendar time of the switch-over stamp, if one stands (R404). -/
def State.stampNs (s : State) : Option Int :=
  if (s.rdp .rtc 0 Off.RTC_FLAGS).bit 6 then
    (dateOk (s.rdp .rtc 0 Off.RTC_SWO_DATE) (s.rdp .rtc 0 Off.RTC_SWO_TIME)).map (· + ((s.rdp .rtc 0 Off.RTC_SWO_SUB).toNat * sec / 32768 : Nat))
  else none

/-- The unsaved interval after a periodic save (R316): its length in nanoseconds, its source (1 mark, 2 stamp, 3 bound). -/
def State.unsaved (s : State) (x : MtrSave) : Nat × Nat :=
  match s.mtr.mark, s.stampNs with
  | some m, st =>
    if x.rtc < m then ((m - x.rtc).toNat, 1)
    else match st with
      | some t => if x.rtc < t then ((t - x.rtc).toNat, 2) else (s.mtr.cfg.saveS * sec, 3)
      | none => (s.mtr.cfg.saveS * sec, 3)
  | none, some t => if x.rtc < t then ((t - x.rtc).toNat, 2) else (s.mtr.cfg.saveS * sec, 3)
  | none, none => (s.mtr.cfg.saveS * sec, 3)

/-- An unsaved interval of `ns` nanoseconds is estimated with the mean powers that stand (R316); its end came from source `src`. Log entry 76, DEDUCED. -/
def State.estGap (s : State) (ns src : Nat) : State :=
  let s := { s with mtr := { s.mtr with w := { s.mtr.w with els := s.mtr.w.els.map (estEl ns), heats := s.mtr.w.heats.map (estHeat ns) } } }
  let w := w32 (ns / ms % 2 ^ 31 + (if src = 3 then 2 ^ 31 else 0))
  let s := (s.wrp .mtr 0 Off.MTR_UNSAVED_MS w).irq .mtr 0 3
  let s := s.billFlag allPts 1
  s.billPoints.foldl (fun s n => s.record 0x0701 w (Config.meterParam 0 src) (w32 (if n < 8 then n else n - 8))) s

/-- Metering starts in BOOT, before it takes a sample (R316): restored from the newest valid save; `outage` after a time without supply (R317). Log entry 76, DEDUCED. -/
def State.mtrStart (s : State) (outage : Bool) : State :=
  let m := s.mtr
  let s := { s with mtr := { m with running := true, startAt := s.now, steps := 0, lastEnd := s.now, epoch := s.time.epoch, saveNow := false,
                                    clean := false, next := none, done := [], ring := [], ringN := 0, unread := [], recMiss := false } }
  let s := (pulseSlcs m.cfg).foldl (fun s n => s.dropOwn (.slice n)) s
  let s := match newestSave m with
    | none => { s with mtr := { s.mtr with w := accts0 } }
    | some x =>
      let s := { s with mtr := { s.mtr with w := restoreAccts s.now x.a } }
      if x.last || m.clean then s
      else
        let (ns, src) := s.unsaved x
        s.estGap ns src
  let s := if outage then s.billFlag allPts 2 else s
  let s := { s with mtr := { s.mtr with mark := none } }
  s.mtrNext.mtrCommit

/-- A final save, orderly or at a last gasp (R66, R79, R315): what metering has journaled while it is being made good is re-executed, and the step in progress ends early and
is committed. -/
def State.finalSave (s : State) (last ok : Bool) : State :=
  if !s.mtr.running then s
  else
    let s := if s.inMg .metering then s.mtrReplay fun f s => f s else s
    let len := s.now - s.mtr.lastEnd
    let s := if len = 0 then s else s.heatSteps len s.heatIns
    let s := s.pulseSteps
    let s := (List.range 8).foldl (fun s p => s.pqCut p) s
    let s := s.pqRelease
    s.mtrCommit.saveTo last ok

/-- The save of a supply failure (R315): where metering is being made good, that is abandoned, the last committed step is saved as of its end, and what came
after it is unsaved (R326). -/
def State.gaspSave (s : State) (ok : Bool) : State :=
  if s.inMg .metering then (s.mgAbandon (· == .metering)).mtrRollback.atInstant s.mtr.lastEnd fun s => s.saveTo false ok
  else s.finalSave true ok

/-- Sampling stops. -/
def State.mtrStop (s : State) : State := { s with mtr := { s.mtr with running := false } }

/-- The failure mark (R315). -/
def State.failMark (s : State) : State := { s with mtr := { s.mtr with mark := some s.calNs } }

/-- The configuration of a profile at a start (R295): pulse outputs whose source changes start at their accumulator, and changed points carry
CFG_CHANGED. -/
def State.mtrLoad (s : State) (c : MtrCfg) : State :=
  let ch := changedPts s.mtr.cfg c
  ({ s with mtr := { s.mtr with next := some c } }).mtrNext.billFlag ch 4

/-! Writes -/

/-- MTR_CORR_WRITE (R298, R325): recorded with both values; the point's next record carries CFG_CHANGED. -/
def State.corrWrite (s : State) (o : Nat) (v : Word) : State :=
  let old := s.rdp .mtr 0 o
  let s := s.wrp .mtr 0 o v
  (s.recordCfg (Page.reg .mtr 0 o) old v).billFlag [(o - 0x200) / 0x100] 4

/-- Offset of a channel correction. -/
def isCorr (o : Nat) : Bool := 0x200 ≤ o && o < 0xA00 && 0xD0 ≤ (o - 0x200) % 0x100 && (o - 0x200) % 0x100 < 0xE8

/-- MTR_REC_SEL_WRITE (R320). -/
def State.recSel (s : State) (v : Word) : State :=
  let held := s.mtr.recs.any fun r => r.1 = v.toNat
  { (s.wrp .mtr 0 Off.MTR_REC_SEL v) with mtr := { s.mtr with recMiss := !held } }

/-- MTR.CLR (R327). -/
def State.mtrClr (s : State) (v : Word) : State :=
  if v.bit 0 then
    (((s.wrp .mtr 0 Off.MTR_UNSAVED_MS 0).wrp .mtr 0 Off.MTR_SAVES 0).wrp .mtr 0 Off.MTR_SAVE_FAIL 0).recordClr (Page.reg .mtr 0 Off.MTR_CLR) v
  else s

/-- PQ.CLR (R329). -/
def State.pqClr (s : State) (v : Word) : State :=
  if v.bit 0 then
    let s := s.wrp .pq 0 Off.PQ_EVT_LOST 0
    ((List.range 24).foldl (fun s k => s.wrp .pq 0 (0x110 + 0x20 * (k / 3) + 4 * (k % 3)) 0) s).recordClr (Page.reg .pq 0 Off.PQ_CLR) v
  else s

/-- HEAT.CLR (R330): the page has no K-class counter; the clearing is recorded. -/
def State.heatClr (s : State) (v : Word) : State := if v.bit 0 then s.recordClr (Page.reg .heat 0 Off.HEAT_CLR) v else s

/-- PULSE.CLR (R331). -/
def State.pulseClr (s : State) (v : Word) : State :=
  if v.bit 0 then
    ((List.range 16).foldl (fun s k => s.wrp .pulse 0 (0x114 + 0x20 * k) 0) s).recordClr (Page.reg .pulse 0 Off.PULSE_CLR) v
  else s

/-- PQ records whose words a read covers count as read (R306; log entry 48, DEDUCED). -/
def State.pqRead (s : State) (o n : Nat) : State :=
  { s with mtr := { s.mtr with unread := s.mtr.unread.filter fun i => !(o < 0xC00 + 16 * i + 16 && 0xC00 + 16 * i < o + 4 * n) } }

/-! Views (R311, R327–R331) -/

/-- VIEW and WRAP of an accumulator (R311). -/
def viewWord (acc exp : Nat) (wrap : Bool) : Word :=
  let u := acc / 10 ^ exp
  if wrap then w32 (u / 2 ^ 32 % 256) else w32 u

/-- Value at offset `b` of an electrical point block. -/
def State.elView (s : State) (p b : Nat) : Option Word :=
  let c := s.elCfg p
  let x := s.mtr.c.els.getD p {}
  let f := fun (v : F) => some (toF32 v)
  if b = 0 then some (w32 (b2n c.on + 2 * c.conn + 8 * b2n c.dir + 2 ^ 24 * c.unitExp))
  else if b = 4 then some (w32 (c.chV.getD 0 0 + 256 * c.chV.getD 1 0 + 65536 * c.chV.getD 2 0))
  else if b = 8 then some (w32 (c.chI.getD 0 0 + 256 * c.chI.getD 1 0 + 65536 * c.chI.getD 2 0))
  else if b = 0xC then
    some (w32 ((worstQ x.quals).code + 4 * maskOf ((List.range 6).filter fun k => x.quals.getD k .good == .bad) + 256 * b2n x.est + 512 * b2n x.uncert +
      1024 * b2n x.fixed))
  else if b < 0x28 then f (x.rms.getD ((b - 0x10) / 4) zero)
  else if b < 0x4C then f (x.pqs.getD ((b - 0x28) / 4) zero)
  else if b = 0x4C then f x.p
  else if b = 0x50 then f x.q
  else if b = 0x54 then f x.s
  else if b = 0x58 then f x.pf
  else if b = 0x5C then f x.dem
  else if b = 0x60 then f x.maxDem
  else if b = 0x64 then some (w32 x.maxAt)
  else if b = 0x68 then some (w32 (x.errUs / 1000000))
  else if 0x80 ≤ b ∧ b < 0xD0 then
    let k := (b - 0x80) / 8
    some (viewWord (x.acc.getD k 0) c.unitExp ((b - 0x80) % 8 = 4))
  else none

/-- Value of offset `o` of the MTR page, where it is computed. -/
def State.mtrPageView (s : State) (o : Nat) : Option Word :=
  let m := s.mtr
  if o = Off.MTR_CFG then some (w32 (m.cfg.saveS + 256 * m.cfg.billMin + 2 ^ 20 * b2n m.cfg.f60 + 2 ^ 24 * m.cfg.demMin))
  else if o = Off.MTR_STAT then
    some (w32 (b2n s.time.valid + 2 * b2n (s.md.mode == .standby) + 4 * b2n (s.keyOf ((s.rdp .mtr 0 Off.MTR_KEY_SLOT).fld 0 6) useSign).isSome +
      8 * b2n m.full + 16 * b2n m.recMiss + 256 * min 255 m.hold.length))
  else if o = Off.MTR_SAVE_AGE_MS then some (match m.savedAt with | some t => w32 ((s.now - t) / ms) | none => 0)
  else if o = Off.MTR_REC_NEXT then some (w32 m.recNext)
  else if o = Off.MTR_REC_OLDEST then some (match m.recs.head? with | some r => w32 r.1 | none => w32 m.recNext)
  else if Off.MTR_RECWIN0 ≤ o ∧ o < Off.MTR_RECWIN0 + 216 then
    some (match m.recs.find? fun r => r.1 = (s.rdp .mtr 0 Off.MTR_REC_SEL).toNat with
      | some r => wordAt r.2 ((o - Off.MTR_RECWIN0) / 4)
      | none => 0)
  else if 0x200 ≤ o ∧ o < 0xA00 then s.elView ((o - 0x200) / 0x100) ((o - 0x200) % 0x100)
  else none

/-- PAGE_STAT[STATE] of the MTR page (R327). -/
def State.mtrPageState (s : State) : Nat := if !s.mtr.running then 0 else if s.md.mode == .standby then 2 else 1

/-- Value of offset `o` of the PQ page, where it is computed. -/
def State.pqPageView (s : State) (o : Nat) : Option Word :=
  let m := s.mtr
  let x := m.c.els.getD ((s.rdp .pq 0 Off.PQ_SEL).fld 0 3) {}
  if o = Off.PQ_EVT_NEXT then some (w32 (m.ringN % 64 + 256 * (m.ringN % 2 ^ 24)))
  else if 0x200 ≤ o ∧ o < 0x800 then
    let k := (o - 0x200) / 4
    some (toF32 ((x.harm.getD (k / 64) []).getD (k % 64) zero))
  else if 0xC00 ≤ o then some (wordAt (m.ring.getD ((o - 0xC00) / 16) []) ((o - 0xC00) % 16 / 4))
  else if 0x100 ≤ o ∧ o < 0x200 then
    let p := (o - 0x100) / 0x20
    let b := (o - 0x100) % 0x20
    let y := m.c.els.getD p {}
    if b = 0 then some (s.elCfg p).udin
    else if b = 4 then some (s.elCfg p).thr
    else if b = 8 then some (w32 (Config.toUnits 4 (mul y.freq (ofNat 1000))))
    else if b = 0xC then
      let w := s.el p
      some (w32 (maskOf ((List.range 3).filter fun k => (w.runs.getD k none).isSome) + 8 * b2n y.fOut))
    else none
  else none

/-- Value of offset `o` of the HEAT page, where it is computed. -/
def State.heatPageView (s : State) (o : Nat) : Option Word :=
  if o < 0x100 ∨ 0xD00 ≤ o then none
  else
    let k := (o - 0x100) / 0x80
    let b := (o - 0x100) % 0x80
    let c := s.heatCfg k
    let x := s.mtr.c.heats.getD k {}
    if b = 0 then some (w32 (b2n c.on + 2 * b2n c.flowLoc + 256 * c.unitExp + 4096 * c.volExp))
    else if b = 4 then some c.flowRef
    else if b = 8 then some c.tfRef
    else if b = 0xC then some c.trRef
    else if b = 0x10 then some (w32 c.vppMl)
    else if b = 0x14 then some (w32 c.press)
    else if b = 0x18 then some (w32 c.dtMin)
    else if b = 0x1C then some (w32 c.maxAge)
    else if b = 0x20 then some (w32 (x.qual.code + 4 * b2n x.est + x.bad))
    else if b = 0x24 then some (toF32 x.flow)
    else if b = 0x28 then some (toF32 x.tf)
    else if b = 0x2C then some (toF32 x.tr)
    else if b = 0x30 then some (toF32 x.power)
    else if 0x38 ≤ b ∧ b < 0x60 then
      let j := (b - 0x38) / 8
      some (viewWord (x.acc.getD j 0) (if j = 2 then c.volExp else c.unitExp) ((b - 0x38) % 8 = 4))
    else if b = 0x60 then some (w32 (x.errUs / 1000000))
    else none

/-- Value of offset `o` of the PULSE page, where it is computed. -/
def State.pulsePageView (s : State) (o : Nat) : Option Word :=
  if o < 0x100 ∨ 0x300 ≤ o then none
  else
    let k := (o - 0x100) / 0x20
    let b := (o - 0x100) % 0x20
    let c := s.mtr.cfg.pulses.getD k {}
    let x := s.mtr.c.pulses.getD k {}
    if b = 0 then some (w32 (c.slice + 256 * b2n c.thermal + 512 * c.point + 65536 * c.acc))
    else if b = 4 then some (w32 c.const)
    else if b = 8 then some (w32 c.width)
    else if b = 0xC then
      let off := c.slice ≠ 0 && ((s.grp (grpOf c.slice)).cause.isSome || !s.md.mode.drives || s.gated)
      some (w32 (x.back + 2 ^ 16 * b2n x.lag + 2 ^ 17 * b2n off))
    else if b = 0x10 then some (w32 x.e)
    else none

end Sys2Proof.Machine
end

