-- ==== Sys2Proof/Machine/Blocks.lean ====
section
/-!
DEFINITION. The block library (R336–R339, *Block library*): input and output kinds, the checks of a program image, what each block computes in a cycle.
-/
namespace Sys2Proof.Machine
open Sys2Proof.F64

/-- BOOL, REAL, or either: a read block's value takes the type of what it reads, and QOK and the write blocks take any. -/
inductive SigKind
  | bool | real | any
deriving DecidableEq, Repr

/-- Least and greatest number of inputs of a type (*Block library*). -/
def ninRange (t : Nat) : Nat × Nat :=
  if t ≤ 5 then (2, 8)
  else if t = 0xF ∨ t = 7 ∨ t = 8 then (2, 2)
  else if t ≤ 0x10 then (1, 1)
  else if t ≤ 0x13 then (4, 4)
  else if t ≤ 0x19 then (2, 2)
  else if t = 0x1A ∨ t = 0x1C ∨ t = 0x1E ∨ t = 0x1F then (2, 8)
  else if t = 0x1B ∨ t = 0x1D then (2, 2)
  else if t = 0x22 then (3, 3)
  else if t = 0x23 then (2, 8)
  else if t = 0x25 ∨ t = 0x2A ∨ t = 0x2B then (2, 2)
  else if t = 0x2E ∨ t = 0x2F then (8, 8)
  else if t = 0x30 then (1, 8)
  else if t = 0x33 ∨ t = 0x34 then (2, 2)
  else if t = 0x35 ∨ t = 0x38 ∨ t = 0x3A ∨ t = 0x3C ∨ t = 0x3F ∨ t = 0x40 then (0, 0)
  else if t = 0x3E then (4, 4)
  else (1, 1)

/-- Kind of input `i` of a type. -/
def inKind (t i : Nat) : SigKind :=
  if t ≤ 0x13 ∨ t = 0x2E ∨ t = 0x2F ∨ t = 0x30 ∨ t = 0x31 ∨ t = 0x32 then .bool
  else if t = 0x22 then (if i = 0 then .bool else .real)
  else if t = 0x25 ∨ t = 0x2A ∨ t = 0x2B then (if i = 1 then .bool else .real)
  else if t = 0x3E then (if i = 0 then .bool else .real)
  else if t = 0x36 ∨ t = 0x37 ∨ t = 0x39 then .any
  else .real

/-- Kinds of the outputs of a type. -/
def outKinds (t : Nat) : List SigKind :=
  if t ≤ 0xB ∨ t = 0x10 ∨ (0x14 ≤ t ∧ t ≤ 0x19) ∨ t = 0x28 ∨ t = 0x29 ∨ t = 0x30 ∨ t = 0x36 then [.bool]
  else if t ≤ 0x13 ∨ t = 0x2E ∨ t = 0x2F then [.bool, .real]
  else if t = 0x26 then [.real, .bool, .bool]
  else if t = 0x2B then [.real, .bool]
  else if t = 0x32 ∨ t = 0x33 ∨ t = 0x34 then [.bool, .bool]
  else if t = 0x31 ∨ t = 0x37 ∨ t = 0x39 ∨ t = 0x3B ∨ t = 0x3D ∨ t = 0x3E then []
  else if t = 0x35 ∨ t = 0x38 ∨ t = 0x3C ∨ t = 0x3F then [.any]
  else if t = 0x40 then [.real, .real, .real]
  else [.real]

/-- Types that use PARAM0. -/
def usesP0 (t : Nat) : Bool :=
  (0xC ≤ t && t ≤ 0x15) || (0x24 ≤ t && t ≤ 0x2D) || (0x32 ≤ t && t ≤ 0x34) || t == 0x36 || t == 0x3A || t == 0x3D || t == 0x3E || t == 0x40
/-- Types that use PARAM1. -/
def usesP1 (t : Nat) : Bool :=
  t == 0x10 || t == 0x24 || t == 0x26 || t == 0x28 || t == 0x29 || t == 0x2A || t == 0x2D || t == 0x33 || t == 0x34
/-- Types whose PARAM0 is a time or a rate. -/
def timeP0 (t : Nat) : Bool := (0xC ≤ t && t ≤ 0x10) || (0x2A ≤ t && t ≤ 0x2D) || t == 0x32 || t == 0x3D
/-- Types whose PARAM1 is a time or a rate. -/
def timeP1 (t : Nat) : Bool := t == 0x10 || t == 0x2A || t == 0x2D || t == 0x33 || t == 0x34

/-- A parameter is zero where unused, and not negative where it is a time or a rate. -/
def paramOk (used time : Bool) (v : F) : Bool := if used then !time || le zero v else v == 0

/-- A parameter that is a whole number of a range: the program range of event codes, the selector of LP_RD. -/
def inCodes (lo hi : Nat) (v : F) : Bool := let n := floorI v; eq (ofInt n) v && (lo : Int) ≤ n && n ≤ (hi : Int)

/-- A step block. -/
def isStep (t : Nat) : Bool := t == 0x2E || t == 0x2F
/-- An alarm block. -/
def isAlarm (t : Nat) : Bool := t == 0x32 || t == 0x33 || t == 0x34
/-- Chain number (R338). -/
def chainOf (b : BlockP) : Nat := b.ref.fld 0 8

/-- What a write block writes (R342). -/
def wdest (b : BlockP) : Option WDest :=
  if b.typ = 0x37 then some (.out (.point (b.ref.fld 0 23)))
  else if b.typ = 0x39 then
    (if b.ref.fld 30 2 = 0 then some (.out (.slice (b.ref.fld 0 6))) else if b.ref.fld 30 2 = 1 then some (.out (.can (b.ref.fld 16 3) (b.ref.fld 0 16))) else none)
  else if b.typ = 0x3B then some (.sp (b.ref.fld 0 6))
  else if b.typ = 0x3D then some (.series (b.ref.fld 0 8) (b.ref.fld 16 12))
  else none

/-- The types that mask kind 0x1 names. -/
def isRead (t : Nat) : Bool := t == 0x35 || t == 0x38 || t == 0x3A || t == 0x3C || t == 0x3F || t == 0x40
/-- The types that mask kind 0x2 names. -/
def isWrite (t : Nat) : Bool := t == 0x37 || t == 0x39 || t == 0x3B || t == 0x3D

/-- Block of an identity. -/
def blockOf (g : PrgImage) (id : Nat) : Option BlockP := g.blocks.find? (·.id == id)

/-- A connection is allowed (R335, R338): same task, compatible kinds, NEG only on BOOL, steps take only earlier transitions. -/
def connOk (g : PrgImage) (pos : Nat) (b : BlockP) (i : Nat) : Conn → Bool
  | .const _ => true
  | .block src out ng =>
    match blockOf g src with
    | none => false
    | some a =>
      let k := (outKinds a.typ).getD out .real
      a.task == b.task && out < (outKinds a.typ).length && (!ng || k != .real) && !(k == .real && inKind b.typ i == .bool) &&
      !(isStep b.typ && a.typ == 0x30 && (g.blocks.take pos).all (·.id != src))

/-- Types that use REF. -/
def usesRef (t : Nat) : Bool := (0x2E ≤ t && t ≤ 0x31) || t == 0x35 || (0x37 ≤ t && t ≤ 0x3D) || t == 0x3F

/-- A block entry is allowed (R334–R337). -/
def blockOk (g : PrgImage) (pos : Nat) (b : BlockP) : Bool :=
  let r := ninRange b.typ
  b.id != 0 && 1 ≤ b.typ && b.typ ≤ 0x40 && (match g.tasks[b.task]? with | some t => t.enable | none => false) &&
  r.1 ≤ b.ins.length && b.ins.length ≤ r.2 && paramOk (usesP0 b.typ) (timeP0 b.typ) b.p0 && paramOk (usesP1 b.typ) (timeP1 b.typ) b.p1 && (usesRef b.typ || b.ref == 0) &&
  (b.typ != 0x3E || inCodes 0xF000 0xFFFF b.p0) && (b.typ != 0x3A || inCodes 0 4 b.p0) &&
  (List.range b.ins.length).all fun i => connOk g pos b i (b.ins.getD i (.const 0))

/-- A task entry is allowed (R333, R334). -/
def taskOk (g : PrgImage) (n : Nat) (t : TaskP) : Bool :=
  t.prio ≤ 15 && 10 ≤ t.periodMs && t.periodMs ≤ 60000 && t.phaseMs < t.periodMs && (!t.enable || g.blocks.any (·.task == n))

/-- A program image whose entries obey R334–R338 and R342. -/
def prgOk (g : PrgImage) : Bool :=
  let dests := g.blocks.filterMap wdest
  let chains := (g.blocks.filter fun b => isStep b.typ || b.typ == 0x30).map chainOf
  g.id != 0 && g.tasks.length == 16 && 1 ≤ g.blocks.length && g.blocks.length ≤ 65536 &&
  (g.blocks.map (·.id)).eraseDups.length == g.blocks.length && dests.eraseDups.length == dests.length &&
  (List.range 16).all (fun n => match g.tasks[n]? with | some t => taskOk g n t | none => false) &&
  (List.range g.blocks.length).all (fun k => match g.blocks[k]? with | some b => blockOk g k b | none => false) &&
  chains.eraseDups.all fun c =>
    let bs := g.blocks.filter fun b => (isStep b.typ || b.typ == 0x30) && chainOf b == c
    (bs.filter (·.typ == 0x2E)).length == 1 && (bs.map (·.task)).eraseDups.length == 1

/-! One block, one cycle -/

/-- A BOOL signal. -/
def bsig (b : Bool) (ql : Qual) : Sig := ⟨if b then one else zero, ql⟩
/-- A signal as a BOOL. -/
def sigOn (x : Sig) : Bool := !isZ x.v
/-- The worst quality among inputs (R336). -/
def worstOf (xs : List Sig) : Qual := xs.foldl (fun a x => a.worst x.q) .good
/-- Seconds of a count of nanoseconds. -/
def secOf (ns : Nat) : F := div (ofNat ns) (ofNat sec)
/-- A result that is not finite is output as the previous value with quality BAD (R336). -/
def finSig (st : BlockSt) (i : Nat) (v : F) (ql : Qual) : Sig := if fin v then ⟨v, ql⟩ else ⟨(st.outs.getD i {}).v, .bad⟩

/-- Scale a binary64 value in seconds to a natural number of 2⁻¹⁰⁷⁴ s. -/
def dyad (x : F) : Nat := let (m, e) := mag x; m * 2 ^ (e + 1074).toNat

/-- PULSEGEN is on at a phase (0x10): on for PARAM0 s, then off for PARAM1 s, repeating. -/
def pulseOn (ns : Nat) (p0 p1 : F) : Bool :=
  let per := sec * (dyad p0 + dyad p1)
  if per = 0 then false else (ns * 2 ^ 1074) % per < sec * dyad p0

/-- Limit of a count (0x11–0x13). -/
def cvMax : F := ofNat (2 ^ 53)

/-- The sources that a TRANS reads through P0–P6. -/
def transSteps (b : BlockP) : List Nat := b.ins.tail.filterMap fun c => match c with | .block src _ _ => some src | .const _ => none

/-- The blocks of the library whose outputs depend on their inputs and their own state only (0x01–0x2D, 0x36). `dt` is Δt in nanoseconds; log entry 26, DEDUCED
lists the readings taken where the table leaves an order or a first cycle open. -/
def evalPure (dt : Nat) (b : BlockP) (xs : List Sig) (st : BlockSt) : List Sig × BlockSt :=
  let ql := worstOf xs
  let x := fun i => (xs.getD i {}).v
  let i0 := sigOn (xs.getD 0 {})
  let i1 := sigOn (xs.getD 1 {})
  let dts := secOf dt
  let y1 := (st.outs.getD 0 {}).v
  let one1 := fun (v : F) => ([finSig st 0 v ql], st)
  let chosen := fun (y : Sig) => ([finSig st 0 y.v y.q], st)
  let bit1 := fun (v : Bool) => ([bsig v ql], st)
  let prev0 := if st.first then i0 else st.prev.getD 0 false
  match b.typ with
  | 0x01 => bit1 (xs.all sigOn)
  | 0x02 => bit1 (xs.any sigOn)
  | 0x03 => bit1 ((xs.filter sigOn).length % 2 == 1)
  | 0x04 => bit1 (!(xs.all sigOn))
  | 0x05 => bit1 (!(xs.any sigOn))
  | 0x06 => bit1 (!i0)
  | 0x07 => let v := i0 || (st.on && !i1); ([bsig v ql], { st with on := v })
  | 0x08 => let v := (i0 || st.on) && !i1; ([bsig v ql], { st with on := v })
  | 0x09 => ([bsig (i0 && !prev0) ql], { st with prev := [i0] })
  | 0x0A => ([bsig (!i0 && prev0) ql], { st with prev := [i0] })
  | 0x0B => ([bsig (i0 != prev0) ql], { st with prev := [i0] })
  | 0x0C =>
    let t := if i0 then st.tNs + dt else 0
    ([bsig (le b.p0 (secOf t)) ql, ⟨secOf t, ql⟩], { st with tNs := t })
  | 0x0D =>
    if i0 then ([bsig true ql, ⟨zero, ql⟩], { st with tNs := 0, run := true })
    else if st.run then
      let t := st.tNs + dt
      let v := !le b.p0 (secOf t)
      ([bsig v ql, ⟨secOf t, ql⟩], { st with tNs := t, run := v })
    else ([bsig false ql, ⟨secOf st.tNs, ql⟩], st)
  | 0x0E =>
    if st.run then
      let t := st.tNs + dt
      let v := !le b.p0 (secOf t)
      ([bsig v ql, ⟨secOf t, ql⟩], { st with tNs := t, run := v, prev := [i0] })
    else if i0 && !prev0 then
      let v := !le b.p0 zero
      ([bsig v ql, ⟨zero, ql⟩], { st with tNs := 0, run := v, prev := [i0] })
    else ([bsig false ql, ⟨secOf st.tNs, ql⟩], { st with prev := [i0] })
  | 0x0F =>
    let t := if i1 then 0 else if i0 then st.tNs + dt else st.tNs
    ([bsig (le b.p0 (secOf t)) ql, ⟨secOf t, ql⟩], { st with tNs := t })
  | 0x10 =>
    if i0 then
      let t := if st.run then st.tNs + dt else 0
      ([bsig (pulseOn t b.p0 b.p1) ql], { st with tNs := t, run := true })
    else ([bsig false ql], { st with tNs := 0, run := false })
  | 0x11 | 0x12 | 0x13 =>
    let prev1 := if st.first then i1 else st.prev.getD 1 false
    let c0 := st.x0
    let c1 := if i0 && !prev0 then clamp (neg cvMax) cvMax (add c0 one) else c0
    let c2 := if i1 && !prev1 then clamp (neg cvMax) cvMax (sub c1 one) else c1
    let c3 := if sigOn (xs.getD 3 {}) then clamp (neg cvMax) cvMax b.p0 else c2
    let cv := if sigOn (xs.getD 2 {}) then zero else c3
    let v := if b.typ = 0x12 then le cv zero else le b.p0 cv
    ([bsig v ql, ⟨cv, ql⟩], { st with x0 := cv, prev := [i0, i1] })
  | 0x14 => bit1 (le (abs (sub (x 0) (x 1))) b.p0)
  | 0x15 => bit1 (!le (abs (sub (x 0) (x 1))) b.p0)
  | 0x16 => bit1 (lt (x 1) (x 0))
  | 0x17 => bit1 (le (x 1) (x 0))
  | 0x18 => bit1 (lt (x 0) (x 1))
  | 0x19 => bit1 (le (x 0) (x 1))
  | 0x1A => one1 ((xs.tail.map (·.v)).foldl add (x 0))
  | 0x1B => one1 (sub (x 0) (x 1))
  | 0x1C => one1 ((xs.tail.map (·.v)).foldl mul (x 0))
  | 0x1D => if isZ (x 1) then ([⟨y1, .bad⟩], st) else one1 (div (x 0) (x 1))
  | 0x1E => chosen (xs.tail.foldl (fun (a : Sig) (y : Sig) => if lt y.v a.v then y else a) (xs.getD 0 {}))
  | 0x1F => chosen (xs.tail.foldl (fun (a : Sig) (y : Sig) => if lt a.v y.v then y else a) (xs.getD 0 {}))
  | 0x20 => one1 (abs (x 0))
  | 0x21 => if lt (x 0) zero then ([⟨y1, .bad⟩], st) else one1 (sqrt (x 0))
  | 0x22 => chosen (xs.getD (if i0 then 2 else 1) {})
  | 0x23 =>
    let k := x 0
    let n := floorI k
    if eq (ofInt n) k && 0 ≤ n && n.toNat + 2 ≤ xs.length then one1 (x (n.toNat + 1)) else ([⟨y1, .bad⟩], st)
  | 0x24 => one1 (add (mul b.p0 (x 0)) b.p1)
  | 0x25 => if i1 then one1 zero else one1 (let v := add y1 (mul (x 0) dts); if fin v then clamp (neg b.p0) b.p0 v else v)
  | 0x26 => ([finSig st 0 (clamp b.p0 b.p1 (x 0)) ql, bsig (lt b.p1 (x 0)) ql, bsig (lt (x 0) b.p0) ql], st)
  | 0x27 => one1 (if le (abs (x 0)) b.p0 then zero else x 0)
  | 0x28 => let v := if lt b.p0 (x 0) then true else if lt (x 0) b.p1 then false else st.on; ([bsig v ql], { st with on := v })
  | 0x29 => let v := if lt (x 0) b.p0 then true else if lt b.p1 (x 0) then false else st.on; ([bsig v ql], { st with on := v })
  | 0x2A =>
    if i1 then one1 (x 0)
    else one1 (add y1 (clamp (neg (mul b.p1 dts)) (mul b.p0 dts) (sub (x 0) y1)))
  | 0x2B =>
    if !i1 then ([finSig st 0 (x 0) ql, bsig true ql], { st with x0 := x 0, run := false, tNs := 0 })
    else
      let new := !eq (x 0) st.x0
      let y0 := if new then y1 else st.y0
      let t := if new then 0 else st.tNs + dt
      let ramp := (new || st.run) && lt (secOf t) b.p0
      let y := if ramp then add y0 (div (mul (sub (x 0) y0) (secOf t)) b.p0) else x 0
      ([finSig st 0 y ql, bsig (!ramp) ql], { st with x0 := x 0, y0 := y0, tNs := t, run := ramp })
  | 0x2C => one1 (add y1 (div (mul (sub (x 0) y1) dts) (add b.p0 dts)))
  | 0x2D =>
    let two := ofNat 2
    let n := add (add (mul (sub (mul two b.p1) dts) y1) (mul (add dts (mul two b.p0)) (x 0))) (mul (sub dts (mul two b.p0)) st.x0)
    ([finSig st 0 (div n (add dts (mul two b.p1))) ql], { st with x0 := x 0 })
  | 0x36 => ([bsig ((xs.getD 0 {}).q == .good || (eq b.p0 one && (xs.getD 0 {}).q == .uncertain)) .good], st)
  | _ => ([], st)

/-- A STEP or STEP_INIT (R338): set by an A input, else cleared by a D input, else kept; T counts from when X last became 1. -/
def evalStep (dt : Nat) (xs : List Sig) (st : BlockSt) (reset init : Bool) : List Sig × BlockSt :=
  let ql := worstOf xs
  if reset then ([bsig init ql, ⟨zero, ql⟩], { st with on := init, tNs := 0, run := init })
  else
    let v := if (xs.take 4).any sigOn then true else if ((xs.drop 4).take 4).any sigOn then false else st.on
    let rise := v && !st.on
    let t := if rise then 0 else if st.run then st.tNs + dt else 0
    ([bsig v ql, ⟨secOf t, ql⟩], { st with on := v, tNs := t, run := st.run || v })

/-- What an alarm block's cycle did (R339). -/
structure AlarmOut where
  outs : List Sig
  st   : BlockSt
  acked : Bool
  rise  : Bool
  fall  : Bool

/-- An alarm block (R339, 0x32–0x34): acknowledgement first, then the condition, held for its delay. -/
def evalAlarm (dt : Nat) (b : BlockP) (xs : List Sig) (st : BlockSt) (ack : Bool) : AlarmOut :=
  let ql := worstOf xs
  let x := (xs.getD 0 {}).v
  let lim := (xs.getD 1 {}).v
  let cond := if b.typ = 0x32 then sigOn (xs.getD 0 {})
    else if b.typ = 0x33 then (if st.on then lt (sub lim b.p0) x else lt lim x)
    else (if st.on then lt x (add lim b.p0) else lt x lim)
  let delay := if b.typ = 0x32 then b.p0 else b.p1
  let un0 := st.ack && !ack
  let t := if cond then (if st.run then st.tNs + dt else 0) else 0
  let act := if st.on then cond else cond && le delay (secOf t)
  let rise := act && !st.on
  let un := un0 || rise
  { outs := [bsig act ql, bsig un ql]
    st := { st with on := act, ack := un, tNs := t, run := cond }
    acked := ack && st.ack, rise := rise, fall := st.on && !act }

end Sys2Proof.Machine
end

