-- ==== Sys2Proof/Machine/Plan.lean ====
section
/-!
DEFINITION. The dispatch and hydraulic problems as the controller builds them (R164–R194): tags, horizon, input series, the forecaster, the values of
every matrix and vector entry, derived outputs. Sums are taken in the order in which the manual writes the terms, components in ascending number
(log entry 27, DEDUCED).
-/
namespace Sys2Proof.Machine
open Sys2Proof.F64

/-! Tags (R166, R167) -/

/-- A tag in the dispatch layout. -/
def dTag (qty st step : Nat) (sb : Nat := 0) : Nat := qty * 2 ^ 24 + sb * 2 ^ 19 + step * 2 ^ 12 + st
/-- A tag in the hydraulic layout. -/
def hTag (qty elem : Nat) : Nat := qty * 2 ^ 24 + elem
/-- Quantity code of a tag. -/
def tagQty (t : Nat) : Nat := t / 2 ^ 24
/-- STEP of a dispatch tag. -/
def tagStep (t : Nat) : Nat := (t / 2 ^ 12) % 128
/-- STATION of a dispatch tag. -/
def tagSt (t : Nat) : Nat := t % 2 ^ 12
/-- A dispatch tag with another STEP. -/
def tagAtStep (t k : Nat) : Nat := t - tagStep t * 2 ^ 12 + k * 2 ^ 12
/-- ELEMENT of a hydraulic tag. -/
def tagElem (t : Nat) : Nat := t % 2 ^ 24

/-- Insert into a list of keyed values in ascending key order. -/
def insTag {α : Type} (x : Nat × α) : List (Nat × α) → List (Nat × α)
  | [] => [x]
  | y :: ys => if x.1 < y.1 then x :: y :: ys else y :: insTag x ys
/-- Sort by ascending tag (R199). -/
def sortTag {α : Type} (xs : List (Nat × α)) : List (Nat × α) := xs.foldl (fun ys x => insTag x ys) []

/-- Standard gravity of R186. -/
def gravity : F := q 980665 100000

/-! The horizon (R169, R170) -/

/-- Horizon steps. -/
def horizon : Nat := 96
/-- The grid of the horizon in nanoseconds. -/
def gridNs : Nat := 900 * sec

/-- The boundary of a dispatch cycle: instant on the cycle timer, start of the grid step that contains it. -/
structure Hz where
  at_ : Nat
  gridT : Nat
deriving DecidableEq, Repr

/-- The horizon at a boundary (R169): grid points at the cycle origin plus multiples of 900 s. -/
def State.hz (s : State) (b : Nat) : Hz := let o := s.slv.origin.getD 0; ⟨b, b - (b - o) % gridNs⟩

/-- Start of step `k` on the cycle timer. -/
def Hz.start (h : Hz) (k : Nat) : Nat := if k = 0 then h.at_ else h.gridT + gridNs * k
/-- End of step `k`. -/
def Hz.stop (h : Hz) (k : Nat) : Nat := h.gridT + gridNs * (k + 1)
/-- Duration of step `k` in hours. -/
def Hz.dur (h : Hz) (k : Nat) : F := div (ofNat (h.stop k - h.start k)) (ofNat (3600 * sec))
/-- Midpoint of step `k` on the cycle timer. -/
def Hz.mid (h : Hz) (k : Nat) : Nat := (h.start k + h.stop k) / 2

/-- An instant of the cycle timer in nanoseconds of TAI, by the time base as it stands (R170). -/
def State.taiNs (s : State) (t : Nat) : Nat := (t + s.time.ofs : Int).toNat
/-- A TIME64 in nanoseconds. -/
def time64Ns (t : Time64) : Nat := t.s * sec + t.ns

/-! Input series (R177–R180) -/

/-- Build flags (R194). -/
def bfHeld : Nat := 1
def bfDefault : Nat := 2
def bfBuiltin : Nat := 4
def bfFallback : Nat := 8
def bfHydDefault : Nat := 16
def bfMeas : Nat := 32
def bfSoc : Nat := 64
def bfRamp0 : Nat := 128

/-- The series of a code and scope. -/
def State.series? (s : State) (code scope : Nat) : Option Series := s.slv.series.find? fun x => x.code == code && x.scope == scope

/-- A task override that covers an instant, the one committed last (R180). -/
def State.override? (s : State) (code scope t : Nat) : Option F :=
  ((s.slv.overrides.filter fun o => o.code == code && o.scope == scope && o.at_ ≤ t && t < o.at_ + o.validNs).getLast?).map (·.val)

/-- How a host series answers an instant of TAI: covered, or the nearest covered value (R177), or never written. -/
inductive SerVal
  | covered (v : F)
  | held (v : F)
  | never
deriving DecidableEq, Repr

/-- Look an instant up in a host series; while the time base is not valid every series counts as never written (R170). -/
def State.serAt (s : State) (code scope t : Nat) : SerVal :=
  if !s.time.valid then .never
  else match s.series? code scope with
  | none => .never
  | some x =>
    let u := s.taiNs t
    let a := time64Ns x.start
    if x.vals.isEmpty then .never
    else if u < a then .held (x.vals.getD 0 0)
    else
      let i := (u - a) / (x.stepS * sec)
      if i < x.vals.length then .covered (x.vals.getD i 0) else .held (x.vals.getD (x.vals.length - 1) 0)

/-- A network-wide, plant or store input at step `k` with its build flags (R177, R178, R180). -/
def State.input (s : State) (h : Hz) (code scope k : Nat) (dflt : F) : F × Nat :=
  match s.override? code scope (h.mid k) with
  | some v => (v, 0)
  | none => match s.serAt code scope (h.mid k) with
    | .covered v => (v, 0)
    | .held v => (v, bfHeld)
    | .never => (dflt, bfDefault)

/-- Series 0x10, the value of a store at the end of the horizon: value 0 for the whole horizon (R177). -/
def State.storeValue (s : State) (h : Hz) (x : StoreP) : F × Nat :=
  match s.override? 0x10 x.station (h.mid 0) with
  | some v => (v, 0)
  | none => match (if s.time.valid then s.series? 0x10 x.station else none) with
    | some y => (y.vals.getD 0 0, 0)
    | none => (x.value0, bfDefault)

/-- A value that a series of a code may carry: a commitment is 0.0 or 1.0, a COP or EER is above zero (R175, R177). -/
def seriesValOk (code : Nat) (v : F) : Bool :=
  if code = 7 then isZ v || v == one
  else if code = 8 ∨ code = 9 then lt zero v
  else true

/-- A record of *Input series record* is accepted for these codes and ranges (R177). -/
def seriesOk (p : DispP) (x : Series) : Bool :=
  let plant := fun (f : PlantP → Bool) => p.plants.any fun y => y.station == x.scope && f y
  let scopeOk :=
    if x.code = 3 then plant fun y => y.subtype == 0 || y.subtype == 3
    else if x.code = 6 then p.zones.any (·.zone == x.scope)
    else if x.code = 7 then plant fun _ => true
    else if x.code = 8 then plant (·.subtype == 1)
    else if x.code = 9 then plant (·.subtype == 4)
    else if x.code = 0x10 then p.stores.any (·.station == x.scope)
    else if x.code = 1 ∨ x.code = 2 ∨ x.code = 4 ∨ x.code = 5 ∨ x.code = 0xA ∨ x.code = 0xB then x.scope == 0
    else false
  scopeOk && 1 ≤ x.vals.length && x.vals.length ≤ 192 && 300 ≤ x.stepS && x.stepS ≤ 3600 && x.vals.all (seriesValOk x.code)

/-! The forecaster (R181–R184) -/

/-- A point with its value and quality as the snapshot has it. -/
def State.snapPt (s : State) (i : Nat) : F × Qual := let x := s.ptSrc i; (x.val, x.qual)

/-- A point's stored value as a number, with its quality: a TIME64 point holds seconds in its low and nanoseconds in its high half. -/
def State.snapRaw (s : State) (i : Nat) : Nat × Qual :=
  match (s.stn? (ptStation i)).bind fun (x : Stn) => x.pts.find? (·.idx == ptLocal i) with
  | some p => (p.val.toNat, p.qual)
  | none => (0, .bad)

/-- Forecast outdoor temperatures: the point with the start of the first value and 48 hourly values, BAD ones replaced by the one before (R183). Log entry 73, DEDUCED. -/
def State.hourly (s : State) (g : GridP) : Option (Nat × List F) :=
  let base := ptIndex g.wxStation g.wxBase
  let (b, qb) := s.snapRaw base
  let vs := (List.range 48).map fun k => s.snapPt (base + 1 + k)
  if qb == .bad || vs.all (·.2 == .bad) then none
  else
    let first := ((vs.find? (·.2 != .bad)).map (·.1)).getD zero
    let fill := vs.foldl (fun (acc : List F × F) x => let v := if x.2 == .bad then acc.2 else x.1; (acc.1 ++ [v], v)) ([], first)
    some (b, fill.1)

/-- Outdoor temperature at an instant with the flags of R183; none when the measured point is BAD too. -/
def State.outdoor (s : State) (g : GridP) (t : Nat) : Option F × Nat :=
  match s.hourly g with
  | some (b, vs) =>
    let u := s.taiNs t
    let start := b / 2 ^ 32 + (b % 2 ^ 32) * sec
    let i := if u < start then 0 else (u - start) / (3600 * sec)
    (some (vs.getD (min i 47) zero), 0)
  | none =>
    match g.toutPt with
    | some p =>
      let (v, ql) := s.snapPt p
      if ql == .bad then (none, bfDefault) else (some v, bfFallback)
    | none => (none, bfDefault)

/-- Quarter-hour of the TAI day that contains an instant (R181). -/
def State.quarter (s : State) (t : Nat) : Nat := (s.taiNs t % (Cal.daySec * sec)) / gridNs

/-- Degree term of R181. -/
def degree (z : ZoneP) (tout : F) : F :=
  match z.medium with
  | .heat => fmax zero (sub z.tBase tout)
  | .cold => fmax zero (sub tout z.tBase)

/-- The forecaster's demand of a zone for the step with midpoint `t` at outdoor temperature `tout` (R181). -/
def State.fcDemand (s : State) (z : ZoneP) (t : Nat) (tout : F) : F :=
  match s.slv.fc.find? (·.zone == z.zone) with
  | some f => fmax zero (add (add f.level (f.season.getD (s.quarter t) zero)) (mul z.beta (degree z tout)))
  | none => fmax zero z.init

/-- Demand of a zone at step `k` with its build flags (R177, R178, R183). -/
def State.demand (s : State) (h : Hz) (g : GridP) (z : ZoneP) (k : Nat) : F × Nat :=
  let builtin :=
    match s.outdoor g (h.mid k) with
    | (some t, f) => (s.fcDemand z (h.mid k) t, bfBuiltin ||| f)
    | (none, f) => (z.dem0, f)
  match s.override? 6 z.zone (h.mid k) with
  | some v => (v, 0)
  | none => match s.serAt 6 z.zone (h.mid k) with
    | .covered v => (v, 0)
    | .held v => if z.fcOn then builtin else (v, bfHeld)
    | .never => if z.fcOn then builtin else (z.dem0, bfDefault)

/-- A dispatch snapshot contributes to the running mean of the zones it qualifies for (R182): at least 90 % of the heat-power points GOOD. -/
def State.fcSnapshot (s : State) : State :=
  let zs := s.slv.disp.zones
  let upd := fun (f : Forecast) =>
    match zs.find? (·.zone == f.zone) with
    | some z =>
      let xs := z.heatPts.map fun p => s.snapPt p
      let good := (xs.filter (·.2 == .good)).length
      if z.fcOn && 10 * good ≥ 9 * xs.length then { f with snaps := f.snaps ++ [(s.now, F64.sum (xs.map (·.1)))] } else f
    | none => f
  { s with slv := { s.slv with fc := s.slv.fc.map upd } }

/-- The snapshots of an unfinished step are dropped: a reset, a new origin or a switch begins a new step (R182). -/
def dropMeans (fs : List Forecast) : List Forecast := fs.map fun f => { f with snaps := [] }

/-- The forecaster's update at a grid point, for the step that began at `t0` (R182); skipped and counted without a qualifying snapshot. A snapshot of this
instant belongs to the step that begins. -/
def State.forecastUpdate (s : State) (t0 : Nat) : State :=
  let zs := s.slv.disp.zones
  let tout := match s.slv.disp.grid with
    | some g => match g.toutPt with
      | some p => let x := s.snapPt p; if x.2 == Qual.bad then none else some x.1
      | none => none
    | none => none
  let mid := t0 + gridNs / 2
  let upd := fun (f : Forecast) =>
    match zs.find? (·.zone == f.zone), tout with
    | some z, some t =>
      let old : List (Nat × F) := f.snaps.filter fun x => x.1 < s.now
      let f : Forecast := { f with snaps := f.snaps.filter fun x => s.now ≤ x.1 }
      if !z.fcOn then f
      else if old.isEmpty then { f with skips := f.skips + 1 }
      else
        let y := mean (old.map (·.2))
        let e := sub y (s.fcDemand z mid t)
        let k := s.quarter mid
        { f with level := add f.level (mul z.alpha e), season := modAt f.season k fun v => add v (mul z.gamma e) }
    | some z, none => if z.fcOn then { f with skips := f.skips + 1, snaps := f.snaps.filter fun x => s.now ≤ x.1 } else f
    | none, _ => f
  { s with slv := { s.slv with fc := s.slv.fc.map upd } }

/-- A fresh forecaster (R184). -/
def freshFc (z : ZoneP) : Forecast := { zone := z.zone, level := z.init, season := List.replicate 96 zero }

/-- A start or switch brings a forecaster generation and a zone set: another generation or another set resets the state, with a record (R184). -/
def State.applyForecast (s : State) (p : DispP) : State :=
  let old := s.slv.fc.map (·.zone)
  let new := p.zones.map (·.zone)
  let same := s.slv.fcGen == p.gen && old.all new.contains && new.all old.contains
  if same then s
  else
    let s := { s with slv := { s.slv with fc := p.zones.map freshFc, fcGen := p.gen } }
    s.recordGen 4 .slv 0 Off.PAGE_CTRL (w32 p.gen)

/-! The dispatch programme (R172–R176) -/

/-- The bound that stands for an unbounded side of a row: skim values are finite (R206, R212; log entry 28, DESIGN CHOICE). -/
def unbound : F := 0x7FEFFFFFFFFFFFFF#64

/-- A variable of the programme: its tag, linear cost, diagonal of P, coupling to the same quantity of the step before. -/
structure VarD where
  tag  : Nat
  cost : F := zero
  diag : F := zero
  prev : Option (Nat × F) := none
deriving DecidableEq, Repr

/-- A row: its tag, bounds, coefficients by variable tag. -/
structure RowD where
  tag  : Nat
  lo   : F
  hi   : F
  cf   : List (Nat × F)
deriving DecidableEq, Repr

/-- What assembly knows of one cycle: the horizon, the linearisation point by tag, the present solution for substitution, parameters. -/
structure Asm where
  hz   : Hz
  p    : DispP
  g    : GridP
  hat  : Nat → Option F

/-- The medium of a plant's or store's feed zone; a chiller is COLD (R172). -/
def zoneMedium (p : DispP) (z : Nat) : Medium := ((p.zones.find? (·.zone == z)).map (·.medium)).getD .heat
/-- Medium of a plant (R172). -/
def plantMedium (p : DispP) (x : PlantP) : Medium := if x.subtype = 4 then .cold else zoneMedium p x.zone

/-- A bound row of a variable (R167). -/
def boundRow (v : Nat) (lo hi : F) : RowD := ⟨v + 0x1F * 2 ^ 24, lo, hi, [(v, one)]⟩

/-- A measured present value: none when the point is absent or BAD (R190). -/
def State.present (s : State) (p : Option Nat) : Option F :=
  match p with
  | some i => let x := s.snapPt i; if x.2 == .bad then none else some x.1
  | none => none

/-- The smoothing term `½ w (x[k] − x[k−1])²` of a variable (R176): its part of P and q; released at k = 0 without a measured present value. -/
def smooth (qty st k : Nat) (w : F) (meas : Option F) : VarD :=
  let t := dTag qty st k
  let own := if k = 0 ∧ meas.isNone then zero else w
  let next := if k + 1 < horizon then w else zero
  { tag := t, diag := add own next
    cost := if k = 0 then (match meas with | some m => neg (mul w m) | none => zero) else zero
    prev := if k = 0 then none else some (dTag qty st (k - 1), neg w) }

/-- A ramp row of a variable (R173): bounds `± r` on the difference to the step before, about the measured value at k = 0, unbounded without one. -/
def rampRow (qty st sb k : Nat) (r : F) (meas : Option F) : RowD :=
  let t := dTag 0x32 st k sb
  if k = 0 then
    match meas with
    | some m => ⟨t, sub m r, add m r, [(dTag qty st 0, one)]⟩
    | none => ⟨t, neg unbound, unbound, [(dTag qty st 0, one)]⟩
  else ⟨t, neg r, r, [(dTag qty st k, one), (dTag qty st (k - 1), neg one)]⟩

/-- Zone return temperature (R190): the point, else the previous cycle's value, else the profile's. -/
def State.tRet (s : State) (z : ZoneP) : F :=
  match s.present z.retPt with
  | some v => v
  | none => (lookupA z.zone s.slv.tRet).getD z.tRet0

/-- Coefficients of the deliverability row (R174): a, b, c. A capacity in kJ/(kg K) gives MW through a factor 1/1,000 (log entry 29, DEDUCED). -/
def deliver (z : ZoneP) (tRet tHat hHat : F) : F × F × F :=
  let m := mul (mul z.rho z.kappa) (sqrt hHat)
  let c := div z.cHeat (ofNat 1000)
  let d := match z.medium with | .heat => sub tHat tRet | .cold => sub tRet tHat
  let a0 := mul c m
  let a := match z.medium with | .heat => a0 | .cold => neg a0
  let b := div (mul (mul (mul c z.rho) z.kappa) d) (mul (ofNat 2) (sqrt hHat))
  (a, b, sub (sub (mul (mul c m) d) (mul a tHat)) (mul b hHat))

/-- The linearisation point of a variable, or its cold value (R174). -/
def Asm.at (a : Asm) (t : Nat) (cold : F) : F := (a.hat t).getD cold

/-- Zone variables and rows of step `k` (R172, R173, R176). -/
def State.zonePart (s : State) (a : Asm) (z : ZoneP) (k : Nat) : List VarD × List RowD × Nat :=
  let T := dTag 7 z.zone k
  let H := dTag 8 z.zone k
  let S := dTag 9 z.zone k
  let hg := dTag 0xA z.group k
  let dk := a.hz.dur k
  let hc := ((a.p.groups.find? (·.station == z.group)).map (·.hCold)).getD one
  let tHat := a.at T z.tCold
  let hHat := a.at hg hc
  let (ca, cb, cc) := deliver z (s.tRet z) tHat hHat
  let (d, f) := s.demand a.hz a.g z k
  let meas := s.present z.tPt
  let vs : List VarD :=
    [{ tag := T, diag := a.g.rhoT, cost := neg (mul a.g.rhoT tHat) }, { tag := H },
     { tag := S, diag := mul dk a.g.ws2, cost := mul dk a.g.ws }]
  let rs : List RowD :=
    [boundRow T z.tMin z.tMax, boundRow H zero z.hMax, boundRow S zero unbound,
     ⟨dTag 0x30 z.zone k, neg unbound, cc, [(H, one), (T, neg ca), (hg, neg cb)]⟩,
     ⟨dTag 0x31 z.zone k, d, d, [(H, one), (S, one)]⟩,
     rampRow 7 z.zone 2 k (mul z.rampT dk) meas]
  (vs, rs, f ||| (if k = 0 ∧ meas.isNone then bfRamp0 else 0))

/-- The dispatch period. -/
def State.dispPeriod (s : State) : Nat :=
  match (s.slv.slots.filterMap (·.cfg)).find? (·.kind == .dispatch) with
  | some c => c.periodMs * ms
  | none => 60 * sec

/-- Commitment of a plant in step −1, taken at the dispatch boundary before (R175; log entry 105, DEDUCED). -/
def State.commitBefore (s : State) (h : Hz) (x : PlantP) : F :=
  let t := h.at_ - s.dispPeriod
  match s.override? 7 x.station t with
  | some v => v
  | none => match s.serAt 7 x.station t with
    | .covered v | .held v => v
    | .never => x.commit0

/-- Ramp limit of a plant quantity: the full range where the commitment changes (R175). -/
def plantRamp (uNow uPrev full r : F) : F := if eq uNow uPrev then r else full

/-- Plant variables and rows of step `k` (R172–R176). -/
def State.plantPart (s : State) (a : Asm) (x : PlantP) (k : Nat) : List VarD × List RowD × Nat :=
  let Q := dTag 1 x.station k
  let P := dTag 2 x.station k
  let Fu := dTag 3 x.station k
  let dk := a.hz.dur k
  let (u, f1) := s.input a.hz 7 x.station k x.commit0
  let uPrev := if k = 0 then s.commitBefore a.hz x else (s.input a.hz 7 x.station (k - 1) x.commit0).1
  let mP := s.present x.pPt
  let mQ := s.present x.qPt
  let bound := fun (v : Nat) (lo hi : F) => boundRow v (mul u lo) (mul u hi)
  let rP := rampRow 2 x.station 0 k (plantRamp u uPrev x.pMax (mul x.rampP dk)) mP
  let rQ := rampRow 1 x.station 1 k (plantRamp u uPrev x.qMax (mul x.rampQ dk)) mQ
  let vQ := smooth 1 x.station k x.wQ mQ
  let vP := smooth 2 x.station k x.wP mP
  let fuelled := x.subtype == 0 || x.subtype == 3
  let (pf, f2) := if fuelled then s.input a.hz 3 x.station k x.price0 else (zero, 0)
  let (pc, _) := s.input a.hz 4 0 k a.g.co2p0
  let vF : VarD := { tag := Fu, cost := mul dk (add pf (mul pc x.carbon)) }
  let conv := dTag 0x34 x.station k
  let needP := x.subtype != 3
  let fr := if k = 0 ∧ ((needP && mP.isNone) || mQ.isNone) then bfRamp0 else 0
  match x.subtype with
  | 0 =>
    let poly := (List.range x.sides.length).map fun i =>
      let y := x.sides.getD i (zero, zero, zero)
      (⟨dTag 0x33 x.station k i, neg unbound, mul y.2.2 u, [(P, y.1), (Q, y.2.1)]⟩ : RowD)
    ([vQ, vP, vF],
     [bound P x.pMin x.pMax, bound Q x.qMin x.qMax, boundRow Fu zero unbound] ++ poly ++
       [⟨conv, mul x.f0 u, mul x.f0 u, [(Fu, one), (P, neg x.fP), (Q, neg x.fQ)]⟩, rP, rQ],
     f1 ||| f2 ||| fr)
  | 3 =>
    ([vQ, vF], [bound Q x.qMin x.qMax, boundRow Fu zero unbound, ⟨conv, zero, zero, [(Fu, one), (Q, neg (div one x.eta))]⟩, rQ], f1 ||| f2 ||| fr)
  | n =>
    let (c, f3) := if n = 1 then s.input a.hz 8 x.station k x.nominal else if n = 4 then s.input a.hz 9 x.station k x.nominal else (x.eta, 0)
    ([vQ, vP], [bound P x.pMin x.pMax, bound Q x.qMin x.qMax, ⟨conv, zero, zero, [(Q, one), (P, neg c)]⟩, rQ], f1 ||| f3 ||| fr)

/-- Store variables and rows of step `k` (R172, R173, R190). -/
def State.storePart (s : State) (a : Asm) (x : StoreP) (k : Nat) : List VarD × List RowD × Nat :=
  let E := dTag 4 x.station k
  let C := dTag 5 x.station k
  let D := dTag 6 x.station k
  let dk := a.hz.dur k
  let keep := sub one (mul x.loss dk)
  let soc := s.present x.socPt
  -- the value for the present where SOC is not usable: the previous solution carried to the current grid (R171, R190; log entry 70, DEDUCED)
  let e0 := match soc with
    | some v => v
    | none => (a.hat (dTag 4 x.station 0)).getD x.soc0
  let mC := s.present x.cPt
  let mD := s.present x.dPt
  let (v, fv) := s.storeValue a.hz x
  let vE : VarD := { tag := E, cost := if k + 1 = horizon then neg v else zero }
  let base := [(E, one), (C, neg (mul dk x.etaC)), (D, div dk x.etaD)]
  let dyn : RowD :=
    if k = 0 then ⟨dTag 0x35 x.station k, mul keep e0, mul keep e0, base⟩
    else ⟨dTag 0x35 x.station k, zero, zero, base ++ [(dTag 4 x.station (k - 1), neg keep)]⟩
  ([vE, smooth 5 x.station k x.wC mC, smooth 6 x.station k x.wD mD],
   [boundRow E x.eMin x.eMax, boundRow C zero x.cMax, boundRow D zero x.dMax, dyn],
   (if k + 1 = horizon then fv else 0) ||| (if k = 0 ∧ soc.isNone then bfSoc else 0) |||
     (if k = 0 ∧ (mC.isNone || mD.isNone) then bfRamp0 else 0))

/-- Total flow of a pump group in a hydraulic solution: the sum over its pump edges (R191). -/
def groupFlow (g : GroupP) (r : Result) : F :=
  sum (g.edges.map fun e => (lookupA (hTag 0x41 e) (r.tags.zip r.x)).getD zero)

/-- κ_g of a pump group (R191): from the last committed result of its hydraulic slot, or the image's nominal flow. -/
def State.kappaG (s : State) (g : GroupP) : F × Nat :=
  let sl := s.slv.slots.getD g.slot {}
  let ofFlow := fun (v : F) => div (mul (mul g.rho gravity) v) (mul (ofNat 1000000) g.eta)
  match (if sl.stale then none else sl.res.bind fun r => if g.edges.all fun e => r.tags.contains (hTag 0x41 e) then some r else none) with
  | some r => (ofFlow (groupFlow g r), 0)
  | none => (ofFlow g.flow0, bfHydDefault)

/-- Pump-group variables and rows of step `k`. -/
def State.groupPart (s : State) (a : Asm) (g : GroupP) (k : Nat) : List VarD × List RowD × Nat :=
  let h := dTag 0xA g.station k
  let P := dTag 0xB g.station k
  let (kap, f) := s.kappaG g
  ([{ tag := h, diag := a.g.rhoH, cost := neg (mul a.g.rhoH (a.at h g.hCold)) }, { tag := P }],
   [boundRow h g.hMin g.hMax, ⟨dTag 0x36 g.station k, zero, zero, [(P, one), (h, neg kap)]⟩], f)

/-- Grid variables and rows of step `k`. -/
def State.gridPart (s : State) (a : Asm) (k : Nat) : List VarD × List RowD × Nat :=
  let I := dTag 0xC 0 k
  let X := dTag 0xD 0 k
  let dk := a.hz.dur k
  let (pi, f1) := s.input a.hz 1 0 k a.g.imp0
  let (px, f2) := s.input a.hz 2 0 k a.g.exp0
  let (pc, f3) := s.input a.hz 4 0 k a.g.co2p0
  let (cg, f4) := s.input a.hz 5 0 k a.g.co2g0
  let mI := s.present a.g.iPt
  let mX := s.present a.g.xPt
  let vI := smooth 0xC 0 k a.g.wI mI
  let vX := smooth 0xD 0 k a.g.wX mX
  ([{ vI with cost := add vI.cost (mul dk (add pi (mul pc cg))) }, { vX with cost := sub vX.cost (mul dk px) }],
   [boundRow I zero a.g.iMax, boundRow X zero a.g.xMax],
   f1 ||| f2 ||| f3 ||| f4 ||| (if k = 0 ∧ (mI.isNone || mX.isNone) then bfRamp0 else 0))

/-- The balance rows of step `k` (R172, R173). -/
def State.balances (s : State) (a : Asm) (k : Nat) : List RowD × Nat :=
  let (tg, f1) := s.input a.hz 0xB 0 k a.g.gnd0
  let (base, f2) := s.input a.hz 0xA 0 k a.g.base0
  let of_ := fun (m : Medium) =>
    let zs := a.p.zones.filter (·.medium == m)
    let ps := (a.p.plants.filter fun x => plantMedium a.p x == m).map fun x => (dTag 1 x.station k, one)
    let ss := (a.p.stores.filter fun x => zoneMedium a.p x.zone == m).flatMap fun x => [(dTag 6 x.station k, one), (dTag 5 x.station k, neg one)]
    let sgn_ := fun (v : F) => match m with | .heat => neg v | .cold => v
    let hs := zs.flatMap fun z => [(dTag 8 z.zone k, neg one), (dTag 7 z.zone k, sgn_ z.lam)]
    let rhs := sum (zs.map fun z => sgn_ (mul z.lam tg))
    (⟨dTag 0x37 0 k (match m with | .heat => 0 | .cold => 1), rhs, rhs, ps ++ ss ++ hs⟩ : RowD)
  let el : RowD :=
    let gen := (a.p.plants.filter (·.subtype == 0)).map fun x => (dTag 2 x.station k, one)
    let use := (a.p.plants.filter fun x => x.subtype == 1 || x.subtype == 2 || x.subtype == 4).map fun x => (dTag 2 x.station k, neg one)
    let pp := a.p.groups.map fun g => (dTag 0xB g.station k, neg one)
    ⟨dTag 0x37 0 k 2, base, base, gen ++ use ++ pp ++ [(dTag 0xC 0 k, one), (dTag 0xD 0 k, neg one)]⟩
  let media := (if a.p.zones.any (·.medium == .heat) then [of_ .heat] else []) ++ (if a.p.zones.any (·.medium == .cold) then [of_ .cold] else [])
  (media ++ [el], f1 ||| f2)

/-- Everything of the programme: variables and rows in tag order, build flags. -/
structure Programme where
  vars  : List VarD
  rows  : List RowD
  flags : Nat

/-- Sort variables by tag. -/
def sortVars (vs : List VarD) : List VarD := (sortTag (vs.map fun v => (v.tag, v))).map (·.2)
/-- Sort rows by tag. -/
def sortRows (rs : List RowD) : List RowD := (sortTag (rs.map fun r => (r.tag, r))).map (·.2)

/-- Assemble the programme of a dispatch boundary (R172–R178, R189). -/
def State.programme (s : State) (a : Asm) : Programme :=
  let step := fun (k : Nat) =>
    let parts := (a.p.zones.map fun z => s.zonePart a z k) ++ (a.p.plants.map fun x => s.plantPart a x k) ++
      (a.p.stores.map fun x => s.storePart a x k) ++ (a.p.groups.map fun g => s.groupPart a g k) ++ [s.gridPart a k]
    let b := s.balances a k
    (parts.flatMap (·.1), (parts.flatMap (·.2.1)) ++ b.1, (parts.map (·.2.2)).foldl (· ||| ·) b.2)
  let all := (List.range horizon).map step
  { vars := sortVars (all.flatMap (·.1)), rows := sortRows (all.flatMap (·.2.1)), flags := (all.map (·.2.2)).foldl (· ||| ·) 0 }

/-- Rank of a tag in a tag list. -/
def rankOf (tags : List Nat) (t : Nat) : Nat := tags.findIdx (· == t)

/-- Entries of A as (column rank, row rank, value), ordered by column then row (R205). -/
def entriesA (vars rows : List Nat) (rs : List RowD) : List (Nat × F) :=
  sortTag (rs.flatMap fun r => r.cf.map fun c => (rankOf vars c.1 * 2 ^ 20 + rankOf rows r.tag, c.2))

/-- Entries of the lower triangle of P, ordered by column then row (R205): the diagonal of every quadratic term and the couplings between steps. -/
def entriesP (vars : List Nat) (vs : List VarD) : List (Nat × F) :=
  let quad := fun (v : VarD) => let c := tagQty v.tag; c == 1 || c == 2 || c == 5 || c == 6 || c == 7 || c == 9 || c == 0xA || c == 0xC || c == 0xD
  let off := vs.filterMap fun v => v.prev.map fun p => (rankOf vars p.1 * 2 ^ 20 + rankOf vars v.tag, p.2)
  let dia := (vs.filter quad).map fun v => (rankOf vars v.tag * 2 ^ 20 + rankOf vars v.tag, v.diag)
  sortTag (off ++ dia)

/-- Number a list of values as records of an object. -/
def recsOf (obj : Nat) (xs : List F) : List SkimRec := (List.range xs.length).map fun i => ⟨obj, i, xs.getD i zero⟩

/-- Every value of a dispatch cycle as skim records (R204, R205). -/
def programmeRecs (p : Programme) : List SkimRec :=
  let vars := p.vars.map (·.tag)
  let rows := p.rows.map (·.tag)
  recsOf 1 ((entriesP vars p.vars).map (·.2)) ++ recsOf 2 ((entriesA vars rows p.rows).map (·.2)) ++
  recsOf 3 (p.vars.map (·.cost)) ++ recsOf 4 (p.rows.map (·.lo)) ++ recsOf 5 (p.rows.map (·.hi))

/-! The hydraulic problem (R185–R187, R190) -/

/-- Sort hydraulic parts by identity. -/
def sortEdges (es : List EdgeP) : List EdgeP := (sortTag (es.map fun e => (e.id, e))).map (·.2)
/-- Sort nodes by identity. -/
def sortNodes (ns : List NodeP) : List NodeP := (sortTag (ns.map fun n => (n.id, n))).map (·.2)
/-- The pump groups of hydraulic slot `n` in tag order. -/
def groupsOf (p : DispP) (n : Nat) : List GroupP := (sortTag ((p.groups.filter (·.slot == n)).map fun g => (g.station, g))).map (·.2)

/-- Variables of a hydraulic slot in tag order (R185). -/
def hydVars (h : HydP) (gs : List GroupP) : List Nat :=
  (sortNodes h.nodes).map (fun n => hTag 0x40 n.id) ++ (sortEdges h.edges).map (fun e => hTag 0x41 e.id) ++ gs.map fun g => hTag 0x42 g.station

/-- Resistance of an edge: its point where one is configured and not BAD, else the image (R190). -/
def State.resist (s : State) (e : EdgeP) : F :=
  match e.resPt with
  | some p => let x := s.snapPt p; if x.2 == .bad then e.res else x.1
  | none => e.res

/-- Quality factor of a measurement (R190). -/
def qualFactor (h : HydP) (ql : Qual) : F :=
  match ql with
  | .good => one
  | .uncertain => h.uncert
  | .bad => zero

/-- Measured value in the model's unit: a pressure becomes a head (R186). -/
def State.measured (s : State) (h : HydP) (m : MeasP) : F × Qual :=
  let x := s.snapPt m.point
  match m.kind with
  | .head =>
    let z := ((h.nodes.find? (·.id == m.elem)).map (·.z)).getD zero
    (add (div x.1 (mul m.rho gravity)) z, x.2)
  | _ => x

/-- Tag order of a measurement: that of the variable it measures, for a head difference that of its edge (R205). Log entry 30, DEDUCED. -/
def measTag (m : MeasP) : Nat := match m.kind with | .head => hTag 0x40 m.elem | .flow | .diff => hTag 0x41 m.elem

/-- The measurements of a hydraulic slot in tag order (R205). -/
def sortMeas (ms : List MeasP) : List MeasP := (sortTag (ms.map fun m => (measTag m, m))).map (·.2)

/-- Penalty thresholds in the tag order of what they bound: nodes, consumer edges, then the upper and lower speed limit of each group (R205). Log entry 30, DEDUCED. -/
def hydPenalties (h : HydP) (gs : List GroupP) : List F :=
  (sortNodes h.nodes).map (·.pMax) ++ ((sortEdges h.edges).filter (·.kind == .consumer)).map (·.dhMin) ++ gs.flatMap fun g => [g.wMax, g.wMin]

/-- Every value of a hydraulic cycle as skim records, with its build flags. A BAD measurement writes its factor zero and leaves its value. -/
def State.hydRecs (s : State) (n : Nat) (h : HydP) : List SkimRec × Nat :=
  let gs := groupsOf s.slv.disp n
  let ms := (sortMeas h.meas).map fun m => s.measured h m
  let ys := (List.range ms.length).filterMap fun i => match ms[i]? with
    | some (v, ql) => if ql == .bad then none else some (⟨0x14, i, v⟩ : SkimRec)
    | none => none
  (recsOf 0x11 ((sortEdges h.edges).map fun e => s.resist e) ++ recsOf 0x12 (gs.flatMap fun g => [g.a0, g.a1, g.a2]) ++
   recsOf 0x13 (hydPenalties h gs) ++ ys ++ recsOf 0x15 (ms.map fun x => qualFactor h x.2) ++
   recsOf 0x16 [h.wc, h.we, h.wP, h.wdp, h.wp, h.ww] ++ recsOf 0x17 (gs.map (·.eta)),
   if ms.any (·.2 == .bad) then bfMeas else 0)

/-! Structure (R188, R199) -/

/-- Variables and rows of a dispatch problem by tag (R172). -/
def State.dispTags (s : State) (p : DispP) (g : GridP) : List Nat × List Nat :=
  let a : Asm := ⟨⟨0, 0⟩, p, g, fun _ => none⟩
  let r := s.programme a
  (r.vars.map (·.tag), r.rows.map (·.tag))

/-! Cold values (R224) -/

/-- Cold value of a variable: the profile's per quantity code, for hydraulic quantities the image's nominal unless the profile gives one. -/
def coldOf (c : SlotCfg) (t : Nat) : F :=
  match lookupA (tagQty t) c.cold with
  | some v => v
  | none => match c.hyd with
    | none => zero
    | some h =>
      if tagQty t = 0x40 then ((h.nodes.find? (·.id == tagElem t)).map (·.h0)).getD zero
      else if tagQty t = 0x41 then ((h.edges.find? (·.id == tagElem t)).map (·.q0)).getD zero
      else one

/-! Carrying a solution into another horizon (R171) -/

/-- Values by tag of a previous solution at grid time `old`, carried to grid time `new`. -/
def carry (old new : Nat) (tags : List Nat) (xs : List F) (t : Nat) : Option F :=
  let m := tags.zip xs
  if tagQty t ≥ 0x40 ∧ tagQty t < 0x80 then lookupA t m
  else
    let d := (new - old) / gridNs
    if tagStep t ≥ horizon then lookupA t m else lookupA (tagAtStep t (min (tagStep t + d) (horizon - 1))) m

/-! Outputs (R192, R193) -/

/-- Value of a tag in a solution, derived quantities included (R193). -/
def outSource (p : DispP) (c : SlotCfg) (m : List (Nat × F)) (t : Nat) : Option F :=
  let v := fun (t : Nat) => lookupA t m
  let at_ := fun (qty : Nat) => dTag qty (tagSt t) (tagStep t)
  let diff := fun (a b : Option F) => match a, b with | some x, some y => some (sub x y) | _, _ => none
  let kPa := fun (rho : F) (d : Option F) => d.map fun x => div (mul (mul rho gravity) x) (ofNat 1000)
  match tagQty t with
  | 0x80 => diff (v (at_ 5)) (v (at_ 6))
  | 0x81 => diff (v (at_ 0xC)) (v (at_ 0xD))
  | 0x90 => match p.groups.find? (·.station == tagElem t) with
    | some g => kPa g.rho (diff (v (hTag 0x40 g.dis)) (v (hTag 0x40 g.suc)))
    | none => none
  | 0x91 => match c.hyd.bind fun h => h.edges.find? (·.id == tagElem t) with
    | some e => (kPa e.rho (diff (v (hTag 0x40 e.a)) (v (hTag 0x40 e.b)))).map fun x => fmax x (div (mul (mul e.rho gravity) e.dhMin) (ofNat 1000))
    | none => none
  | _ => v t

/-- Published value of an output entry: scaled, offset, clamped (R192). -/
def outValue (e : OutEntry) (v : F) : F := clamp e.lo e.hi (add (mul e.scale v) e.offset)

end Sys2Proof.Machine
end

