-- ==== Sys2Proof/Machine/Prg.lean ====
section
/-!
DEFINITION. Sequence tasks and masking (R340–R358): releases, the input copy, execution, commit, online exchange, masks, the PRG and FORCE pages.
-/
namespace Sys2Proof.Machine
open Sys2Proof.F64

/-- Task `n`. -/
def State.task (s : State) (n : Nat) : Task := s.prg.tasks.getD n {}
/-- Update task `n`. -/
def State.updTask (s : State) (n : Nat) (f : Task → Task) : State :=
  { s with prg := { s.prg with tasks := modAt s.prg.tasks n f } }

/-- Offset of register `o` of the block of task `n` (R356). -/
def taskOff (n o : Nat) : Nat := 0x100 + 0x20 * n + o

/-! The input copy (R341) -/

/-- TOD (0x40): seconds of the day, day of the week, day of the year at an instant, PARAM0 hours from TAI; BAD while the time base is not valid. -/
def State.tod (s : State) (t : Nat) (p0 : F) : List Sig :=
  let ql := if s.time.valid then Qual.good else Qual.bad
  let ns : Int := (t + s.time.ofs : Int).toNat + (Cal.epochDay * Cal.daySec * sec : Nat) + roundI (mul p0 (ofNat (3600 * sec)))
  let n := ns.toNat
  let day := n / (Cal.daySec * sec)
  [⟨div (ofNat (n % (Cal.daySec * sec))) (ofNat sec), ql⟩, ⟨ofNat (Cal.dow day), ql⟩, ⟨ofNat (Cal.dayOfYear day), ql⟩]

/-- A point as it stood just before the release instant `t` (R20, R139). -/
def State.ptSrcAt (s : State) (t i : Nat) : Src :=
  match (s.stn? (ptStation i)).bind fun x => s.ptRead (ptsAt x (verAt x t)) (ptStation i) (ptLocal i) with
  | some (v, ql, u) => ⟨v, ql, t - u⟩
  | none => ⟨zero, .bad, neverAge⟩

/-- What a read block finds for its cycle released at `t` (*Block library* 0x35, 0x38, 0x3A, 0x3C, 0x3F, 0x40). -/
def State.readBlock (s : State) (n t : Nat) (b : BlockP) : List Sig :=
  let ofSrc := fun (x : Src) => [(⟨x.val, x.qual⟩ : Sig)]
  if b.typ = 0x35 then ofSrc (s.ptSrcAt t (b.ref.fld 0 23))
  else if b.typ = 0x38 then
    (if b.ref.fld 30 2 = 0 then ofSrc (s.slcSrc (b.ref.fld 0 6)) else ofSrc (s.canSrc (b.ref.fld 16 3) (b.ref.fld 0 16)))
  else if b.typ = 0x3A then
    let l := s.loop (b.ref.fld 0 6)
    [⟨[l.y, l.r, l.u, ofNat l.mode.code, if l.stat.bit 0 then one else zero].getD (truncI b.p0).toNat 0, .good⟩]
  else if b.typ = 0x3C then
    match lookupA (b.ref.fld 0 8) (s.task n).inImg with
    | some v => [⟨v, .good⟩]
    | none => [⟨zero, .good⟩]
  else if b.typ = 0x3F then
    let o := Off.PRG_HIN0_LO + 8 * b.ref.fld 0 4
    [⟨pair64 (s.rdp .prg 0 o) (s.rdp .prg 0 (o + 4)), .good⟩]
  else s.tod t b.p0

/-- The mask on a block, of the kind that fits its type (R350, R354). -/
def State.blockMask (s : State) (b : BlockP) : Option F :=
  if isRead b.typ then (s.prg.masks.find? fun m => m.kind == .read b.id).map (·.val)
  else if isWrite b.typ then (s.prg.masks.find? fun m => m.kind == .write b.id).map (·.val)
  else none

/-- A read block reads a BOOL: a BOOL point or signal, or a slice with two states. -/
def State.readsBool (s : State) (b : BlockP) : Bool :=
  if b.typ = 0x35 then match s.ptCfg (ptStation (b.ref.fld 0 23)) (ptLocal (b.ref.fld 0 23)) with
    | some c => c.typ == 1
    | none => false
  else if b.typ = 0x38 then
    (if b.ref.fld 30 2 = 0 then [7, 8, 0xA, 0xB].contains (s.slc (b.ref.fld 0 6)).cfg.func
     else match sigOf (s.seg (b.ref.fld 16 3)) (b.ref.fld 0 16) with
       | some d => d.typ == .bool
       | none => false)
  else false

/-- The block's input-copy values with the input mask applied: GOOD, and for TOD in place of SEC (R350); a BOOL becomes 0 or 1 (R349). -/
def State.maskedRead (s : State) (n t : Nat) (b : BlockP) : List Sig :=
  let xs := s.readBlock n t b
  match s.blockMask b with
  | some v => (if s.readsBool b then bsig (!isZ v) .good else ⟨v, .good⟩) :: xs.tail
  | none => xs

/-! Execution (R337, R338) -/

/-- A cycle in execution: outputs of this cycle, new block states, steps claimed by transitions that fired, chains reset, effects. -/
structure PrgAcc where
  cur    : List (Nat × List Sig) := []
  sts    : List BlockSt := []
  fired  : List Nat := []
  resets : List Nat := []
  effs   : List PrgEff := []

/-- Initial state of a block (R343). -/
def initBlock (b : BlockP) : BlockSt := { id := b.id, on := b.typ == 0x2E, run := b.typ == 0x2E }

/-- The value at a connection (R335, R337): a block earlier in this cycle by its present output, any other by its committed output. -/
def connVal (old : List BlockSt) (acc : PrgAcc) : Conn → Sig
  | .const v => ⟨v, .good⟩
  | .block src out ng =>
    let x := match acc.cur.find? (·.1 == src) with
      | some p => p.2.getD out {}
      | none => match old.find? (·.id == src) with
        | some st => st.outs.getD out {}
        | none => {}
    if ng then bsig (!sigOn x) x.q else x

/-- A committed output of the previous cycle, as TRANS reads it (R338). -/
def connOld (old : List BlockSt) : Conn → Sig
  | .const v => ⟨v, .good⟩
  | .block src out ng =>
    let x := match old.find? (·.id == src) with
      | some st => st.outs.getD out {}
      | none => {}
    if ng then bsig (!sigOn x) x.q else x

/-- Add a block's result to the cycle. -/
def PrgAcc.put (acc : PrgAcc) (b : BlockP) (outs : List Sig) (st : BlockSt) (effs : List PrgEff := []) : PrgAcc :=
  { acc with
    cur := acc.cur ++ [(b.id, outs)]
    sts := acc.sts ++ [{ st with id := b.id, outs := outs, first := false }]
    effs := acc.effs ++ effs }

/-- SEQ_RESET reads R = 1 (R338): steps of the chain that have executed in this cycle take their reset state; later ones find the chain listed. -/
def PrgAcc.resetChain (acc : PrgAcc) (g : PrgImage) (c : Nat) : PrgAcc :=
  let kind := fun (id : Nat) => (blockOf g id).bind fun b => if isStep b.typ && chainOf b == c then some (b.typ == 0x2E) else none
  { acc with
    resets := c :: acc.resets
    cur := acc.cur.map fun p => match kind p.1 with
      | some init => (p.1, [bsig init (p.2.getD 0 {}).q, ⟨zero, (p.2.getD 1 {}).q⟩])
      | none => p
    sts := acc.sts.map fun x => match kind x.id with
      | some init => { x with on := init, run := init, tNs := 0, outs := [bsig init (x.outs.getD 0 {}).q, ⟨zero, (x.outs.getD 1 {}).q⟩] }
      | none => x }

/-- Execute one block of task `n` in a cycle released at `t`, `dt` after the one before; `held` are destinations that wait for their owner (R346). -/
def State.runBlock (s : State) (g : PrgImage) (n t dt : Nat) (acks : List Nat) (held : List WDest) (old : List BlockSt) (acc : PrgAcc) (b : BlockP) : PrgAcc :=
  let st := (old.find? (·.id == b.id)).getD (initBlock b)
  let xs := b.ins.map (connVal old acc)
  let ql := worstOf xs
  if isStep b.typ then
    let (o, st) := evalStep dt xs st (acc.resets.contains (chainOf b)) (b.typ == 0x2E)
    acc.put b o st
  else if b.typ = 0x30 then
    let ps := b.ins.tail.map (connOld old)
    let steps := transSteps b
    let fire := sigOn (xs.getD 0 {}) && ps.all sigOn && !(steps.any fun x => acc.fired.contains x)
    let ql := worstOf ((xs.take 1) ++ ps)
    let acc := acc.put b [bsig fire ql] st
    if fire then { acc with fired := steps ++ acc.fired } else acc
  else if b.typ = 0x31 then
    let acc := acc.put b [] st
    if sigOn (xs.getD 0 {}) then acc.resetChain g (chainOf b) else acc
  else if isAlarm b.typ then
    let r := evalAlarm dt b xs st (acks.contains b.id || acks.contains max32)
    acc.put b r.outs r.st
      ((if r.acked then [.ack b.id] else []) ++ (if r.rise then [.alarm b.id true] else []) ++ (if r.fall then [.alarm b.id false] else []))
  else if isRead b.typ then
    let os := s.maskedRead n t b
    acc.put b ((List.range os.length).map fun i => let o := os.getD i {}; finSig st i o.v o.q) st
  else if isWrite b.typ then
    let v : Sig := match s.blockMask b with
      | some m => ⟨m, .good⟩
      | none => xs.getD 0 {}
    let eff := match wdest b with
      | none => []
      | some d =>
        if held.contains d then []
        else if v.q == .bad then [PrgEff.drop]
        else match d with
          | .sp k => if inR (tuneOf (s.loop k) tSpLo) (tuneOf (s.loop k) tSpHi) v.v then [PrgEff.stage d v.v b.p0] else [PrgEff.drop]
          | _ => [PrgEff.stage d v.v b.p0]
    acc.put b [] st eff
  else if b.typ = 0x3E then
    let cur := sigOn (xs.getD 0 {})
    let rise := cur && !(if st.first then cur else st.prev.getD 0 false)
    let p := fun i => toF32 (xs.getD i {}).v
    acc.put b [] { st with prev := [cur] } (if rise then [.evt (truncI b.p0).toNat (p 1) (p 2) (p 3)] else [])
  else
    let (o, st) := evalPure dt b xs st
    acc.put b o st

/-! Exchange (R344–R346) -/

/-- Destinations that blocks of the tasks that have still to exchange write in the image they run, other than task `n` (R346). -/
def State.heldDests (s : State) (n : Nat) : List WDest :=
  (List.range 16).flatMap fun k =>
    let x := s.task k
    if k = n ∨ !x.exchDue then []
    else match x.img with
      | some g => (g.blocks.filter fun b => b.task == k).filterMap wdest
      | none => []

/-- Blocks of task `n` in an image. -/
def blocksOf (g : PrgImage) (n : Nat) : List BlockP := g.blocks.filter (·.task == n)

/-- Add to one of the exchange counters. -/
def State.exchCount (s : State) (o n : Nat) : State := s.putf .prg 0 o 0 17 ((s.rdp .prg 0 o).fld 0 17 + n)

/-- Task `n` exchanges (R345): its blocks of the new image carry their state, are reinitialised, or are new; old ones without a match are dropped.
PAGE_IRQ[EXCHANGED] sets when every task has exchanged. Log entry 77, DEDUCED. -/
def State.exchange (s : State) (n : Nat) : State :=
  let x := s.task n
  let new := match s.prg.img with | some g => blocksOf g n | none => []
  let oldImg := s.prg.oldImg
  let was := fun (id : Nat) => oldImg.bind fun g => blockOf g id
  let carried := fun (b : BlockP) => match was b.id with
    | some a => a.typ == b.typ && a.task == b.task && x.blocks.any (·.id == b.id)
    | none => false
  let sts := new.map fun b => if carried b then (x.blocks.find? (·.id == b.id)).getD (initBlock b) else initBlock b
  let nc := (new.filter carried).length
  let nr := (new.filter fun b => !carried b && (was b.id).isSome).length
  let nn := (new.filter fun b => (was b.id).isNone).length
  let nd := match x.img, s.prg.img with
    | some g, some h => ((blocksOf g n).filter fun b => (blockOf h b.id).isNone).length
    | some g, none => (blocksOf g n).length
    | none, _ => 0
  let en := match s.prg.img with | some g => (match g.tasks[n]? with | some t => t.enable | none => false) | none => false
  let s := s.updTask n fun x => { x with img := s.prg.img, exchDue := false, exchd := true, blocks := sts, running := en }
  let s := (((s.exchCount Off.PRG_EXCH_CARRIED nc).exchCount Off.PRG_EXCH_REINIT nr).exchCount Off.PRG_EXCH_NEW nn).exchCount Off.PRG_EXCH_DROP nd
  if s.prg.tasks.any (·.exchDue) then s else s.irq .prg 0 2

/-- The schedule entry of task `n` that governs its next release: that of the image it is to run. -/
def State.taskP (s : State) (n : Nat) : Option TaskP :=
  let x := s.task n
  let of_ := fun (g : Option PrgImage) => g.bind fun g => match g.tasks[n]? with | some t => if t.enable then some t else none | none => none
  if x.exchDue then (match of_ s.prg.img with | some t => some t | none => of_ x.img) else of_ x.img

/-- The blocks that the tasks run at a switch, as the old image of the exchange: a task that still had to exchange runs the image before. -/
def State.runningImg (s : State) : Option PrgImage :=
  s.prg.img.map fun g => { g with blocks := (List.range 16).flatMap fun n => match (s.task n).img with | some h => blocksOf h n | none => [] }

/-- The image in force changes at a switch boundary (R344): a different program exchanges task by task. Log entry 96, DEDUCED. -/
def State.switchPrg (s : State) (g : Option PrgImage) : State :=
  if s.prg.img == g then s
  else
    let s := { s with prg := { s.prg with
      img := g, oldImg := s.runningImg
      tasks := s.prg.tasks.map fun (x : Task) => { x with exchDue := true, exchd := false } } }
    let s := ((s.wrp .prg 0 Off.PRG_EXCH_CARRIED 0).wrp .prg 0 Off.PRG_EXCH_REINIT 0).wrp .prg 0 Off.PRG_EXCH_NEW 0
    let s := s.wrp .prg 0 Off.PRG_EXCH_DROP 0
    -- a task that neither image enables has nothing to exchange
    (List.range 16).foldl (fun s n => if (s.taskP n).isNone then s.updTask n fun x => { x with exchDue := false } else s) s

/-- Every enabled task starts (R343): its image is the active profile's, its blocks take their initial state. -/
def State.startTasks (s : State) : State :=
  match s.prg.img with
  | none => s
  | some g =>
    let s := (g.blocks.filterMap wdest).foldl (fun s d => match d with | .out t => s.dropOwn t | _ => s) s
    let s := { s with prg := { s.prg with oldImg := none } }
    (List.range 16).foldl (fun s n =>
      let en := match g.tasks[n]? with | some t => t.enable | none => false
      s.updTask n fun x => { ({} : Task) with
        running := en, img := some g, inImg := x.inImg, blocks := (blocksOf g n).map initBlock }) s

/-- Tasks stop at SAFE-HOLD, COMMISSION, DORMANT and BOOT. -/
def State.stopTasks (s : State) : State :=
  { s with prg := { s.prg with tasks := s.prg.tasks.map fun (x : Task) => { x with running := false, job := none } } }

/-! A task cycle (R340, R341) -/

/-- Carry out a committed effect that is not an output: records, alarms, counts, set-points, series overrides. -/
def State.prgEffect (s : State) (e : PrgEff) : State :=
  match e with
  | .stage (.sp k) v _ => s.updLoop k fun l => { l with spLocal := v, spNew := true }
  | .stage (.series c sc) v p0 =>
    -- a value that no series of the code may carry is not staged (R175, R177, R342; log entry 101, DESIGN CHOICE)
    if !seriesValOk c v then (s.satp .prg 0 Off.PRG_WR_DROP).irq .prg 0 4
    else { s with slv := { s.slv with
      overrides := (s.slv.overrides.filter fun o => s.now ≤ o.at_ + o.validNs) ++ [⟨c, sc, v, s.now, (truncI (mul p0 (ofNat sec))).toNat⟩] } }
  | .stage (.out _) _ _ => s
  | .drop => (s.satp .prg 0 Off.PRG_WR_DROP).irq .prg 0 4
  | .evt code p1 p2 p3 => s.recordEp code p1 p2 p3
  | .alarm id on =>
    let s := s.recordEp 0x0802 (Config.kindAddr 0 id) 0 (w32 (if on then 3 else 4))
    if on then s.irq .prg 0 3 else s
  | .ack id => if s.md.mode == .standby then s else s.recordGen 8 .prg 0 Off.PRG_ALM_ACK (w32 id)

/-- The outputs an effect list stages (R342). -/
def stagedOuts (es : List PrgEff) : List (Target × F) :=
  es.filterMap fun e => match e with | .stage (.out t) v _ => some (t, v) | _ => none

/-- Station groups that discard a commit (R139). -/
def State.deadGroups (s : State) (os : List (Target × F)) : Nat :=
  if !s.md.mode.drives then 0
  else ((stationsOf os).filter fun st => match s.stn? st with | some x => x.st != .up | none => true).length

/-- The cycle of task `n` released at `t` up to its commit: input copy and execution (R341). Log entry 77, DEDUCED. -/
def State.taskRun (s : State) (g : PrgImage) (n t execUs : Nat) : TaskJob :=
  let x := s.task n
  let dt := match x.last with | some u => t - u | none => 0
  let held := s.heldDests n
  let acc := (blocksOf g n).foldl (fun acc b => s.runBlock g n t dt x.acks held x.blocks acc b) {}
  let wait := (blocksOf g n).any fun b => match wdest b with | some d => held.contains d | none => false
  { at_ := t, execUs := execUs, sts := acc.sts, effs := acc.effs, wait := wait }

/-- A cycle of task `n` commits (R341). -/
def State.taskCommit (s : State) (n : Nat) (j : TaskJob) : State :=
  let os := stagedOuts j.effs
  let s := s.updTask n fun x => { x with
    last := some j.at_, blocks := j.sts, overrun := false, waitOwn := j.wait
    busyTill := max s.now (j.at_ + j.execUs * us), execUs := j.execUs, maxUs := max x.maxUs j.execUs, job := none }
  let s := j.effs.foldl (fun s e => s.prgEffect e) s
  let s := s.satp .prg 0 (taskOff n 0x1C) (s.deadGroups os)
  (s.modp .prg 0 (taskOff n 0x0C)).releaseOuts os

/-- The cycle of task `n`: its input copy takes the acknowledgements that wait, and it commits where its check passes, or awaits its re-execution (R89, R341). -/
def State.taskCycle (s : State) (g : PrgImage) (n t execUs : Nat) (chk : List MemFind) : State :=
  let j := s.taskRun g n t execUs
  (s.updTask n fun x => { x with acks := [] }).checked chk (fun s => s.taskCommit n j) (fun s => s.updTask n fun x => { x with job := some j })

/-- The re-execution of a task (R96, R101). -/
def State.taskAgain (s : State) (n : Nat) : State :=
  match (s.task n).job with
  | some j => (s.taskCommit n j).mgDone (.task n)
  | none => s.mgDone (.task n)

/-- A frame at which task `n` is released (R340), as the instant at which that frame begins. -/
def State.taskFrame (s : State) (n : Nat) : Option Nat :=
  match s.slv.origin, s.taskP n with
  | some o, some p =>
    let f := (s.now - o) / ms
    if s.now ≥ o ∧ f % p.periodMs = p.phaseMs % p.periodMs ∧ (s.task n).last ≠ some (o + f * ms) ∧
       (s.task n).job.map (·.at_) ≠ some (o + f * ms) then some (o + f * ms) else none
  | _, _ => none

/-- Task `n` is released (R340, R341, R344): an overrun skips the cycle (R101) and moves an exchange to the next release (R355). -/
def State.taskRelease (s : State) (n execUs : Nat) (chk : List MemFind) : State :=
  let x := s.task n
  if !(s.md.mode.tasksRun && (x.running || x.exchDue)) || s.leaving then s
  else match s.taskFrame n with
  | none => s
  | some t =>
    if (s.inMg (.task n)) || (x.running && s.now < x.busyTill) then
      ((s.updTask n fun x => { x with overrun := true }).satp .prg 0 (taskOff n 0x10)).irq .prg 0 1
    else
      let (whole, s) := s.shadowInputs (.task n)
      if !whole then s
      else
        let s := s.reached (.task n)
        let s := if x.exchDue then s.exchange n else s
        match (s.task n).img with
        | some g => if (s.task n).running then s.taskCycle g n t execUs chk else s
        | none => s

/-! Writes of the PRG page -/

/-- A write to PRG.ALM_ACK (R339): the block's task sees it at its next input copy. -/
def State.almAck (s : State) (v : Word) : Err × State :=
  if v.toNat = max32 then
    (.ok, { s with prg := { s.prg with tasks := s.prg.tasks.map fun (x : Task) => { x with acks := x.acks ++ [max32] } } })
  else
    let hit := (List.range 16).filter fun n => match (s.task n).img with
      | some g => (blocksOf g n).any fun b => isAlarm b.typ && b.id == v.toNat
      | none => false
    match hit with
    | n :: _ => (.ok, s.updTask n fun x => { x with acks := x.acks ++ [v.toNat] })
    | [] => (.notFound, s)

/-- A write to a HI register of PRG.HIN (R348): the pair takes this word and the last LO word the session wrote. -/
def State.hinHi (s : State) (sess k : Nat) (hi : Word) : State :=
  let o := Off.PRG_HIN0_LO + 8 * k
  let v := s.pairValue sess (Page.reg .prg 0 o) (pair64 (s.rdp .prg 0 o) (s.rdp .prg 0 (o + 4))) hi
  (s.wrp .prg 0 o (lo32 v)).wrp .prg 0 (o + 4) (hi32 v)

/-- PRG.CLR (R356). -/
def State.prgClr (s : State) (v : Word) : State :=
  if !v.bit 0 then s
  else
    let s := (List.range 16).foldl (fun s n =>
      ((s.wrp .prg 0 (taskOff n 0x0C) 0).wrp .prg 0 (taskOff n 0x10) 0).wrp .prg 0 (taskOff n 0x1C) 0) (s.wrp .prg 0 Off.PRG_WR_DROP 0)
    s.recordClr (Page.reg .prg 0 Off.PRG_CLR) v

/-! Masking (R349–R358) -/

/-- The masks of the list that no block of a running image answers (R354). -/
def State.orphan (s : State) (m : Mask) : Bool :=
  let fits := fun (id : Nat) (p : Nat → Bool) => (List.range 16).any fun n => match (s.task n).img with
    | some g => (blocksOf g n).any fun b => b.id == id && p b.typ
    | none => false
  match m.kind with
  | .read id => !fits id isRead
  | .write id => !fits id isWrite
  | .out _ => false

/-- The code of a mask's kind and its address (R349). -/
def maskAddr : MaskKind → Nat × Nat
  | .read id => (1, id)
  | .write id => (2, id)
  | .out (.slice n) => (3, n)
  | .out (.can k sig) => (4, 65536 * k + sig)
  | .out (.point i) => (5, i)

/-- The target of T_KIND and T_ADDR, or the error of R358. -/
def State.maskTarget (s : State) (kind : Nat) (a : Word) : Err × Option MaskKind :=
  let block := fun (p : Nat → Bool) => (List.range 16).any fun n => match (s.task n).img with
    | some g => (blocksOf g n).any fun b => b.id == a.toNat && p b.typ
    | none => false
  if kind = 1 then (if block isRead then (.ok, some (.read a.toNat)) else (.notFound, some (.read a.toNat)))
  else if kind = 2 then (if block isWrite then (.ok, some (.write a.toNat)) else (.notFound, some (.write a.toNat)))
  else if kind = 3 then
    let n := a.fld 0 6
    let f := (s.slc n).cfg.func
    if n = 0 ∨ n > s.variant.slices then (.absentUnit, none)
    else if isSdo f || s.safe.cfg.slcs.any (fun c => c.slice == n && isSdo c.func) then (.denied, none)
    else if f = 0xA ∨ f = 0xC ∨ f = 0xD ∨ f = 0xE then (.ok, some (.out (.slice n))) else (.notFound, some (.out (.slice n)))
  else if kind = 4 then
    let k := a.fld 16 3
    let n := a.fld 0 16
    if k = 0 ∨ k > s.variant.segments then (.absentUnit, none)
    else if 512 ≤ n ∧ (sigOf (s.seg k) n).isSome then (.ok, some (.out (.can k n))) else (.notFound, some (.out (.can k n)))
  else if kind = 5 then
    let i := a.fld 0 23
    if a.toNat ≥ 2 ^ 23 ∨ ptLocal i > 1535 then (.range, none)
    else match (s.stn? (ptStation i)).bind fun (x : Stn) => x.outs.find? fun o => o.idx == ptLocal i with
    | some _ => (.ok, some (.out (.point i)))
    | none => (.notFound, some (.out (.point i)))
  else (.range, none)

/-- The value lies within the output's terminal range (R279, R358). -/
def State.maskInRange (s : State) (k : MaskKind) (v : F) : Bool :=
  match k with
  | .out (.slice n) => fin v && inTerminal (s.slc n).cfg.func v
  | _ => true

/-- Record a mask applied (1) or removed (2), with kind, address and forced value (R352). -/
def State.recordMask (s : State) (m : Mask) (what : Nat) : State :=
  s.record 0x0801 (Config.kindAddr (maskAddr m.kind).1 (maskAddr m.kind).2) (toF32 m.val) (w32 what)

/-- The forced or restored value of an output goes to its group (R350, R351): a slice is driven at once, a tripped one turned on again as by any
release (R284) and an unfenced one no longer holding its fault value (R290, R350: the mask's own release counts as one); a segment queues the event frames that change; a station is sent a COMMAND. -/
def State.releaseForced (s : State) (t : Target) : State :=
  let before := (s.driven t).2
  let was := s.prg.forced.filter fun p => p.1 != t
  let now_ := match s.prg.masks.find? fun m => m.kind == .out t with
    | some m => was ++ [(t, m.val)]
    | none => was
  let s := { s with prg := { s.prg with forced := now_ } }
  let v := (s.driven t).2
  match t with
  | .slice n =>
    let s := if (s.maskVal t).isSome && (s.grp (grpOf n)).cause.isNone then s.updSlc n fun x => { x with held := false } else s
    let v := (s.driven t).2
    s.updSlc n fun x => if x.tripped && !isZ v && s.now ≥ x.tripAt + sec then { x with tripped := false, reason := 0 } else x
  | .can k sig =>
    let g := s.seg k
    match g.cfg with
    | none => s
    | some c =>
      if g.st != .active then s
      else
        let fs := evtFrames c (if before != v then [sig] else []) [sig]
        if g.evtQ.length + fs.length > 32 then (s.satp .ord 0 Off.ORD_REL_DROP).satp .can (k - 1) Off.CAN_EVT_DROP fs.length
        else s.updSeg k fun g => { g with evtQ := g.evtQ ++ fs }
  | .point i =>
    let st := ptStation i
    match s.stn? st with
    | some x =>
      if x.st == .up && s.servesDpx then (s.noteSent st (ptLocal i) v).queueSet st 0 [s.outEntry st (ptLocal i) v]
      else ((s.updStn st fun x => { x with drop := satAdd max32 x.drop 1 }).satp .ord 0 Off.ORD_REL_DROP).satp .dpx 0 Off.DPX_CMD_DROP
    | none => s

/-- The outcome of one FORCE.CMD operation: its status, the state, the outputs whose release completes it. -/
def State.forceOp (s : State) (c : QCmd) : Err × State × List Target :=
  let kind := (c.args.getD 0 0).fld 0 4
  let v := pair64 (c.args.getD 2 0) (c.args.getD 3 0)
  let op := c.word.fld 0 4
  let outOf := fun (k : MaskKind) => match k with | .out t => [t] | _ => []
  if !commMaint s.md.mode then (.mode, s, [])
  else if op = 1 then
    match s.maskTarget kind (c.args.getD 1 0) with
    | (.ok, some k) =>
      let here := s.prg.masks.any (·.kind == k)
      if !s.maskInRange k v then (.range, s, [])
      else if !here && s.prg.masks.length ≥ 256 then (.capacity, s, [])
      else
        let m : Mask := ⟨k, v⟩
        let ms := if here then s.prg.masks.map fun x => if x.kind == k then m else x else s.prg.masks ++ [m]
        let s := { s with prg := { s.prg with masks := ms } }
        (.ok, ((s.recordMask m 1).irq .force 0 2).satp .force 0 Off.FORCE_APPLIED, outOf k)
    | (e, _) => (e, s, [])
  else if op = 2 then
    match s.maskTarget kind (c.args.getD 1 0) with
    | (e, some k) => match s.prg.masks.find? (·.kind == k) with
      | some m =>
        let s := { s with prg := { s.prg with masks := s.prg.masks.filter (·.kind != k) } }
        (.ok, (s.recordMask m 2).irq .force 0 2, outOf k)
      | none => (if e == .ok then .notFound else e, s, [])
    | (e, none) => (e, s, [])
  else if op = 3 then
    let ms := s.prg.masks
    let s := ms.foldl (fun s m => s.recordMask m 2) { s with prg := { s.prg with masks := [] } }
    (.ok, if ms.isEmpty then s else s.irq .force 0 2, ms.flatMap fun m => outOf m.kind)
  else (.range, s, [])

/-- Execute the FORCE.CMD queue (R358) up to an operation that waits for a forced release; `started` tells that the head has acted already. -/
def runForceQueue (started : Bool) : List QCmd → State → State
  | [], s => s.setQueue (Page.reg .force 0 Off.FORCE_CMD) []
  | c :: cs, s =>
    if started then runForceQueue false cs (s.complete .force 0 Off.FORCE_CMD_STAT .ok (c.word.fld 8 8))
    else
      let r := s.forceOp c
      if r.1 == .ok && !r.2.2.isEmpty then
        let s := r.2.1
        { s with prg := { s.prg with due := r.2.2 } }.setQueue (Page.reg .force 0 Off.FORCE_CMD) (c :: cs)
      else runForceQueue false cs (r.2.1.complete .force 0 Off.FORCE_CMD_STAT r.1 (c.word.fld 8 8))

/-- The releases that R350 and R351 owe are made, the command that waits for them completes, and the next ones execute. -/
def State.forcedRelease (s : State) : State :=
  if s.prg.due.isEmpty then s
  else
    let s := s.prg.due.foldl (fun s t => s.releaseForced t) s
    let s := { s with prg := { s.prg with due := [] } }
    let q := s.queue (Page.reg .force 0 Off.FORCE_CMD)
    runForceQueue (!q.isEmpty) q s

/-- Clear every mask (R33, R65, R353), with a record for each; the outputs return to the value R17 drives. -/
def State.clearMasks (s : State) : State :=
  let ms := s.prg.masks
  let s := ms.foldl (fun s m => s.recordMask m 2) s
  let s := { s with prg := { s.prg with masks := [], due := ms.filterMap fun m => match m.kind with | .out t => some t | _ => none } }
  if ms.isEmpty then s else s.irq .force 0 2

/-! Register views (R356, R357) -/

/-- Active and unacknowledged alarms over all tasks. -/
def State.alarmCounts (s : State) : Nat × Nat :=
  let as := (List.range 16).flatMap fun n => match (s.task n).img with
    | some g => (blocksOf g n).filterMap fun b => if isAlarm b.typ then (s.task n).blocks.find? (·.id == b.id) else none
    | none => []
  ((as.filter (·.on)).length, (as.filter (·.ack)).length)

/-- Value of offset `o` of the block of task `n`, where it is computed. -/
def State.taskView (s : State) (n o : Nat) : Option Word :=
  let x := s.task n
  let p := x.img.bind fun g => g.tasks[n]?
  match o with
  | 0x00 => some (match p with | some p => w32 (b2n p.enable + 16 * p.prio) | none => 0)
  | 0x04 => some (match p with | some p => w32 (p.periodMs + 65536 * p.phaseMs) | none => 0)
  | 0x08 => some (w32 (b2n x.running + 2 * b2n x.overrun + 4 * b2n x.exchd + 8 * b2n x.waitOwn))
  | 0x14 => some (w32 x.execUs)
  | 0x18 => some (w32 x.maxUs)
  | _ => none

/-- Value of offset `o` of the PRG page, where it is computed. -/
def State.prgPageView (s : State) (o : Nat) : Option Word :=
  let g := s.prg.img
  if o = Off.PRG_IMG_ID then some (match g with | some g => g.id | none => 0)
  else if o = Off.PRG_IMG_REV then some (match g with | some g => g.rev | none => 0)
  else if o = Off.PRG_IMG_CRC then some (match g with | some g => g.crc | none => 0)
  else if o = Off.PRG_BLOCKS then some (match g with | some g => w32 g.blocks.length | none => 0)
  else if o = Off.PRG_ALM_STAT then some (w32 (s.alarmCounts.1 + 65536 * s.alarmCounts.2))
  else if 0x100 ≤ o ∧ o < 0x300 then s.taskView ((o - 0x100) / 0x20) ((o - 0x100) % 0x20)
  else none

/-- PAGE_STAT[STATE] of the PRG page (R356). -/
def State.prgPageState (s : State) : Nat :=
  if !s.md.mode.tasksRun then 0
  else if s.prg.tasks.any (·.exchDue) then 3
  else if s.md.mode == .standby then 2 else 1

/-- Value of offset `o` of the FORCE page, where it is computed. -/
def State.forcePageView (s : State) (o : Nat) : Option Word :=
  if o = Off.FORCE_COUNT then some (w32 (s.prg.masks.length + 65536 * (s.prg.masks.filter fun m => s.orphan m).length))
  else if 0x100 ≤ o ∧ o < 0x500 then
    let k := 64 * (s.rdp .force 0 Off.FORCE_SEL).fld 0 2 + (o - 0x100) / 16
    some (match s.prg.masks[k]? with
      | some m =>
        let a := (maskAddr m.kind)
        [w32 (a.1 + 256 + 512 * b2n (s.orphan m)), w32 a.2, lo32 m.val, hi32 m.val].getD (o % 16 / 4) 0
      | none => 0)
  else none

/-- PAGE_STAT[STATE] of the FORCE page (R352). -/
def State.forcePageState (s : State) : Nat := b2n (!s.prg.masks.isEmpty)

end Sys2Proof.Machine
end

