-- ==== Sys2Proof/Machine/Safe.lean ====
section
/-!
DEFINITION. The safety domain (R419–R450): safety configuration, functions, lockout, seal switches, Polien connections, the SAFE and POL pages.
-/
namespace Sys2Proof.Machine
open Sys2Proof.F64

/-- Function `n` of the safety configuration. -/
def State.fnCfg (s : State) (n : Nat) : Option FnCfg := s.safe.cfg.fns.getD n none
/-- Running state of function `n`. -/
def State.fn (s : State) (n : Nat) : Fn := s.safe.fns.getD n {}
/-- Update function `n`. -/
def State.updFn (s : State) (n : Nat) (f : Fn → Fn) : State := { s with safe := { s.safe with fns := modAt s.safe.fns n f } }
/-- Connection `c` of the safety configuration. -/
def State.polCfg (s : State) (c : Nat) : Option PolCfg := s.safe.cfg.conns.getD c none
/-- Running state of connection `c`. -/
def State.pol (s : State) (c : Nat) : Pol := s.safe.conns.getD c {}
/-- Update connection `c`. -/
def State.updPol (s : State) (c : Nat) (f : Pol → Pol) : State := { s with safe := { s.safe with conns := modAt s.safe.conns c f } }

/-! The safety configuration (R424, R425) -/

/-- A reference of the function table. -/
def decodeRef (n : Nat) : Option SRef :=
  if n / 2 ^ 14 = 0 then (if n = 0 then some .none else none)
  else if n / 2 ^ 14 = 1 then (if n % 2 ^ 14 < 64 then some (.slice (n % 64)) else none)
  else if n / 2 ^ 14 = 2 then some (.pol (n / 256 % 64) (n % 256))
  else none

/-- A slice table entry: none where reserved bits or a value outside the table stand. -/
def decodeSafeSlc (n w : Nat) : Option (Option SafeSlc) :=
  let f := w % 16
  let filt := w / 256 % 256
  if w / 65536 ≠ 0 ∨ w / 64 % 4 ≠ 0 then none
  else if f = 0 then (if w = 0 then some none else none)
  else if f ≠ 8 ∧ f ≠ 0xB ∧ f ≠ 0xF then none
  else if 20 < filt ∨ (f ≠ 8 ∧ w ≠ f) then none
  else some (some ⟨n, f, w.testBit 4, w.testBit 5, filt⟩)

/-- All of a list, or none. -/
def allSome {α : Type} : List (Option α) → Option (List α)
  | [] => some []
  | none :: _ => none
  | some x :: xs => (allSome xs).map (x :: ·)

/-- A function table entry. -/
def decodeFn (b : List Byte) : Option (Option FnCfg) :=
  let typ := leAt b 0 1
  if typ = 0 then (if zeros b then some none else none)
  else
    let flags := leAt b 1 1
    let ref := fun o => decodeRef (leAt b o 2)
    match ref 4, ref 6, ref 8, ref 10, allSome ((List.range 8).map fun k => ref (12 + 2 * k)) with
    | some a, some bb, some fb, some rst, some outs =>
      if 5 < typ ∨ 64 ≤ flags ∨ leAt b 2 2 < 10 ∨ 3000 < leAt b 2 2 ∨ 30000 < leAt b 28 2 ∨ leAt b 30 2 < 50 ∨ 2000 < leAt b 30 2 ∨ 600 < leAt b 32 2 ∨
        !zeros (b.drop 34) then none
      else some (some ⟨typ, flags, leAt b 2 2, a, bb, fb, rst, outs, leAt b 28 2, leAt b 30 2, leAt b 32 2⟩)
    | _, _, _, _, _ => none

/-- A connection table entry. -/
def decodeConn (b : List Byte) : Option (Option PolCfg) :=
  if leAt b 0 4 = 0 then (if zeros b then some none else none)
  else
    let can := leAt b 4 1 = 2
    let p := leAt b 8 2
    let wd := leAt b 10 2
    let tx := leAt b 12 4
    let rx := leAt b 16 4
    let lt_ := leAt b 5 1
    let lr := leAt b 6 1
    let sg := leAt b 7 1
    if (leAt b 4 1 ≠ 1 ∧ !can) ∨ lt_ = 0 ∨ 32 < lt_ ∨ lr = 0 ∨ 32 < lr ∨ (if can then sg = 0 ∨ 6 < sg else sg ≠ 0) ∨ p < 5 ∨ 1000 < p ∨ wd < 10 ∨
      10000 < wd ∨ wd < 3 * p ∨ (if can then 2 ^ 30 ≤ tx ∨ 2 ^ 30 ≤ rx else 4096 ≤ tx ∨ rx ≠ 0) ∨ !zeros (b.drop 20) then none
    else some (some ⟨w32 (leAt b 0 4), can, lt_, lr, sg, p, wd, tx, rx⟩)

/-- The tables of a safety configuration file (R424). -/
def decodeSafe (b : List Byte) : Option SafeCfg :=
  let slcs := allSome ((List.range 48).map fun k => decodeSafeSlc (k + 1) (leAt b (128 + 4 * k) 4))
  let fns := allSome ((List.range 32).map fun k => decodeFn (sliceB b (320 + 64 * k) 64))
  let conns := allSome ((List.range 64).map fun k => decodeConn (sliceB b (2368 + 32 * k) 32))
  match slcs, fns, conns with
  | some a, some f, some c =>
    if b.length ≠ 4416 ∨ leAt b 0 2 ≠ 0x4653 ∨ leAt b 2 1 ≠ 1 ∨ leAt b 4 4 = 0 ∨ leAt b 12 2 < 5 ∨ 100 < leAt b 12 2 ∨ leAt b 14 2 ≠ 0 ∨
      leAt b 16 4 ≠ 4416 ∨ leAt b 24 8 ≠ 0 then none
    else some { addr := leAt b 3 1, id := w32 (leAt b 4 4), rev := w32 (leAt b 8 4), crc := w32 (leAt b 20 4), tpMs := leAt b 12 2,
                slcs := a.filterMap id, fns := f, conns := c }
  | _, _, _ => none

/-- A slice claimed with a function. -/
def safeClaims (c : SafeCfg) (n f : Nat) : Bool := c.slcs.any fun x => x.slice = n && x.func = f

/-- An input reference names a claimed SDI or a bit the peer sends. -/
def safeInOk (c : SafeCfg) : SRef → Bool
  | .none => true
  | .slice n => safeClaims c n 8
  | .pol k b => match c.conns.getD k none with | some p => b < 8 * p.lenRx | none => false

/-- An output reference names a claimed SDO or a bit the controller sends. -/
def safeOutOk (c : SafeCfg) : SRef → Bool
  | .none => true
  | .slice n => safeClaims c n 0xB
  | .pol k b => match c.conns.getD k none with | some p => b < 8 * p.lenTx | none => false

/-- A reference names a Polien bit; IN_FB may not (R435). -/
def refIsPol : SRef → Bool
  | .pol _ _ => true
  | _ => false

/-- The two channels of a function are paired as R425 and R428 ask. -/
def safePairOk (c : SafeCfg) (f : FnCfg) : Bool :=
  match f.inA, f.inB with
  | .slice a, .slice b => match c.slcs.find? (·.slice == a), c.slcs.find? (·.slice == b) with
    | some x, some y => x.supply != y.supply && ((x.tested && y.tested) || grpOf a != grpOf b)
    | _, _ => false
  | .pol _ _, .none => true
  | .pol _ _, .pol _ _ => true
  | _, _ => false

/-- The references and names hold together (R425). -/
def safeCfgOk (c : SafeCfg) (v : Variant) : Bool :=
  let fns := c.fns.filterMap id
  let outs := (fns.flatMap fun f => f.outs).filter (· != .none)
  let conns := c.conns.filterMap id
  fns.all (fun f => safeInOk c f.inA && safeInOk c f.inB && safeInOk c f.inFb && !refIsPol f.inFb && safeInOk c f.inRst && f.outs.all (safeOutOk c) && safePairOk c f && (f.typ != 5 || f.inFb != .none)) &&
  outs.eraseDups.length = outs.length && c.slcs.all (fun x => x.slice ≤ v.slices) && conns.all (fun p => !p.can || p.segment ≤ v.segments) &&
  (conns.map (·.id)).eraseDups.length = conns.length

/-- No CAN identifier of a connection clashes with a transmit frame of the active profile (R425). -/
def State.safeCanOk (s : State) (c : SafeCfg) : Bool :=
  (c.conns.filterMap id).all fun p => !p.can || (match (s.seg p.segment).cfg with
    | some g => !(g.tx.any fun f => [p.txId, p.rxId].any fun n => f.id == n % 2 ^ 29 && f.ide == n.testBit 29)
    | none => true)

/-- Which check a file fails (SAFE.STAT[7:5]): 1 signature, 2 CRC, hash or tables, 0 none. -/
def State.safeFileErr (s : State) (b : List Byte) : Nat :=
  let body := b.drop 128
  if w32 (leAt b 20 4) ≠ Hash.crc32 body ∨ sliceB b 32 32 ≠ Hash.sha256 body then 2
  else match decodeSafe b with
    | none => 2
    | some c => if !safeCfgOk c s.variant || !s.safeCanOk c then 2 else if !s.verifies 3 (b.take 64) (sliceB b 64 64) then 1 else 0

/-! Switches (R423) -/

/-- The domain runs. -/
def State.safeRuns (s : State) : Bool := s.variant.safety && s.md.pstate.ctl && s.md.mode != .dormant

/-- A and B have read a switch differently for more than 100 ms. -/
def State.switchFault (s : State) : Bool := match s.safe.disAt with | some t => s.now > t + 100 * ms | none => false

/-! Functions (R428–R435) -/

/-- FLAGS with the settings the type forces (*Safety-function library*). -/
def fnFlags (c : FnCfg) : Nat :=
  if c.typ = 1 then (c.flags ||| 1) &&& 0b110111 else if c.typ = 2 ∨ c.typ = 4 then c.flags ||| 1 else c.flags

/-- What an input reference reads: a slice's state, a bit of a RUNNING connection (R443). -/
def State.refVal (s : State) : SRef → Bool
  | .none => false
  | .slice n => let x := s.slc n; x.qual != .bad && !isZ x.val
  | .pol c b => let p := s.pol c; p.st == .running && (p.rxNow.getD (b / 8) 0).toNat.testBit (b % 8)

/-- Slices of a function, inputs and outputs. -/
def fnSlices (c : FnCfg) : List Nat :=
  (c.inA :: c.inB :: c.inFb :: c.inRst :: c.outs).filterMap fun r => match r with | .slice n => some n | _ => none
/-- Slices that a function's outputs name. -/
def fnOuts (c : FnCfg) : List Nat := c.outs.filterMap fun r => match r with | .slice n => some n | _ => none

/-- An input reference rests on a connection that is not RUNNING (R443). -/
def State.polDead (s : State) : SRef → Bool
  | .pol c _ => (s.pol c).st != .running
  | _ => false

/-- A channel without a value reads as a demand, ANTIVALENT or not (R428, R443). -/
def State.refDead (s : State) : SRef → Bool
  | .slice n => (s.slc n).qual == .bad
  | r => s.polDead r

/-- Test-pulse evidence on the channels of a function (R433): the pulse's supply and whether every check of it passes. -/
def State.fnTest (s : State) (c : FnCfg) (tests : List SdiTest) (tpb : Bool) : Option Bool :=
  let mine := tests.filter fun t => t.tpb == tpb && (s.safe.cfg.slcs.any fun x => x.slice == t.slice && x.tested) && (c.inA == .slice t.slice || c.inB == .slice t.slice)
  if mine.isEmpty then none
  else some (mine.all fun t =>
    let own := match s.safe.cfg.slcs.find? (·.slice == t.slice) with | some x => x.supply == tpb | none => false
    if own then !t.before || !t.during else t.before == t.during)

/-- Count one supply's pulse. -/
def tpCount (r : Option Bool) (n : Nat) : Nat := match r with | some true => n + 1 | some false => 0 | none => n

/-- A function's inputs and fault conditions in a cycle (R428, R432–R435). -/
def State.fnInputs (s : State) (c : FnCfg) (f : Fn) (tests : List SdiTest) : Fn :=
  let a := s.refVal c.inA
  let b := if c.inB == .none then a else !s.refDead c.inB && (s.refVal c.inB != c.flags.testBit 4)
  let fb := s.refVal c.inFb
  let differ := a != b
  let discAt := if differ then some (f.discAt.getD s.now) else none
  let disc := match discAt with | some t => s.now > t + c.discMs * ms | none => false
  let seenDem := f.discDem || (!a && !b)
  let discF := if disc then true else f.discFault && !(seenDem && a && b)
  let ta := s.fnTest c tests false
  let tb := s.fnTest c tests true
  let fail := ta == some false || tb == some false
  let cnt := if fail then (0, 0) else (tpCount ta f.tpOk.1, tpCount tb f.tpOk.2)
  let tpF := fail || (f.tpFault && !(4 ≤ cnt.1 && 4 ≤ cnt.2))
  let fbDue := match f.fbAt with | some t => s.now ≥ t + c.fbMs * ms | none => false
  let fbBad := c.inFb != .none && fb == f.on
  let fbF := if fbDue && fbBad then true else f.fbFault && fbBad
  let mismatch := (fnOuts c).any fun n => (s.rdp .slc (grpOf n) (slcOff n 0x3C)).bit 31
  let ok := a && b
  let dem := if c.typ = 3 then !ok && f.st == .run && s.now ≥ f.runAt + c.bypassS * sec else !ok
  { f with
    a := a, b := b, fb := fb, discAt := discAt, discFault := discF, discDem := if disc || !discF then false else seenDem
    tpFault := tpF, tpOk := cnt, fbFault := fbF, fbAt := if fbDue then none else f.fbAt
    rbFault := mismatch || (f.rbFault && f.st != .locked), demand := dem }

/-- The fault a function finds (*Trip and fault causes*), 0 for none. -/
def State.fnFault (s : State) (c : FnCfg) (f : Fn) : Nat :=
  if f.discFault then 3
  else if f.tpFault then 4
  else if f.fbFault then 5
  else if f.rbFault then 6
  else if (fnSlices c).any fun n => (s.grp (grpOf n)).cause.isSome then 7
  else 0

/-- The reset input (R430): a press of 0.1–5 s acts on its release, a longer one is ignored and shown. -/
def State.fnPress (s : State) (c : FnCfg) (f : Fn) : Bool × Fn :=
  let r := s.refVal c.inRst
  match f.pressAt with
  | none => (false, { f with rst := r, pressAt := if r then some s.now else none })
  | some t =>
    if r then (false, { f with rst := r })
    else
      let d := s.now - t
      (ms * 100 ≤ d && d ≤ 5 * sec, { f with rst := r, pressAt := none, stuck := if d > 5 * sec then true else if ms * 100 ≤ d then false else f.stuck })

/-- A trip (R429): flags, counters, stamp, page event, record, SAFE-HOLD where DEMAND_SH is set (R431). -/
def State.trip (s : State) (n : Nat) (c : FnCfg) (cause : Nat) : State :=
  let o := 0x100 + 0x20 * n
  let t := s.timeNow
  let s := s.updFn n fun f => { f with tripped := true, cause := cause }
  let s := (s.satp .safe 0 (o + 0x10)).satp .safe 0 Off.SAFE_TRIPS
  let s := ((s.wrp .safe 0 (o + 0x14) (w32 t.s)).wrp .safe 0 (o + 0x18) (w32 t.ns)).wrp .safe 0 Off.SAFE_LAST_TRIP (w32 (n + 256 * cause))
  let s := (s.irq .safe 0 2).record 0x0C01 (w32 n) (w32 cause) 0
  if (fnFlags c).testBit 1 then s.trigger (.safeHold .safety n) else s

/-- The domain goes into lockout: outputs off, telegrams stopped, functions that ran trip with cause LOCKOUT (R421; log entry 49, DEDUCED). -/
def State.lockout (s : State) : State :=
  if s.safe.lockout then s
  else
    let s := { s with safe := { s.safe with lockout := true, sdo := [], outPol := [] } }
    let s := (s.satp .safe 0 Off.SAFE_DISCREP).irq .safe 0 5
    let s := (s.record 0x0C02 0 8 0).trigger (.safeHold .ctlFault 0x0C02)
    (List.range 32).foldl (fun s n => match s.fnCfg n with
      | some c => if (s.fn n).st == .run || (s.fn n).st == .stopping then (s.updFn n fun f => { f with st := .safe, on := false }).trip n c 8 else s
      | none => s) s

/-- SEAL_SWITCH_CHANGE: the positions as processors A and B read them (R423). -/
def State.sealChange (s : State) (addrA : Nat) (editA : Bool) (addrB : Nat) (editB : Bool) : State :=
  if !s.variant.safety then s
  else
    let differ := addrA ≠ addrB || editA != editB
    let late := s.safeRuns && s.switchFault
    let moved := s.safe.swAddr ≠ addrA % 256 || s.safe.edit != editA
    let s := { s with safe := { s.safe with
      swAddr := addrA % 256, edit := editA, disAt := if differ then some (s.safe.disAt.getD s.now) else none } }
    let s := if moved && s.safeRuns then
        (s.irq .safe 0 4).recordGen 0x0C .safe 0 Off.SAFE_STAT (w32 (b2n editA + 256 * (addrA % 256)))
      else s
    if late then s.lockout else s

/-- One function's cycle (R429, R430, R447): faults before demands before resets. -/
def State.fnCycle (s : State) (n : Nat) (tests : List SdiTest) : State :=
  match s.fnCfg n with
  | none => s
  | some c =>
    let (press, f) := s.fnPress c (s.fnInputs c (s.fn n) tests)
    let reset := press || f.request
    let f := { f with request := false }
    let put := fun (g : Fn) => s.updFn n fun _ => g
    let flags := fnFlags c
    if !s.safe.confirmed then put { f with st := .safe, on := false }
    else
      let fault := s.fnFault c f
      let live := f.st == .run || f.st == .stopping
      let off := fun (g : Fn) => { g with on := false, fbAt := if g.on then some (s.now + ms) else g.fbAt }
      let run := { f with st := .run, on := true, runAt := s.now, fbAt := some (s.now + ms), blocked := false }
      let auto := flags.testBit 2 && !flags.testBit 0
      let why := if s.polDead c.inA || s.polDead c.inB then 2 else 1
      if fault ≠ 0 && f.st != .locked then
        let s := (put (off { f with st := .locked, cause := fault })).irq .safe 0 3
        if live then s.trip n c fault else s
      else match f.st with
        | .off => put { f with st := .safe }
        | .safe => put (if f.demand then f else if auto then run else { f with st := .ready })
        | .locked => put (if fault = 0 && reset then { f with st := .safe } else f)
        | .ready =>
          if f.demand then put { f with st := .safe }
          else if reset then
            if c.inFb == .none || f.fb then put { run with tripped := false } else put { f with blocked := true }
          else if auto then put run
          else put f
        | .run =>
          if !f.demand then put f
          else if flags.testBit 5 then put { f with st := .stopping, stopAt := s.now, stopWhy := why }
          else (put (off { f with st := .safe })).trip n c why
        | .stopping =>
          if s.now ≥ f.stopAt + c.stopMs * ms then (put (off { f with st := .safe })).trip n c f.stopWhy else put f

/-- The outputs that functions demand energised (R420, R422). -/
def State.safeOutputs (s : State) : State :=
  let on := (List.range 32).filter fun n => (s.fn n).on
  let refs := on.flatMap fun n => match s.fnCfg n with | some c => c.outs | none => []
  let sdo := if s.md.mode == .boot then [] else refs.filterMap fun r => match r with | .slice n => some n | _ => none
  let pol := refs.filterMap fun r => match r with | .pol c b => some (c, b) | _ => none
  { s with safe := { s.safe with sdo := sdo, outPol := pol } }

/-! Polien (R437–R446) -/

/-- CHECK of a telegram (R439): `toward` is the direction byte's sense. -/
def polCheck (id : Word) (toward : Bool) (head : List Byte) : List Byte :=
  (Hash.crc32c (id.bytes ++ [if toward then 1 else 0] ++ head)).bytes

/-- A telegram (R438). -/
def polTelegram (c : PolCfg) (start : Bool) (seq : Nat) (echo : Option Nat) (pay : List Byte) : List Byte :=
  let head := [BitVec.ofNat 8 (1 + 16 * b2n start + 32 * b2n echo.isSome), BitVec.ofNat 8 c.lenTx] ++ natLE 2 seq ++ natLE 2 (echo.getD 0) ++ pay
  head ++ polCheck c.id false head

/-- The transport of a connection serves (R443). -/
def State.polServes (s : State) (c : PolCfg) : Bool :=
  s.md.pstate.cmp && s.md.mode != .standby &&
  (if c.can then (s.seg c.segment).st == .active else s.servesDpx && (match s.stn? c.txId with | some x => x.st == .up | none => false))

/-- FAILSAFE with a cause (R441–R443). -/
def State.polFail (s : State) (k cause : Nat) : State :=
  let p := s.pol k
  if p.st == .running || p.st == .starting then
    let s := s.updPol k fun p => { p with st := .failsafe, cause := cause, failAt := s.now }
    ((s.satf .pol 0 (0x118 + 0x20 * k) 0 16).irq .pol 0 1).record 0x0C03 (w32 k) (w32 cause) 0
  else s

/-- Connections follow their transports (R443): CLOSED opens when the transport serves, STARTING closes when it does not. Log entry 81, DEDUCED. -/
def State.polSync (s : State) : State :=
  if !s.variant.safety then s
  else (List.range 64).foldl (fun s k => match s.polCfg k with
    | none => s
    | some c =>
      let p := s.pol k
      let ok := s.polServes c && !s.safe.lockout
      if p.st == .closed && ok then s.updPol k fun p => { p with st := .starting }
      else if p.st == .starting && !ok then s.updPol k fun p => { p with st := .closed }
      else s) s

/-- A cycle starts (R419, R442): payloads accepted before take effect, watchdogs expire. -/
def State.polBegin (s : State) : State :=
  (List.range 64).foldl (fun s k => match s.polCfg k with
    | none => s
    | some _ =>
      let s := s.updPol k fun p => { p with rxNow := p.rxNext.getD p.rxNow, rxNext := none }
      let p := s.pol k
      if p.st == .running && s.now ≥ p.deadline then s.polFail k 5 else s) s

/-- The payload a connection sends: zero while unconfirmed (R427). -/
def State.polPayload (s : State) (k : Nat) (c : PolCfg) : List Byte :=
  (List.range c.lenTx).map fun j => BitVec.ofNat 8 (if s.safe.confirmed then
    maskOf ((List.range 8).filter fun b => s.safe.outPol.contains (k, 8 * j + b)) else 0)

/-- Give a telegram to its transport (R444, R445): a full CAN queue discards it. -/
def State.polTransport (s : State) (k : Nat) (c : PolCfg) (bs : List Byte) : State :=
  if c.can then
    if (s.seg c.segment).polQ.length ≥ 16 then s.satf .pol 0 (0x11C + 0x20 * k) 16 16
    else s.updSeg c.segment fun g => { g with polQ := g.polQ ++ [(k, bs)] }
  else s.sendSafe c.txId bs

/-- Send at PERIOD_MS or when the payload changed (R440), while the transport serves; the telegram leaves at the output instant. Log entry 81, DEDUCED. -/
def State.polSend (s : State) (k : Nat) : State :=
  match s.polCfg k with
  | none => s
  | some c =>
    let p := s.pol k
    let pay := s.polPayload k c
    let at_ := s.now + ms
    let due := match p.lastTx with | some t => at_ ≥ t + c.periodMs * ms | none => true
    if p.st == .closed || !s.polServes c || !(due || pay != p.txPay) then s
    else
      let seq := (p.seq + 1) % 65536
      let start := p.st != .running
      let bs := polTelegram c start seq p.s pay
      let s := s.updPol k fun p => { p with seq := seq, sent := ((seq, at_, start) :: p.sent).take 256, lastTx := some at_, txPay := pay }
      s.polTransport k c bs

/-- The frame start of the cycle timer at or before now (R419). -/
def State.safeFrame (s : State) : Nat := s.now - (s.now + ms - s.lp.frame0 % ms) % ms

/-- No safety cycle of this frame has run yet (R419). -/
def State.cycleDue (s : State) : Bool := s.safe.cycAt != some s.safeFrame

/-- SAFETY_CYCLE (R419): one safety cycle as a whole. It reads its inputs, among them the raw test samples, and evaluates every function; when both digests arrived and
agree and every self-test passed (`agree`), its demands and its telegrams take effect at its output instant, 1 ms after its start. Log entry 81, DEDUCED. -/
def State.safetyCycle (s : State) (agree : Bool) (tests : List SdiTest) : State :=
  if !s.safeRuns || s.safe.lockout || !s.cycleDue then s
  else
    let s := s.reached .safety
    let s := { s with safe := { s.safe with cycAt := some s.safeFrame } }
    if !agree || s.switchFault then s.lockout
    else
      let s := (List.range 32).foldl (fun s n => s.fnCycle n tests) s.polBegin
      (List.range 64).foldl (fun s k => s.polSend k) s.safeOutputs

/-- SDO_OFF_PULSE (R434): safety outputs whose readback did not follow make a READBACK fault in the function that owns them. -/
def State.sdoOffPulse (s : State) (failed : List Nat) : State :=
  if !s.safeRuns then s
  else
    (List.range 32).foldl (fun s n => match s.fnCfg n with
      | some c => if (fnOuts c).any fun k => failed.contains k && s.safe.sdo.contains k then s.updFn n fun f => { f with rbFault := true } else s
      | none => s) s

/-- The connections a telegram from a station can belong to. -/
def State.polOfStation (s : State) (st : Nat) : List Nat :=
  (List.range 64).filter fun k => match s.polCfg k with | some c => !c.can && c.txId = st | none => false

/-- The connections whose RX_ID a CAN frame carries (R445). -/
def State.polOfCan (s : State) (seg id : Nat) (ide : Bool) : List Nat :=
  (List.range 64).filter fun k => match s.polCfg k with
    | some c => c.can && c.segment = seg && c.rxId % 2 ^ 29 = id && c.rxId.testBit 29 == ide
    | none => false

/-- A transport delivers a telegram to the domain (R444–R446). -/
def State.polDeliver (s : State) (ks : List Nat) (bs : List Byte) : State :=
  if s.variant.safety && !ks.isEmpty then { s with safe := { s.safe with inbox := s.safe.inbox ++ [(ks, bs)] } } else s

/-- CAN_FRAME_RX (R359, R364, R372): a frame with a Polien RX_ID is taken before the filters (R445). -/
def State.canRx (s : State) (n : Nat) (f : CanFrame) : State :=
  match (s.seg n).cfg with
  | none => s
  | some c =>
    if (s.seg n).st == .off then s
    else
      let ks := s.polOfCan n f.id f.ide
      if ks.isEmpty || f.rtr then (s.canHeard n f).canFilter n c f else (s.canHeard n f).polDeliver ks f.data

/-- DPX_SAFE_RX (R155, R444): the payload of a station's SAFE message is one telegram; the ACTIVE relays it unchanged (R446). -/
def State.dpxSafeRx (s : State) (st : Nat) (h : DpxHdr) (bs : List Byte) : State :=
  match (s.stn? st).bind (·.dtls) with
  | none => s
  | some _ =>
    if !s.servesDpx then s
    else if !hdrOk h st 6 then s.rxDrop
    else
      let s := (s.modp .dpx 0 Off.DPX_RX_MSG).countRx st
      let s := if s.pair.session && !(s.polOfStation st).isEmpty then s.pl1Send (.polien (s.polOfStation st) bs) else s
      s.polDeliver (s.polOfStation st) bs

/-- A telegram's CHECK holds on connection `k`. -/
def State.polVerifies (s : State) (k : Nat) (bs : List Byte) : Bool :=
  match s.polCfg k with
  | some c => let n := 6 + leAt bs 1 1; (sliceB bs n 4).length = 4 && sliceB bs n 4 == polCheck c.id true (bs.take n)
  | none => false

/-- A telegram accepted (R441–R443): S, the watchdog by the echoed telegram, the round trip, the entry into RUNNING. -/
def State.polAccept (s : State) (k : Nat) (c : PolCfg) (bs : List Byte) (usePay : Bool) : State :=
  let seq := leAt bs 2 2
  let p := s.pol k
  let echo := if (leAt bs 0 1).testBit 5 then p.sent.find? fun x => x.1 = leAt bs 4 2 else none
  let s := s.updPol k fun p => { p with s := some seq }
  let s := match echo with
    | none => s
    | some (_, t, start) =>
      let rtt := min 65535 ((s.now - t) / ms)
      let s := s.updPol k fun p => { p with deadline := max p.deadline (t + c.wdMs * ms), rtt := rtt, rttMax := max p.rttMax rtt }
      if p.st == .starting && start then (s.updPol k fun p => { p with st := .running }).irq .pol 0 2 else s
  if usePay && ((s.pol k).st == .running || s.md.mode == .standby) then s.updPol k fun p => { p with rxNext := some (sliceB bs 6 c.lenRx) } else s

/-- *Polien receiver rules* in the order of their rows (R441). -/
def State.polReceive (s : State) (k : Nat) (bs : List Byte) : State :=
  match s.polCfg k with
  | none => s
  | some c =>
    let p := s.pol k
    let hdr := leAt bs 0 1
    if !s.polVerifies k bs then (s.satf .pol 0 (0x118 + 0x20 * k) 16 16).polFail k 1
    else if hdr % 16 ≠ 1 ∨ leAt bs 1 1 ≠ c.lenRx then s.polFail k 2
    else if hdr.testBit 5 ∧ !(p.sent.any fun x => x.1 = leAt bs 4 2) then s.polFail k 3
    else if hdr.testBit 4 then
      let run := p.st == .running
      let s := s.polAccept k c bs false
      if run then s.polFail k 4 else s
    else match p.s with
      | none => s.polAccept k c bs true
      | some s0 =>
        let d := (leAt bs 2 2 + 65536 - s0) % 65536
        if d = 0 ∨ 256 < d then s.satf .pol 0 (0x11C + 0x20 * k) 0 16 else s.polAccept k c bs true

/-- POLIEN_TELEGRAM_RX: the domain takes the oldest telegram delivered; of the connections it can belong to, the one whose CHECK it carries. -/
def State.polRx (s : State) : State :=
  match s.safe.inbox with
  | [] => s
  | (ks, bs) :: r =>
    let s := { s with safe := { s.safe with inbox := r } }
    if !s.safeRuns || s.safe.lockout then s
    else s.polReceive ((ks.find? fun k => s.polVerifies k bs).getD (ks.headD 0)) bs

/-- POLIEN_FAILSAFE_END (R443): the hold of WD_MS has passed. -/
def State.polFailEnd (s : State) (k : Nat) : State :=
  match s.polCfg k with
  | none => s
  | some c =>
    let p := s.pol k
    if p.st == .failsafe && s.now ≥ p.failAt + c.wdMs * ms then
      s.updPol k fun p => { p with st := if s.polServes c && !s.safe.lockout then .starting else .closed, rxNow := [], rxNext := none }
    else s

/-- What the ACTIVE mirrors of its connections (R446). -/
def State.polMirrors (s : State) : List PolMirror :=
  ((List.range 64).filter fun k => (s.polCfg k).isSome).map fun k => let p := s.pol k; ⟨k, p.st == .running, p.seq, p.s, p.sent⟩

/-- The STANDBY takes what the ACTIVE mirrors of its connections: the telegrams sent, which its own check of the peer's echoes needs (R446). -/
def State.polMirrored (s : State) (l : List PolMirror) : State :=
  if l.isEmpty then s
  else l.foldl (fun s (m : PolMirror) => s.updPol m.conn fun p => { p with sent := m.sent }) { s with safe := { s.safe with mirror := l } }

/-- Takeover (R446): connections that ran go on, their first SEQ the mirrored one plus 16 and their ECHO the mirrored S. -/
def State.polTakeover (s : State) : State :=
  s.safe.mirror.foldl (fun s (m : PolMirror) => match s.polCfg m.conn with
    | none => s
    | some _ =>
      let enters := m.running && (s.pol m.conn).st != .running
      let s := s.updPol m.conn fun p => { p with
        st := if m.running then .running else p.st, seq := (m.seq + 15) % 65536, s := match m.s with | some x => some x | none => p.s }
      if enters then s.irq .pol 0 2 else s) s

/-! Start and commands (R426, R427, R431, R449) -/

/-- Every function begins in SAFE with TRIPPED clear (R431). -/
def State.fnBegin (s : State) : State :=
  { s with safe := { s.safe with
    fns := (List.range 32).map fun n => if (s.safe.cfg.fns.getD n none).isSome then { st := .safe } else {}
    sdo := [], outPol := [] } }

/-- A start of the domain (R421, R431): every function begins in SAFE. -/
def State.startSafe (s : State) : State :=
  if !s.variant.safety then s
  else ({ s with safe := { s.safe with
    lockout := false, bootFail := 0, cfgValid := true, disAt := none, cycAt := none, inbox := [], mirror := [], conns := List.replicate 64 {} } }).fnBegin

/-- The checks of the safety domain at BOOT (R421, R425): a self-test failure, a code of a failed check of the stored configuration, the address switch. A
configuration that an update brought begins anew. -/
def State.checkSafe (s : State) (selfFail : Bool) (stored : Nat) (new : Bool) : State :=
  if !s.variant.safety then s
  else
    let fail := if selfFail then 4 else if stored ≠ 0 then stored else if s.safe.cfg.addr ≠ s.safe.swAddr then 3 else 0
    let s := { s with safe := { s.safe with lockout := selfFail, bootFail := fail, cfgValid := fail = 0 || fail = 3 || fail = 4 } }
    let s := if new || fail ≠ 0 then s.fnBegin else s
    if fail ≠ 0 then s.trigger (.safeHold .bootCheck 0x0C02) else s

/-- A configuration is activated (R426, R427): unconfirmed. -/
def State.safeActivate (s : State) (c : SafeCfg) : State :=
  ({ s with safe := { s.safe with cfg := c, cfgValid := true, confirmed := false } }).fnBegin

/-- Functions with DEMAND_SH whose demand is present when BOOT evaluates them (R431). -/
def State.bootDemands (s : State) : List Nat :=
  (List.range 32).filter fun n => match s.fnCfg n with
    | some c => (fnFlags c).testBit 1 && s.safe.confirmed && (s.fnInputs c (s.fn n) []).demand
    | none => false

/-- A function counts as reset under R61. -/
def State.fnReset (s : State) (n : Nat) : Bool := let f := s.fn n; !f.tripped && f.st != .locked

/-- RESET of a function (R430, R449). -/
def State.safeReset (s : State) (n : Nat) : Err × State :=
  match s.fnCfg n with
  | none => (.notFound, s)
  | some c => if !(fnFlags c).testBit 3 then (.denied, s) else (.ok, s.updFn n fun f => { f with request := true })

/-- CONFIRM (R427, R449). -/
def State.safeConfirm (s : State) : Err × State :=
  if s.md.mode != .commission then (.mode, s)
  else if !s.safe.edit then (.seal, s)
  else if s.rdp .safe 0 Off.SAFE_CONFIRM_CRC ≠ s.safe.cfg.crc then (.integrity, s)
  else if s.safe.confirmed then (.state, s)
  else (.ok, ({ s with safe := { s.safe with confirmed := true } }).fnBegin)

/-- Execute a SAFE.CMD (R449). -/
def State.execSafeCmd (s : State) (c : QCmd) : State :=
  let op := c.word.fld 0 4
  let r : Err × State :=
    if op = 0 ∨ 2 < op then (.range, s)
    else if !c.priv.ge .service then (.denied, s)
    else if op = 2 then s.safeConfirm
    else if s.md.mode == .standby then (.state, s)
    else s.safeReset (c.word.fld 16 5)
  r.2.complete .safe 0 Off.SAFE_CMD_STAT r.1 (c.word.fld 8 8)

/-- SAFE.CLR (R448). -/
def State.safeClr (s : State) (v : Word) : State :=
  if v.bit 0 then
    let s := (s.wrp .safe 0 Off.SAFE_TRIPS 0).wrp .safe 0 Off.SAFE_LAST_TRIP 0
    ((List.range 96).foldl (fun s k => s.wrp .safe 0 (0x110 + 0x20 * (k / 3) + 4 * (k % 3)) 0) s).recordClr (Page.reg .safe 0 Off.SAFE_CLR) v
  else s

/-- POL.CLR (R450). -/
def State.polClr (s : State) (v : Word) : State :=
  if v.bit 0 then
    ((List.range 128).foldl (fun s k => s.wrp .pol 0 (0x118 + 0x20 * (k / 2) + 4 * (k % 2)) 0) s).recordClr (Page.reg .pol 0 Off.POL_CLR) v
  else s

/-! Views (R448, R450) -/

/-- Value of offset `o` of the SAFE page, where it is computed. -/
def State.safePageView (s : State) (o : Nat) : Option Word :=
  let d := s.safe
  if o = Off.SAFE_STAT then
    some (w32 (b2n d.edit + 2 * b2n d.cfgValid + 4 * b2n d.confirmed + 8 * b2n d.lockout + 16 * b2n (d.swAddr ≠ d.cfg.addr) + 32 * d.bootFail +
      256 * d.swAddr + 65536 * d.cfg.addr))
  else if o = Off.SAFE_CFG_CRC then some d.cfg.crc
  else if o = Off.SAFE_CFG_ID then some d.cfg.id
  else if o = Off.SAFE_CFG_REV then some d.cfg.rev
  else if 0x100 ≤ o ∧ o < 0x500 then
    let n := (o - 0x100) / 0x20
    let b := (o - 0x100) % 0x20
    let f := s.fn n
    if b = 0 then some (match s.fnCfg n with | some c => w32 (c.typ + 256 * c.flags) | none => 0)
    else if b = 4 then some (w32 (f.st.code + 8 * b2n f.tripped + 16 * b2n f.stuck + 32 * b2n f.blocked + 256 * f.cause))
    else if b = 8 then
      let byp := match s.fnCfg n with | some c => c.typ = 3 && f.st == .run && s.now < f.runAt + c.bypassS * sec | none => false
      some (w32 (b2n f.a + 2 * b2n f.b + 4 * b2n f.fb + 8 * b2n f.rst + 16 * b2n f.demand + 32 * b2n byp))
    else if b = 0xC then
      some (match s.fnCfg n with
        | some c => w32 (maskOf ((List.range 8).filter fun k => match c.outs.getD k .none with
          | .none => false
          | .slice m => d.sdo.contains m
          | .pol j b => d.outPol.contains (j, b)))
        | none => 0)
    else none
  else none

/-- PAGE_STAT[STATE] of the SAFE page. -/
def State.safePageState (s : State) : Nat := if s.safe.lockout then 2 else if s.safe.confirmed then 0 else 1

/-- Value of offset `o` of the POL page, where it is computed. -/
def State.polPageView (s : State) (o : Nat) : Option Word :=
  if o = Off.POL_STAT then
    some (w32 ((s.safe.cfg.conns.filterMap id).length + 65536 * ((List.range 64).filter fun k => (s.polCfg k).isSome && (s.pol k).st == .running).length))
  else if 0x100 ≤ o ∧ o < 0x900 then
    let k := (o - 0x100) / 0x20
    let b := (o - 0x100) % 0x20
    let p := s.pol k
    match s.polCfg k with
    | none => if b < 0x18 then some 0 else none
    | some c =>
      if b = 0 then some (w32 ((if c.can then 2 else 1) + 4 * c.lenTx + 256 * c.lenRx + 65536 * c.segment + 2 ^ 20 * (if c.can then 0 else c.txId)))
      else if b = 4 then some c.id
      else if b = 8 then some (w32 (c.periodMs + 65536 * c.wdMs))
      else if b = 0xC then some (w32 (p.st.code + 16 * p.cause))
      else if b = 0x10 then some (w32 (p.seq + 65536 * p.s.getD 0))
      else if b = 0x14 then some (w32 (p.rtt + 65536 * p.rttMax))
      else none
  else none

end Sys2Proof.Machine
end

