-- ==== Sys2Proof/Machine/Screed.lean ====
section
/-!
DEFINITION. The screed (R199–R201, R225, R229): pattern, nested dissection, elimination tree and column counts, amalgamated supernodes, tiles, figures,
SCREED_ID. What the manual leaves to a fixed rule of the microcode, the choice of a separator and the cut into tiles, are constants without a body.
Log entry 31, DESIGN CHOICE.
-/
namespace Sys2Proof

/-- The vertex separator that the fixed rule of R199 takes of a connected part of the pattern: its edges, its unknowns in ascending tag. -/
opaque Config.separator : List (Nat × Nat) → List Nat → List Nat

/-- The supernodes at which the elimination tree is cut (R199, R225): the parent of each supernode. -/
opaque Config.tileCut : List (Option Nat) → List Nat

/-- Time bounds in microseconds that the tile schedule and the blocking of R125 decide (R229): microcode, SCREED_ID, fitted lanes, and which: 0 T_IT0, 1 t_narrow,
2 t_res or t_asm, 3 t_eval. -/
opaque Config.timing : Word → Word → Nat → Nat → Nat

namespace Machine

/-! The pattern and its ordering (R199, steps 2 and 3) -/

/-- Insert into an ascending list without repeats. -/
def insU (x : Nat) : List Nat → List Nat
  | [] => [x]
  | y :: ys => if x < y then x :: y :: ys else if x = y then y :: ys else y :: insU x ys

/-- The union of an ascending list with another list. -/
def unionU (xs ys : List Nat) : List Nat := ys.foldl (fun m x => insU x m) xs

/-- Unknowns that share an entry of the pattern with unknown `v`. -/
def neighbours (es : List (Nat × Nat)) (v : Nat) : List Nat :=
  es.filterMap fun e => if e.1 = v ∧ e.2 ≠ v then some e.2 else if e.2 = v ∧ e.1 ≠ v then some e.1 else none

/-- The connected parts of a set of unknowns, each ascending, in the order of their least unknown. -/
def components (es : List (Nat × Nat)) (vs : List Nat) : List (List Nat) :=
  let join := fun (cs : List (List Nat)) (v : Nat) =>
    let n := neighbours es v
    let p := cs.partition fun c => c.any n.contains
    p.2 ++ [insU v (p.1.foldl unionU [])]
  let cs := vs.foldl join []
  vs.filterMap fun v => cs.find? fun c => c.head? == some v

/-- Nested dissection: parts without their separator first, the separator last; a part that the rule does not separate stays in tag order. -/
def dissect (es : List (Nat × Nat)) : Nat → List Nat → List Nat
  | 0, vs => vs
  | k + 1, vs =>
    let s := Config.separator (es.filter fun e => vs.contains e.1 && vs.contains e.2) vs
    let sep := vs.filter s.contains
    if sep.isEmpty || sep.length == vs.length then vs
    else (components es (vs.filter fun v => !sep.contains v)).flatMap (dissect es k) ++ sep

/-- The elimination order of `n` unknowns. -/
def elimOrder (es : List (Nat × Nat)) (n : Nat) : List Nat := (components es (List.range n)).flatMap (dissect es n)

/-! Symbolic factorisation (R199, step 4) -/

/-- The rows of each column of the factor below its diagonal, by position in the elimination order. The parent of a column in the elimination tree is its
first row. -/
def symbolic (es : List (Nat × Nat)) (perm : List Nat) : List (List Nat) :=
  let pos := fun (v : Nat) => perm.findIdx (· == v)
  (List.range perm.length).foldl (fun cols j =>
    let own := ((neighbours es (perm.getD j 0)).map pos).filter (j < ·)
    let kids := cols.filter fun c => c.head? == some j
    cols ++ [kids.foldl (fun m c => unionU m (c.filter (· ≠ j))) (unionU [] own)]) []

/-- A supernode: its columns, the rows below them, the entries that are not explicit zeros. -/
structure Super where
  cols : List Nat
  rows : List Nat
  nz   : Nat
deriving DecidableEq, Repr

/-- Entries that a supernode stores: the triangle of its columns and the rectangle below. -/
def Super.size (x : Super) : Nat := x.cols.length * (x.cols.length + 1) / 2 + x.cols.length * x.rows.length

/-- A child supernode with its parent. -/
def Super.join (c p : Super) : Super :=
  let cols := unionU c.cols p.cols
  ⟨cols, (unionU c.rows p.rows).filter fun r => !cols.contains r, c.nz + p.nz⟩

/-- Amalgamation, children in elimination order (R199): a child joins its parent while the explicit zeros stay at or below 10 % of the merged supernode.
Log entry 31, DESIGN CHOICE: every column begins as a supernode of its own, and the explicit zeros of a merged supernode are counted whole. -/
def supernodes (cols : List (List Nat)) : List Super :=
  let start := (List.range cols.length).map fun j => (⟨[j], cols.getD j [], 1 + (cols.getD j []).length⟩ : Super)
  (List.range cols.length).foldl (fun xs j =>
    match xs.find? fun x => x.cols.getLast? == some j with
    | none => xs
    | some c => match c.rows.head? with
      | none => xs
      | some p => match xs.find? fun x => x.cols.contains p with
        | none => xs
        | some q =>
          let m := c.join q
          if 10 * (m.size - m.nz) ≤ m.size then xs.filterMap fun x => if x == c then none else if x == q then some m else some x else xs) start

/-! Tiles (R199 step 5, R225) -/

/-- The parent of each supernode: the one that holds its first row. -/
def superParents (xs : List Super) : List (Option Nat) := xs.map fun x => x.rows.head?.bind fun r => xs.findIdx? (·.cols.contains r)

/-- The nearest supernode of `cuts` from `k` up the tree. -/
def cutAbove (ps : List (Option Nat)) (cuts : List Nat) : Nat → Nat → Option Nat
  | 0, _ => none
  | f + 1, k => if cuts.contains k then some k else match ps.getD k none with | some p => cutAbove ps cuts f p | none => none

/-- The tile of each column, in elimination order, and the number of tiles: at most 63 subtrees or blocks cut off, in the order of their last columns, so that a tile
follows those it depends on, and what remains. -/
def tilePartition (xs : List Super) (n : Nat) : List Nat × Nat :=
  let ps := superParents xs
  let key := fun (k : Nat) => ((xs[k]?.bind fun x => x.cols.getLast?)).getD 0
  let cuts := (sortTag (((Config.tileCut ps).eraseDups.filter (· < xs.length)).take 63 |>.map fun k => (key k, k))).map (·.2)
  let of_ := fun (k : Nat) => match cutAbove ps cuts xs.length k with | some c => cuts.findIdx (· == c) | none => cuts.length
  let tile := (List.range n).map fun j => match xs.findIdx? (·.cols.contains j) with | some k => of_ k | none => cuts.length
  (tile, max 1 (cuts.length + b2n (tile.contains cuts.length)))

/-! Figures and identity (R200, R229) -/

/-- Operations of the factorisation of a supernode: a column with `l` entries below its diagonal takes `l` divisions and `l (l + 1) / 2` multiply-adds of two
operations each. Log entry 31, DESIGN CHOICE. -/
def Super.flops (x : Super) : Nat :=
  ((List.range x.cols.length).map fun i => let l := i + x.rows.length; l + l * (l + 1)).foldl (· + ·) 0

/-- t_tri in microseconds: 1.3 × 16 × NNZ / 51.2 GB/s, rounded up (R229). -/
def tTri (nnz : Nat) : Nat := (208 * nnz + 511999) / 512000

/-- Bytes of a list of numbers as SCREED_ID takes them: the count and each number, little-endian. Log entry 31, DESIGN CHOICE. -/
def idBytes (w : Nat) (xs : List Nat) : List Byte := natLE 4 xs.length ++ xs.flatMap (natLE w)

/-- The screed of tag lists, patterns and the entries of the matrix to be factorised (R199, R200): the same inputs give the same screed, whatever lanes are fitted but for
the time bounds. `quad` tells the KKT matrix of R208 from the Gauss–Newton matrix of R209. -/
def buildScreed (ucode : Word) (lanes : Nat) (quad : Bool) (vars rows patP patA form : List Nat) (es : List (Nat × Nat)) : Screed :=
  let n := vars.length + rows.length
  let perm := elimOrder es n
  let cols := symbolic es perm
  let xs := supernodes cols
  let (tile, tiles) := tilePartition xs n
  let bytes := idBytes 4 vars ++ idBytes 4 rows ++ idBytes 8 patP ++ idBytes 8 patA ++ idBytes 4 perm ++ idBytes 1 tile
  let id := w32 (leAt (Hash.sha256 bytes) 0 4)
  let sum := fun (f : Super → Nat) => (xs.map f).foldl (· + ·) 0
  let nnz := sum Super.size
  let wide := sum fun x => if 64 ≤ x.cols.length then x.flops else 0
  let narrow := sum fun x => if 64 ≤ x.cols.length then 0 else x.flops
  let t := Config.timing ucode id lanes
  let tFact := (wide + 4400 * lanes - 1) / (4400 * lanes) + t 1
  { vars := vars, rows := rows, patP := patP, patA := patA, nUnk := n, perm := perm, tile := tile, form := form
    fig := {
      id := id, nnz := nnz, idx := sum fun x => x.rows.length, wideK := wide / 1000, narrowK := narrow / 1000, tiles := tiles
      tIt0 := t 0, tFact := tFact, tIter := if quad then tTri nnz + t 2 else t 2 + tFact + tTri nnz + t 3 } }

/-- A time bound of the fitted lanes on `l` healthy ones (R229). -/
def onLanes (fit l us : Nat) : Nat := if l = 0 then us else (us * fit + l - 1) / l

end Machine
end Sys2Proof
end

