-- ==== Sys2Proof/Machine/Factor.lean ====
section
/-!
DEFINITION. The engine's arithmetic (R208, R209, R226, R227): sums of products tile by tile, the two factorisations in the screed's ordering, the triangular passes.
R226 fixes the order of the operations within a tile and which of them are fused, and no rule states either: both are a constant without a body. Log entry 31,
DESIGN CHOICE.
-/
namespace Sys2Proof

/-- How the microcode takes operand `i` of an operation: its place in the order, and whether its product is fused with the sum; by microcode version, SCREED_ID and the
operation (R226). -/
opaque Config.opPattern : Word → Word → List Nat → Nat → Nat × Bool

namespace Machine
open Sys2Proof.F64

/-- What the arithmetic of a screed depends on: never the lanes (R226). -/
structure Arith where
  ucode  : Word
  screed : Screed
deriving DecidableEq, Repr

/-- The pattern of an operation. -/
def Arith.pat (k : Arith) (site : List Nat) (i : Nat) : Nat × Bool := Config.opPattern k.ucode k.screed.fig.id site i

/-- `a·b + x`, fused or not. -/
def Arith.mac (k : Arith) (site : List Nat) (a b x : F) : F := if (k.pat site 0).2 then fma a b x else add (mul a b) x

/-- A sum of products within one tile. -/
def Arith.dot (k : Arith) (site : List Nat) (xs : List (F × F)) : F :=
  let ys := sortTag ((List.range xs.length).zip xs |>.map fun p => ((k.pat site p.1).1, (p.1, p.2)))
  ys.foldl (fun acc y => if (k.pat site y.2.1).2 then fma y.2.2.1 y.2.2.2 acc else add acc (mul y.2.2.1 y.2.2.2)) zero

/-- A sum of products over tiles: each tile's partial sum in a buffer of its own, combined in ascending tile number (R226). -/
def Arith.sum (k : Arith) (site : List Nat) (xs : List (Nat × F × F)) : F :=
  let ts := xs.foldl (fun m x => insU x.1 m) []
  match ts.map fun t => k.dot (t :: site) ((xs.filter (·.1 == t)).map (·.2)) with
  | [] => zero
  | p :: ps => ps.foldl add p

/-- Position of an unknown in the elimination order. -/
def posOf (x : Screed) (v : Nat) : Nat := x.perm.findIdx (· == v)
/-- Tile of an unknown. -/
def tileOf (x : Screed) (v : Nat) : Nat := x.tile.getD (posOf x v) 0

/-- The largest of a list of magnitudes; NaN shows. -/
def maxAbs (xs : List F) : F := xs.foldl (fun m x => let v := abs x; if isNaN m then m else if isNaN v then v else fmax m v) zero

/-- Element `i` of a vector. -/
def at_ (xs : List F) (i : Nat) : F := xs.getD i zero

/-! Factorisation (R208, R209, R227) -/

/-- A matrix to be factorised: its entries by unknown, whether it is factorised as L Lᵀ, the sign that a pivot of an unknown must have (true for positive), δ_piv. -/
structure Matrix where
  val  : Nat → Nat → F
  chol : Bool
  pos  : Nat → Bool
  dPiv : F

/-- A factor by position: the pivot and the entries below it of each column, and whether a pivot was replaced. -/
structure Factor where
  diag : List F := []
  cols : List (List (Nat × F)) := []
  reg  : Bool := false
deriving DecidableEq, Repr

/-- The replacement of a pivot (R227): one below the floor, or of the wrong sign, becomes the floor with the expected sign. -/
def pivotOf (floor : F) (pos : Bool) (d : F) : F × Bool :=
  if isNaN d then (d, false)
  else if lt (abs d) floor || (if pos then lt d zero else lt zero d) then (if pos then floor else neg floor, true)
  else (d, false)

/-- Column `p` of the factor from the columns before it. -/
def factorCol (k : Arith) (m : Matrix) (floor : F) (rows : List Nat) (f : Factor) (p : Nat) : Factor :=
  let v := k.screed.perm.getD p 0
  let entry := fun (r : Nat) =>
    let own := [(k.screed.tile.getD p 0, one, m.val (k.screed.perm.getD r 0) v)]
    let upd := (List.range p).filterMap fun j => match lookupA r (f.cols.getD j []), lookupA p (f.cols.getD j []) with
      | some a, some b =>
        let d := at_ f.diag j
        let x : F × F := if m.chol then (neg a, b) else if (k.pat [3, p, r, j] 0).2 then (neg (mul a d), b) else (neg a, mul d b)
        some (k.screed.tile.getD j 0, x)
      | _, _ => none
    k.sum [1, p, r] (own ++ upd)
  let d := pivotOf floor (m.pos v) (entry p)
  let piv := if m.chol then sqrt d.1 else d.1
  let below := rows.map fun r => (r, div (entry r) piv)
  -- the column lists its own pivot too: L has a unit diagonal, a Cholesky factor its root
  ⟨f.diag ++ [piv], f.cols ++ [(p, if m.chol then piv else one) :: below], f.reg || d.2⟩

/-- Factorise in the screed's ordering, without pivoting (R208, R209). The entries of the pattern give the rows of each column. -/
def factorise (k : Arith) (m : Matrix) (es : List (Nat × Nat)) : Factor :=
  let cols := symbolic es k.screed.perm
  let floor := mul m.dPiv (maxAbs (k.screed.perm.map fun v => m.val v v))
  (List.range cols.length).foldl (fun f p => factorCol k m floor (cols.getD p []) f p) {}

/-- The forward pass by position. -/
def forward (k : Arith) (f : Factor) (b : List F) : List F :=
  (List.range f.cols.length).foldl (fun w p =>
    let upd := (List.range p).filterMap fun j => (lookupA p (f.cols.getD j [])).map fun a => (k.screed.tile.getD j 0, neg a, at_ w j)
    let x := k.sum [4, p] ((k.screed.tile.getD p 0, one, at_ b p) :: upd)
    w ++ [div x ((lookupA p (f.cols.getD p [])).getD one)]) []

/-- The backward pass by position. -/
def backward (k : Arith) (f : Factor) (w : List F) : List F :=
  (List.range f.cols.length).reverse.foldl (fun x p =>
    let upd := ((f.cols.getD p []).filter (·.1 ≠ p)).map fun e => (k.screed.tile.getD e.1 0, neg e.2, at_ x (e.1 - p - 1))
    let y := k.sum [5, p] ((k.screed.tile.getD p 0, one, at_ w p) :: upd)
    div y ((lookupA p (f.cols.getD p [])).getD one) :: x) []

/-- The solution of the system by unknown, with whether a pivot was regularised. -/
def solve (k : Arith) (m : Matrix) (es : List (Nat × Nat)) (rhs : List F) : List F × Bool :=
  let f := factorise k m es
  let w := forward k f (k.screed.perm.map (at_ rhs))
  let w := if m.chol then w else (List.range w.length).map fun p => div (at_ w p) (at_ f.diag p)
  let x := backward k f w
  ((List.range k.screed.perm.length).map fun v => at_ x (posOf k.screed v), f.reg)

end Machine
end Sys2Proof
end

