-- ==== Sys2Proof/Machine/Iterate.lean ====
section
/-!
DEFINITION. The two iterations as computed (R208, R209), the residual terms of the hydraulic problem (R186, R187) with their derivatives, the merit (R211). Sums of
products and fused steps follow the pattern of R226 (log entry 31, DESIGN CHOICE).
-/
namespace Sys2Proof.Machine
open Sys2Proof.F64

/-- Value in force at a position of an object (R205). -/
def skimVal (vs : List SkimRec) (obj pos : Nat) : F := ((vs.find? fun r => r.obj == obj && r.pos == pos).map (·.val)).getD zero
/-- The values of an object from position 0 on. -/
def skimVec (vs : List SkimRec) (obj n : Nat) : List F := (List.range n).map (skimVal vs obj)

/-- Default of a method parameter (R210). -/
def paramDefault (i : Nat) : F :=
  match i with
  | 0 | 1 => one
  | 2 => inf
  | 3 => q 1 (10 ^ 12)
  | 16 => q 1 10
  | 17 => ofNat 1000
  | 18 => q 1 (10 ^ 6)
  | 19 => q 16 10
  | 32 | 38 => q 1 1000
  | 33 | 37 => q 1 (10 ^ 9)
  | 34 => ofNat (10 ^ 6)
  | 35 => q 1 3
  | 36 => ofNat 2
  | _ => zero

/-- A method parameter (R210). -/
def param (ps : List (Nat × F)) (i : Nat) : F := (lookupA i ps).getD (paramDefault i)

/-- The indices of *Method parameters* of a problem kind. -/
def paramIdx (k : SlotKind) : List Nat := match k with | .dispatch => [0, 1, 2, 3, 16, 17, 18, 19] | .hydraulic => [0, 1, 2, 3, 32, 33, 34, 35, 36, 37, 38]

/-- A parameter set within the stated ranges (R210). -/
def paramsOk (k : SlotKind) (ps : List (Nat × F)) : Bool :=
  let p := param ps
  let within := fun (i : Nat) (lo hi : F) => le lo (p i) && le (p i) hi
  let pos := fun (i : Nat) => lt zero (p i)
  ps.all (fun x => (paramIdx k).contains x.1) && pos 0 && pos 1 && pos 2 && within 3 (q 1 (10 ^ 16)) (q 1 (10 ^ 6)) &&
  match k with
  | .dispatch => within 16 (q 1 (10 ^ 6)) (ofNat (10 ^ 6)) && within 17 one (ofNat (10 ^ 6)) && within 18 (q 1 (10 ^ 12)) one &&
      within 19 one (q 19 10)
  | .hydraulic => pos 33 && lt (p 33) (p 34) && within 32 (p 33) (p 34) && within 35 (q 1 100) one && within 36 one (ofNat 100) && pos 37 &&
      within 38 zero (q 1 4)

/-! ADMM-QP (R208) -/

/-- Iterate k: x, z, y, and whether a pivot was regularised. -/
structure Admm where
  x : List F
  z : List F
  y : List F
  pivot : Bool := false
deriving DecidableEq, Repr

/-- Entries of A that touch row `i`, with their values and columns. -/
def rowA (c : IterIn) (i : Nat) : List (F × Nat) :=
  (List.range c.screed.patA.length).filterMap fun k => let e := c.screed.patA.getD k 0; if e % 2 ^ 20 = i then some (skimVal c.vals 2 k, e / 2 ^ 20) else none
/-- Entries of A that touch column `j`. -/
def colA (c : IterIn) (j : Nat) : List (F × Nat) :=
  (List.range c.screed.patA.length).filterMap fun k => let e := c.screed.patA.getD k 0; if e / 2 ^ 20 = j then some (skimVal c.vals 2 k, e % 2 ^ 20) else none
/-- Entries of the symmetric P that touch row `i`, given by its lower triangle. -/
def rowP (c : IterIn) (i : Nat) : List (F × Nat) :=
  (List.range c.screed.patP.length).filterMap fun k =>
    let e := c.screed.patP.getD k 0
    let v := skimVal c.vals 1 k
    if e % 2 ^ 20 = i then some (v, e / 2 ^ 20) else if e / 2 ^ 20 = i then some (v, e % 2 ^ 20) else none

/-- Number of variables. -/
def nOf (c : IterIn) : Nat := c.screed.vars.length
/-- Number of rows. -/
def mOf (c : IterIn) : Nat := c.screed.rows.length
/-- Row bounds. -/
def loOf (c : IterIn) (i : Nat) : F := skimVal c.vals 4 i
/-- Row bounds. -/
def hiOf (c : IterIn) (i : Nat) : F := skimVal c.vals 5 i

/-- The arithmetic of a cycle. -/
def arith (ucode : Word) (c : IterIn) : Arith := ⟨ucode, c.screed⟩

/-- A x; each product lies in the tile of its row. -/
def mulA (k : Arith) (c : IterIn) (x : List F) : List F :=
  (List.range (mOf c)).map fun i => k.sum [10, i] ((rowA c i).map fun e => (tileOf c.screed (nOf c + i), e.1, at_ x e.2))

/-- ρ of a row (R208). -/
def rhoOf (c : IterIn) (i : Nat) : F := if eq (loOf c i) (hiOf c i) then mul (param c.params 16) (param c.params 17) else param c.params 16

/-- Iterate 0: the warm start, z₀ = clamp(A x₀, l, u) (R208, R222). -/
def admm0 (k : Arith) (c : IterIn) : Admm :=
  let ax := mulA k c c.x0
  ⟨c.x0, (List.range (mOf c)).map fun i => clamp (loOf c i) (hiOf c i) (at_ ax i), c.y0, false⟩

/-- Entries of K between different unknowns: variables by rank, then rows (R208). -/
def kktEntries (patP patA : List Nat) (n : Nat) : List (Nat × Nat) :=
  (patP.map fun e => (e / 2 ^ 20, e % 2 ^ 20)) ++ patA.map fun e => (e / 2 ^ 20, n + e % 2 ^ 20)

/-- The value of K at two unknowns (R208): P + σI, A, −1/ρ_i. -/
def kktVal (c : IterIn) (a b : Nat) : F :=
  let n := nOf c
  let lo := min a b
  let hi := max a b
  if hi < n then
    let v := match c.screed.patP.findIdx? (· == lo * 2 ^ 20 + hi) with | some k => skimVal c.vals 1 k | none => zero
    if lo = hi then add v (param c.params 18) else v
  else if lo < n then (match c.screed.patA.findIdx? (· == lo * 2 ^ 20 + (hi - n)) with | some k => skimVal c.vals 2 k | none => zero)
  else if lo = hi then neg (div one (rhoOf c (lo - n))) else zero

/-- K with the signs its pivots must have: positive for the variables, negative for the rows (R227). -/
def kkt (c : IterIn) : Matrix := ⟨kktVal c, false, fun v => v < nOf c, param c.params 3⟩

/-- From iterate k to iterate k + 1 (R208). -/
def admmStep (ar : Arith) (c : IterIn) (k : Admm) : Admm :=
  let n := nOf c
  let m := mOf c
  let sigma := param c.params 18
  let alpha := param c.params 19
  let beta := sub one alpha
  let rhs := (List.range n).map (fun j => ar.mac [20, j] sigma (at_ k.x j) (neg (skimVal c.vals 3 j))) ++
    (List.range m).map fun i => sub (at_ k.z i) (div (at_ k.y i) (rhoOf c i))
  let r := solve ar (kkt c) (kktEntries c.screed.patP c.screed.patA n) rhs
  let x := (List.range n).map fun j => ar.mac [21, j] alpha (at_ r.1 j) (mul beta (at_ k.x j))
  let zr := (List.range m).map fun i =>
    let zt := add (at_ k.z i) (div (sub (at_ r.1 (n + i)) (at_ k.y i)) (rhoOf c i))
    ar.mac [22, i] alpha zt (mul beta (at_ k.z i))
  let z := (List.range m).map fun i => clamp (loOf c i) (hiOf c i) (add (at_ zr i) (div (at_ k.y i) (rhoOf c i)))
  let y := (List.range m).map fun i => ar.mac [23, i] (rhoOf c i) (sub (at_ zr i) (at_ z i)) (at_ k.y i)
  ⟨x, z, y, r.2⟩

/-- Iterate k of a cycle. -/
def admmAt (ar : Arith) (c : IterIn) : Nat → Admm
  | 0 => admm0 ar c
  | k + 1 => admmStep ar c (admmAt ar c k)

/-- Primal residual ra (R208). -/
def primal (k : Arith) (c : IterIn) (x : List F) : F :=
  let ax := mulA k c x
  maxAbs ((List.range (mOf c)).map fun i => sub (at_ ax i) (clamp (loOf c i) (hiOf c i) (at_ ax i)))

/-- Dual residual rb (R208). -/
def dual (k : Arith) (c : IterIn) (x y : List F) : F :=
  let var := fun (j : Nat) (e : F × Nat) => (tileOf c.screed j, e.1, at_ x e.2)
  maxAbs ((List.range (nOf c)).map fun j =>
    k.sum [11, j] ((rowP c j).map (var j) ++ [(tileOf c.screed j, one, skimVal c.vals 3 j)] ++
      (colA c j).map fun e => (tileOf c.screed (nOf c + e.2), e.1, at_ y e.2)))

/-! The residual terms of the hydraulic problem (R186, R187) -/

/-- A residual term. -/
inductive Term
  | cont (n : NodeP)
  | head (rank : Nat) (e : EdgeP)
  | meas (rank : Nat) (m : MeasP)
  | power (rank : Nat) (g : GroupP)
  | minDp (rank : Nat) (e : EdgeP)
  | maxP (rank : Nat) (n : NodeP)
  | fast (rank : Nat) (g : GroupP)
  | slow (rank : Nat) (g : GroupP)
deriving DecidableEq, Repr

/-- Pair each element with its rank from `k` on. -/
def ranked {α : Type} (xs : List α) (k : Nat := 0) : List (Nat × α) := (List.range xs.length).zip xs |>.map fun p => (p.1 + k, p.2)

/-- Every residual term of a hydraulic slot, in a fixed order; the ranks of measurements and penalty terms are those of objects 0x13 to 0x15 (R205). -/
def hydTerms (h : HydP) (gs : List GroupP) : List Term :=
  let es := sortEdges h.edges
  let ns := sortNodes h.nodes
  let cs := es.filter (·.kind == .consumer)
  ns.map .cont ++
  ((ranked es).filter fun p => p.2.kind == .pipe || p.2.kind == .valve || p.2.kind == .plant || p.2.kind == .pump).map (fun p => .head p.1 p.2) ++
  (ranked (sortMeas h.meas)).map (fun p => .meas p.1 p.2) ++ (ranked gs).map (fun p => .power p.1 p.2) ++ (ranked ns).map (fun p => .maxP p.1 p.2) ++
  (ranked cs ns.length).map (fun p => .minDp p.1 p.2) ++
  (ranked gs).flatMap fun p => let k := ns.length + cs.length + 2 * p.1; [.fast k p.2, .slow (k + 1) p.2]

/-- The group of a pump edge, with its rank. -/
def groupOf (gs : List GroupP) (e : Nat) : Option (Nat × GroupP) := (ranked gs).find? fun p => p.2.edges.contains e

/-- Variables a term touches (R199). -/
def termVars (h : HydP) (gs : List GroupP) : Term → List Nat
  | .cont n => (h.edges.filter fun e => e.a == n.id || e.b == n.id).map fun e => hTag 0x41 e.id
  | .head _ e => [hTag 0x40 e.a, hTag 0x40 e.b, hTag 0x41 e.id] ++ (match groupOf gs e.id with | some p => [hTag 0x42 p.2.station] | none => [])
  | .meas _ m => match m.kind with
    | .head => [hTag 0x40 m.elem]
    | .flow => [hTag 0x41 m.elem]
    | .diff => match h.edges.find? (·.id == m.elem) with | some e => [hTag 0x40 e.a, hTag 0x40 e.b] | none => []
  | .power _ g => g.edges.map (hTag 0x41) ++ [hTag 0x42 g.station]
  | .minDp _ e => [hTag 0x40 e.a, hTag 0x40 e.b]
  | .maxP _ n => [hTag 0x40 n.id]
  | .fast _ g | .slow _ g => [hTag 0x42 g.station]

/-- Pattern of the residual terms and the variables they touch: variable rank × 2²⁰ + term (R199). -/
def hydPattern (h : HydP) (gs : List GroupP) (vars : List Nat) : List Nat :=
  (ranked (hydTerms h gs)).flatMap fun p => (termVars h gs p.2).map fun t => rankOf vars t * 2 ^ 20 + p.1

/-- Entries of JᵀJ between different variables: those that share a residual term (R199). -/
def gaussEntries (pat : List Nat) : List (Nat × Nat) :=
  pat.flatMap fun a => pat.filterMap fun b => if a % 2 ^ 20 = b % 2 ^ 20 ∧ a / 2 ^ 20 < b / 2 ^ 20 then some (a / 2 ^ 20, b / 2 ^ 20) else none

/-- √(v² + e²), term `i`. -/
def root2 (k : Arith) (i : Nat) (e v : F) : F := sqrt (k.mac [30, i] v v (mul e e))
/-- φ(q) = q √(q² + q_eps²). -/
def phi (k : Arith) (i : Nat) (qe v : F) : F := mul v (root2 k i qe v)
/-- φ′(q) = √(q² + q_eps²) + q² / √(q² + q_eps²). Log entry 31, DESIGN CHOICE. -/
def dphi (k : Arith) (i : Nat) (qe v : F) : F := let r := root2 k i qe v; add r (div (mul v v) r)
/-- ψ(x) = (x + √(x² + ε²)) / 2. -/
def psi (k : Arith) (i : Nat) (eps v : F) : F := mul (q 1 2) (add v (root2 k i eps v))
/-- ψ′(x) = (1 + x / √(x² + ε²)) / 2. Log entry 31, DESIGN CHOICE. -/
def dpsi (k : Arith) (i : Nat) (eps v : F) : F := mul (q 1 2) (add one (div v (root2 k i eps v)))

/-- Everything a residual reads: the arithmetic, the graph, the groups, the values in force, the variables by tag. -/
structure HydAt where
  k  : Arith
  h  : HydP
  gs : List GroupP
  vals : List SkimRec
  v  : Nat → F

/-- Coefficient `i` of the curve of group `k`. -/
def curve (c : HydAt) (k i : Nat) : F := skimVal c.vals 0x12 (3 * k + i)

/-- Gain of a pump edge: a0 ω² + a1 ω q − a2 φ(q) (R186). -/
def gainOf (c : HydAt) (i e : Nat) : F :=
  match groupOf c.gs e with
  | none => zero
  | some (k, g) =>
    let w := c.v (hTag 0x42 g.station)
    let f := c.v (hTag 0x41 e)
    c.k.dot [31, i, e] [(mul (curve c k 0) w, w), (mul (curve c k 1) w, f), (neg (curve c k 2), phi c.k i c.h.qEps f)]

/-- Its derivatives by the flow and by the speed. -/
def dGain (c : HydAt) (i e : Nat) : F × F :=
  match groupOf c.gs e with
  | none => (zero, zero)
  | some (k, g) =>
    let w := c.v (hTag 0x42 g.station)
    let f := c.v (hTag 0x41 e)
    (c.k.dot [32, i, e] [(curve c k 1, w), (neg (curve c k 2), dphi c.k i c.h.qEps f)],
     c.k.dot [33, i, e] [(mul (ofNat 2) (curve c k 0), w), (curve c k 1, f)])

/-- Head difference over an edge. -/
def headDiff (c : HydAt) (e : EdgeP) : F := sub (c.v (hTag 0x40 e.a)) (c.v (hTag 0x40 e.b))

/-- ρ × 9.80665 × q / (1000 η) of a pump edge (R186). -/
def powerCoef (c : HydAt) (k : Nat) (g : GroupP) (f : F) : F := div (mul (mul g.rho gravity) f) (mul (ofNat 1000) (skimVal c.vals 0x17 k))

/-- Electrical power of a pump group in kW (R186). -/
def pumpPower (c : HydAt) (i k : Nat) (g : GroupP) : F :=
  c.k.dot [34, i] (g.edges.map fun e => (powerCoef c k g (c.v (hTag 0x41 e)), gainOf c i e))

/-- ε of the ψ of penalty term `k`. -/
def epsPen (c : HydAt) (k : Nat) : F := c.h.eps.getD (c.gs.length + k) zero

/-- √w of a global weight (R187). -/
def weight (c : HydAt) (n : Nat) : F := sqrt (skimVal c.vals 0x16 n)

/-- The argument of the ψ of a penalty term (R186). -/
def penArg (c : HydAt) : Term → F
  | .minDp k e => sub (skimVal c.vals 0x13 k) (headDiff c e)
  | .maxP k n => sub (sub (c.v (hTag 0x40 n.id)) n.z) (skimVal c.vals 0x13 k)
  | .fast k g => sub (c.v (hTag 0x42 g.station)) (skimVal c.vals 0x13 k)
  | .slow k g => sub (skimVal c.vals 0x13 k) (c.v (hTag 0x42 g.station))
  | _ => zero

/-- A weighted residual √w × residual, term `i` (R187, R209). -/
def residual (c : HydAt) (i : Nat) (t : Term) : F :=
  match t with
  | .cont n =>
    let ins := (c.h.edges.filter (·.b == n.id)).map fun e => (one, c.v (hTag 0x41 e.id))
    let outs := (c.h.edges.filter (·.a == n.id)).map fun e => (neg one, c.v (hTag 0x41 e.id))
    mul (weight c 0) (c.k.dot [35, i] (ins ++ outs))
  | .head k e =>
    let gain := if e.kind == .pump then gainOf c i e.id else zero
    mul (weight c 1) (c.k.mac [36, i] (neg (skimVal c.vals 0x11 k)) (phi c.k i c.h.qEps (c.v (hTag 0x41 e.id))) (add (headDiff c e) gain))
  | .meas k m =>
    let model := match m.kind with
      | .head => c.v (hTag 0x40 m.elem)
      | .flow => c.v (hTag 0x41 m.elem)
      | .diff => match c.h.edges.find? (·.id == m.elem) with | some e => headDiff c e | none => zero
    mul (sqrt (skimVal c.vals 0x15 k)) (div (sub model (skimVal c.vals 0x14 k)) m.sigma)
  | .power k g => sqrt (mul (skimVal c.vals 0x16 2) (psi c.k i (c.h.eps.getD k zero) (pumpPower c i k g)))
  | .minDp k _ => mul (weight c 3) (psi c.k i (epsPen c k) (penArg c t))
  | .maxP k _ => mul (weight c 4) (psi c.k i (epsPen c k) (penArg c t))
  | .fast k _ | .slow k _ => mul (weight c 5) (psi c.k i (epsPen c k) (penArg c t))

/-- +1 at the start node of an edge, −1 at its end node, of a variable's tag. -/
def endSign (e : EdgeP) (tag : Nat) : F := sub (if tag = hTag 0x40 e.a then one else zero) (if tag = hTag 0x40 e.b then one else zero)

/-- The derivative of weighted residual `i` by the variable of a tag: an entry of J (R209). -/
def jacobian (c : HydAt) (i : Nat) (t : Term) (tag : Nat) : F :=
  match t with
  | .cont n => match c.h.edges.find? fun e => hTag 0x41 e.id == tag with
    | some e => mul (weight c 0) (sub (if e.b = n.id then one else zero) (if e.a = n.id then one else zero))
    | none => zero
  | .head k e =>
    let d := if e.kind == .pump then dGain c i e.id else (zero, zero)
    mul (weight c 1) (
      if tag = hTag 0x41 e.id then c.k.mac [37, i] (neg (skimVal c.vals 0x11 k)) (dphi c.k i c.h.qEps (c.v tag)) d.1
      else if tagQty tag = 0x42 then d.2
      else endSign e tag)
  | .meas k m =>
    let s := div (sqrt (skimVal c.vals 0x15 k)) m.sigma
    match m.kind with
    | .head | .flow => s
    | .diff => match c.h.edges.find? (·.id == m.elem) with | some e => mul s (endSign e tag) | none => zero
  | .power k g =>
    let p := pumpPower c i k g
    let e0 := c.h.eps.getD k zero
    let outer := div (mul (skimVal c.vals 0x16 2) (dpsi c.k i e0 p)) (mul (ofNat 2) (sqrt (mul (skimVal c.vals 0x16 2) (psi c.k i e0 p))))
    let inner := if tagQty tag = 0x42 then c.k.dot [38, i] (g.edges.map fun e => (powerCoef c k g (c.v (hTag 0x41 e)), (dGain c i e).2))
      else c.k.dot [39, i, tag] [(powerCoef c k g one, gainOf c i (tagElem tag)), (powerCoef c k g (c.v tag), (dGain c i (tagElem tag)).1)]
    mul outer inner
  | .minDp k e => mul (mul (weight c 3) (dpsi c.k i (epsPen c k) (penArg c t))) (neg (endSign e tag))
  | .maxP k _ => mul (weight c 4) (dpsi c.k i (epsPen c k) (penArg c t))
  | .fast k _ => mul (weight c 5) (dpsi c.k i (epsPen c k) (penArg c t))
  | .slow k _ => neg (mul (weight c 5) (dpsi c.k i (epsPen c k) (penArg c t)))

/-- What a cycle's residuals read at `x`. -/
def hydAt (k : Arith) (c : IterIn) (h : HydP) (gs : List GroupP) (x : List F) : HydAt := ⟨k, h, gs, c.vals, fun t => at_ x (rankOf c.screed.vars t)⟩

/-- r(x) (R209). -/
def residuals (k : Arith) (c : IterIn) (x : List F) : List F :=
  match c.hyd with
  | none => []
  | some (h, gs) => (ranked (hydTerms h gs)).map fun p => residual (hydAt k c h gs x) p.1 p.2

/-- A residual term as a row of J: the tile of its first variable in the elimination order, its entries by variable rank. -/
structure JRow where
  tile : Nat
  cf   : List (Nat × F)
deriving DecidableEq, Repr

/-- J(x), row by row (R209). -/
def jacobians (k : Arith) (c : IterIn) (x : List F) : List JRow :=
  match c.hyd with
  | none => []
  | some (h, gs) => (ranked (hydTerms h gs)).map fun p =>
    let vs := (termVars h gs p.2).eraseDups
    let ts := vs.map fun t => posOf c.screed (rankOf c.screed.vars t)
    ⟨c.screed.tile.getD (ts.foldl min (c.screed.perm.length)) 0, vs.map fun t => (rankOf c.screed.vars t, jacobian (hydAt k c h gs x) p.1 p.2 t)⟩

/-- ‖r‖², term by term in the tiles of the terms. -/
def normSq (k : Arith) (site : Nat) (js : List JRow) (r : List F) : F :=
  k.sum [site] ((ranked r).map fun p => ((js.getD p.1 ⟨0, []⟩).tile, p.2, p.2))

/-- g = Jᵀ r (R209). -/
def gradient (k : Arith) (n : Nat) (js : List JRow) (r : List F) : List F :=
  (List.range n).map fun j => k.sum [40, j] ((ranked js).filterMap fun p => (lookupA j p.2.cf).map fun a => (p.2.tile, a, at_ r p.1))

/-- JᵀJ at two variables. -/
def gauss (k : Arith) (js : List JRow) (a b : Nat) : F :=
  k.sum [41, a, b] (js.filterMap fun r => match lookupA a r.cf, lookupA b r.cf with | some x, some y => some (r.tile, x, y) | _, _ => none)

/-- M = JᵀJ + λ diag(max(diag(JᵀJ), d_min)), with positive pivots (R209, R227). -/
def lmMatrix (k : Arith) (js : List JRow) (lam dMin dPiv : F) : Matrix :=
  ⟨fun a b => let v := gauss k js (min a b) (max a b); if a = b then k.mac [42, a] lam (fmax v dMin) v else v, true, fun _ => true, dPiv⟩

/-- |J δ|² (R209). -/
def stepSq (k : Arith) (js : List JRow) (d : List F) : F :=
  normSq k 43 js ((ranked js).map fun p => k.sum [44, p.1] (p.2.cf.map fun e => (p.2.tile, e.2, at_ d e.1)))

/-! LM-NLS (R209) -/

/-- Iterate k: x, λ after it, ‖r‖², J, g, the largest step of the iteration that produced it, whether a pivot was regularised, whether all was finite. -/
structure Lm where
  x   : List F
  lam : F
  f   : F
  j   : List JRow
  g   : List F
  gb  : F := zero
  pivot : Bool := false
  finite : Bool := true
deriving DecidableEq, Repr

/-- Iterate 0 (R209). -/
def lm0 (k : Arith) (c : IterIn) : Lm :=
  let r := residuals k c c.x0
  let j := jacobians k c c.x0
  ⟨c.x0, param c.params 32, normSq k 45 j r, j, gradient k (nOf c) j r, zero, false, true⟩

/-- From iterate k to iterate k + 1 (R209). -/
def lmStep (ar : Arith) (c : IterIn) (k : Lm) : Lm :=
  let p := param c.params
  let n := nOf c
  let (delta, pivot) := solve ar (lmMatrix ar k.j k.lam (p 37) (p 3)) (gaussEntries c.screed.patP) (k.g.map neg)
  let xt := (List.range n).map fun j => add (at_ k.x j) (at_ delta j)
  let ft := normSq ar 45 k.j (residuals ar c xt)
  let gd := ar.sum [46] ((List.range n).map fun j => (tileOf c.screed j, at_ k.g j, at_ delta j))
  let pred := neg (ar.mac [47] (ofNat 2) gd (stepSq ar k.j delta))
  let ratio := if lt zero pred then div (sub k.f ft) pred else neg one
  let acc := lt (p 38) ratio
  let l1 := if lt (q 3 4) ratio then fmax (mul k.lam (p 35)) (p 33) else k.lam
  let lam := if lt ratio (q 1 4) then fmin (mul l1 (p 36)) (p 34) else l1
  let x := if acc then xt else k.x
  let f := if acc then ft else k.f
  let j := if acc then jacobians ar c x else k.j
  let g := gradient ar n j (residuals ar c x)
  { x := x, lam := lam, f := f, j := j, g := g, gb := maxAbs ((List.range n).map (at_ delta)), pivot := pivot
    finite := xt.all fin && delta.all fin && fin ft && fin pred && fin ratio && g.all fin && j.all fun r => r.cf.all fun e => fin e.2 }

/-- Iterate k of a cycle. -/
def lmAt (ar : Arith) (c : IterIn) : Nat → Lm
  | 0 => lm0 ar c
  | k + 1 => lmStep ar c (lmAt ar c k)

/-! Iterates of either method, merit (R211) -/

/-- Merit m = w_a a + w_b b (R211). -/
def merit (k : Arith) (ps : List (Nat × F)) (a b : F) : F := k.dot [50] [(param ps 0, a), (param ps 1, b)]

/-- Iterate k of a cycle, with the terms a and b of its merit, the step norm (R213) and the merit (R211); iterate 0 is always finite (R212). -/
def iterateAt (ucode : Word) (c : IterIn) (k : Nat) : Iterate :=
  let ar := arith ucode c
  match c.hyd with
  | none =>
    let i := admmAt ar c k
    let ra := primal ar c i.x
    let rb := dual ar c i.x i.y
    let m := merit ar c.params ra rb
    ⟨i.x, i.y, ra, rb, rb, m, k == 0 || (i.x.all fin && i.z.all fin && i.y.all fin && fin ra && fin rb && fin m), i.pivot⟩
  | some _ =>
    let i := lmAt ar c k
    let a := sqrt i.f
    let b := maxAbs i.g
    let m := merit ar c.params a b
    ⟨i.x, [], a, b, i.gb, m, k == 0 || (i.finite && fin m), i.pivot⟩

/-- `m` is at least as good as the best so far: equal merits go to the later iterate (R211). -/
def betterEq (m : F) (best : Option (Nat × F)) : Bool := match best with | none => true | some (_, b) => le m b

end Sys2Proof.Machine
end

