-- ==== Sys2Proof/Machine/Solver.lean ====
section
/-!
DEFINITION. The Wiras engine (R195–R237): lanes and claims, screed builds, slot cycles from boundary to commit, deadlines, STALE, warm start, lane
faults and self-tests, the SLV, SLOT and SDATA pages.
-/
namespace Sys2Proof.Machine
open Sys2Proof.F64

/-- SLOTn. -/
def State.slot (s : State) (n : Nat) : Slot := s.slv.slots.getD n {}
/-- Update SLOTn. -/
def State.updSlot (s : State) (n : Nat) (f : Slot → Slot) : State := { s with slv := { s.slv with slots := modAt s.slv.slots n f } }
/-- A lane. -/
def State.lane (s : State) (n : Nat) : Lane := s.slv.lanes.getD n {}
/-- Update a lane. -/
def State.updLane (s : State) (n : Nat) (f : Lane → Lane) : State := { s with slv := { s.slv with lanes := modAt s.slv.lanes n f } }

/-! Lanes and claims (R195, R12) -/

/-- Fitted lanes that satisfy `p`, as a mask. -/
def State.laneMask (s : State) (p : Lane → Bool) : Nat := maskOf ((List.range s.variant.lanes).filter fun k => p (s.lane k))
/-- The lanes in service. -/
def State.healthy (s : State) : Nat := s.laneMask (!·.fenced)
/-- Number of lanes in service. -/
def State.healthyCount (s : State) : Nat := ((List.range s.variant.lanes).filter fun k => !(s.lane k).fenced).length

/-- SLV.LANES (R232). -/
def State.lanesWord (s : State) : Word :=
  w32 ((2 ^ s.variant.lanes - 1) + 256 * s.healthy + 65536 * s.laneMask (·.fenced) + 2 ^ 24 * s.laneMask (·.held))

/-- Cycles that wait for the lanes (R195). -/
def State.waitingCycles (s : State) : List Nat :=
  (List.range 8).filter fun n => match (s.slot n).cyc with | some c => c.lanes == 0 | none => false

/-- The claim of slot `a` comes before the claim of slot `b`: the earlier boundary, then the shorter period (R22), then the lower slot number
(log entry 32, DEDUCED). -/
def State.claimBefore (s : State) (a b : Nat) : Bool :=
  let key := fun (n : Nat) => (((s.slot n).cyc.map (·.boundary)).getD 0, ((s.slot n).cfg.map (·.periodMs)).getD 0)
  let x := key a
  let y := key b
  if x.1 != y.1 then x.1 < y.1 else if x.2 != y.2 then x.2 < y.2 else a ≤ b

/-- The waiting cycle that is first. -/
def State.firstCycle (s : State) : Option Nat :=
  s.waitingCycles.foldl (fun (acc : Option Nat) n => match acc with | none => some n | some m => if s.claimBefore m n then some m else some n) none

/-- The build that waits first: a slot of the active profile, then a slot of a pending switch. -/
def State.firstBuild (s : State) : Option Nat :=
  match (List.range 8).find? fun n => (s.slot n).build == .waiting with
  | some n => some n
  | none => match s.slv.next with | some x => x.todo.head? | none => none

/-- The power state follows the lanes (R12, R69). -/
def State.lanePower (s : State) : State :=
  if s.md.pstate.cmp && s.md.mode != .boot then
    { s with md := { s.md with pstate := if s.slv.holder.isSome || !s.waitingCycles.isEmpty then .p0 else .p1 } }
  else s

/-- The lanes go to the first waiting claim (R195): a cycle or a build needs a lane in service. -/
def State.grant (s : State) : State :=
  if s.slv.holder.isSome then s
  else
    let up := s.healthyCount ≠ 0
    match (if up then s.firstCycle else none) with
    | some n =>
      let m := s.healthy
      let s := s.updSlot n fun x => { x with
        cyc := x.cyc.map fun c => { c with lanes := m, phase := if c.phase == .makingGood then .makingGood else .solving } }
      ({ s with slv := { s.slv with holder := some (.cycle n) } }).lanePower
    | none =>
      match (List.range s.variant.lanes).find? fun k => (s.lane k).queued with
      | some k => ({ s with slv := { s.slv with holder := some (.test k) } }).lanePower
      | none =>
        match (if up then s.firstBuild else none) with
        | some n =>
          let s := s.updSlot n fun x => if x.build == .waiting then { x with build := .running } else x
          ({ s with slv := { s.slv with holder := some (.build n) } }).lanePower
        | none => s.lanePower

/-- The holder gives the lanes up. -/
def State.freeLanes (s : State) : State := { s with slv := { s.slv with holder := none } }

/-- A build or a self-test yields to a cycle of slot `k` that starts waiting, and resumes afterwards (R195). The lanes of a coinciding boundary go to the claim that
comes first, whichever boundary is commanded first (R22). -/
def State.preempt (s : State) (k : Nat) : State :=
  match s.slv.holder with
  | some (.cycle n) =>
    match (s.slot n).cyc, (s.slot k).cyc with
    | some y, some z =>
      if y.boundary = z.boundary ∧ y.done = 0 ∧ y.phase == .solving ∧ s.claimBefore k n then
        (s.updSlot n fun x => { x with cyc := some { y with lanes := 0, phase := .waiting } }).freeLanes
      else s
    | _, _ => s
  | some (.build n) => (s.updSlot n fun x => if x.build == .running then { x with build := .waiting } else x).freeLanes
  | some (.test _) => s.freeLanes
  | _ => s

/-- Lanes that passed their self-test return at the start of a cycle (R228). -/
def State.returnLanes (s : State) : State :=
  ((List.range s.variant.lanes).filter fun k => (s.lane k).back != 0 && !(s.lane k).held).foldl (fun s k =>
    let b := (s.lane k).back
    let s := s.updLane k fun _ => {}
    ((s.irq .slv 0 2).record 0x0406 (w32 k) (w32 b) s.lanesWord).trigger .unit) s

/-! Screeds (R199–R203) -/

/-- Limits of R25 on a screed. -/
def maxUnknowns : Nat := 524288
def maxNnz : Nat := 16777216
def maxNnzAll : Nat := 50331648

/-- The structure column of *Structure and values* for a dispatch slot (R188): period, zones with their media, plants with kind, medium and number of polygon sides,
stores with their media, pump groups. -/
def dispForm (c : SlotCfg) (p : DispP) : List Nat :=
  let m := fun (x : Medium) => match x with | .heat => 0 | .cold => 1
  [c.periodMs, p.zones.length] ++ p.zones.flatMap (fun z => [z.zone, m z.medium]) ++ [p.plants.length] ++
  p.plants.flatMap (fun x => [x.station, x.subtype, m (plantMedium p x), x.sides.length]) ++ [p.stores.length] ++
  p.stores.flatMap (fun x => [x.station, m (zoneMedium p x.zone)]) ++ p.groups.map (·.station)

/-- Code of an edge kind. -/
def edgeCode : EdgeKind → Nat
  | .pipe => 0
  | .valve => 1
  | .plant => 2
  | .pump => 3
  | .consumer => 4
  | .store => 5

/-- The structure column of *Structure and values* for a hydraulic slot (R188): nodes, edges with their kinds, pump groups with their edges, measurements; the penalty
terms follow from these. -/
def hydForm (h : HydP) (gs : List GroupP) : List Nat :=
  let k := fun (x : MeasKind) => match x with | .head => 0 | .flow => 1 | .diff => 2
  [h.nodes.length] ++ (sortNodes h.nodes).map (·.id) ++ [h.edges.length] ++ (sortEdges h.edges).flatMap (fun e => [e.id, edgeCode e.kind, e.a, e.b]) ++
  [gs.length] ++ gs.flatMap (fun g => g.station :: g.edges.length :: g.edges) ++ (sortMeas h.meas).flatMap fun m => [k m.kind, m.elem]

/-- The screed of a slot configuration (R199): the same inputs give the same screed (R200). -/
def State.makeScreed (s : State) (n : Nat) (c : SlotCfg) (p : DispP) : Screed :=
  let build := buildScreed s.slv.ucode s.variant.lanes
  match c.hyd with
  | some h =>
    let gs := groupsOf p n
    let vars := hydVars h gs
    let pat := hydPattern h gs vars
    build false vars [] pat [] (hydForm h gs) (gaussEntries pat)
  | none =>
    match p.grid with
    | some g =>
      let r := s.programme ⟨⟨0, 0⟩, p, g, fun _ => none⟩
      let vars := r.vars.map (·.tag)
      let rows := r.rows.map (·.tag)
      let pp := (entriesP vars r.vars).map (·.1)
      let pa := (entriesA vars rows r.rows).map (·.1)
      build true vars rows pp pa (dispForm c p) (kktEntries pp pa vars.length)
    | none => build true [] [] [] [] (dispForm c p) []

/-- A slot's screed has the structure of `y` (R188). -/
def sameScreed (x : Option Screed) (y : Screed) : Bool := match x with | some x => x.fig.id == y.fig.id && x.form == y.form | none => false

/-- Factor nonzeros of the resident screeds other than that of slot `n`. -/
def State.nnzOthers (s : State) (n : Nat) : Nat :=
  ((List.range 8).map fun k => if k = n then 0 else match (s.slot k).screed with | some x => x.fig.nnz | none => 0).foldl (· + ·) 0

/-- The bound of a whole cycle from solve start (R229). -/
def cycleBound (c : SlotCfg) (f : ScreedFig) : Nat :=
  f.tIt0 + (match c.kind with | .dispatch => f.tFact | .hydraulic => 0) + c.iter * f.tIter

/-- SCHED_WARN of slot `n` (R203): its own T_IT0 and the cycle bounds, on the lanes in service (R229), of the slots that can hold the lanes ahead of it. -/
def State.schedWarn (s : State) (n : Nat) : Bool :=
  match (s.slot n).cfg, (s.slot n).screed with
  | some c, some x =>
    let ahead := (List.range 8).filter fun k => k ≠ n && match (s.slot k).cfg with
      | some d => d.periodMs < c.periodMs || (d.periodMs == c.periodMs && k < n)
      | none => false
    let wait := (ahead.map fun k => match (s.slot k).cfg, (s.slot k).screed with | some d, some y => cycleBound d y.fig | _, _ => 0).foldl (· + ·) 0
    c.deadlineUs < x.fig.tIt0 + onLanes s.variant.lanes s.healthyCount wait
  | _, _ => false

/-- SCHED_WARN of every slot, as each build leaves it (R203). -/
def State.schedWarns (s : State) : State :=
  (List.range 8).foldl (fun s n => let w := s.schedWarn n; if (s.slot n).warn == w then s else s.updSlot n fun z => { z with warn := w }) s

/-- A limit of R201 is exceeded. -/
def tooLarge (x : Screed) (others : Nat) : Bool := x.nUnk > maxUnknowns || x.fig.nnz > maxNnz || others + x.fig.nnz > maxNnzAll

/-- A structure change gives the slot a mapping source (R222): its previous solution. -/
def newScreed (x : Slot) (y : Screed) : Slot :=
  if sameScreed x.screed y then { x with screed := some y, copy2 := true, build := .none }
  else { x with screed := some y, copy2 := true, build := .none, vals := [], prevOk := false, src := if x.prevOk then x.res else x.src }

/-- Completion of a SLOT.CMD (R234). -/
def State.slotDone (s : State) (n : Nat) (c : QCmd) (e : Err) : State := s.complete .slot n Off.SLOT_CMD_STAT e (c.word.fld 8 8) 8

/-! Assembly of a cycle (R189, R204–R206, R222–R224) -/

/-- Size of a skim object of a screed (R205); none where the object does not belong to the method. -/
def objSize (x : Screed) (h : Option (HydP × List GroupP)) (obj : Nat) : Option Nat :=
  match h with
  | none => match obj with
    | 1 => some x.patP.length
    | 2 => some x.patA.length
    | 3 => some x.vars.length
    | 4 | 5 => some x.rows.length
    | _ => none
  | some (h, gs) => match obj with
    | 0x11 => some h.edges.length
    | 0x12 => some (3 * gs.length)
    | 0x13 => some (hydPenalties h gs).length
    | 0x14 | 0x15 => some h.meas.length
    | 0x16 => some 6
    | 0x17 => some gs.length
    | _ => none

/-- Why a record is rejected (R206). -/
def recErr (x : Screed) (h : Option (HydP × List GroupP)) (r : SkimRec) : Option Err :=
  match objSize x h r.obj with
  | none => some .struct
  | some n =>
    if r.pos ≥ n then some .struct
    else if !fin r.val then some .format
    else if (r.obj == 0x11 || r.obj == 0x15 || r.obj == 0x16 || r.obj == 0x17) && lt r.val zero then some .format
    else none

/-- Set the value at a position. -/
def putRec (vs : List SkimRec) (r : SkimRec) : List SkimRec :=
  if vs.any fun v => v.obj == r.obj && v.pos == r.pos then vs.map fun v => if v.obj == r.obj && v.pos == r.pos then r else v else vs ++ [r]

/-- Apply a skim (R206): the values then in force and the status of each rejected record. -/
def applySkim (x : Screed) (h : Option (HydP × List GroupP)) (vals recs : List SkimRec) : List SkimRec × List Err :=
  let bad := recs.filterMap (recErr x h)
  let good := recs.filter fun r => (recErr x h r).isNone
  let new := good.foldl putRec vals
  let bound := fun (r : SkimRec) => r.obj == 4 || r.obj == 5
  let crossed := fun (p : Nat) => lt (skimVal new 5 p) (skimVal new 4 p)
  let undone := good.filter fun r => h.isNone && bound r && crossed r.pos
  let keep := good.filter fun r => !(h.isNone && bound r && crossed r.pos)
  (keep.foldl putRec vals, bad ++ undone.map fun _ => .format)

/-- The entries of an assembled set that differ from the values in force: the skim (R204). -/
def changed (vals recs : List SkimRec) : List SkimRec :=
  recs.filter fun r => match vals.find? fun v => v.obj == r.obj && v.pos == r.pos with | some v => v.val != r.val | none => true

/-- The hydraulic structure of a slot. -/
def State.hydOf (s : State) (n : Nat) (c : SlotCfg) : Option (HydP × List GroupP) := c.hyd.map fun h => (h, groupsOf s.slv.disp n)

/-- A previous solution as values by tag in the horizon at `grid` (R171). -/
def carried (r : Result) (grid t : Nat) : Option F := carry r.gridT grid r.tags r.x t
/-- Its duals by row tag. -/
def carriedY (r : Result) (grid t : Nat) : Option F := carry r.gridT grid r.rows r.y t

/-- A warm start (R222–R224): x₀, y₀, result flags, the match share of a mapping. -/
structure Warm where
  x     : List F
  y     : List F
  flags : Nat
  share : Option Nat := none
  declined : Bool := false

/-- Result flags (R214). -/
def rfComplete : Nat := 2 ^ 16
def rfDeadline : Nat := 2 ^ 17
def rfShifted : Nat := 2 ^ 18
def rfStale : Nat := 2 ^ 19
def rfWarm : Nat := 2 ^ 20
def rfCold : Nat := 2 ^ 21
def rfDeclined : Nat := 2 ^ 22
def rfPartial : Nat := 2 ^ 23
def rfNonfinite : Nat := 2 ^ 24
def rfPivot : Nat := 2 ^ 25
def rfSkim : Nat := 2 ^ 26
def rfMadeGood : Nat := 2 ^ 27
def rfLaneWait : Nat := 2 ^ 28
def rfAboveTol : Nat := 2 ^ 29
def rfNoLane : Nat := 2 ^ 30
def rfTrial : Nat := 2 ^ 31

/-- Variables of a screed that a source covers. -/
def matched (x : Screed) (r : Result) (grid : Nat) : Nat := (x.vars.filter fun t => (carried r grid t).isSome).length

/-- The warm start of a cycle: the first case of *Warm-start sources* that applies (R222). -/
def warmStart (c : SlotCfg) (sl : Slot) (x : Screed) (grid : Nat) : Warm :=
  let cold : Warm := ⟨x.vars.map (coldOf c), x.rows.map fun _ => zero, rfCold, none, false⟩
  let from_ := fun (r : Result) => (x.vars.map (fun t => (carried r grid t).getD (coldOf c t)), x.rows.map fun t => (carriedY r grid t).getD zero)
  if sl.coldPend then cold
  else match (if sl.prevOk then sl.res else none) with
  | some r => let p := from_ r; ⟨p.1, p.2, rfWarm, none, false⟩
  | none => match sl.src with
    | some r =>
      let share := if x.vars.isEmpty then 100 else matched x r grid * 100 / x.vars.length
      if matched x r grid * 100 < c.warmShare * x.vars.length then { cold with flags := rfCold ||| rfDeclined, share := some share, declined := true }
      else let p := from_ r; ⟨p.1, p.2, rfWarm, some share, false⟩
    | none => cold

/-- The linearisation point (R174): the previous committed solution, carried; none without one and after a declined warm start. -/
def linPoint (sl : Slot) (w : Warm) (grid : Nat) : Nat → Option F :=
  match (if sl.prevOk then sl.res else if w.declined then none else sl.src) with
  | some r => carried r grid
  | none => fun _ => none

/-- Every value of a cycle, with its build flags. -/
def State.assemble (s : State) (n : Nat) (c : SlotCfg) (w : Warm) (h : Hz) : List SkimRec × Nat :=
  match c.hyd with
  | some hy => s.hydRecs n hy
  | none => match s.slv.disp.grid with
    | some g =>
      let p := s.programme ⟨h, s.slv.disp, g, linPoint (s.slot n) w h.gridT⟩
      (programmeRecs p, p.flags)
    | none => ([], 0)

/-- The zone return temperatures a dispatch cycle used (R190). -/
def State.noteRet (s : State) : State :=
  { s with slv := { s.slv with tRet := s.slv.disp.zones.map fun z => (z.zone, s.tRet z) } }

/-- What a cycle with its boundary at `t` reads (R20, R22, R179, R180): the snapshot, to which a set applied at or after the boundary does not belong, the series and overrides accepted before it, the results committed before it. -/
def State.asAt (s : State) (t : Nat) : State :=
  { s with
    net := { s.net with stns := s.net.stns.map fun x => { x with pts := ptsAt x (verAt x t), ver := verAt x t } }
    slv := { s.slv with
      series := asOf t s.slv.series s.slv.serHist
      overrides := s.slv.overrides.filter fun o => o.at_ < t
      slots := s.slv.slots.map fun (x : Slot) => let p := asOf t (x.res, x.stale, x.outVals) x.pubHist; { x with res := p.1, stale := p.2.1, outVals := p.2.2 } } }

/-- Address of a SLOT queue. -/
def slotQ (n : Nat) : Nat := Page.reg .slot n Off.SLOT_CMD

/-- A CAPTURE that has begun awaits its cycle (R234). -/
def State.captWaits (s : State) (n : Nat) (p : CmdSt → Bool) : Bool :=
  ((s.queue (slotQ n)).zip (s.slot n).begun).any fun x => x.1.word.fld 0 4 == 4 && p x.2

/-- Account for the rejections of a skim (R206). -/
def State.skimRejects (s : State) (n : Nat) (es : List Err) : State :=
  if es.isEmpty then s
  else
    let s := s.satp .slot n Off.SLOT_SKIM_REJ es.length
    (es.foldl (fun s e => s.refuse .slot n e) s).irq .slot n 6

/-- Start a cycle of slot `n` at this instant (R19, R189, R195, R222): snapshot, wake, assembly, skim, warm start, claim. -/
def State.startCycle (s : State) (n num : Nat) (trial : Bool) : State :=
  let sl := s.slot n
  match sl.cfg, sl.screed with
  | some c, some x =>
    let s := s.returnLanes
    let view := if trial then s else s.asAt s.now
    let h := s.hz s.now
    let hy := s.hydOf n c
    let w := warmStart c sl x h.gridT
    let a := view.assemble n c w h
    let capt := s.captWaits n (· == .waiting)
    let skim := changed sl.vals a.1
    let r := applySkim x hy sl.vals skim
    let host := if trial then sl.hostSkim else none
    let r2 : List SkimRec × List Err := match host with
      | some k => if k.screed == x.fig.id then applySkim x hy r.1 k.recs else (r.1, k.recs.map fun _ => .struct)
      | none => (r.1, [])
    let errs := r.2 ++ r2.2
    let wholeBad := match host with | some k => k.screed != x.fig.id | none => false
    let flags := a.2 ||| w.flags ||| (if errs.isEmpty && !wholeBad then 0 else rfSkim)
    let cyc : Cycle := {
      num := num, boundary := s.now, trial := trial, snap := view.net.stns.map (fun y => (y.num, y.ver)), vals := r2.1, skim := skim, x0 := w.x, y0 := w.y, flags := flags
      gridT := h.gridT, capt := capt }
    let s := s.skimRejects n errs
    let s := if wholeBad && errs.isEmpty then s.skimRejects n [.struct] else s
    let s := match c.kind with
      | .dispatch => { s with slv := { s.slv with tRet := view.noteRet.slv.tRet, fc := if trial then s.slv.fc else view.fcSnapshot.slv.fc } }
      | .hydraulic => s
    let s := s.updSlot n fun y => { y with
      vals := r2.1, cyc := some cyc, coldPend := false, begun := y.begun.map fun b => if b == .waiting && capt then .taken else b
      hostSkim := if trial then none else y.hostSkim
      match_ := w.share.getD y.match_, declined := if w.share.isSome then w.declined else y.declined }
    (s.preempt n).grant
  | _, _ => s

/-- A boundary of slot `n` (R22, R23, R233): numbered; skipped as an overrun while a cycle is uncommitted; skipped without a screed. -/
def State.boundaryAt (s : State) (n : Nat) : State :=
  let sl := s.slot n
  let num := sl.nextNum
  let s := s.updSlot n fun x => { x with nextNum := num + 1, lastB := some s.now }
  if sl.cyc.isSome then
    let s := (s.satp .slot n Off.SLOT_OVERRUNS).irq .slot n 4
    (s.updSlot n fun x => { x with skips := x.skips + 1 }).recordEp 0x0401 (w32 n) (w32 num) 0
  else if sl.screed.isNone then s
  else
    let (whole, s) := s.shadowInputs (.slot n)
    if !whole then s
    else
      let s := s.reached (.slot n)
      let s := if sl.started then s else
        let outs := match sl.cfg with | some c => c.outputs | none => []
        let s := outs.foldl (fun s o => match o.dest with | .point i => s.dropOwn (.point i) | _ => s) s
        s.updSlot n fun x => { x with started := true }
      s.startCycle n num false

/-- SLOT_CYCLE_BOUNDARY: the instant is a boundary of the slot, not yet taken (R22, R233). -/
def State.slotBoundary (s : State) (n : Nat) : State :=
  match (s.slot n).cfg, s.slv.origin with
  | some c, some o =>
    let p := c.periodMs * ms
    if s.md.mode.tasksRun && !s.leaving && s.now > o && (s.now - o) % p == 0 && (s.slot n).lastB != some s.now then s.boundaryAt n else s
  | _, _ => s

/-! Publication and commit (R213–R221, R192) -/

/-- The solution hash (R215): tag and value of every variable in tag order. -/
def solHash (tags : List Nat) (x : List F) : List Byte :=
  Hash.sha256 ((tags.zip x).flatMap fun p => natLE 4 p.1 ++ natLE 8 p.2.toNat)

/-- What a cycle publishes. -/
inductive Pub
  | iterate (k : Nat)
  | shifted
  | nothing

/-- Everything the iterates of a cycle depend on. -/
def State.iterIn (s : State) (n : Nat) (c : SlotCfg) (x : Screed) (y : Cycle) : IterIn := ⟨x, y.vals, y.x0, y.y0, c.params, s.hydOf n c⟩

/-- The result a cycle publishes (R213, R217). -/
def State.pubResult (s : State) (n : Nat) (c : SlotCfg) (x : Screed) (y : Cycle) : Pub → Option Result
  | .iterate k =>
    let i := iterateAt s.slv.ucode (s.iterIn n c x y) k
    let ab := match c.kind with | .dispatch => (i.a, i.b) | .hydraulic => (i.b, if k = 0 then zero else i.c)
    some { cycle := y.num, iterW := k + 65536 * (y.done - 1), a := ab.1, b := ab.2, merit := i.m, hash := solHash x.vars i.x
           tUs := (s.now - y.boundary) / us, tags := x.vars, rows := x.rows, x := i.x, y := i.y, gridT := y.gridT }
  | .shifted => (s.slot n).res.map fun r =>
    let v := x.vars.map fun t => (carried r y.gridT t).getD (coldOf c t)
    let d := x.rows.map fun t => (carriedY r y.gridT t).getD zero
    { r with cycle := y.num, iterW := 0, hash := solHash x.vars v, tUs := (s.now - y.boundary) / us, tags := x.vars, rows := x.rows, x := v, y := d, gridT := y.gridT }
  | .nothing => none

/-- Values of the output table in a solution, by entry (R192, R193). -/
def State.outsOf (s : State) (c : SlotCfg) (r : Result) : List (Nat × OutEntry × F) :=
  (ranked c.outputs).filterMap fun p => (outSource s.slv.disp c (r.tags.zip r.x) p.2.source).map fun v => (p.1, p.2, outValue p.2 v)

/-- The fallback values of the output table (R220). -/
def fallbacks (c : SlotCfg) : List (Nat × OutEntry × F) := (ranked c.outputs).map fun p => (p.1, p.2, p.2.fallback)

/-- Release output values (R15, R92, R192): set-point sources and task entries through the exchange area, points by their groups. A STANDBY's shadow commit passes its
values to its own engines and releases nothing (R231, R236). -/
def State.releaseSlot (s : State) (n : Nat) (vs : List (Nat × OutEntry × F)) : State :=
  let put := fun (m : List (Nat × Word64)) => vs.foldl (fun m v => insertA v.1 v.2.2 m) m
  let s := s.updSlot n fun x => { x with
    outVals := put x.outVals, outAt := some s.now, relVals := if s.md.mode == .standby then x.relVals else put x.relVals }
  let s := vs.foldl (fun s v => match v.2.1.dest with
    | .taskIn k e => { s with prg := { s.prg with tasks := modAt s.prg.tasks k fun x => { x with inImg := insertA e v.2.2 x.inImg } } }
    | .local_ l => if s.md.mode == .standby then s else s.localPoint l v.2.2 .good (s.time64At s.now)
    | _ => s) s
  s.releaseOuts (vs.filterMap fun v => match v.2.1.dest with | .point i => some (.point i, v.2.2) | _ => none)

/-- Traffic in bytes of one pair of triangular passes (R230). -/
def traffic (k : SlotKind) (f : ScreedFig) (unk : Nat) : Nat := 16 * f.nnz + 8 * f.idx + (match k with | .dispatch => 40 | .hydraulic => 32) * unk

/-- A measured time of triangular pass pairs in nanoseconds: not below what the traffic takes at 51.2 GB/s, and with every fitted lane in service not above 1.3 times the bound
of 16 bytes per nonzero (R26, R230). -/
def passTime (k : SlotKind) (x : Screed) (all : Bool) (measured : Nat) : Nat :=
  let t := max ((10 * traffic k x.fig x.nUnk + 511) / 512) measured
  if all then min (208 * x.fig.nnz / 512) t else t

/-- The mean triangular efficiency of the cycle as SLOT.EFF reports it (R230): 1,000 × (16 × NNZ / 51.2 GB/s) ÷ t, and the lanes of the cycle. A cycle without a triangular
pass has no such time, and what it reports is free. Log entry 31, DESIGN CHOICE. -/
def State.effWord (s : State) (n : Nat) (k : SlotKind) (x : Screed) (y : Cycle) : Word :=
  let m := Config.measure (Page.reg .slot n Off.SLOT_EFF) s.now
  let ls := ((List.range 8).filter fun k => y.lanes.testBit k).length
  let e := if y.done ≤ 1 then m.fld 0 10 else min 1023 (160000 * x.fig.nnz / (512 * max 1 (passTime k x (ls == s.variant.lanes) m.toNat)))
  w32 (e + 65536 * ls)

/-- A PAGE_RESET of a SLOT page as it takes effect (R231). -/
def State.slotReset (s : State) (n : Nat) : State :=
  s.updSlot n fun x => { x with
    res := none, src := none, prevOk := false, consec := 0, stale := false, skips := 0, resFlags := 0, coldPend := false, eff := 0, match_ := 0
    declined := false, doReset := false }

/-- STALE is entered (R220). -/
def State.staleSet (s : State) (n num : Nat) : State :=
  let s := s.updSlot n fun x => { x with stale := true }
  ((s.irq .slot n 2).satp .slot n Off.SLOT_STALES).recordEp 0x0402 (w32 n) (w32 num) 0

/-- STALE is left (R221). -/
def State.staleClr (s : State) (n num : Nat) : State :=
  let s := s.updSlot n fun x => { x with stale := false }
  (s.irq .slot n 3).recordEp 0x0403 (w32 n) (w32 num) 0

/-- Publish, count and release at the commit of an ordinary cycle (R213, R219–R221). -/
def State.publish (s : State) (n : Nat) (c : SlotCfg) (y : Cycle) (pub : Pub) (flags : Nat) (res : Option Result) : State :=
  let sl := s.slot n
  let noLane := flags / rfNoLane % 2 == 1 && res.isNone
  let counts := (match pub with | .shifted => res.isSome | _ => false) || flags / rfAboveTol % 2 == 1 || noLane
  let lost := c.shift && res.isNone
  let consec := if counts then min 255 (sl.consec + sl.skips + 1) else if lost then min 255 (sl.consec + sl.skips) else 0
  let s := s.updSlot n fun x => { x with consec := consec, skips := 0 }
  let bad := counts || lost
  if bad && sl.stale then s.updSlot n fun x => { x with resFlags := flags ||| rfStale }
  else if bad && (consec > c.staleMax || lost) then
    let s := s.updSlot n fun x => { x with resFlags := flags ||| rfStale }
    (s.staleSet n y.num).releaseSlot n (fallbacks c)
  else
    let s := if sl.stale then s.staleClr n y.num else s
    match res with
    | some r =>
      let s := s.updSlot n fun x => { x with res := some r, prevOk := true, src := none, resFlags := flags }
      s.releaseSlot n (s.outsOf c r)
    | none => s.updSlot n fun x => { x with resFlags := flags }

/-- The commit of a slot cycle (R24, R89, R213–R221): `extra` the flags that the selection adds. Log entry 72, DEDUCED. -/
def State.commitCycle (s : State) (n : Nat) (pub : Pub) (extra : Nat) : State :=
  let sl := s.slot n
  match sl.cfg, sl.screed, sl.cyc with
  | some c, some x, some y =>
    let res := s.pubResult n c x y pub
    let tol := match pub, res with | .iterate _, some r => if lt (param c.params 2) r.merit then rfAboveTol else 0 | _, _ => 0
    let mg := if y.phase == .makingGood then rfMadeGood else 0
    let flags := y.flags ||| extra ||| tol ||| mg ||| (if y.trial then rfTrial else 0)
    let eff := s.effWord n c.kind x y
    let s := s.updSlot n fun z => { z with pubHist := noteOld s.now (z.res, z.stale, z.outVals) z.pubHist }
    let s := if y.trial then
        s.updSlot n fun z => { z with res := match res with | some r => some r | none => z.res, prevOk := z.prevOk || res.isSome, src := if res.isSome then none else z.src, resFlags := flags }
      else s.publish n c y pub flags res
    let s := if flags / rfDeadline % 2 == 1 then (s.satp .slot n Off.SLOT_DEADLINES).irq .slot n 7 else s
    let s := if (match pub with | .shifted => res.isSome | _ => false) then s.satp .slot n Off.SLOT_SHIFTS else s
    let s := ((s.irq .slot n 1).modp .slv 0 Off.SLV_COMMITS)
    let s := { s with slv := { s.slv with eff := eff ||| w32 (4096 * n) } }
    let warm := (x.vars.zip y.x0) ++ (x.rows.zip y.y0)
    let s := s.updSlot n fun z => { z with
      eff := eff, cyc := none, iters := y.hashes, lastCyc := some y
      capture := if y.capt then some ⟨y.num, y.skim, x.fig.id, warm, res⟩ else z.capture }
    let s := if y.phase == .makingGood then s.mgDone (.slot n) else s
    let s := if (s.slot n).doReset then s.slotReset n else s
    let s := match s.slv.holder with | some (.cycle k) => if k = n then s.freeLanes else s | _ => s
    s.pruneVersions.grant
  | _, _, _ => s

/-! Commands of the SLOT pages (R234) -/

/-- The modes in which COLD_NEXT, LANE_TEST and LANE_RELEASE act (R232, R234). -/
def slvModeOk (m : Mode) : Bool := m == .commission || m == .run || m == .degraded || m == .maintenance

/-- A build of slot `n` begins (R199, R234). -/
def State.wantBuild (s : State) (n : Nat) (c : Option QCmd) : State :=
  (s.updSlot n fun x => { x with build := .waiting, buildCmd := c }).grant

/-- Execute a SLOT.CMD (R234): the status at which it completes now, or none while it waits for its build, trial or captured cycle. -/
def State.execSlotCmd (s : State) (n : Nat) (c : QCmd) : Option Err × State :=
  let sl := s.slot n
  match c.word.fld 0 4 with
  | 1 =>
    if !c.priv.ge .config then (some .denied, s)
    else if s.md.mode != .commission then (some .mode, s)
    else if !c.args.isEmpty || sl.build != .none then (some .state, s)
    else if sl.cfg.isNone then (some .notFound, s)
    else (none, s.wantBuild n (some c))
  | 2 =>
    if !c.priv.ge .config then (some .denied, s)
    else if s.md.mode != .commission then (some .mode, s)
    else if sl.screed.isNone || sl.cfg.isNone || sl.cyc.isSome then (some .state, s)
    else (none, (s.updSlot n fun x => { x with trialCmd := some c }).startCycle n sl.nextNum true)
  | 3 =>
    if !c.priv.ge .operate then (some .denied, s)
    else if !slvModeOk s.md.mode then (some .mode, s)
    else (some .ok, s.updSlot n fun x => { x with coldPend := true })
  | 4 =>
    if !c.priv.ge .operate then (some .denied, s)
    else if !(slvModeOk s.md.mode || s.md.mode == .standby) then (some .mode, s)
    else (none, s)
  | _ => (some .range, s)

/-- A begun command has not ended. -/
def isOpen : CmdSt → Bool
  | .done _ => false
  | _ => true

/-- Begin waiting commands in order (OP-3): one waits behind a build or a TRIAL that has not ended; a CAPTURE only awaits its cycle, and lets the next begin. -/
def beginSlot (n : Nat) : Nat → State → State
  | 0, s => s
  | k + 1, s =>
    let q := s.queue (slotQ n)
    let b := (s.slot n).begun
    match q[b.length]? with
    | none => s
    | some c =>
      if (q.zip b).any fun p => isOpen p.2 && p.1.word.fld 0 4 != 4 then s
      else
        match (s.updSlot n fun x => { x with begun := b ++ [.waiting] }).execSlotCmd n c with
        | (some e, s) => beginSlot n k (s.updSlot n fun x => { x with begun := b ++ [.done e] })
        | (none, s) => beginSlot n k s

/-- Report the completions that no earlier command holds back (OP-3). -/
def reportSlot (n : Nat) : Nat → State → State
  | 0, s => s
  | k + 1, s =>
    match s.queue (slotQ n), (s.slot n).begun with
    | c :: cs, .done e :: bs => reportSlot n k (((s.setQueue (slotQ n) cs).updSlot n fun x => { x with begun := bs }).slotDone n c e)
    | _, _ => s

/-- Begin what can begin and report what has ended. -/
def State.runSlot (s : State) (n : Nat) : State := reportSlot n (queueMax + 1) (beginSlot n (queueMax + 1) s)

/-- Begun commands of an operation that stand as `p` end with a status. -/
def State.endCmds (s : State) (n op : Nat) (p : CmdSt → Bool) (e : Err) : State :=
  let hit := fun (x : QCmd × CmdSt) => if x.1.word.fld 0 4 == op && isOpen x.2 && p x.2 then CmdSt.done e else x.2
  (s.updSlot n fun x => { x with begun := ((s.queue (slotQ n)).zip x.begun).map hit }).runSlot n

/-- Commands that a commit completes: a TRIAL's, a CAPTURE's (R234). -/
def State.afterCommit (s : State) (n : Nat) (was : Option Cycle) : State :=
  match was with
  | none => s
  | some y =>
    if (s.slot n).cyc.isSome then s
    else
      let s := if y.capt then s.endCmds n 4 (· == .taken) .ok else s
      if y.trial && (s.slot n).trialCmd.isSome then (s.updSlot n fun x => { x with trialCmd := none }).endCmds n 2 (fun _ => true) .ok else s

/-- A commit with everything that follows it. Log entry 72, DEDUCED. -/
def State.finishCycle (s : State) (n : Nat) (pub : Pub) (extra : Nat) : State :=
  let was := (s.slot n).cyc
  (s.commitCycle n pub extra).afterCommit n was

/-- A SLOT.CMD enters the queue (R234): executed at once when nothing it waits behind is before it; a SCREED_BUILD accepted while a build or a TRIAL runs is marked
(R231). -/
def State.slotCmd (s : State) (n : Nat) (c : QCmd) : State :=
  let sl := s.slot n
  let trial := match sl.cyc with | some y => y.trial | none => false
  let c := if sl.build != .none || trial then { c with args := [1] } else c
  (s.setQueue (slotQ n) (s.queue (slotQ n) ++ [c])).runSlot n

/-! Iterates and deadlines (R211–R217) -/

/-- The next iterate of slot `n` completes (R211, R212). -/
def State.iterateDone (s : State) (n : Nat) : State :=
  let sl := s.slot n
  match sl.cfg, sl.screed, sl.cyc with
  | some c, some x, some y =>
    if y.lanes == 0 then s
    else
      let k := y.done
      let i := iterateAt s.slv.ucode (s.iterIn n c x y) k
      let sel := fun (s : State) (y : Cycle) (extra : Nat) => match y.best with
        | some b => s.finishCycle n (.iterate b.1) extra
        | none => s.finishCycle n .nothing extra
      if !i.finite then sel s y (rfNonfinite ||| (if i.pivot then rfPivot else 0))
      else
        let m := i.m
        let y' := { y with
          done := k + 1
          best := if betterEq m y.best then some (k, m) else y.best
          merit0 := if k = 0 then some m else y.merit0
          flags := if i.pivot then y.flags ||| rfPivot else y.flags
          hashes := y.hashes ++ [(solHash x.vars i.x).take 8] }
        let s := s.updSlot n fun z => { z with cyc := some y' }
        if k = 0 && y.late then sel s y' rfDeadline
        else if k = c.iter then sel s y' rfComplete
        else s
  | _, _, _ => s

/-- The deadline of slot `n` arrives (R216, R217); `inside` tells that it falls inside an iteration or the once-per-cycle factorisation. -/
def State.slotDeadline (s : State) (n : Nat) (inside : Bool) : State :=
  let sl := s.slot n
  match sl.cfg, sl.cyc with
  | some c, some y =>
    if s.now < y.boundary + c.deadlineUs * us then s
    else
      let none_ := s.healthyCount == 0
      let part := if inside && y.lanes != 0 then rfPartial else 0
      if c.shift then
        s.finishCycle n (if sl.prevOk then .shifted else .nothing)
          (rfDeadline ||| part ||| (if sl.prevOk && sl.res.isSome then rfShifted else 0) ||| (if none_ then rfNoLane else 0))
      else match y.best with
      | some b => s.finishCycle n (.iterate b.1) (rfDeadline ||| part)
      | none =>
        if none_ then s.finishCycle n .nothing rfNoLane
        else if y.late then s
        else s.updSlot n fun z => { z with
          cyc := some { y with late := true, flags := y.flags ||| rfDeadline ||| (if y.lanes == 0 then rfLaneWait else 0) } }
  | _, _ => s

/-! Builds complete (R199–R203) -/

/-- The build of an active slot completes, or stops at a limit (R201). -/
def State.activeBuilt (s : State) (n : Nat) (c : SlotCfg) : State :=
  let x := s.makeScreed n c s.slv.disp
  let cmd := (s.slot n).buildCmd
  let big := tooLarge x (s.nnzOthers n)
  let s := s.freeLanes
  let s := if big then
      let s := s.updSlot n fun z => { z with screed := none, build := .none, buildCmd := none, prevOk := false }
      let s := s.record 0x0404 (w32 n) 0 (w32 Err.capacity.code)
      if cmd.isNone then { s with slv := { s.slv with refused := true } } else s
    else
      ((s.updSlot n fun z => { newScreed z x with buildCmd := none }).schedWarns).irq .slot n 5
  let s := s.grant
  if cmd.isSome then s.endCmds n 1 (fun _ => true) (if big then .capacity else .ok) else s

/-- The build of a slot of a pending switch completes (R75, R201). -/
def State.nextBuilt (s : State) (n : Nat) (x : NextSlots) : State :=
  let s := s.freeLanes
  let y := match x.cfgs.getD n none with | some c => some (s.makeScreed n c x.disp) | none => none
  let others := (List.range 8).map fun k => if k = n then 0 else match lookupA k x.built with
    | some z => z.fig.nnz
    | none => match x.cfgs.getD k none, (s.slot k).screed with | some _, some z => z.fig.nnz | _, _ => 0
  match y with
  | some z =>
    if tooLarge z (others.foldl (· + ·) 0) then
      let s := s.record 0x0404 (w32 n) 0 (w32 Err.capacity.code)
      ({ s with slv := { s.slv with next := some { x with todo := [], failed := true } } }).grant
    else ({ s with slv := { s.slv with next := some { x with todo := x.todo.erase n, built := insertA n z x.built } } }).grant
  | none => ({ s with slv := { s.slv with next := some { x with todo := x.todo.erase n } } }).grant

/-- SCREED_BUILD_DONE of slot `n`: the build that holds the lanes. -/
def State.buildDone (s : State) (n : Nat) : State :=
  match s.slv.holder with
  | some (.build k) =>
    if k ≠ n then s
    else match (s.slot n).build, (s.slot n).cfg, s.slv.next with
    | .running, some c, _ => s.activeBuilt n c
    | _, _, some x => s.nextBuilt n x
    | _, _, _ => s.freeLanes.grant
  | _ => s

/-! Lane faults and self-tests (R228, R231) -/

/-- Fence a lane with its record (R228, R515). -/
def State.fenceLane (s : State) (k code : Nat) : State :=
  let s := s.updLane k fun x => { x with fenced := true, fails := 0, since := s.now, back := 0 }
  let s := (s.irq .slv 0 1).satp .slv 0 Off.SLV_LANE_FLT
  (s.record 0x0405 (w32 k) (w32 code) s.lanesWord).trigger .unit

/-- SLV.CMD_STAT of a completed LANE_TEST. -/
def State.slvDone (s : State) (c : QCmd) (e : Err) (pass : Bool) : State :=
  (s.wrp .slv 0 Off.SLV_CMD_STAT ((statWord e (c.word.fld 8 8)).setBit 25 pass)).irq .slv 0 3

/-- Execute an SLV.CMD (R232): the status at which it completes now, or none while its self-test is outstanding. -/
def State.execSlvCmd (s : State) (c : QCmd) : Option Err × State :=
  let k := c.word.fld 16 3
  let op := c.word.fld 0 4
  if op ≠ 1 ∧ op ≠ 2 then (some .range, s)
  else if !c.priv.ge .service then (some .denied, s)
  else if !slvModeOk s.md.mode then (some .mode, s)
  else if k ≥ s.variant.lanes then (some .absentUnit, s)
  else if op = 1 then
    if (s.lane k).fenced then (none, (s.updLane k fun x => { x with queued := true, cmd := some c }).grant) else (some .state, s)
  else (some .ok, s.updLane k fun x => { x with held := false, fails := 0, since := s.now })

/-- Execute the SLV queue up to a command that waits. -/
def runSlvQueue : List QCmd → State → State
  | [], s => s.setQueue (Page.reg .slv 0 Off.SLV_CMD) []
  | c :: cs, s =>
    match s.execSlvCmd c with
    | (some e, s) => runSlvQueue cs (s.slvDone c e false)
    | (none, s) => s.setQueue (Page.reg .slv 0 Off.SLV_CMD) (c :: cs)

/-- An SLV.CMD enters the queue. -/
def State.slvCmd (s : State) (c : QCmd) : State :=
  let q := s.queue (Page.reg .slv 0 Off.SLV_CMD)
  if q.isEmpty then runSlvQueue [c] s else s.setQueue (Page.reg .slv 0 Off.SLV_CMD) (q ++ [c])

/-- RETEST_S in nanoseconds. -/
def State.retestNs (s : State) : Nat := (s.rdp .slv 0 Off.SLV_CFG).fld 0 16 * sec
/-- RETEST_MAX. -/
def State.retestMax (s : State) : Nat := (s.rdp .slv 0 Off.SLV_CFG).fld 16 4

/-- The retest wait of a fenced lane ends and its self-test is queued (R228). -/
def State.laneRetest (s : State) (k : Nat) : State :=
  let x := s.lane k
  if k < s.variant.lanes && x.fenced && !x.held && !x.queued && x.back == 0 && s.now ≥ x.since + s.retestNs then
    (s.updLane k fun x => { x with queued := true }).grant
  else s

/-- The self-test that holds the lanes ends (R228). A pass of a HELD lane does not return it (log entry 34, DEDUCED). -/
def State.selfTestDone (s : State) (pass : Bool) : State :=
  match s.slv.holder with
  | some (.test k) =>
    let x := s.lane k
    let s := s.freeLanes
    let s := if pass then s.updLane k fun y => { y with queued := false, cmd := none, fails := 0, back := if y.held then 0 else if x.cmd.isSome then 2 else 1 }
      else
        let f := x.fails + 1
        let held := f ≥ s.retestMax
        let s := s.updLane k fun y => { y with queued := false, cmd := none, fails := f, since := s.now, held := y.held || held }
        let s := s.record 0x0405 (w32 k) 3 s.lanesWord
        if held && !x.held then s.record 0x0405 (w32 k) 4 s.lanesWord else s
    let s := s.grant
    match x.cmd with
    | some c =>
      let q := (s.queue (Page.reg .slv 0 Off.SLV_CMD)).drop 1
      runSlvQueue q (s.slvDone c .ok pass)
    | none => s
  | _ => s

/-- A cycle past its deadline commits at once where no lane is in service (R216): nothing, with NO_LANE alone. -/
def State.noLane (s : State) (n : Nat) : State :=
  let drop := fun (f bit : Nat) => if f / bit % 2 == 1 then f - bit else f
  (s.updSlot n fun x => { x with cyc := x.cyc.map fun y => { y with flags := drop (drop y.flags rfDeadline) rfLaneWait } }).finishCycle n .nothing rfNoLane

/-- A cycle is re-executed from its journal (R99): from iterate 1 where the merit of iterate 0 was journaled; the discarded iterates are no candidates.
-/
def State.restartCycle (s : State) (n : Nat) : State :=
  match (s.slot n).cyc with
  | none => s
  | some y =>
    let y' := { y with
      phase := .makingGood, lanes := 0
      done := if y.merit0.isSome then 1 else 0
      best := y.merit0.map fun m => (0, m)
      hashes := y.hashes.take (if y.merit0.isSome then 1 else 0)
      flags := if y.flags / rfPivot % 2 == 1 then y.flags - rfPivot else y.flags }
    let s := s.updSlot n fun x => { x with cyc := some y' }
    let s := match s.slv.holder with | some (.cycle k) => if k = n then s.freeLanes else s | _ => s
    if y.late && s.healthyCount == 0 then s.noLane n else s.grant

/-- A lane faults (R202, R228, R231): fenced; the cycle that runs on it is made good, a build begins again, a self-test fails. -/
def State.laneFault (s : State) (k : Nat) : State :=
  if k ≥ s.variant.lanes then s
  else if (s.lane k).fenced then (match s.slv.holder with | some (.test j) => if j = k then s.selfTestDone false else s | _ => s)
  else match s.slv.holder with
  | some (.cycle n) =>
    let hit := match (s.slot n).cyc with | some y => y.lanes.testBit k | none => false
    let s := s.fenceLane k 1
    if hit then s.trigger (.fault (.slot n) 2) else s
  | some (.build n) =>
    let s := s.fenceLane k 2
    if s.healthyCount == 0 then ((s.updSlot n fun x => if x.build == .running then { x with build := .waiting } else x).freeLanes).grant else s
  | _ => s.fenceLane k 1

/-! The forecaster's update (R182, R184) -/

/-- FORECAST_UPDATE at a grid point of the horizon. -/
def State.gridPoint (s : State) : State :=
  match s.slv.origin with
  | some o => if s.md.mode.tasksRun && s.now > o && (s.now - o) % gridNs == 0 then s.forecastUpdate (s.now - gridNs) else s
  | none => s

/-! Start, switch, SAFE-HOLD -/

/-- Uncommitted cycles are discarded (R64, R231). -/
def State.discardCycles (s : State) : State :=
  let s := { s with slv := { s.slv with slots := s.slv.slots.map fun (x : Slot) => { x with cyc := none } } }
  let s := match s.slv.holder with | some (.cycle _) => s.freeLanes | _ => s
  s.pruneVersions.grant

/-- A new origin at entry to RUN, DEGRADED, MAINTENANCE or STANDBY (R22), where frame 0 begins (R240): cycles number from 1 (R233), each slot starts anew (R596). -/
def State.setOrigin (s : State) : State :=
  { s.newFrames with slv := { s.slv with
    origin := some s.now
    fc := dropMeans s.slv.fc
    slots := s.slv.slots.map fun x => { x with nextNum := 1, started := false, skips := 0, lastB := none } } }

/-- Slots of a profile as they stand at a start (R70, R202, R218): screeds to build, no previous publication; a capture on NAND is kept. -/
def State.startSlots (s : State) (cfgs : List (Option SlotCfg)) (p : DispP) : State :=
  let mk := fun (n : Nat) =>
    let c := cfgs.getD n none
    ({ cfg := c, build := if c.isSome then .waiting else .none, capture := (s.slot n).capture } : Slot)
  { s with slv := { s.slv with
    slots := (List.range 8).map mk, disp := p, holder := none, next := none, refused := false, origin := none, tRet := []
    lanes := List.replicate 8 {} } }

/-- Main memory is lost in P2 (R70, R218): screeds are rebuilt, results and every V-class field of the SLV and SLOT pages are gone (R81, R591); a capture on
NAND is kept. -/
def State.loseScreeds (s : State) : State :=
  { s with slv := { s.slv with
    holder := none, tRet := [], eff := 0, lanes := List.replicate 8 {}
    slots := s.slv.slots.map fun (x : Slot) => ({
      cfg := x.cfg, build := if x.cfg.isSome then .waiting else .none, capture := x.capture, nextNum := x.nextNum, lastB := x.lastB } : Slot) } }

/-- The mapping source of a slot whose structure changes at a switch (R222). -/
def mapSource (old : List Slot) (n : Nat) (c : SlotCfg) : Option Result :=
  let kind := fun (x : Slot) => match x.cfg with | some d => d.kind == c.kind | none => false
  let same := old.getD n {}
  if kind same && same.res.isSome then same.res
  else (old.find? fun x => kind x && x.res.isSome).bind (·.res)

/-- The slots at a switch boundary (R75): old cycles are discarded and counted, unchanged structures keep their screeds, others map by tag. Log entry 96, DEDUCED. -/
def State.switchSlots (s : State) (x : NextSlots) (commission : Bool) : State :=
  let old := s.slv.slots
  let s := (List.range 8).foldl (fun s n => if (s.slot n).cyc.isSome then
      let num := match (s.slot n).cyc with | some y => y.num | none => 0
      let s := ((s.mgAbandon (· == .slot n)).satp .slot n Off.SLOT_OVERRUNS).irq .slot n 4
      (s.updSlot n fun z => { z with
        cyc := none, skips := z.skips + 1, begun := z.begun.map fun b => if b == .taken then .waiting else b }).recordEp 0x0401 (w32 n) (w32 num) 0
    else s) s
  let s := match s.slv.holder with | some (.cycle _) => s.freeLanes | _ => s
  let mk := fun (n : Nat) =>
    let z := s.slot n
    match x.cfgs.getD n none with
    | none => ({ capture := z.capture, nextNum := z.nextNum, begun := z.begun } : Slot)
    | some c =>
      match lookupA n x.built with
      | some y => { z with
          cfg := some c, screed := some y, copy2 := true, vals := [], prevOk := false, src := mapSource old n c, build := .none, outVals := [], outAt := none }
      | none =>
        if x.todo.contains n then
          { z with cfg := some c, screed := none, build := .waiting, vals := [], prevOk := false, src := mapSource old n c, outVals := [], outAt := none }
        else { z with cfg := some c, build := .none }
  let slots := (List.range 8).map mk
  let s := { s with slv := { s.slv with slots := slots, disp := x.disp, next := none, origin := if commission then s.slv.origin else some s.now, fc := dropMeans s.slv.fc } }
  let s := (List.range 8).foldl (fun s n => if (s.slot n).cfg.isNone then s.endCmds n 4 (fun _ => true) .aborted else s) s
  let s := if commission then s else s.newFrames
  s.schedWarns.pruneVersions.grant

/-- The boundary of a switch is the first boundary of every slot of the new profile (R75): each starts from its snapshot, as an engine that starts (R596). Cycle numbers
go on (R233). -/
def State.startSwitched (s : State) : State :=
  let s := { s with slv := { s.slv with slots := s.slv.slots.map fun (x : Slot) => { x with started := false, lastB := none } } }
  (List.range 8).foldl (fun s n => if (s.slot n).cfg.isSome && !s.leaving then s.boundaryAt n else s) s

/-- The slots of a target profile whose structure differs, which a switch builds first (R75). -/
def State.planNext (s : State) (cfgs : List (Option SlotCfg)) (p : DispP) : NextSlots :=
  let todo := (List.range 8).filter fun n => match cfgs.getD n none with
    | some c => !sameScreed (s.slot n).screed (s.makeScreed n c p)
    | none => false
  ⟨cfgs, p, todo, [], false⟩

/-! Load checks (R164, R169, R185, R198, R210) -/

/-- A quantity code of a variable of a problem kind (R167). -/
def varCode (k : SlotKind) (c : Nat) : Bool :=
  match k with
  | .dispatch => 1 ≤ c && c ≤ 0xD
  | .hydraulic => 0x40 ≤ c && c ≤ 0x42

/-- A list without repeats (R168). -/
def distinct (xs : List Nat) : Bool := xs.eraseDups.length == xs.length

/-- A slot configuration within its limits. -/
def slotCfgOk (c : SlotCfg) : Bool :=
  1 ≤ c.iter && c.iter ≤ 65535 && 1000 ≤ c.deadlineUs && c.deadlineUs + 2000 ≤ c.periodMs * 1000 &&
  1 ≤ c.staleMax && c.staleMax ≤ 254 && c.warmShare ≤ 100 && paramsOk c.kind c.params && c.outputs.length ≤ 256 &&
  c.outputs.all (fun o => le o.lo o.hi && fin o.fallback) && (c.cold.map (·.1)).eraseDups.length == c.cold.length &&
  c.cold.all (fun x => varCode c.kind x.1 && fin x.2) &&
  match c.kind with
  | .dispatch => c.hyd.isNone && 10000 ≤ c.periodMs && c.periodMs ≤ 900000 && 900000 % c.periodMs == 0
  | .hydraulic => c.hyd.isSome && !c.shift && 100 ≤ c.periodMs && c.periodMs ≤ 60000

/-- The nodes that edges join to a set of nodes, in at most `fuel` passes. -/
def joined (es : List EdgeP) (seen : List Nat) : Nat → List Nat
  | 0 => seen
  | fuel + 1 =>
    let new := ((es.filterMap fun e =>
      if seen.contains e.a && !seen.contains e.b then some e.b else if seen.contains e.b && !seen.contains e.a then some e.a else none)).eraseDups
    if new.isEmpty then seen else joined es (seen ++ new) fuel

/-- A hydraulic graph within the limits of R25, its identities unique (R168), its ends and measured elements present (R5), every network with a pressure
measurement (R186), its limits in order (R206). -/
def hydOk (h : HydP) : Bool :=
  let ns := h.nodes.map (·.id)
  let es := h.edges.map (·.id)
  h.nodes.length ≤ 65536 && h.edges.length ≤ 98304 && distinct ns && distinct es && (ns ++ es).all (fun i => decide (i < 2 ^ 24)) &&
  h.edges.all (fun e => ns.contains e.a && ns.contains e.b && fin e.q0) && h.nodes.all (fun n => fin n.h0) &&
  h.meas.all (fun m => lt zero m.sigma && (match m.kind with | .head => ns.contains m.elem | _ => es.contains m.elem)) &&
  (joined h.edges ((h.meas.filter (·.kind == .head)).map (·.elem)).eraseDups h.nodes.length).length == h.nodes.length

/-- A pump group's limits, edges and nodes (R185, R193, R206): speeds within 0 to 1.2. -/
def groupOk (cfgs : List (Option SlotCfg)) (g : GroupP) : Bool :=
  le zero g.wMin && le g.wMin g.wMax && le g.wMax (q 12 10) && le g.hMin g.hMax && lt zero g.hCold && fin g.hCold && fin g.flow0 && g.station < 4096 &&
  match cfgs.getD g.slot none with
  | some c => match c.hyd with
    | some h => c.kind == .hydraulic && (h.nodes.any (·.id == g.dis)) && (h.nodes.any (·.id == g.suc)) &&
        g.edges.all fun e => h.edges.any fun x => x.id == e && x.kind == .pump
    | none => false
  | none => false

/-- The dispatch parameters within their limits: unique tags (R168), CHP sides (R172), a commitment of 0 or 1 (R175), positive weights (R176), and bounds and
cold values that give no row with l above u (R206). -/
def dispOk (p : DispP) : Bool :=
  distinct (p.zones.map (·.zone)) && distinct (p.plants.map (·.station)) && distinct (p.stores.map (·.station)) && distinct (p.groups.map (·.station)) &&
  p.zones.all (fun z =>
    z.zone < 256 && p.groups.any (·.station == z.group) && le z.tMin z.tMax && le zero z.hMax && le zero z.rampT &&
    (let c := (deliver z z.tRet0 z.tCold (((p.groups.find? (·.station == z.group)).map (·.hCold)).getD one)).2.2; fin c)) &&
  p.plants.all (fun x =>
    x.station < 4096 && x.subtype ≤ 4 && (x.subtype != 0 || (3 ≤ x.sides.length && x.sides.length ≤ 8)) && (isZ x.commit0 || x.commit0 == one) &&
    le x.pMin x.pMax && le x.qMin x.qMax && le zero x.rampP && le zero x.rampQ && lt zero x.wQ && (x.subtype == 3 || lt zero x.wP) &&
    (!(x.subtype == 1 || x.subtype == 4) || lt zero x.nominal)) &&
  p.stores.all (fun x => x.station < 4096 && le x.eMin x.eMax && le zero x.cMax && le zero x.dMax && lt zero x.wC && lt zero x.wD && fin x.soc0) &&
  match p.grid with
  | some g => le zero g.iMax && le zero g.xMax && [g.ws, g.ws2, g.wI, g.wX, g.rhoT, g.rhoH].all (lt zero ·)
  | none => true

/-- The slots and the dispatch parameters of a profile pass the checks of load. -/
def slotsOk (cfgs : List (Option SlotCfg)) (p : DispP) : Bool :=
  let cs := cfgs.filterMap id
  cs.all slotCfgOk && (cs.filter (·.kind == .dispatch)).length ≤ 1 && cs.all (fun c => match c.hyd with | some h => hydOk h | none => true) &&
  p.groups.length ≤ 128 && p.groups.all (groupOk cfgs) && dispOk p && p.plants.length ≤ 64 && p.stores.length ≤ 32 && p.zones.length ≤ 256 &&
  ((cs.filter (·.kind == .dispatch)).isEmpty || p.grid.isSome)

/-! The SLV and SLOT pages (R196, R232, R233) -/

/-- SLV.CFG accepts a value (R232). -/
def slvCfgOk (w : Word) : Bool := 60 ≤ w.fld 0 16 && w.fld 0 16 ≤ 3600 && 1 ≤ w.fld 16 4

/-- PAGE_STAT[STATE] of a SLOT page (R196). -/
def State.slotPageState (s : State) (n : Nat) : Nat :=
  let x := s.slot n
  match x.cyc with
  | some y => match y.phase with | .waiting => 3 | .solving => 4 | .makingGood => 6
  | none => if x.cfg.isNone then 0 else if x.build != .none then 1 else if x.screed.isSome then 2 else 0

/-- PAGE_STAT[STATE] of the SLV page (R232). -/
def State.slvPageState (s : State) : Nat :=
  match s.slv.holder with
  | none => 0
  | some (.cycle _) => 1
  | some (.build _) => 2
  | some (.test _) => 3

/-- PAGE_STAT[DEGRADED] of the SLV and SLOT pages (R232, R233). -/
def State.slvDegraded (s : State) : Bool := s.laneMask (·.fenced) != 0

/-- Value of offset `o` of the SLV page, where it is computed. -/
def State.slvPageView (s : State) (o : Nat) : Option Word :=
  if o = Off.SLV_LANES then some s.lanesWord
  else if o = Off.SLV_EFF then some s.slv.eff
  else if o = Off.SLV_BUSY then some (match s.slv.holder with
    | none => 0
    | some (.cycle n) => w32 (n + 8)
    | some (.build n) => w32 (n + 16)
    | some (.test _) => 32)
  else if o = Off.SLV_NNZ_USED then some (w32 (s.nnzOthers 8))
  else if o = Off.SLV_UCODE then some s.slv.ucode
  else none

/-- SLOT.STAT (R233). -/
def slotStat (x : Slot) (capt : Bool) : Word :=
  w32 (x.consec + 256 * b2n x.stale + 512 * b2n x.warn + 1024 * b2n x.coldPend + 2048 * b2n capt + 4096 * b2n (x.screed.isSome && x.copy2)
    + 8192 * b2n x.prevOk)

/-- SLOT.CFG of a configuration (R233). -/
def slotCfgWord (c : SlotCfg) : Word :=
  match c.kind with
  | .dispatch => w32 (1 + 8 * b2n c.shift + 65536 * c.iter)
  | .hydraulic => w32 (2 + 4 + 8 * b2n c.shift + 65536 * c.iter)

/-- Value of offset `o` of SLOTn, where it is computed. -/
def State.slotPageView (s : State) (n o : Nat) : Option Word :=
  let x := s.slot n
  let ofC := fun (f : SlotCfg → Nat) => some (match x.cfg with | some c => w32 (f c) | none => 0)
  let ofF := fun (f : Screed → Nat) => some (match x.screed with | some y => w32 (f y) | none => 0)
  let ofR := fun (f : Result → Word) => some (match x.res with | some r => f r | none => 0)
  if o = Off.SLOT_CFG then some (match x.cfg with | some c => slotCfgWord c | none => 0)
  else if o = Off.SLOT_PERIOD_MS then ofC (·.periodMs)
  else if o = Off.SLOT_DEADLINE_US then ofC (·.deadlineUs)
  else if o = Off.SLOT_LIMITS then ofC fun c => c.staleMax + 256 * c.warmShare
  else if o = Off.SLOT_STAT then some (slotStat x (s.captWaits n isOpen))
  else if o = Off.SLOT_SCREED_ID then ofF (·.fig.id.toNat)
  else if o = Off.SLOT_N_VAR then ofF (·.vars.length)
  else if o = Off.SLOT_N_UNK then ofF (·.nUnk)
  else if o = Off.SLOT_NNZ then ofF (·.fig.nnz)
  else if o = Off.SLOT_IDX then ofF (·.fig.idx % 2 ^ 25)
  else if o = Off.SLOT_FLOP_WIDE_K then ofF (·.fig.wideK)
  else if o = Off.SLOT_FLOP_NARROW_K then ofF (·.fig.narrowK)
  else if o = Off.SLOT_TILES then ofF (·.fig.tiles % 128)
  else if o = Off.SLOT_T_IT0_US then ofF (·.fig.tIt0)
  else if o = Off.SLOT_T_FACT_US then ofF (·.fig.tFact)
  else if o = Off.SLOT_T_ITER_US then ofF (·.fig.tIter)
  else if o = Off.SLOT_RES_CYCLE then ofR fun r => w32 r.cycle
  else if o = Off.SLOT_RES_FLAGS then some (w32 x.resFlags)
  else if o = Off.SLOT_RES_ITER then ofR fun r => w32 r.iterW
  else if o = Off.SLOT_RES_A_LO then ofR fun r => lo32 r.a
  else if o = Off.SLOT_RES_A_HI then ofR fun r => hi32 r.a
  else if o = Off.SLOT_RES_B_LO then ofR fun r => lo32 r.b
  else if o = Off.SLOT_RES_B_HI then ofR fun r => hi32 r.b
  else if o = Off.SLOT_RES_MERIT_LO then ofR fun r => lo32 r.merit
  else if o = Off.SLOT_RES_MERIT_HI then ofR fun r => hi32 r.merit
  else if Off.SLOT_RES_HASH0 ≤ o ∧ o < Off.SLOT_RES_HASH0 + 32 then ofR fun r => w32 (leAt r.hash (o - Off.SLOT_RES_HASH0) 4)
  else if o = Off.SLOT_RES_T_US then ofR fun r => w32 r.tUs
  else if o = Off.SLOT_EFF then some x.eff
  else if o = Off.SLOT_WARM_MATCH then some (w32 (x.match_ + 256 * b2n x.declined))
  else none

/-- SLOT.CLR (R233). -/
def State.slotClr (s : State) (n : Nat) (v : Word) : State :=
  if v.bit 0 then
    ([Off.SLOT_OVERRUNS, Off.SLOT_SKIM_REJ, Off.SLOT_DEADLINES, Off.SLOT_SHIFTS, Off.SLOT_STALES].foldl (fun s o => s.wrp .slot n o 0) s).recordClr
      (Page.reg .slot n Off.SLOT_CLR) v
  else s

/-! SDATA (R235–R237) -/

/-- The bytes of a session's staging buffer. -/
def stageBytes (x : Session) (len : Nat) : List Byte :=
  ((List.range 960).flatMap fun k => ((lookupA k x.stage).getD 0).bytes).take len

/-- A record of R177 as bytes give it. -/
def parseSeries (bs : List Byte) : Series :=
  let n := leAt bs 12 2
  ⟨leAt bs 0 1, leAt bs 2 2, ⟨leAt bs 4 4, leAt bs 8 4⟩, leAt bs 14 2, (List.range n).map fun i => BitVec.ofNat 64 (leAt bs (16 + 8 * i) 8)⟩

/-- A series in its byte format. -/
def seriesBytes (x : Series) : List Byte :=
  natLE 1 x.code ++ [0] ++ natLE 2 x.scope ++ natLE 4 x.start.s ++ natLE 4 x.start.ns ++ natLE 2 x.vals.length ++ natLE 2 x.stepS ++
    x.vals.flatMap fun v => natLE 8 v.toNat

/-- The active dispatch slot. -/
def State.isDispatch (s : State) (n : Nat) : Bool := match (s.slot n).cfg with | some c => c.kind == .dispatch | none => false

/-- COMMIT_SERIES (R177, R179, R237). A record whose length does not match its COUNT or whose reserved byte is not zero is refused (log entry 36, DEDUCED). -/
def State.commitSeries (s : State) (x : Session) (len : Nat) : Err × State :=
  let bs := stageBytes x len
  let r := parseSeries bs
  if !s.isDispatch (x.sdSel.fld 0 3) then (.state, s)
  else if len < 16 then (.length, s)
  else if leAt bs 1 1 ≠ 0 then (.format, s)
  else if !(1 ≤ leAt bs 12 2 && leAt bs 12 2 ≤ 192) then (.range, s)
  else if len ≠ 16 + 8 * leAt bs 12 2 then (.length, s)
  else if !seriesOk s.slv.disp r then (.range, s)
  else (.ok, { s with slv := { s.slv with serHist := noteOld s.now s.slv.series s.slv.serHist, series := (s.slv.series.filter fun y => !(y.code == r.code && y.scope == r.scope)) ++ [r] } })

/-- COMMIT_SKIM (R204, R207, R237): header checks, then the skim waits for the next TRIAL. -/
def State.commitSkim (s : State) (x : Session) (len : Nat) : Err × State :=
  let bs := stageBytes x len
  let n := x.sdSel.fld 0 3
  let cnt := leAt bs 12 4
  if len < 16 then (.length, s)
  else if leAt bs 0 2 ≠ 0x4B53 ∨ leAt bs 2 1 ≠ 1 ∨ leAt bs 3 1 > 7 ∨ leAt bs 8 4 ≠ 0 then (.format, s)
  else if len ≠ 16 * (cnt + 1) then (.length, s)
  else
    let id := w32 (leAt bs 4 4)
    if leAt bs 3 1 ≠ n ∨ ((s.slot n).screed.map (·.fig.id)) ≠ some id then (.struct, s)
    else
      let recs := (List.range cnt).map fun i => (⟨leAt bs (16 + 16 * i) 1, leAt bs (20 + 16 * i) 4, BitVec.ofNat 64 (leAt bs (24 + 16 * i) 8)⟩ : SkimRec)
      (.ok, s.updSlot n fun y => { y with hostSkim := some ⟨id, 0, recs⟩ })

/-- Execute an SDATA.CMD of a session (R237). Log entry 35, DEDUCED. -/
def State.sdataCmd (s : State) (c : QCmd) : State :=
  match s.sess? c.sess with
  | none => s
  | some x =>
    let len := c.word.fld 16 12
    let op := c.word.fld 0 4
    let lenOk := 1 ≤ len && len ≤ 3840
    let r : Err × State :=
      if op = 1 then (if !c.priv.ge .operate then (.denied, s) else if !lenOk then (.range, s) else s.commitSeries x len)
      else if op = 2 then
        (if !c.priv.ge .config then (.denied, s) else if s.md.mode != .commission then (.mode, s) else if !lenOk then (.range, s) else s.commitSkim x len)
      else if op = 3 then (.ok, s.updSess c.sess fun y => { y with stage := [] })
      else (.range, s)
    (r.2.updSess c.sess fun y => { y with sdStat := statWord r.1 (c.word.fld 8 8) }).sessIrq c.sess 1

/-- The entries of a read object (R236). -/
def State.sdEntries (s : State) (n obj : Nat) : List (Nat × Word64) :=
  let x := s.slot n
  match obj with
  | 1 => match x.res with | some r => r.tags.zip r.x | none => []
  | 2 => match x.res with | some r => if s.isDispatch n then r.rows.zip r.y else [] | none => []
  | 4 => match x.cfg with | some c => (paramIdx c.kind).map fun i => (i, param c.params i) | none => []
  | 6 => match x.capture with | some c => c.warm | none => []
  | 7 => x.relVals
  | _ => []

/-- An entry as a 16-byte unit. -/
def entryBytes (e : Nat × Word64) : List Byte := natLE 4 e.1 ++ natLE 4 0 ++ natLE 8 e.2.toNat

/-- A captured skim in the format of R204. -/
def captureBytes (n : Nat) (c : Capture) : List Byte :=
  natLE 2 0x4B53 ++ [1] ++ natLE 1 n ++ natLE 4 c.screed.toNat ++ natLE 4 c.cycle ++ natLE 4 c.skim.length ++
    c.skim.flatMap fun r => natLE 1 r.obj ++ [0, 0, 0] ++ natLE 4 r.pos ++ natLE 8 r.val.toNat

/-- The bytes of a read object that a freeze keeps, and the cycle its VIEW shows: results, the capture, the outputs (R235, R236). -/
def State.sdObject (s : State) (n obj : Nat) : List Byte × Nat :=
  let c := (s.slot n).capture
  let cyc := if obj = 5 ∨ obj = 6 then (match c with | some c => c.cycle | none => 0) else match (s.slot n).res with | some r => r.cycle | none => 0
  (if obj = 5 then (match c with | some c => captureBytes n c | none => []) else (s.sdEntries n obj).flatMap entryBytes, cyc)

/-- Objects that show a commit. -/
def sdCommitObjs : List Nat := [1, 2, 5, 6, 7]

/-- The object a session sees, other than STAGE: a frozen read object shows the commit of the freeze (R235, R236); SERIES and PARAM show no commit. -/
def State.sdShown (s : State) (x : Session) : List Byte × Nat :=
  let n := x.sdSel.fld 0 3
  let obj := x.sdSel.fld 4 4
  if obj = 3 then
    (match s.series? (x.sdSel.fld 8 8) (x.sdSel.fld 16 12) with
      | some y => if s.isDispatch n then seriesBytes y else []
      | none => [], 0)
  else if sdCommitObjs.contains obj then (lookupA obj x.sdFrozen).getD (s.sdObject n obj)
  else ((s.sdEntries n obj).flatMap entryBytes, 0)

/-- A session writes SDATA.SEL (R235): setting FREEZE takes the commit then current; changing SLOT ends a freeze. -/
def State.sdSelWrite (s : State) (slot : Nat) (v : Word) : State :=
  match s.sess? slot with
  | none => s
  | some x =>
    let n := v.fld 0 3
    let v := if x.sdSel.bit 3 && x.sdSel.fld 0 3 ≠ n then v.setBit 3 false else v
    if v.bit 3 && !x.sdSel.bit 3 then s.updSess slot fun y => { y with sdSel := v, sdFrozen := sdCommitObjs.map fun o => (o, s.sdObject n o) }
    else if v.bit 3 then s.updSess slot fun y => { y with sdSel := v }
    else s.updSess slot fun y => { y with sdSel := v, sdFrozen := [] }

/-- Value of offset `o` of the SDATA page for a session. -/
def State.sdataView (s : State) (x : Session) (o : Nat) : Option Word :=
  let obj := x.sdSel.fld 4 4
  let start := if obj = 3 then 0 else x.sdSel.fld 8 24
  let (bs, cyc) := s.sdShown x
  let units := if obj = 0 then 240 else (bs.length + 15) / 16
  if o = Off.SDATA_SEL then some x.sdSel
  else if o = Off.SDATA_CMD_STAT then some x.sdStat
  else if o = Off.SDATA_VIEW then some (w32 (if obj = 0 then 0 else cyc))
  else if o = Off.SDATA_INFO then some (w32 (if obj = 0 then 240 else min 240 (units - start)))
  else if o = Off.SDATA_SIZE then some (w32 units)
  else if 0x100 ≤ o then
    let k := (o - 0x100) / 4
    some (if obj = 0 then (lookupA k x.stage).getD 0 else w32 (leAt bs (16 * start + 4 * k) 4))
  else none

/-- A session writes a word of the staging buffer (R235, R237): only while SEL[OBJ] is STAGE. -/
def State.stageWrite (s : State) (slot o : Nat) (v : Word) : State :=
  let k := (o - 0x100) / 4
  s.updSess slot fun y => { y with stage := if v = 0 then eraseA k y.stage else insertA k v y.stage }

end Sys2Proof.Machine
end

