-- ==== Sys2Proof/Machine/Pair.lean ====
section
/-!
DEFINITION. Active and standby pairs (R451–R472): the role token, the PL1 link, comparison, takeover, handover and swap drills.
-/
namespace Sys2Proof.Machine

/-- Update the pair state. -/
def State.updPair (s : State) (f : PairState → PairState) : State := { s with pair := f s.pair }

/-- The module is ACTIVE: it holds the token of a pair. -/
def State.isActive (s : State) : Bool := s.variant.pair && s.pair.token

/-- The active profile. -/
def State.activeProf (s : State) : Option Profile := if s.prof.valid then s.prof.stored.getD s.prof.active none else none

/-- What this module's HELLO carries (R459). -/
def State.ownHello (s : State) : Peer :=
  { id := (List.range 4).map Config.deviceId, posB := s.pair.posB, mode := s.md.mode.code, pkg := s.upd.run.pkg, rev := s.upd.run.rev
    prof := match s.activeProf with | some p => p.crc | none => 0
    safe := s.safe.cfg.crc
    net := match s.net.img with | some i => i.crc | none => 0 }

/-- PAIR.STAT (R471): MIRROR_OFF while the loop is present and the pair runs unmirrored (R458, R470). -/
def State.pairStat (s : State) : Word :=
  let p := s.pair
  w32 (b2n p.token + 2 * b2n p.posB + 4 * b2n p.conflict + 8 * b2n p.pl1Up + 16 * b2n p.session + 32 * b2n p.qualified + 64 * b2n p.peerQual
    + 128 * b2n p.open_ + 256 * b2n (p.loop && !p.session) + 512 * p.relCause)

/-! Qualification (R462) -/

/-- Both modules report the same package and the same CRCs. -/
def State.peerSame (s : State) : Bool :=
  match s.pair.peer with
  | none => false
  | some x =>
    let o := s.ownHello
    x.pkg == o.pkg && x.rev == o.rev && x.prof == o.prof && x.safe == o.safe && x.net == o.net

/-- Every screed of the active profile is resident. -/
def State.allScreeds (s : State) : Bool := s.slv.slots.all fun x => x.cfg.isNone || x.screed.isSome

/-- PAIR.CFG[QUAL_S] in nanoseconds. -/
def State.qualNs (s : State) : Nat := (s.rdp .pair 0 Off.PAIR_CFG).fld 0 16 * sec

/-- The conditions of R462. -/
def State.qualOk (s : State) : Bool :=
  s.md.mode == .standby && s.pair.session && s.peerSame && s.allScreeds && s.now ≥ s.pair.qualFrom + s.qualNs && !s.pair.conflict

/-- QUALIFIED follows its conditions; QUAL_CHG at each change. -/
def State.refreshQual (s : State) : State :=
  if s.variant.pair && s.pair.qualified != s.qualOk then (s.updPair fun p => { p with qualified := !p.qualified }).irq .pair 0 4 else s

/-- The ACTIVE's view of the partner's qualification changes. -/
def State.setPeerQual (s : State) (b : Bool) : State :=
  if s.pair.peerQual != b then (s.updPair fun p => { p with peerQual := b }).irq .pair 0 4 else s

/-! The token (R453–R457) -/

/-- This module stops sourcing the loop (R455): the gates close, ROLE_CHG is set. -/
def State.stopSource (s : State) (cause : Nat) : State :=
  if s.pair.token then
    (s.updPair fun p => { p with token := false, loop := false, absentFrom := some s.now, relCause := cause, sourcing := none }).irq .pair 0 2
  else s.updPair fun p => { p with sourcing := none }

/-- A release that RELEASE announces (R455, R464). -/
def State.releaseFirst (s : State) (cause : Nat) : State := (if s.pair.token then s.pl1Send (.release cause) else s).stopSource cause

/-- A PAIR.CMD completes (R472). -/
def State.pairDone (s : State) (c : QCmd) (e : Err) : State := s.complete .pair 0 Off.PAIR_CMD_STAT e (c.word.fld 8 8)

/-- Complete a command that was kept while it waited. -/
def State.pairDoneOpt (s : State) (c : Option QCmd) (e : Err) : State := match c with | some c => s.pairDone c e | none => s

/-- A handover past its instant ends on the loop current alone (R467): its command completes with `e`. -/
def State.endHandover (s : State) (e : Err) : State :=
  match s.pair.ho with
  | some h => if h.agree && s.now ≥ h.at_ then (s.updPair fun p => { p with ho := none }).pairDoneOpt h.cmd e else s
  | none => s

/-- PAIR.DRILL_CFG[PERIOD_D], HOUR, SWAP_BACK and HOLD_S. -/
def State.drillCfg (s : State) : Nat × Nat × Bool × Nat :=
  let w := s.rdp .pair 0 Off.PAIR_DRILL_CFG
  (w.fld 0 8, w.fld 8 5, w.bit 16, w.fld 20 12)

/-- The next TAI second after `t` at which a drill falls due (log entry 50, DEDUCED). -/
def drillAfter (t days hour : Nat) : Nat :=
  let d := t / 86400
  let k := d / days * days
  let a := k * 86400 + hour * 3600
  if a > t then a else a + days * 86400

/-- TAI seconds of the time base. -/
def State.taiS (s : State) : Nat := s.taiNs s.now / sec

/-- Set when the next drill falls due. -/
def State.planDrill (s : State) : State :=
  let (days, hour, _, _) := s.drillCfg
  s.updPair fun p => { p with drillDue := if days = 0 then none else some (drillAfter s.taiS days hour), drillNext := none }

/-- What the handover of `h` leaves on both modules: the count, its record, the drill's hold and when the next falls due. -/
def State.handedOver (s : State) (h : Handover) (mine : Bool) : State :=
  let s := (s.satp .pair 0 Off.PAIR_HANDOVERS).updPair fun p => { p with hoFrame := some (h.at_ + 300 * us) }
  if h.drill then (s.updPair fun p => { p with drill := some ⟨h.at_, h.up, if mine then none else h.cmd, mine⟩ }).planDrill
  else s.record 0x0D04 1 0 (w32 h.up)

/-- This module's sense reaches 16 mA while it sources: it holds the token (R453), and the handover that gives it is made (R467). -/
def State.gainToken (s : State) : State :=
  let again := s.pair.brk.isSome
  let s := (s.updPair fun p => { p with
    token := true, loop := true, absentFrom := none, sourcing := none, held := true, open_ := false, brk := none, tryAt := none,
    released := p.released && !again,
    relAt := if p.released then p.relAt else p.absentFrom }).irq .pair 0 2
  let s := match s.pair.ho with
    | some h => if h.agree && s.now ≥ h.at_ && s.pair.byHandover then s.handedOver h true else s
    | none => s
  let s := s.endHandover .state
  if again then s else s.trigger .tokenGained

/-- The module seeks the token (R456): in BOOT at its role decision, in STANDBY, after a loop interruption of its own. -/
def State.seeks (s : State) : Bool :=
  s.variant.pair && !s.pair.token &&
  (s.md.mode == .standby || (s.md.mode == .boot && !s.pair.conflict) || (s.pair.brk.isSome && s.md.mode != .boot && s.md.mode != .dormant))

/-- The time for which the loop must have stayed absent (R454, R457). -/
def State.takeNs (s : State) : Nat :=
  (if s.pair.released then ms else 10 * ms) +
  (if s.md.mode == .boot && s.pair.posB then (if s.pair.session then 500 * ms else 10 * sec) else 0)

/-- The loop has been absent for the take interval. -/
def State.mayTake (s : State) : Bool :=
  s.seeks && s.pair.tryAt.isNone && s.pair.sourcing.isNone && (match s.pair.absentFrom with | some t => !s.pair.loop && s.now ≥ t + s.takeNs | none => false)

/-- Source the loop: `est` when this module's source establishes the current. -/
def State.source (s : State) (est : Bool) : State := if est then s.gainToken else s.updPair fun p => { p with sourcing := some s.now }

/-- PL2_LOOP_ABSENT (R454). -/
def State.loopAbsent (s : State) : State :=
  if s.variant.pair && s.pair.loop && !s.pair.token then s.updPair fun p => { p with loop := false, absentFrom := some s.now } else s

/-- TOKEN_TAKE_INTERVAL (R454). BOOT sources at its end only, by its role decision (R456, R457). -/
def State.takeInterval (s : State) (est : Bool) : State := if s.mayTake && s.md.mode != .boot then s.source est else s

/-- The pause before the next try (R456): the module that held the token last, or position A, comes first. -/
def State.firstTry (s : State) : Nat :=
  if s.pair.open_ || s.pair.held || (!s.pair.posB && !s.pair.peerToken) then sec else sec + 500 * ms

/-- PL2_OPEN_TIMEOUT (R456): 5 ms of sourcing without 16 mA. -/
def State.openTimeout (s : State) : State :=
  match s.pair.sourcing with
  | none => s
  | some t =>
    if s.now < t + 5 * ms then s
    else
      let s := s.updPair fun p => { p with sourcing := none, tryAt := some (s.now + s.firstTry), open_ := true }
      s.recordGen 0x0D .pair 0 Off.PAIR_STAT s.pairStat

/-- PL2_RETRY (R456). -/
def State.pl2Retry (s : State) (est : Bool) : State :=
  match s.pair.tryAt with
  | none => s
  | some t => if s.seeks && !s.pair.loop && s.now ≥ t then (s.updPair fun p => { p with tryAt := none }).source est else s

/-- PL2_LOOP_INTERRUPTION (R456): the gates close; mode and engines go on; sourcing stops after 5 ms. -/
def State.loopBroken (s : State) : State :=
  if s.isActive then
    (s.updPair fun p => { p with token := false, loop := false, absentFrom := some s.now, sourcing := some s.now, brk := some s.now }).irq .pair 0 2
  else s

/-- PL2_LOOP_PRESENT (R454, R456): `own` when this module's own source carries the current, otherwise its partner holds the token. -/
def State.loopPresent (s : State) (own : Bool) : State :=
  if !s.variant.pair || s.pair.token then s
  else if own then (if s.pair.sourcing.isSome then s.gainToken else s)
  else
    let wasBrk := s.pair.brk.isSome
    let s := s.updPair fun p => { p with loop := true, absentFrom := none, released := false, sourcing := none, tryAt := none, open_ := false, held := false, brk := none, byHandover := false }
    let s := s.endHandover .ok
    if wasBrk && s.md.mode.drives then s.trigger .toStandby else s

/-- The token is lost after a fault (R455): the token-loss restart follows. Log entry 68, DEDUCED. -/
def State.faultRelease (s : State) (cause : Nat) (say : Bool) : State :=
  if s.isActive then (if say then s.releaseFirst cause else s.stopSource cause).trigger (.tokenLost cause) else s

/-! Takeover and handover (R465–R467) -/

/-- The next number of each reserved series starts a new block (R107, R160). -/
def State.nextBlocks (s : State) : State :=
  { s with
    evt := { s.evt with block := ⟨s.evt.nextBlock, s.evt.nextBlock⟩, granted := [] }
    net := { s.net with stns := s.net.stns.map fun (x : Stn) => { x with
      dseq := ⟨x.dnext, x.dnext⟩
      dtls := x.dtls.map fun d => { d with records := (d.records + 4095) / 4096 * 4096 } } } }

/-- A station is UP. -/
def upStations (s : State) : List Nat := (s.net.stns.filter fun x => x.num != 0 && x.st == .up).map (·.num)

/-- Every shadow epoch in progress ends (R465): slot cycles, the samples of the frame that has begun, task cycles that await their re-execution, what metering has not
committed. -/
def State.endShadows (s : State) : State :=
  let s := s.discardCycles
  { s with
    lp := { s.lp with loops := s.lp.loops.map fun (l : Loop) => { l with jr := none, due := none, sampled := some s.frameStart } }
    prg := { s.prg with tasks := s.prg.tasks.map fun (x : Task) => { x with job := none } }
    mtr := { s.mtr with w := s.mtr.c, jrn := [] } }

/-- The new ACTIVE goes on from its shadow state (R465 and the continuity rules it names): sessions of UP stations, the service address, CAN, Polien, billing,
the time base. -/
def State.continue_ (s : State) : State :=
  let s := (s.endShadows).nextBlocks
  let s := s.segsTakeover.polTakeover.timeTakeover
  let s := s.billFlag allPts 3
  let s := if (s.rdp .net 0 Off.NET_SVC_ADDR) != 0 then s.emit (.arp 0 (s.rdp .net 0 Off.NET_SVC_ADDR)) else s
  s.updPair fun p => { p with arrived := [], ran := [] }

/-- The new ACTIVE's first message to each UP station is a COMMAND set with RESYNC and FULL (R160). -/
def State.resyncStations (s : State) : State := (upStations s).foldl (fun s st => s.sendFull st true) s

/-- Nothing mirrored stands from the last second while PL1 was down (R466). -/
def State.unmirrored (s : State) : Bool := !s.pair.pl1Up && !(match s.pair.whole with | some t => s.now ≤ t + sec | none => false)

/-- Every engine starts; metering estimates the gap since the former ACTIVE's last COMMIT (R466). -/
def State.startEngines (s : State) : State :=
  let s := (s.startLoops).startTasks
  let s := match s.pair.whole with | some t => s.estGap (s.now - t) 0 | none => s
  { s with slv := { s.slv with slots := s.slv.slots.map fun (x : Slot) => { x with res := none, prevOk := false } } }

/-- The event numbers that a takeover skips (R107): those of the last reservation received that no record stored here carries, and what this module had left of the
blocks granted to it. Log entry 53, DEDUCED. -/
def takeSkipped (e : EvtState) : Nat :=
  ((List.range (e.peer.stop - e.peer.next)).filter fun k => !(e.log.any fun r => r.seq == e.peer.next + k)).length +
  (e.block.stop - e.block.next) + (e.granted.map fun b => b.stop - b.next).foldl (· + ·) 0

/-- The release cause of the former ACTIVE (R471): RELEASE says it; without one it is one of the rows that send none, which of them is open (log entry 52, DESIGN CHOICE). -/
def State.takeCause (s : State) : Nat × State :=
  if s.pair.released then (s.pair.relCause, s)
  else let (k, s) := s.fresh 52; ([1, 4, 5].getD (k % 3) 1, s)

/-- Takeover (R465, R466): the making good of R110 lasted from the token's release to now. Log entry 104, DEDUCED. -/
def State.takeover (s : State) (cause : Nat) (relAt : Nat) : State :=
  let unm := s.unmirrored
  let skipped := takeSkipped s.evt
  let s := if unm then s.startEngines else s
  let s := s.continue_
  let us10 := min 65535 ((s.now - relAt) / (10 * us))
  let s := ((s.modp .ord 0 Off.ORD_MG_COUNT).wrp .ord 0 Off.ORD_MG_LAST (mgWord 6 0 6 (s.now - relAt))).irq .ord 0 2
  let s := s.updPair fun p => { p with relCause := cause }
  let s := (s.satp .pair 0 Off.PAIR_TAKEOVERS).wrp .pair 0 Off.PAIR_TAKE_LAST (w32 (cause + 8 * b2n unm + 65536 * us10))
  s.record 0x0D01 (w32 (cause + 8 * b2n unm)) (w32 skipped) (w32 s.pair.masks)

/-- What a handover needs of the ACTIVE (R467): a QUALIFIED partner, RUN, DEGRADED or MAINTENANCE, no mask. -/
def State.mayHandOver (s : State) : Bool :=
  s.isActive && s.pair.session && s.pair.peerQual && s.md.mode.drives && s.prg.masks.isEmpty

/-- R467 allows a handover. -/
def State.handoverOk (s : State) : Bool := s.mayHandOver && s.pair.ho.isNone

/-- The first instant 0.7 ms after a frame start and at least 20 ms ahead (R467); `phase` is where in a millisecond frames start. -/
def hoInstant (phase now : Nat) : Nat := (now + 20 * ms + ms - 1 - 700 * us - phase) / ms * ms + 700 * us + phase

/-- Where in a millisecond the frames of the cycle timer start (R240). -/
def State.framePhase (s : State) : Nat := s.lp.frame0 % ms

/-- Propose a handover (R467). -/
def State.propose (s : State) (drill : Bool) (cmd : Option QCmd) : State :=
  let h : Handover := { at_ := hoInstant s.framePhase s.now, agree := false, drill := drill, up := (upStations s).length, cmd := cmd }
  (s.updPair fun p => { p with ho := some h }).pl1Send (.handover h.at_ false drill h.up)

/-- A proposed handover is abandoned (R467, R470). -/
def State.dropHandover (s : State) : State :=
  match s.pair.ho with
  | none => s
  | some h => if s.now ≥ h.at_ && h.agree then s else (s.updPair fun p => { p with ho := none }).pairDoneOpt h.cmd .state

/-- HANDOVER_INSTANT (R467, R470): the ACTIVE stops sourcing where a handover is still allowed, the partner takes the token, its take interval waived. -/
def State.handoverInstant (s : State) (est : Bool) : State :=
  match s.pair.ho with
  | none => s
  | some h =>
    if s.now < h.at_ then s
    else if !h.agree then s.dropHandover
    else if s.pair.token && !s.mayHandOver then (s.updPair fun p => { p with ho := none }).pairDoneOpt h.cmd .state
    else if s.pair.token then
      let s := (s.stopSource 6).handedOver h false
      let s := s.updPair fun p => { p with ho := if h.drill then none else some h }
      s.trigger .toStandby
    else if s.md.mode == .standby then
      (s.updPair fun p => { p with relCause := 6, byHandover := true }).source est
    else s.updPair fun p => { p with ho := none }

/-! Swap drills (R469) -/

/-- A drill ends with a result (R469, R471): 1 pass, 2 fail, 3 missed. -/
def State.drillResult (s : State) (res cause up : Nat) : State :=
  let w := s.rdp .pair 0 Off.PAIR_DRILL_STAT
  let n := if res = 3 then w.fld 16 16 else satAdd 65535 (w.fld 16 16) 1
  ((s.wrp .pair 0 Off.PAIR_DRILL_STAT (w32 (res + 16 * cause + 65536 * n))).irq .pair 0 6).record 0x0D04 (w32 (res + 1)) (w32 cause) (w32 up)

/-- A slot reports STALE or a profile switch is pending: a drill waits (R469, R470). -/
def State.drillWaits (s : State) : Bool := s.slv.slots.any (·.stale) || s.prof.switch.isSome

/-- DRILL_DUE (R469): the drill is proposed, waits an hour, or is recorded as MISSED after 24 h; a module that is not ACTIVE notes when the next falls due. -/
def State.drillDue (s : State) : State :=
  match s.pair.drillDue with
  | none => s
  | some due =>
    if !s.isActive then (if s.taiS < due then s else s.planDrill)
    else if s.taiS < due || !(match s.pair.drillNext with | some t => s.now ≥ t | none => true) then s
    else if s.handoverOk && !s.drillWaits then (s.updPair fun p => { p with drillNext := some (s.now + 3600 * sec) }).propose true none
    else if s.taiS ≥ due + 86400 then (s.drillResult 3 0 (upStations s).length).planDrill
    else s.updPair fun p => { p with drillNext := some (s.now + 3600 * sec) }

/-- The failure cause that the new ACTIVE finds during the hold (R469): 1 a fence, 2 a readback mismatch, 3 more than 1 % of UP stations lost; 0 none. -/
def State.drillFail (s : State) (up : Nat) : Nat :=
  if s.fld.grps.any (·.cause.isSome) || s.can.segs.any (·.st == .fenced) then 1
  else if (List.range s.variant.slices).any fun k => isOut (s.slc (k + 1)).cfg.func && (s.slc (k + 1)).reason == 8 then 2
  else if 100 * (upStations s).length < 99 * up then 3 else 0

/-- The end of a drill on this module: the result, the command that asked for it, the way back. -/
def State.endDrill (s : State) (d : Drill) (cause : Nat) : State :=
  let s := s.updPair fun p => { p with drill := none }
  let s := (s.drillResult (if cause = 0 then 1 else 2) cause d.up).pairDoneOpt d.cmd .ok
  let (_, _, back, _) := s.drillCfg
  if d.mine && (cause ≠ 0 || back) && s.handoverOk then s.propose false none else s

/-- During a hold the new ACTIVE ends a failed drill at once (R469). -/
def State.drillCheck (s : State) : State :=
  match s.pair.drill with
  | some d => if d.mine && s.pair.token && s.now > d.start + 1300 * us && s.drillFail d.up ≠ 0 then s.endDrill d (s.drillFail d.up) else s
  | none => s

/-- DRILL_HOLD_END (R469). The former ACTIVE learns the cause, 0 for a pass, from the new one. -/
def State.drillHoldEnd (s : State) (cause : Nat) : State :=
  match s.pair.drill with
  | none => s
  | some d =>
    let (_, _, _, hold) := s.drillCfg
    if s.now < d.start + hold * sec then s
    else if d.mine then s.endDrill d (s.drillFail d.up)
    else s.endDrill d (min cause 3)

/-! PAIR.CMD (R472) -/

/-- Address of PAIR.CMD's queue. -/
def pairCmdAddr : Nat := Page.reg .pair 0 Off.PAIR_CMD

/-- BIND (R472). -/
def State.pairBind (s : State) (c : QCmd) : State :=
  if !c.priv.ge .config then s.pairDone c .denied
  else if s.md.mode != .commission then s.pairDone c .mode
  else match s.pair.pl1Up, s.pair.peer with
    | true, some x =>
      let s := (List.range 4).foldl (fun s k => s.wrp .pair 0 (Off.PAIR_PEER_ID0 + 4 * k) (x.id.getD k 0)) s
      (s.recordGen 0x0D .pair 0 Off.PAIR_PEER_ID0 (x.id.getD 0 0)).pairDone c .ok
    | _, _ => s.pairDone c .state

/-- HANDOVER and DRILL_NOW (R472): outside RUN, DEGRADED and MAINTENANCE a HANDOVER completes with MODE and a DRILL_NOW, which R467 does not allow there, with STATE. -/
def State.pairMove (s : State) (c : QCmd) (drill : Bool) : State :=
  if !c.priv.ge .operate then s.pairDone c .denied
  else if !drill && !s.md.mode.drives then s.pairDone c .mode
  else if !s.handoverOk || (drill && s.drillWaits) then s.pairDone c .state
  else s.propose drill (some c)

/-- Execute a PAIR.CMD (R472). -/
def State.execPairCmd (s : State) (c : QCmd) : State :=
  match c.word.fld 0 4 with
  | 1 => s.pairBind c
  | 2 => s.pairMove c false
  | 3 => s.pairMove c true
  | _ => s.pairDone c .range

/-- A PAIR.CMD is still under way. -/
def State.pairBusy (s : State) : Bool :=
  (match s.pair.ho with | some h => h.cmd.isSome | none => false) || (match s.pair.drill with | some d => d.cmd.isSome | none => false)

/-- Execute waiting PAIR.CMDs while none is under way (OP-3). -/
def runPairQueue : List QCmd → State → State
  | [], s => s.setQueue pairCmdAddr []
  | c :: cs, s => if s.pairBusy then s.setQueue pairCmdAddr (c :: cs) else runPairQueue cs (s.execPairCmd c)

/-- Execute what waits in PAIR.CMD's queue. -/
def State.runPair (s : State) : State := runPairQueue (s.queue pairCmdAddr) s

/-! The PL1 link (R458, R459) -/

/-- PL1 goes up or down: PL1_CHG. -/
def State.pl1Chg (s : State) (up : Bool) : State :=
  if s.pair.pl1Up != up then (s.updPair fun p => { p with pl1Up := up }).irq .pair 0 3 else s

/-- The session with the bound partner starts: numbering from the beginning, HELLO, a block of event numbers for the partner of the ACTIVE (R518; log entry 54, DEDUCED). -/
def State.sessionUp (s : State) : State :=
  let s := s.updPair fun p => { p with session := true, rxSeq := 0, txSeq := 0, unacked := [], resentAt := none, qualFrom := s.now, peer := none, acks := [] }
  s.pl1Send (.hello s.ownHello)

/-- PL1_LINK_START (R458): the partner's identity and whether its signature verifies. -/
def State.linkStart (s : State) (id : List Word) (sigOk : Bool) : State :=
  if !s.variant.pair || !s.md.pstate.cmp then s
  else
    let s := s.pl1Chg true
    let own := (List.range 4).map fun k => s.rdp .pair 0 (Off.PAIR_PEER_ID0 + 4 * k)
    if id == own && sigOk then s.sessionUp
    else
      let s := s.updPair fun p => { p with session := false }
      s.record 0x0D03 (id.getD 0 0) (own.getD 0 0) (if id == own then 2 else 1)

/-- PL1 is without power: no session, nothing under way on it. -/
def State.pl1Off (s : State) : State := s.updPair fun p => { p with session := false, unacked := [], acks := [], peer := none, arrived := [] }

/-- PL1 is lost (R458, R459). -/
def State.linkLost (s : State) : State := ((s.pl1Chg false).pl1Off.setPeerQual false).dropHandover

/-- PL1_LINK_DOWN (R459): 2 ms without a valid frame; a proposed handover is abandoned (R467). -/
def State.linkDown (s : State) : State :=
  if s.pair.pl1Up && (match s.pair.lastRx with | some t => s.now ≥ t + 2 * ms | none => true) then s.linkLost.ackAllApplied else s

/-- PL1_RETRANSMIT (R459): every frame from the first unacknowledged on, 200 µs after that one was sent last. -/
def State.pl1Retransmit (s : State) : State :=
  match s.pair.unacked with
  | [] => s
  | (_, _, t) :: _ =>
    if s.now < max t (s.pair.resentAt.getD 0) + 200 * us then s
    else
      let s := s.pair.unacked.foldl (fun s (x : Nat × Pl1Out × Nat) => s.emit (.pl1 x.1 s.pair.rxSeq x.2.1)) s
      s.updPair fun p => { p with resentAt := some s.now }

/-- PL1_HEARTBEAT_TX (R459): every 250 µs. -/
def State.heartbeatTx (s : State) : State :=
  if s.pair.session && (match s.pair.hbAt with | some t => s.now ≥ t + 250 * us | none => true) then
    (s.updPair fun p => { p with hbAt := some s.now }).pl1Send (.heartbeat (s.slv.origin.map (s.now - ·)) s.pair.token s.md.mode.code)
  else s

/-- PAIR.MIRROR_US when a COMMIT is acknowledged (R471). -/
def State.mirrorTime (s : State) (acked : List (Nat × Pl1Out × Nat)) : State :=
  acked.foldl (fun s (x : Nat × Pl1Out × Nat) => match x.2.1 with
    | .commit .. =>
      let d := min 65535 ((s.now - x.2.2) / us)
      let w := s.rdp .pair 0 Off.PAIR_MIRROR_US
      s.wrp .pair 0 Off.PAIR_MIRROR_US (w32 (d + 65536 * max d (w.fld 16 16)))
    | _ => s) s

/-- A frame whose tag holds arrives: accepted in SEQ order within the session, or dropped (R459). -/
def State.pl1Rx (s : State) (h : Pl1Hdr) : Option State :=
  if !s.pair.session || !s.md.pstate.cmp then none
  else
    let s := s.updPair fun p => { p with lastRx := some s.now }
    if h.seq ≠ pl1Next s.pair.rxSeq then none
    else
      let s := s.mirrorTime (s.pair.unacked.filter fun x => pl1Acked h.ack x.1)
      some (s.updPair fun p => { p with rxSeq := h.seq, unacked := p.unacked.filter fun x => !pl1Acked h.ack x.1 })

/-- The effect of a frame, or none where it is dropped. -/
def State.pl1Do (s : State) (h : Pl1Hdr) (f : State → State) : State :=
  match s.pl1Rx h with
  | some s => (f s).ackAllApplied
  | none => if s.pair.pl1Up then s.updPair fun p => { p with lastRx := some s.now } else s

/-- Both modules read the same position (R457). -/
def State.posCheck (s : State) (x : Peer) : State :=
  let same := x.posB == s.pair.posB
  let new := same && !s.pair.conflict
  let s := s.updPair fun p => { p with conflict := same }
  if new && s.md.mode != .boot then s.recordGen 0x0D .pair 0 Off.PAIR_STAT s.pairStat else s

/-- HELLO (R459). -/
def State.hello (s : State) (x : Peer) : State :=
  let s := (s.updPair fun p => { p with peer := some x, peerMode := x.mode }).posCheck x
  if s.isActive && x.mode = Mode.standby.code then
    let e := s.evt.nextBlock
    ({ s with evt := { s.evt with nextBlock := e + evtBlock } }).pl1Send (.reserve .events e (e + evtBlock) true)
  else s

/-- A HELLO frame: read also before the session is up (R472, BIND). -/
def State.helloRx (s : State) (h : Pl1Hdr) (x : Peer) : State :=
  if s.pair.session then s.pl1Do h fun s => s.hello x
  else if s.pair.pl1Up then (s.updPair fun p => { p with lastRx := some s.now }).hello x
  else s

/-- The cycle timer of a STANDBY is aligned to the ACTIVE's boundaries (R21): `timer` is what the ACTIVE's shows now, counted from the origin of R22. Log entry 102,
DESIGN CHOICE. -/
def State.alignTimer (s : State) (timer : Option Nat) : State :=
  match timer with
  | some t => if s.md.mode == .standby then { s with slv := { s.slv with origin := some (s.now - t) }, lp := { s.lp with frame0 := s.now - t } } else s
  | none => s

/-- HEARTBEAT (R459): cycle timer, role and mode of the partner; a handover completes at the new ACTIVE's first frame (R472). -/
def State.heartbeat (s : State) (timer : Option Nat) (token : Bool) (mode : Nat) : State :=
  let s := (s.alignTimer timer).updPair fun p => { p with peerToken := token, peerMode := mode }
  match s.pair.ho with
  | some h => if token && h.agree && s.now ≥ h.at_ && !s.pair.token then (s.updPair fun p => { p with ho := none }).pairDoneOpt h.cmd .ok else s
  | none => s

/-! Mirrored inputs (R460) -/

/-- The instant from which an engine's mirrored inputs count their age: a loop's input latch, else now (R241, R460). -/
def State.inputsAt (s : State) : Eng → Nat
  | .loop n => s.latchAt n s.frameStart
  | _ => s.now

/-- INPUTS for an engine: converted values of slices and received CAN signals as the ACTIVE latched them, each with its quality and its age there. -/
def State.inputs (s : State) (e : Eng) (slcs : List (Nat × Word64 × Qual × Nat)) (cans : List (Nat × Nat × Word64 × Qual × Nat)) : State :=
  if s.md.mode != .standby then s
  else
    let at_ := s.inputsAt e
    let s := slcs.foldl (fun s (x : Nat × Word64 × Qual × Nat) =>
      (s.loadInput x.1 x.2.1 (s.slc x.1).raw x.2.2.1 0).updSlc x.1 fun y => { y with at_ := if x.2.2.2 ≤ at_ then some (at_ - x.2.2.2) else none }) s
    let s := cans.foldl (fun s (x : Nat × Nat × Word64 × Qual × Nat) =>
      let at_ := at_ - x.2.2.2.2
      let s := s.updSeg x.1 fun g =>
        { g with rxVals := if x.2.2.2.1 == .bad then g.rxVals.filter (·.1 != x.2.1) else insertA x.2.1 (x.2.2.1, at_) g.rxVals }
      match (sigOf (s.seg x.1) x.2.1).bind (·.point) with
      | some l => s.localPoint l x.2.2.1 x.2.2.2.1 (s.time64At at_)
      | none => s) s
    s.updPair fun p => { p with arrived := (p.arrived.erase e) ++ [e] }

/-- DATASET: a station's set as applied, with its version and the next uplink SEQ (R460, R138, R160); a station that is not UP after it has left, and the set is the
synthetic one of R142. -/
def State.dataset (s : State) (st ver : Nat) (time : Time64) (es : List PtEntry) (up : Bool) (useq : Nat) : State :=
  if s.md.mode != .standby then s
  else match s.stn? st with
    | none => s
    | some x =>
      let s := s.newVersion st (if up then applyEntries s.now time x.pts es else x.pts.map fun p => { p with qual := .bad, reason := .stationDown, at_ := s.now })
      let s := s.updStn st fun x => { x with
        ver := ver, useq := useq, st := if up then .up else if x.st == .up then .down else x.st
        dtls := if up then x.dtls.map fun d => { d with helloOk := true } else none }
      s.updPair fun p => { p with arrived := (p.arrived.erase (.ingest st)) ++ [.ingest st] }

/-- RESERVE (R107, R160, R518): a block the ACTIVE reserved, or granted to this STANDBY, or the traffic secrets of a station's session. -/
def State.reserveRx (s : State) (c : Counter) (from_ to_ : Nat) (grant : Bool) : State :=
  match c with
  | .events =>
    let s := { s with evt := { s.evt with nextBlock := max s.evt.nextBlock to_, peer := if grant then s.evt.peer else ⟨from_, to_⟩ } }
    if grant && !s.pair.token then ({ s with evt := { s.evt with granted := s.evt.granted ++ [(⟨from_, to_⟩ : Block)] } }).resumeNumbering else s
  | .downSeq st => s.updStn st fun x => { x with dnext := to_, dseq := ⟨to_, to_⟩ }
  | .records st => s.updStn st fun x => { x with dtls := x.dtls.map fun d => { d with records := to_ } }
  | .secrets st g hello key => s.updStn st fun x => { x with
      kgen := g, nextOk := x.nextOk && g == x.kgen, dtls := some { gen := g, keyedAt := s.now, records := 0, helloOk := hello, secret := key } }

/-! Comparison (R461–R463) -/

/-- The state of an engine instance as STATE carries it. -/
def State.engState (s : State) : Eng → EngState
  | .loop n => .loop n (s.loop n)
  | .task n => .task n (s.task n)
  | .slot n => .slot n (s.slot n)
  | .ingest n => .ingest n ((s.stn? n).getD { num := n, enabled := false, st := .unconf, kgen := 0 })
  | .metering | .safety => .metering s.mtr.c

/-- Adopt an instance's state (R461). -/
def State.adopt (s : State) : EngState → State
  | .loop n x => s.updLoop n fun _ => x
  | .task n x => s.updTask n fun _ => x
  | .slot n x => s.updSlot n fun _ => x
  | .ingest n x => s.updStn n fun _ => x
  | .metering x => { s with mtr := { s.mtr with w := x, c := x, jrn := [], recNext := x.recNo } }

/-- The outcome of a comparison (R461): whether the digests agree, this module's first digest was wrong although its re-execution is sound (`glitch`), and
a cause of R461 explains a difference. -/
def outcome (same glitch explained : Bool) : Verdict :=
  if same && !glitch then .match_ else if explained then .explained else if same then .corrected else .persistent

/-- PAIR.MM_LAST of a comparison. -/
def mmWord (e : Eng) (k : Nat) : Word := w32 (e.code + 16 * (e.inst % 256) + 4096 * k)

/-- Count a comparison on this module (R461, R471). -/
def State.countVerdict (s : State) (e : Eng) (v : Verdict) (own peer : Word64) : State :=
  match v with
  | .match_ => s.modp .pair 0 Off.PAIR_CMP_EPOCHS
  | .explained => (s.satp .pair 0 Off.PAIR_MM_EXPL).wrp .pair 0 Off.PAIR_MM_LAST (mmWord e 1)
  | .corrected =>
    (((s.satf .pair 0 Off.PAIR_MISMATCH 0 16).wrp .pair 0 Off.PAIR_MM_LAST (mmWord e 2)).irq .pair 0 5).record 0x0D02 (mmWord e 2) (lo32 own) (lo32 peer)
  | .persistent =>
    (((s.satf .pair 0 Off.PAIR_MISMATCH 16 16).wrp .pair 0 Off.PAIR_MM_LAST (mmWord e 3)).irq .pair 0 5).record 0x0D02 (mmWord e 3) (lo32 own) (lo32 peer)

/-- The STANDBY's handling of an outcome: its counts, QUALIFIED at a persistent one, VERDICT with a request for STATE, which it also makes where `ask`. Log entry 82, DEDUCED. -/
def State.compared (s : State) (e : Eng) (v : Verdict) (own peer : Word64) (ask : Bool := false) : State :=
  let s := s.countVerdict e v own peer
  let s := if v == .persistent then (s.updPair fun p => { p with qualFrom := s.now }).refreshQual else s
  s.pl1Send (.verdict e v (ask || v == .explained || v == .persistent) s.pair.qualified)

/-- COMMIT (R461, R324, R446): mirrored metering and Polien state, the ACTIVE's masks, and the comparison where this module's shadow epoch ran. -/
def State.commitRx (s : State) (e : Eng) (digest : Word64) (glitch explained : Bool) (accts : Option Accts) (pol : List PolMirror) (masks : Nat) : State :=
  if s.md.mode != .standby then s
  else
    let own := Config.outDigest (s.engState e)
    let ran := s.pair.ran.contains e
    let s := match accts with | some a => { s with mtr := { s.mtr with w := a, c := a, jrn := [], recNext := a.recNo } } | none => s
    let s := s.polMirrored pol
    let s := s.updPair fun p => { p with masks := masks, whole := some s.now, ran := p.ran.erase e }
    if ran then s.compared e (outcome (own == digest) glitch explained) own digest else s

/-- VERDICT on the ACTIVE (R461–R463): a request is answered with STATE, for a slot with the published iterate in RESULT before it. Log entry 82, DEDUCED. -/
def State.verdictRx (s : State) (e : Eng) (v : Verdict) (own peer : Word64) (want qual : Bool) : State :=
  if !s.isActive then s
  else
    let s := (s.countVerdict e v own peer).setPeerQual qual
    if want then
      let s := match e with
        | .slot n => (match (s.slot n).res with | some r => s.pl1Send (.result n r.x r.y) | none => s)
        | _ => s
      s.pl1Send (.state (s.engState e))
    else s

/-- A STANDBY's slot takes its cycle number from the ACTIVE (R233): the cycle in progress, or the shadow cycle that awaits its comparison, is cycle `c`; without one the
next boundary takes the number after it. -/
def State.takeNumber (s : State) (n c : Nat) : State :=
  let x := s.slot n
  let own := match x.cyc with
    | some y => some y.num
    | none => if s.pair.ran.contains (.slot n) then x.lastCyc.map (·.num) else none
  match own with
  | none => s.updSlot n fun z => { z with nextNum := c + 1 }
  | some k =>
    if k = c then s
    else s.updSlot n fun z => { z with
      nextNum := z.nextNum + c - k
      cyc := z.cyc.map fun (y : Cycle) => { y with num := c }
      lastCyc := if z.cyc.isSome then z.lastCyc else z.lastCyc.map fun (y : Cycle) => { y with num := c }
      res := if z.cyc.isSome then z.res else z.res.map fun (r : Result) => if r.cycle = k then { r with cycle := c } else r }

/-- The shadow publication of a slot takes the ACTIVE's selection (R463): its own copy of the published iterate where it holds one, otherwise RESULT follows;
CONSEC, STALE and PREV_OK follow the ACTIVE. -/
def State.iterhash (s : State) (n cycle : Nat) (hashes : List (List Byte)) (sel : Option Nat) (shifted : List Byte) (consec : Nat) (stale prevOk glitch : Bool) : State :=
  if s.md.mode != .standby then s
  else
    let s := s.takeNumber n cycle
    let x := s.slot n
    let k := min x.iters.length hashes.length
    let ranIt := (match x.lastCyc with | some y => y.num == cycle | none => false)
    let same := match sel with
      | some _ => x.iters.take k == hashes.take k
      | none => (match x.res with | some r => r.hash.take 8 == shifted | none => false)
    let s := if ranIt then s.compared (.slot n) (outcome same glitch false) (BitVec.ofNat 64 (leNat (x.iters.getLastD []))) (BitVec.ofNat 64 (leNat (hashes.getLastD [])))
        (match sel with | some j => x.iters.length ≤ j | none => false) else s
    let s := match sel, x.cfg, x.screed, x.lastCyc with
      | some j, some c, some d, some y =>
        if y.num = cycle ∧ j < x.iters.length then
          match s.pubResult n c d y (.iterate j) with
          | some r => s.updSlot n fun z => { z with res := some r }
          | none => s
        else s
      | _, _, _, _ => s
    s.updSlot n fun z => { z with consec := consec, stale := stale, prevOk := prevOk }

/-- RESULT (R463): the published iterate that this STANDBY does not hold. -/
def State.resultRx (s : State) (n : Nat) (x y : List Word64) : State :=
  if s.md.mode != .standby then s
  else s.updSlot n fun z => { z with res := z.res.map fun r => { r with x := x, y := y, hash := solHash r.tags x } }

/-- RELEASE (R454, R464). -/
def State.releaseRx (s : State) (cause : Nat) : State :=
  if s.pair.token then s else s.updPair fun p => { p with released := true, relCause := cause, relAt := some s.now }

/-- HANDOVER (R467): a QUALIFIED STANDBY agrees to a proposal; the ACTIVE takes the agreement. -/
def State.handoverRx (s : State) (at_ : Nat) (agree drill : Bool) (up : Nat) : State :=
  if agree then s.updPair fun p => { p with ho := p.ho.map fun h => if h.at_ = at_ then { h with agree := true } else h }
  else if s.md.mode == .standby && s.pair.qualified && s.now < at_ then
    (s.updPair fun p => { p with ho := some { at_ := at_, agree := true, drill := drill, up := up } }).pl1Send (.handover at_ true drill up)
  else s

/-- An epoch of the ACTIVE commits: INPUTS and COMMIT carry it to the partner (R460, R461); a slot's ITERHASH goes before (R463), a station's DATASET in place
of INPUTS. -/
def State.pairCommit (s : State) (e : Eng) : State :=
  if s.isActive && s.pair.session && (s.md.mode.drives || e == .metering || e.isIngest) then
    let s := match e with
      | .slot n => let x := s.slot n
        s.pl1Send (.iterhash n (match x.lastCyc with | some y => y.num | none => 0) x.iters (match x.res with | some r => r.hash.take 8 | none => []))
      | _ => s
    let s := match e with
      | .ingest n => (match s.stn? n with
        | some x => s.pl1Send (.dataset n x.ver (x.st == StnState.up) x.useq)
        | none => s)
      | e => s.pl1Send (.inputs e)
    s.pl1Send (.commit e (Config.outDigest (s.engState e)) s.prg.masks.length)
  else s

/-- The engine instance has committed an epoch between two states: its marks of the last one differ. -/
def State.committed (s t : State) : Eng → Bool
  | .loop n => (s.loop n).commitAt != (t.loop n).commitAt
  | .task n => (s.task n).last != (t.task n).last
  | .slot n => (s.slot n).lastCyc != (t.slot n).lastCyc
  | .ingest n => (match s.stn? n, t.stn? n with | some x, some y => x.ver != y.ver | _, _ => false)
  | .metering => s.mtr.lastEnd != t.mtr.lastEnd
  | .safety => false

/-- The stations an epoch addressed, those whose downlink numbers went on between two states, with the reservation of each (R91). -/
def addressed (s t : State) : List (Nat × Nat) :=
  (t.net.stns.filter fun x => match s.stn? x.num with | some y => y.dseq != x.dseq || y.dnext != x.dnext | none => true).map fun x => (x.num, x.dnext)

/-- What may commit an epoch of `e`: a CMP engine writes its commit record (R91), and the commit is mirrored. -/
def State.withCommit (s : State) (e : Eng) (f : State → State) : State :=
  let t := f s
  if s.committed t e then (if e.onCmp then t.noteCommit e (addressed s t) else t).pairCommit e else t

/-! PAIR page (R471) -/

/-- PAIR.CFG accepts a value. -/
def pairCfgOk (w : Word) : Bool := 10 ≤ w.fld 0 16 && w.fld 0 16 ≤ 3600

/-- PAIR.DRILL_CFG accepts a value. -/
def drillCfgOk (w : Word) : Bool := w.fld 0 8 ≤ 60 && w.fld 8 5 ≤ 23 && 60 ≤ w.fld 20 12

/-- PAIR.CLR (R471). -/
def State.pairClr (s : State) (v : Word) : State :=
  if v.bit 0 then
    ([Off.PAIR_CMP_EPOCHS, Off.PAIR_MISMATCH, Off.PAIR_MM_EXPL, Off.PAIR_MM_LAST, Off.PAIR_TAKE_LAST, Off.PAIR_HANDOVERS].foldl
      (fun s o => s.wrp .pair 0 o 0) s).recordClr (Page.reg .pair 0 Off.PAIR_CLR) v
  else s

/-- Registers of the PAIR page that show state. -/
def State.pairPageView (s : State) (o : Nat) : Option Word :=
  if o = Off.PAIR_STAT then some s.pairStat
  else if o = Off.PAIR_PL2_UA then some (Config.measure (Page.reg .pair 0 o) s.now &&& 0xFFFF)
  else if o = Off.PAIR_DRILL_NEXT_S then some (match s.pair.drillDue with | some t => w32 t | none => 0)
  else none

/-- PAGE_STAT[STATE] of the PAIR page. -/
def State.pairPageState (s : State) : Nat :=
  if !s.pair.session then 0
  else if s.pair.token then (if s.pair.peerQual then 1 else 2)
  else if s.pair.qualified then 3 else 4

end Sys2Proof.Machine
end

