-- ==== Sys2Proof/Machine/Panel.lean ====
section
/-!
DEFINITION. The status panel (R528–R546): the band and the host region, updates, temperature, the charge ledger, power loss.
-/
namespace Sys2Proof.Machine

/-- Update the panel state. -/
def State.updPanel (s : State) (f : PanelState → PanelState) : State := { s with panel := f s.panel }

/-- The band's items now (R530); on the way into DORMANT the band shows DORMANT (R66). -/
def State.bandNow (s : State) : Band :=
  { variant := s.variant
    netid := match s.net.img with | some i => i.netid | none => 0
    token := s.pair.token, posB := s.pair.posB
    mode := match s.md.crossing with | some c => if c.cmd.word.fld 0 4 = 0 then 0 else s.md.mode.code | none => s.md.mode.code
    decom := s.keys.lcs == 3
    safety := s.safePageState
    notRun := ((List.range 32).filter fun n => (s.fnCfg n).isSome && (s.fn n).st != .run).length
    forced := s.prg.masks.length
    lastSeq := s.lastSeq, full := s.evt.full
    crcs := [match s.activeProf with | some p => p.crc | none => 0, match s.prg.img with | some g => g.crc | none => 0, s.safe.cfg.crc,
      match s.net.img with | some i => i.crc | none => 0] }

/-- The tile rectangle of the band, of the host region, of the whole panel (R528). -/
def bandRect : Rect := ⟨0, 49, 0, 8⟩
/-- See `bandRect`. -/
def hostRect : Rect := ⟨0, 49, 9, 37⟩
/-- See `bandRect`. -/
def wholeRect : Rect := ⟨0, 49, 0, 37⟩

/-- The bounding rectangle of two (R533). -/
def joinRect (a b : Rect) : Rect := ⟨min a.x0 b.x0, max a.x1 b.x1, min a.y0 b.y0, max a.y1 b.y1⟩

/-- Tile (c, r) lies in the rectangle. -/
def inRect (a : Rect) (c r : Nat) : Bool := a.x0 ≤ c && c ≤ a.x1 && a.y0 ≤ r && r ≤ a.y1

/-- Level of pixel (x, y) of an image (R529). -/
def level (m : Image) (x y : Nat) : Nat :=
  if y < 72 then Config.bandPixel m.band x y % 4
  else ((lookupA ((y - 72) * 25 + x / 16) m.host).getD 0).fld (2 * (x % 16)) 2

/-- Host words of image `new` inside the rectangle and of `old` outside it: a word spans two tile columns. -/
def mergeHost (a : Rect) (old new : List (Nat × Word)) : List (Nat × Word) :=
  (List.range (228 * 25)).filterMap fun k =>
    let r := (72 + k / 25) / 8
    let c := 2 * (k % 25)
    let o := (lookupA k old).getD 0
    let n := (lookupA k new).getD 0
    let w := (if inRect a c r then n &&& 0xFFFF else o &&& 0xFFFF) ||| (if inRect a (c + 1) r then n &&& 0xFFFF0000 else o &&& 0xFFFF0000)
    if w = 0 then none else some (k, w)

/-- What an update over a rectangle leaves on the panel. -/
def mergeImage (a : Rect) (old new : Image) : Image :=
  { band := if a.y0 ≤ 8 then new.band else old.band, host := if a.y1 ≥ 9 then mergeHost a old.host new.host else old.host }

/-- Pixels that a waveform drives: every one in a full update, those whose level changes in a partial one (R532; log entry 56, DEDUCED). -/
def pixDriven (w : Wave) (shown : Image) (x y : Nat) : Bool :=
  w.full || (inRect w.rect (x / 8) (y / 8) && level shown x y != level w.target x y)

/-- The ledger of a pixel. -/
def ledgerOf (l : List (Nat × Int)) (p : Nat) : Int := (lookupA p l).getD 0

/-- Store a ledger, saturated at ±32,767 (R540). -/
def putLedger (l : List (Nat × Int)) (p : Nat) (v : Int) : List (Nat × Int) :=
  let v := clampI (-32767) 32767 v
  if v = 0 then eraseA p l else insertA p v l

/-- A ledger moved toward zero by `n`. -/
def toward (v : Int) (n : Nat) : Int := if v ≥ 0 then max 0 (v - n) else min 0 (v + n)

/-- Frames that correct ledgers ahead of a waveform (R540): as many as the largest driven ledger needs, at most 8. -/
def corrFrames (l : List (Nat × Int)) (w : Wave) (shown : Image) : Nat :=
  l.foldl (fun m e => if pixDriven w shown (e.1 % 400) (e.1 / 400) then max m (min 8 e.2.natAbs) else m) 0

/-- Frames of a waveform (R532). -/
def waveFrames (full : Bool) : Nat := if full then 60 else 15

/-- One frame of the panel (R532). -/
def panelFrameNs : Nat := 20 * ms

/-- The signed sum of the first `k` frames of a waveform for a pixel. -/
def waveSum (w : Wave) (a b k : Nat) : Int := ((List.range k).map fun j => Config.waveDrive w.tband w.full a b j).foldl (· + ·) 0

/-- The ledger of a driven pixel after `k` frames of an update, correcting frames first (R540, R542). -/
def pixAfter (l : List (Nat × Int)) (w : Wave) (shown : Image) (k p : Nat) : Int :=
  toward (ledgerOf l p) (min k (min 8 w.corr)) + waveSum w (level shown (p % 400) (p / 400)) (level w.target (p % 400) (p / 400)) (k - w.corr)

/-- Every ledger after `k` frames of an update. -/
def ledgerAfter (l : List (Nat × Int)) (w : Wave) (shown : Image) (k : Nat) : List (Nat × Int) :=
  (List.range (400 * 300)).foldl (fun m p => if pixDriven w shown (p % 400) (p / 400) then putLedger m p (pixAfter l w shown k p) else m) l

/-- A ledger would pass its limit after `k` frames (R540). -/
def ledgerPasses (l : List (Nat × Int)) (w : Wave) (shown : Image) (k : Nat) : Bool :=
  (List.range (400 * 300)).any fun p => pixDriven w shown (p % 400) (p / 400) && 32767 < (pixAfter l w shown k p).natAbs

/-- The temperature lies inside the update range (R536). -/
def inUpdate (t : Int) : Bool := -200 ≤ t && t ≤ 600

/-- The waveform band of a temperature (R536). -/
def tempBand (t : Int) : Nat := min 7 ((t + 200) / 100).toNat

/-- The temperature holds updates (R538): it lies outside the update range, or an update held since then waits for a reading within −19 to +59 °C. -/
def panelHolds (p : PanelState) : Bool := !p.tempOk || p.held

/-- Start the pending update when the panel is idle and the temperature allows it (R533, R537). -/
def State.panelNext (s : State) : State :=
  let p := s.panel
  match p.pend, p.temp with
  | some r, some t =>
    if p.run.isSome || p.comp > 0 || panelHolds p || !s.md.pstate.ctl then s
    else
      let rect := if r.full then wholeRect else r.rect
      let tgt := mergeImage rect p.shown { band := some s.bandNow, host := p.stage }
      let w : Wave := { num := p.num + 1, full := r.full, rect := rect, tband := tempBand t, corr := 0, done := 0, start := s.now, target := tgt }
      let w := { w with corr := corrFrames p.ledger w p.shown }
      s.updPanel fun p => { p with
        num := p.num + 1, pend := none, run := some w, target := tgt, tband := w.tband
        evtFrom := if rect.y0 ≤ 8 then none else p.evtFrom }
  | _, _ => s

/-- Request an update (R533): merged into the pending one, counted as held while the temperature holds it (R538). Log entry 90, DEDUCED. -/
def State.panelReq (s : State) (full : Bool) (rect : Rect) : State :=
  let r : PanelReq := match s.panel.pend with
    | some p => ⟨p.full || full, joinRect p.rect rect, p.at_⟩
    | none => ⟨full, rect, s.now⟩
  let s := s.updPanel fun p => { p with pend := some r }
  let s := if s.panel.temp.isSome && panelHolds s.panel then ((s.updPanel fun p => { p with held := true }).satp .disp 0 Off.DISP_HELD).irq .disp 0 3 else s
  s.panelNext

/-- The items whose change redraws the band at once (R531). -/
def bandKey (b : Band) : Band := { b with lastSeq := 0, full := false }

/-- The band follows its items (R531): a change of the event count alone waits for BAND_S. -/
def State.bandCheck (s : State) : State :=
  if !s.md.pstate.ctl then s
  else
    let b := s.bandNow
    match s.panel.seen with
    | none => (s.updPanel fun p => { p with seen := some b }).panelReq false bandRect
    | some o =>
      if bandKey o != bandKey b then (s.updPanel fun p => { p with seen := some b }).panelReq false bandRect
      else if o != b then s.updPanel fun p => { p with seen := some b, evtFrom := match p.evtFrom with | some t => some t | none => some s.now }
      else s

/-- PANEL_BAND_TIMER (R531): BAND_S seconds after an event-count change without a redraw. -/
def State.bandTimer (s : State) : State :=
  match s.panel.evtFrom with
  | some t => if s.md.pstate.ctl && s.now ≥ t + (s.rdp .disp 0 Off.DISP_CFG).fld 0 8 * sec then (s.updPanel fun p => { p with evtFrom := none }).panelReq false bandRect else s
  | none => s

/-- Tiles with a pixel that frame `k` of the running update drives (R539). -/
def frameTiles (w : Wave) (shown : Image) (l : List (Nat × Int)) (k : Nat) : List Nat :=
  (List.range (50 * 38)).filter fun i =>
    (List.range 64).any fun j =>
      let x := 8 * (i % 50) + j % 8
      let y := 8 * (i / 50) + j / 8
      y < 300 && pixDriven w shown x y &&
        (if k < w.corr then k < (ledgerOf l (400 * y + x)).natAbs else Config.waveDrive w.tband w.full (level shown x y) (level w.target x y) (k - w.corr) != 0)

/-- Count a driven frame in tiles' stress counters. -/
def addStress (m : List (Nat × Nat)) (tiles : List Nat) : List (Nat × Nat) :=
  tiles.foldl (fun m i => insertA i (satAdd max32 ((lookupA i m).getD 0) 1) m) m

/-- Total frames of an update. -/
def waveTotal (w : Wave) : Nat := w.corr + waveFrames w.full

/-- The compensating step drives one frame (R543). At its end COMPENSATED, INTERRUPTS, and the full update of the stored target image. -/
def State.compFrame (s : State) : State :=
  let tiles := (s.panel.ledger.map fun e => e.1 / 400 / 8 * 50 + e.1 % 400 / 8).eraseDups
  let s := s.updPanel fun p => { p with
    ledger := p.ledger.foldl (fun m e => putLedger m e.1 (toward e.2 1)) p.ledger, stress := addStress p.stress tiles, comp := p.comp - 1
    compAt := s.now + panelFrameNs }
  if s.panel.comp = 0 then ((s.updPanel fun p => { p with compOk := true, prog := none }).satp .disp 0 Off.DISP_INTERRUPTS).panelNext else s

/-- PANEL_FRAME (R541): at a frame start the progress word holds the frames completed. -/
def State.panelFrame (s : State) : State :=
  if !s.md.pstate.ctl then s
  else match s.panel.run with
  | none => if s.panel.comp > 0 && s.now ≥ s.panel.compAt && !panelHolds s.panel then s.compFrame else s
  | some w =>
    if w.done < waveTotal w && s.now ≥ w.start + w.done * panelFrameNs then
      s.updPanel fun p => { p with
        prog := some (w, false), run := some { w with done := w.done + 1 }, stress := addStress p.stress (frameTiles w p.shown p.ledger w.done) }
    else s

/-- PANEL_WAVEFORM_END (R533). -/
def State.waveformEnd (s : State) : State :=
  match s.panel.run with
  | none => s
  | some w =>
    if s.now < w.start + waveTotal w * panelFrameNs then s
    else
      let l := s.panel.ledger.foldl (fun m e => if pixDriven w s.panel.shown (e.1 % 400) (e.1 / 400) then putLedger m e.1 (toward e.2 8) else m) s.panel.ledger
      let s := s.updPanel fun p => { p with run := none, prog := none, shown := w.target, ledger := l, lastMs := min 65535 (waveTotal w * 20) }
      (((s.modp .disp 0 Off.DISP_UPDATES).irq .disp 0 2)).panelNext

/-- PANEL_TEMP_READ (R536, R538): the film temperature in 0.1 °C. Log entry 90, DEDUCED. -/
def State.panelTemp (s : State) (t : Int) : State :=
  if !s.md.pstate.ctl then s
  else
    (s.updPanel fun p => { p with
      temp := some t, tempOk := inUpdate t
      held := if inUpdate t then p.held && !(-190 ≤ t && t ≤ 590) else p.held || p.pend.isSome || p.comp > 0 }).panelNext

/-- Supply failure (R542): the frame in progress is finished, ledgers take the frames completed, the waveform is marked INTERRUPTED. -/
def State.panelGasp (s : State) : State :=
  match s.panel.run with
  | none => s
  | some w =>
    let l := ledgerAfter s.panel.ledger w s.panel.shown w.done
    let sat := ledgerPasses s.panel.ledger w s.panel.shown w.done
    s.updPanel fun p => { p with run := none, prog := some (w, true), ledger := l, sat := p.sat || sat }

/-- Supply lost before the panel's phase: the running waveform leaves its progress word as it stands (R543). -/
def State.panelLost (s : State) : State := s.updPanel fun p => { p with run := none }

/-- The start of the panel (R535, R543): the staging image, the compensating step after an interrupted waveform. -/
def State.panelStart (s : State) : State :=
  let s := s.updPanel fun p => { p with
    temp := none, tempOk := false, held := false, run := none, pend := none, stage := p.shown.host, compOk := false, est := false, sat := false, tband := 0, lastMs := 0
    evtFrom := none, seen := none, comp := 0, compAt := 0 }
  match s.panel.prog with
  | none => s
  | some (w, done) =>
    let l := if done then s.panel.ledger else ledgerAfter s.panel.ledger w s.panel.shown (w.done + 1)
    let sat := !done && ledgerPasses s.panel.ledger w s.panel.shown (w.done + 1)
    let s := s.updPanel fun p => { p with
      ledger := l, prog := some (w, true), est := !done, sat := sat, stage := p.target.host
      pend := some ⟨true, wholeRect, s.now⟩, comp := l.foldl (fun m e => max m e.2.natAbs) 0 }
    if s.panel.comp = 0 then (s.updPanel fun p => { p with compOk := true, prog := none }).satp .disp 0 Off.DISP_INTERRUPTS else s

/-! DISP page (R545, R546) -/

/-- A DISP.CMD completes. -/
def State.dispDone (s : State) (c : QCmd) (e : Err) : State := s.complete .disp 0 Off.DISP_CMD_STAT e (c.word.fld 8 8)

/-- DISP.RECT as a rectangle. -/
def rectOf (w : Word) : Rect := ⟨w.fld 0 6, w.fld 8 6, w.fld 16 6, w.fld 24 6⟩

/-- The rectangle lies in the host region. -/
def rectOk (a : Rect) : Bool := a.x0 ≤ a.x1 && a.y0 ≤ a.y1 && a.x1 ≤ 49 && 9 ≤ a.y0 && a.y1 ≤ 37

/-- Execute a DISP.CMD (R546). -/
def State.execDispCmd (s : State) (c : QCmd) : State :=
  let op := c.word.fld 0 4
  if op = 1 then
    let a := rectOf (s.rdp .disp 0 Off.DISP_RECT)
    if !c.priv.ge .operate then s.dispDone c .denied
    else if !(s.rdp .disp 0 Off.DISP_CFG).bit 8 then s.dispDone c .state
    else if c.word.bit 16 then (s.panelReq true hostRect).dispDone c .ok
    else if !rectOk a then s.dispDone c .range
    else (s.panelReq false a).dispDone c .ok
  else if op = 2 then
    if !c.priv.ge .operate then s.dispDone c .denied else (s.panelReq false bandRect).dispDone c .ok
  else s.dispDone c .range

/-- DISP.CLR (R545). -/
def State.dispClr (s : State) (v : Word) : State :=
  if v.bit 0 then (s.wrp .disp 0 Off.DISP_HELD 0).recordClr (Page.reg .disp 0 Off.DISP_CLR) v else s

/-- DISP.CFG and DISP.SEL accept a value. -/
def dispCfgOk (w : Word) : Bool := 10 ≤ w.fld 0 8
/-- See `dispCfgOk`. -/
def dispSelOk (w : Word) : Bool := 72 ≤ w.fld 0 9 && w.fld 0 9 ≤ 299

/-- The staging word that DISP.BUFn shows (R535); none past row 299. -/
def State.dispWord (s : State) (o : Nat) : Option Nat :=
  let k := ((s.rdp .disp 0 Off.DISP_SEL).fld 0 9 - 72) * 25 + (o - Off.DISP_BUF0) / 4
  if k < 228 * 25 then some k else none

/-- Write DISP.BUFn. -/
def State.dispBuf (s : State) (o : Nat) (v : Word) : State :=
  match s.dispWord o with
  | some k => s.updPanel fun p => { p with stage := if v = 0 then eraseA k p.stage else insertA k v p.stage }
  | none => s

/-- Registers of the DISP page that show state. -/
def State.dispPageView (s : State) (o : Nat) : Option Word :=
  let p := s.panel
  if o = Off.DISP_STAT then
    some (w32 (p.tband + 8 * b2n p.tempOk + 16 * b2n p.pend.isSome + 32 * b2n p.compOk + 64 * b2n p.est + 128 * b2n p.sat))
  else if o = Off.DISP_TEMP then some (sw32 (p.temp.getD 0) &&& 0xFFFF)
  else if o = Off.DISP_STRESS_MAX then some (w32 (p.stress.foldl (fun m e => max m e.2) 0))
  else if o = Off.DISP_LEDGER_MAX then some (w32 (p.ledger.foldl (fun m e => max m e.2.natAbs) 0))
  else if o = Off.DISP_LAST_MS then some (w32 p.lastMs)
  else if Off.DISP_BUF0 ≤ o ∧ o < 0xFD8 then some (match s.dispWord o with | some k => (lookupA k p.stage).getD 0 | none => 0)
  else none

/-- PAGE_STAT[STATE] of the DISP page (R545). -/
def State.dispPageState (s : State) : Nat :=
  let p := s.panel
  if p.comp > 0 then (if panelHolds p then 3 else 2)
  else if p.run.isSome then 1 else if p.pend.isSome && p.temp.isSome && panelHolds p then 3 else 0

end Sys2Proof.Machine
end

