-- ==== Sys2Proof/Machine/Power.lean ====
section
/-!
DEFINITION. The supply (R555–R568): inputs and thresholds, the hold-up store, the last-gasp sequence, contacts and indicators.
-/
namespace Sys2Proof.Machine

/-- Update the supply state. -/
def State.updPwr (s : State) (f : PwrState → PwrState) : State := { s with pwr := f s.pwr }

/-! Contacts and indicators (R556, R557) -/

/-- The RUN_OK contact is closed. -/
def State.runOk (s : State) : Bool := (s.md.mode.drives && s.hasToken && s.pwr.gasp.isNone) || (s.md.mode == .standby && s.pair.qualified)

/-- The FAULT contact is closed. -/
def State.faultOk (s : State) : Bool :=
  s.md.mode != .boot && s.md.mode != .safeHold && s.md.mode != .dormant && !s.safe.lockout && s.pwr.gasp.isNone

/-- PWR.IND (R567): CTL drives the indicators. -/
def State.indWord (s : State) : Word :=
  if !s.md.pstate.ctl then 0
  else
    let run := s.md.mode.drives || s.md.mode == .commission
    let fault := !s.faultOk || s.pwr.holdLow || s.pwr.high
    w32 (b2n (s.pwr.inA || s.pwr.inB) + 2 * b2n run + 4 * b2n (s.variant.pair && s.pair.token) + 8 * b2n fault + 16 * b2n (!s.prg.masks.isEmpty))

/-- PWR.STAT (R567). -/
def State.pwrStat (s : State) : Word :=
  let p := s.pwr
  w32 (b2n p.inA + 2 * b2n p.inB + 4 * b2n (p.inA && p.lowA || p.inB && p.lowB) + 8 * b2n (p.highA || p.highB) + 16 * b2n p.holdLow + 32 * b2n p.charging
    + 64 * b2n p.high + 128 * b2n p.overTemp + 256 * b2n s.runOk + 512 * b2n s.faultOk + 1024 * b2n p.test.isSome)

/-- AON is powered: every power state but P4. -/
def State.aon (s : State) : Bool := s.md.pstate != .p4

/-! Inputs (R558, R560) -/

/-- SUPPLY_INPUT_CHANGE (R558): PWR-A (`b` false) or PWR-B becomes present or absent after its filter. -/
def State.inputChange (s : State) (b present : Bool) : State :=
  let was := if b then s.pwr.inB else s.pwr.inA
  if was == present then s
  else
    let s := s.updPwr fun p => if b then { p with inB := present, lowB := present && p.lowB } else { p with inA := present, lowA := present && p.lowA }
    if !s.aon then s
    else
      let s := if present then s else s.satf .pwr 0 Off.PWR_IN_LOSSES (if b then 16 else 0) 16
      let s := s.irq .pwr 0 2
      if s.md.mode == .dormant then s
      else s.record 0x1201 s.pwrStat (Config.measure (Page.reg .pwr 0 Off.PWR_VIN_A_MV) s.now &&& 0xFFFF) (Config.measure (Page.reg .pwr 0 Off.PWR_VIN_B_MV) s.now &&& 0xFFFF)

/-- SUPPLY_VOLTAGE_ALARM (R560): of PWR-A or PWR-B, the low or the high condition is met or cleared. An input holds UNDERVOLT below 19.2 V and, while
UNDERVOLT is set, below 19.6 V. Log entry 91, DEDUCED. -/
def State.voltageAlarm (s : State) (b high on : Bool) : State :=
  if !s.aon then s
  else s.updPwr fun p => match b, high with
    | false, false => { p with lowA := on && p.inA }
    | true, false => { p with lowB := on && p.inB }
    | false, true => { p with highA := on }
    | true, true => { p with highB := on }

/-- BASEPLATE_TEMP (R560): the temperature in 0.1 °C, held for 1 s. With CTL off nothing writes FRAM (R563) and CMP is off already. -/
def State.baseplate (s : State) (t : Int) : State :=
  if !s.aon then s
  else if !s.md.pstate.ctl then
    let was := s.pwr.high
    let s := s.updPwr fun p => { p with tBase := t, high := t ≥ 1050 || p.high && t ≥ 1000, overTemp := t ≥ 1150 || p.overTemp }
    if s.pwr.high && !was then s.irq .pwr 0 4 else s
  else
    let s := s.updPwr fun p => { p with tBase := t }
    let tw := sw32 t &&& 0xFFFF
    let m := s.rdp .pwr 0 Off.PWR_T_BASE_MAX
    let s := if (m.setWidth 16).toInt < t then s.wrp .pwr 0 Off.PWR_T_BASE_MAX tw else s
    let s := if t ≥ 1050 && !s.pwr.high then (((s.updPwr fun p => { p with high := true }).irq .pwr 0 4).record 0x1203 tw 1 0)
      else if t < 1000 && s.pwr.high then (s.updPwr fun p => { p with high := false }).record 0x1203 tw 2 0 else s
    if t ≥ 1150 && !s.pwr.overTemp then
      (((s.updPwr fun p => { p with overTemp := true }).record 0x1203 tw 3 0)).trigger (.safeHold .cmpFault 0x1203)
    else s

/-! The hold-up store (R565, R568) -/

/-- PWR.HOLDUP_MJ is loaded: HOLDUP_LOW below 1,000 mJ; the command that asked completes. Log entry 91, DEDUCED. -/
def State.holdupLoad (s : State) (mj : Nat) : State :=
  let by_ := s.pwr.test
  let low := mj < 1000
  let s := s.updPwr fun p => { p with holdMj := min 8191 mj, holdLow := low, charging := p.charging && low, test := none, lastTest := some s.now }
  let s := if low then (s.irq .pwr 0 3).record 0x1202 (w32 (min 8191 mj)) 1 0 else s
  match by_ with
  | some (.cmd c, _) => s.complete .pwr 0 Off.PWR_CMD_STAT .ok (c.word.fld 8 8)
  | _ => s

/-- HOLDUP_MEASURE (R565): at a start or after 24 h; a store below 766 mJ is measured by its voltage at once. -/
def State.holdupMeasure (s : State) (mj : Nat) : State :=
  let due := match s.pwr.lastTest with | some t => s.now ≥ t + 24 * 3600 * sec | none => true
  if !s.aon || s.pwr.gasp.isSome || s.pwr.test.isSome || !due then s
  else
    let s := s.updPwr fun p => { p with test := some (.own, s.now) }
    if mj < 766 then s.holdupLoad mj else s

/-- HOLDUP_MEASURE_END (R565). -/
def State.holdupEnd (s : State) (mj : Nat) : State := if s.pwr.test.isSome then s.holdupLoad mj else s

/-- Execute a PWR.CMD (R568). -/
def State.execPwrCmd (s : State) (c : QCmd) : State :=
  let done := fun (e : Err) => s.complete .pwr 0 Off.PWR_CMD_STAT e (c.word.fld 8 8)
  if c.word.fld 0 4 ≠ 1 then done .range
  else if !c.priv.ge .operate then done .denied
  else if s.pwr.test.isSome || s.pwr.charging then done .state
  else s.updPwr fun p => { p with test := some (.cmd c, s.now) }

/-- Address of PWR.CMD's queue. -/
def pwrCmdAddr : Nat := Page.reg .pwr 0 Off.PWR_CMD

/-- A PWR.CMD is under way. -/
def State.pwrBusy (s : State) : Bool := match s.pwr.test with | some (.cmd _, _) => true | _ => false

/-- Execute waiting PWR.CMDs while none is under way (OP-3). -/
def runPwrQueue : List QCmd → State → State
  | [], s => s.setQueue pwrCmdAddr []
  | c :: cs, s => if s.pwrBusy then s.setQueue pwrCmdAddr (c :: cs) else runPwrQueue cs (s.execPwrCmd c)

/-- Execute what waits in PWR.CMD's queue. -/
def State.runPwr (s : State) : State := runPwrQueue (s.queue pwrCmdAddr) s

/-! Power domains (R10, R69) -/

/-- CTL is without power (R10): its converters, slices, CAN segments, loops and captures stop with what they held, and so do the tasks. -/
def State.ctlOff (s : State) : State :=
  { s with
    lp := { loops := List.replicate 48 {}, caps := List.replicate 4 {}, frame0 := s.lp.frame0 }
    fld := { slcs := List.replicate 48 {}, grps := List.replicate 4 {} }
    can := { segs := List.replicate 6 {} }
    prg := { s.prg with tasks := List.replicate 16 {} } }

/-! The last-gasp sequence (R561–R563) -/

/-- PWR.LASTGASP of a sequence (R567). -/
def gaspWord (phase : Nat) (skipped : Bool) (dur : Nat) : Word :=
  w32 (min 4 phase + 8 * b2n (phase ≥ 4) + 16 * b2n skipped + 65536 * min 65535 dur)

/-- LAST_GASP (R562): both inputs absent for 5 ms. `phase` is the last phase completed, `dur` its end in 0.1 ms; `saveOk` whether the save's CRC holds; `cell` whether
a cell, or the supercapacitor, takes over BKP. A collapse before phase 4 leaves the later work undone. At the end nothing of CTL and CMP is powered (R10, R140). -/
def State.lastGasp (s : State) (phase dur : Nat) (saveOk cell : Bool) : State :=
  if !s.aon || s.pwr.inA || s.pwr.inB then s
  else
    let s := s.changeOver (if cell then .cell else .supercap)
    if s.md.mode == .dormant then { s with md := { s.md with pstate := .p4 } }
    else
      let cmpOff := !s.md.pstate.cmp
      let s := s.updPwr fun p => { p with gasp := some s.now, test := none, failed := true }
      let s := (s.mgAbandon (· != .metering)).discardCycles
      let s := if s.isActive then s.releaseFirst 2 else s
      let s := if phase ≥ 1 then s.failMark.gaspSave saveOk else s.mgAbandon (· == .metering)
      let s := s.mtrStop
      let s := if phase ≥ 3 then s.panelGasp else s.panelLost
      let s := s.startStations.ethOff.ctlOff.pl1Off
      let s := s.wrp .pwr 0 Off.PWR_LASTGASP (gaspWord phase cmpOff dur)
      { s.trigger .endSessions with md := { s.md with pstate := .p4, mode := .boot } }

/-- SUPPLY_RETURN (R564): an input at 18.5 V for 50 ms; the store charges to 1,000 mJ, or 3 s pass; the start is a power-on reset. -/
def State.supplyReturn (s : State) (a b charged : Bool) : State :=
  if s.aon || !(a || b) then s
  else
    let s := s.updPwr fun p => { p with inA := a, inB := b, lowA := false, lowB := false, highA := false, highB := false, gasp := none, holdLow := !charged, charging := !charged }
    (s.changeOver .main).trigger (.reset .powerOn)

/-- What the start does with the sequence record (R563, R564): a failure in DORMANT is loaded from the mark, the sequence since the previous start is counted. Log entry 91, DEDUCED. -/
def State.pwrStart (s : State) (powerOn : Bool) : State :=
  let s := if s.pwr.dormant && powerOn then (s.wrp .pwr 0 Off.PWR_LASTGASP (gaspWord 4 true 0)).updPwr fun p => { p with failed := true } else s
  let s := if s.pwr.failed then s.satp .pwr 0 Off.PWR_PFAILS else s
  let s := s.updPwr fun p => { p with
    dormant := false, failed := false, overTemp := false, high := false, test := none, lastTest := none, gasp := none, holdMj := 0
    holdLow := powerOn && p.holdLow, charging := powerOn && p.charging }
  if s.pwr.holdLow then (s.irq .pwr 0 3).record 0x1202 (w32 s.pwr.holdMj) 2 0 else s

/-! PWR page (R567) -/

/-- PWR.FIELD_LIM accepts a value (R559): each fitted group 5–50, their sum at most 100. -/
def fieldLimOk (v : Variant) (w : Word) : Bool :=
  let ls := (List.range v.groups).map fun g => w.fld (8 * g) 8
  ls.all (fun l => 5 ≤ l && l ≤ 50) && ls.foldl (· + ·) 0 ≤ 100

/-- PWR_FIELD_LIM_WRITE (R559). -/
def State.fieldLim (s : State) (v : Word) : Err × State :=
  if !(s.md.mode == .commission || s.md.mode == .maintenance) then (.mode, s)
  else if fieldLimOk s.variant v then (.ok, s.wrp .pwr 0 Off.PWR_FIELD_LIM v) else (.range, s)

/-- PWR.CLR (R567). -/
def State.pwrClr (s : State) (v : Word) : State :=
  if v.bit 0 then (s.wrp .pwr 0 Off.PWR_IN_LOSSES 0).recordClr (Page.reg .pwr 0 Off.PWR_CLR) v else s

/-- Registers of the PWR page that show state or a measurement. -/
def State.pwrPageView (s : State) (o : Nat) : Option Word :=
  let m := Config.measure (Page.reg .pwr 0 o) s.now
  if o = Off.PWR_STAT then some s.pwrStat
  else if o = Off.PWR_VIN_A_MV ∨ o = Off.PWR_VIN_B_MV then some (m &&& 0xFFFF)
  else if o = Off.PWR_P_IN_MW then some (m &&& 0x1FFFF)
  else if o = Off.PWR_FIELD_MA then some (m &&& 0x7FF)
  else if o = Off.PWR_FIELD_LIM then some (if s.variant.groups < 4 then s.rdp .pwr 0 o &&& 0xFFFFFF else s.rdp .pwr 0 o)
  else if o = Off.PWR_HOLDUP_MJ then some (w32 s.pwr.holdMj)
  else if o = Off.PWR_T_BASE then some (sw32 s.pwr.tBase &&& 0xFFFF)
  else if o = Off.PWR_IND then some s.indWord
  else none

/-- PAGE_STAT[STATE] of the PWR page. -/
def State.pwrPageState (s : State) : Nat :=
  if s.md.mode == .boot && s.pwr.charging then 2 else if s.pwr.inA && s.pwr.inB then 0 else 1

end Sys2Proof.Machine
end

