-- ==== Sys2Proof/Machine/Image.lean ====
section
/-!
DEFINITION. The program image as its bytes (R6, R332–R335), and the stored profile decoded with the image that it holds.
-/
namespace Sys2Proof.Machine

/-- `n` entries of `k` bytes from byte `a` on. -/
def entriesOf (b : List Byte) (a k n : Nat) : List (List Byte) := (List.range n).map fun i => sliceB b (a + k * i) k

/-- A task table entry (R333); none where a reserved byte or a flag is out of range. -/
def parseTask (n : Nat) (e : List Byte) : Option TaskP :=
  if leAt e 0 1 = n ∧ leAt e 1 1 ≤ 1 ∧ leAt e 3 1 = 0 ∧ leAt e 12 4 = 0 then
    some ⟨leAt e 1 1 == 1, leAt e 2 1, leAt e 4 4, leAt e 8 4⟩
  else none

/-- A connection entry (R334). -/
def parseConn (e : List Byte) : Option Conn :=
  if leAt e 3 1 ≠ 0 then none
  else match leAt e 0 1 with
    | 0 => if leAt e 1 1 ≤ 3 ∧ leAt e 2 1 ≤ 1 ∧ leAt e 8 8 = 0 then some (.block (leAt e 4 4) (leAt e 1 1) (leAt e 2 1 == 1)) else none
    | 1 => if leAt e 1 1 = 0 ∧ leAt e 2 1 = 0 ∧ leAt e 4 4 = 0 then some (.const (BitVec.ofNat 64 (leAt e 8 8))) else none
    | _ => none

/-- A block table entry (R334) with the connections that it names. -/
def parseBlock (cs : List Conn) (e : List Byte) : Option BlockP :=
  let nin := leAt e 6 1
  let c := leAt e 8 4
  if leAt e 7 1 ≠ 0 ∨ cs.length < c + nin then none
  else some {
    id := leAt e 0 4, typ := leAt e 4 1, task := leAt e 5 1, ins := (cs.drop c).take nin
    ref := w32 (leAt e 12 4), p0 := BitVec.ofNat 64 (leAt e 16 8), p1 := BitVec.ofNat 64 (leAt e 24 8) }

/-- The header fields of a program image lie within *Program image header*, and the CRC and the hash match the body (R332, R333). -/
def prgHeadOk (b : List Byte) : Bool :=
  let body := b.drop 128
  leAt b 0 2 == 0x4750 && leAt b 2 1 == 1 && leAt b 3 1 == 0 && leAt b 4 4 != 0 && 1 ≤ leAt b 12 4 && leAt b 12 4 ≤ 65536 && leAt b 16 4 ≤ 524288 &&
  leAt b 20 4 == 384 + 32 * leAt b 12 4 + 16 * leAt b 16 4 && b.length == leAt b 20 4 && leAt b 24 4 == 1 &&
  w32 (leAt b 28 4) == Hash.crc32 body && sliceB b 32 32 == Hash.sha256 body

/-- A program image decoded from its bytes (R332–R334); none where the image is not valid. What the entries must obey is `prgOk`'s, the signature `prgSigned`'s. -/
def parsePrg (b : List Byte) : Option PrgImage :=
  if !prgHeadOk b then none
  else
    let blocks := leAt b 12 4
    let conns := leAt b 16 4
    match allSome ((List.range 16).map fun n => parseTask n (sliceB b (128 + 16 * n) 16)), allSome ((entriesOf b (384 + 32 * blocks) 16 conns).map parseConn) with
    | some ts, some cs => (allSome ((entriesOf b 384 32 blocks).map (parseBlock cs))).map fun bs =>
        { id := w32 (leAt b 4 4), rev := w32 (leAt b 8 4), crc := w32 (leAt b 28 4), tasks := ts, blocks := bs, head := b.take 64, sig := sliceB b 64 64 }
    | _, _ => none

/-- The profile that a PROFILE part carries, with its program image decoded from the image's own bytes (R71, R332). -/
def decodeProfile (b : List Byte) : Option Profile := (Config.profileOf b).map fun x => { x.1 with prg := parsePrg x.2 }

end Sys2Proof.Machine
end

