-- ==== Sys2Proof/Machine/Prof.lean ====
section
/-!
DEFINITION. Profiles: the checks of load (R5, R18, R25, R73, R131, R132, R361, R366, R367), loading at a start, the switch (R74–R76), the PROF page (R86).
-/
namespace Sys2Proof.Machine
open Sys2Proof.F64

/-! The network image (R25, R131, R132) -/

/-- A station of an image within its tables (R131–R134). -/
def stationOk (zones : Nat) (c : StationCfg) : Bool :=
  c.num < 4096 && c.kind ≤ 4 && ((c.kind == 0) == (c.num == 0)) && c.zone < max 1 zones && c.points.length ≤ 1536 &&
  (c.kind != 2 || c.subtype ≤ 4) && (c.kind != 3 || c.subtype ≤ 1) &&
  c.points.all (fun p => p.idx < 1536 && 1 ≤ p.typ && p.typ ≤ 8) && (c.points.map (·.idx)).eraseDups.length == c.points.length

/-- A network image within the limits of R25. -/
def netOk (g : NetImage) : Bool :=
  g.stations.length ≤ 4096 && g.zones ≤ 256 && g.stations.all (stationOk g.zones) && (g.stations.map (·.num)).eraseDups.length == g.stations.length &&
  (g.stations.filter (·.kind == 2)).length ≤ 64 && (g.stations.filter (·.kind == 3)).length ≤ 32

/-- A station of an image. -/
def netStation (g : Option NetImage) (n : Nat) : Option StationCfg := g.bind fun g => g.stations.find? (·.num == n)
/-- A point of an image, by its index (R8, R9). -/
def netPoint (g : Option NetImage) (i : Nat) : Option PointCfg :=
  if ptLocal i > 1535 then none else (netStation g (ptStation i)).bind fun c => c.points.find? (·.idx == ptLocal i)

/-! What a profile is checked against -/

/-- What a profile is loaded beside: variant, safety configuration, network image. -/
structure Beside where
  v    : Variant
  safe : SafeCfg
  net  : Option NetImage
deriving DecidableEq, Repr

/-- The slice entry of the safety configuration that claims slice Sn. -/
def safeSlcOf (c : SafeCfg) (n : Nat) : Option SafeSlc := c.slcs.find? fun x => x.slice == n && x.func != 0

/-- The configuration of a claimed slice (R270, R292). -/
def safeSlcCfg (x : SafeSlc) : SlcCfg := { func := x.func, filtMs := x.filtMs, safety := true }

/-- The configuration of slice Sn under a profile (R270). -/
def slcUnder (b : Beside) (p : Profile) (n : Nat) : SlcCfg :=
  if n = 0 then {} else match safeSlcOf b.safe n with
    | some x => safeSlcCfg x
    | none => p.slcs.getD (n - 1) {}

/-- A slice is fitted (R5). -/
def fitted (b : Beside) (n : Nat) : Bool := 1 ≤ n && n ≤ b.v.slices

/-- A fault or safe value lies in its terminal range (R279). -/
def terminalOk (f : Nat) (v : Word) : Bool :=
  let x := ofF32 v
  fin x && (f == 0xA || f == 0xB || toTerminal f x == x || isZ x)

/-- A slice's part of a profile (R73, R270, R279, R282, R284, R292): unclaimed, fitted, an ordinary function with the options it has, its values in range. -/
def slcOk (b : Beside) (n : Nat) (c : SlcCfg) : Bool :=
  !c.safety &&
  (c.func == 0 || (fitted b n && (safeSlcOf b.safe n).isNone)) && c.func ≤ 14 && c.func != 8 && c.func != 0xB && c.filtMs ≤ 20 &&
  (!c.opt0 || [3, 4, 5, 6, 9].contains c.func) && (c.opt1 == 0 || (c.func == 5 && c.opt1 ≤ 2) || (c.func == 9 && c.opt1 ≤ 1)) &&
  (!isOut c.func || (terminalOk c.func c.faultVal && terminalOk c.func c.safeVal)) && fin (ofF32 c.engScale) && fin (ofF32 c.engOfs) &&
  (!(c.func == 9 && c.opt0) || (10 ≤ c.param && c.param ≤ 10000)) && (c.func != 0xC || (100 ≤ c.param && c.param ≤ 60000000))

/-- A converter's part of a profile (R275, R294). -/
def adcOk (b : Beside) (p : Profile) (g : Nat) (a : AdcCfg) : Bool :=
  a.period < 9 && a.ref ≤ 2 && 8 ≤ a.calN && a.calN ≤ 255 && (a.ref != 1 || (slcUnder b p (12 * g + 12)).func == 0)

/-- A configured signal of a segment. -/
def sigIn (p : Profile) (k n : Nat) : Option SigD :=
  if k = 0 then none else (p.can.getD (k - 1) none).bind fun c => c.sigs.find? (·.num == n)

/-- A source by kind 1 slice, 2 point, 3 CAN signal exists (R5, R245). -/
def srcOk (b : Beside) (p : Profile) (kind : Nat) (ref : Word) : Bool :=
  if kind = 1 then fitted b (ref.fld 0 6)
  else if kind = 2 then ref.fld 23 9 == 0 && (netPoint b.net (ref.fld 0 23)).isSome
  else if kind = 3 then ref.fld 16 3 ≤ b.v.segments && (sigIn p (ref.fld 16 3) (ref.fld 0 16)).isSome
  else true

/-- An output exists and may have an owner in a profile (R5, R18, R136): no safety output; a point with its safe value (R73, R596). -/
def targetOk (b : Beside) (p : Profile) : Target → Bool
  | .slice n => fitted b n && isOut (slcUnder b p n).func && !isSdo (slcUnder b p n).func
  | .can k n => k ≤ b.v.segments && 512 ≤ n && (sigIn p k n).isSome
  | .point i => ptStation i != 0 && (match netPoint b.net i with | some c => c.out | none => false) && (lookupA i p.safeVals).isSome

/-- A thermal point's references exist and its slices have the functions they need (R307); flow references carry their kind in [31:30], temperatures too. -/
def heatRefsOk (b : Beside) (p : Profile) (h : HeatCfg) : Bool :=
  let bare := fun (w : Word) => w.put 30 2 0
  let analogue := fun (w : Word) => srcOk b p 1 w && 1 ≤ (slcUnder b p (w.fld 0 6)).func && (slcUnder b p (w.fld 0 6)).func ≤ 5
  let temp := fun (w : Word) => match w.fld 30 2 with
    | 0 => analogue (bare w)
    | 1 => srcOk b p 2 (bare w)
    | 2 => srcOk b p 3 (bare w)
    | _ => false
  (match h.flowRef.fld 30 2 with
    | 0 => true
    | 1 => analogue (bare h.flowRef) && (slcUnder b p (h.flowRef.fld 0 6)).func != 5
    | 2 => srcOk b p 2 (bare h.flowRef)
    | _ => srcOk b p 3 (bare h.flowRef)) &&
  temp h.tfRef && temp h.trRef && h.unitExp < 16 && h.volExp < 16 && h.press < 4096 && h.dtMin < 65536 && h.maxAge < 2 ^ 20

/-- Every OUT point of the stations has its safe value in the profile (R71, R73). -/
def safeValsOk (b : Beside) (p : Profile) : Bool :=
  p.safeVals.all (fun x => fin x.2) &&
  match b.net with
  | some g => g.stations.all fun c => c.num == 0 || c.points.all fun x => !x.out || (lookupA (ptIndex c.num x.idx) p.safeVals).isSome
  | none => true

/-- The zones, stations and points that the dispatch parameters and the hydraulic graphs name stand in the image (R5, R167). -/
def dispRefsOk (b : Beside) (p : Profile) : Bool :=
  let d := p.disp
  let pt := fun (i : Nat) => (netPoint b.net i).isSome
  let op := fun (o : Option Nat) => o.all pt
  let kind := fun (st k : Nat) => match netStation b.net st with | some c => c.kind == k | none => false
  d.zones.all (fun z => op z.tPt && op z.retPt && z.heatPts.all pt && (match b.net with | some g => z.zone < max 1 g.zones | none => false)) &&
  d.plants.all (fun x => kind x.station 2 && op x.pPt && op x.qPt &&
    (match netStation b.net x.station with | some c => c.subtype == x.subtype | none => false)) &&
  d.stores.all (fun x => kind x.station 3 && op x.socPt && op x.cPt && op x.dPt) &&
  (match d.grid with
    | some g => op g.toutPt && op g.iPt && op g.xPt && (!d.zones.any (·.fcOn) || (List.range 49).all fun k => pt (ptIndex g.wxStation g.wxBase + k))
    | none => true) &&
  (p.slots.filterMap id).all fun c => match c.hyd with
    | some h => h.edges.all (fun e => op e.resPt) && h.meas.all fun m => pt m.point
    | none => true

/-- What the write blocks of a profile's program write. -/
def prgDests (p : Profile) : List WDest := match p.prg with
  | some g => g.blocks.filterMap wdest
  | none => []
/-- The output a write block owns. -/
def outTarget : WDest → Option Target
  | .out t => some t
  | _ => none

/-- Every output an engine of the profile owns, one entry for each owner (R18, R321). -/
def ownedBy (p : Profile) : List Target :=
  (p.loops.filterMap id).filterMap loopTarget ++
  (prgDests p).filterMap outTarget ++
  (p.slots.filterMap id).flatMap (fun c => c.outputs.filterMap fun o => match o.dest with | .point i => some (Target.point i) | _ => none) ++
  (p.mtr.pulses.filter (·.slice ≠ 0)).map fun c => Target.slice c.slice

/-- Each output has one owner (R18). -/
def ownersOk (b : Beside) (p : Profile) : Bool :=
  (ownedBy p).eraseDups.length == (ownedBy p).length && (ownedBy p).all (targetOk b p)

/-- A loop's references exist (R5, R245). -/
def loopRefsOk (b : Beside) (p : Profile) (c : LoopCfg) : Bool :=
  (c.outKind != 1 || c.outRef.fld 23 9 == 0) && srcOk b p (c.pvKind + 1) c.pvRef && srcOk b p c.ffKind c.ffRef && srcOk b p c.trkKind c.trkRef &&
  (if c.spKind = 2 then match p.slots.getD (c.spRef.fld 0 3) none with | some x => c.spRef.fld 8 8 < x.outputs.length | none => false
   else if c.spKind = 3 ∨ c.spKind = 4 then fitted b (c.spRef.fld 0 6) else c.spKind ≤ 4)

/-- A program's references resolve to fitted units (R333). -/
def prgRefsOk (b : Beside) (p : Profile) (g : PrgImage) : Bool :=
  g.blocks.all fun x =>
    if x.typ = 0x38 then (match x.ref.fld 30 2 with | 0 => srcOk b p 1 x.ref | 1 => srcOk b p 3 x.ref | _ => false)
    else if x.typ = 0x39 then x.ref.fld 30 2 ≤ 1
    else if x.typ = 0x35 then srcOk b p 2 x.ref
    else if x.typ = 0x37 then x.ref.fld 23 9 == 0
    else if x.typ = 0x3A ∨ x.typ = 0x3B then (p.loops.getD (x.ref.fld 0 6) none).isSome
    else true

/-- The source tag of an output entry carries a code of its slot's kind (R167, R192). -/
def outSrcOk (k : SlotKind) (t : Nat) : Bool :=
  let c := tagQty t
  match k with
  | .dispatch => (1 ≤ c && c ≤ 0xD) || c == 0x80 || c == 0x81
  | .hydraulic => (0x40 ≤ c && c ≤ 0x42) || c == 0x90 || c == 0x91

/-- A slot's output destinations exist (R192). -/
def slotRefsOk (b : Beside) (p : Profile) (c : SlotCfg) : Bool :=
  c.outputs.all fun o => outSrcOk c.kind o.source && (match o.dest with
    | .loopSp n => (p.loops.getD n none).isSome
    | .taskIn t e => c.kind == .dispatch && t < 16 && e < 256
    | .point _ => true
    | .local_ l => (netPoint b.net l).isSome && l < 2048)

/-- Every pump edge belongs to one group, each group to a PLANT or PUMPING station (R164, R185). -/
def pumpsOk (b : Beside) (p : Profile) : Bool :=
  let hs := (List.range 8).filterMap fun n => (p.slots.getD n none).bind fun c => c.hyd.map fun h => (n, h)
  hs.all (fun h => (h.2.edges.filter (·.kind == .pump)).all fun e =>
    (p.disp.groups.filter fun g => g.slot == h.1 && g.edges.contains e.id).length == 1) &&
  p.disp.groups.all fun g => match netStation b.net g.station with | some c => c.kind == 2 || c.kind == 4 | none => false

/-- A signal mirrored into station 0000 names a point of its table (R132, R361). -/
def sigMirrorOk (b : Beside) (d : SigD) : Bool := match d.point with
  | some i => i < 1536 && (netPoint b.net i).isSome
  | none => true

/-- A mirrored point of station 0000 has its source and stands in the image's table (R132). -/
def mirrorOk (b : Beside) (p : Profile) (m : MirrorSrc × Nat) : Bool :=
  m.2 < 1536 && (netPoint b.net m.2).isSome && (match m.1 with
    | .slice n => fitted b n
    | .meter q _ => q < 32)

/-! ShaiqLink (R361, R366, R367, R371) -/

/-- Worst-case duration of a frame at one candidate, in nanoseconds (R367). -/
def frameAt (r : RateCand) (ide fdf : Bool) (n : Nat) : Nat :=
  if fdf then Config.canFdNs ide n r.nom r.data
  else
    let k := if ide then 54 else 34
    (k + 8 * n + 13 + (k + 8 * n - 1) / 4) * 1000000 / max 1 r.nom

/-- A signal descriptor obeys R361. -/
def sigOk (c : CanCfg) (d : SigD) : Bool :=
  let fs := if d.num < 512 then c.rx else c.tx
  let len := match d.typ with
    | .bool => d.len == 1
    | .f32 => d.len == 32
    | .f64 => d.len == 64
    | _ => 1 ≤ d.len && d.len ≤ 64
  d.num < 1024 && len && (match fs[d.frame]? with | some f => d.start + d.len ≤ 8 * f.bytes | none => false) &&
  (512 ≤ d.num || (1 ≤ d.timeoutMs && d.timeoutMs ≤ 60000))

/-- Two signals of one frame overlap. -/
def sigsMeet (a b : SigD) : Bool :=
  (a.num < 512) == (b.num < 512) && a.frame == b.frame && a.start < b.start + b.len && b.start < a.start + a.len

/-- A frame descriptor has a data length that its format carries. -/
def frameDOk (f : FrameD) : Bool :=
  fdLen f.bytes == f.bytes && f.bytes ≤ (if f.fdf then 64 else 8) && f.id < (if f.ide then 2 ^ 29 else 2 ^ 11)

/-- What a base cycle reserves at one candidate: the reference frame, the slots that occur, the windows, as start and end. -/
def reserved (c : CanCfg) (r : RateCand) (i : Nat) : List (Nat × Nat) :=
  (if c.refEn then [(0, frameAt r false false 8)] else []) ++
  ((c.slots.filter (slotOccurs c i)).map fun x =>
    let d := match c.tx[x.frame]? with | some f => frameAt r f.ide f.fdf f.bytes | none => 0
    (x.startUs * us, x.startUs * us + d)) ++
  c.windows.map fun w => (w.1 * us, (w.1 + w.2) * us)

/-- Intervals of a list do not overlap and end inside the base cycle. -/
def disjointIn (stop : Nat) : List (Nat × Nat) → Bool
  | [] => true
  | x :: xs => x.2 ≤ stop && xs.all (fun y => x.2 ≤ y.1 || y.2 ≤ x.1) && disjointIn stop xs

/-- A segment's schedule matrix (R366, R367). -/
def matrixOk (c : CanCfg) : Bool :=
  1 ≤ c.baseMs && c.baseMs ≤ 100 && 1 ≤ c.matLen && c.matLen ≤ 64 && c.windows.length ≤ 8 && c.refId < 2 ^ 11 &&
  c.slots.all (fun x => x.startUs < 1000 * c.baseMs && [1, 2, 4, 8, 16, 32, 64].contains x.rep && c.matLen % x.rep == 0 && x.cyc < x.rep &&
    (match c.tx[x.frame]? with | some f => f.tt | none => false)) &&
  (List.range c.matLen).all fun i => (c.slots.filter (slotOccurs c i)).length ≤ 32 && c.cands.all fun r => disjointIn (c.baseMs * ms) (reserved c r i)

/-- A segment's part of a profile. -/
def canCfgOk (c : CanCfg) : Bool :=
  c.cands.all (fun r => 50 ≤ r.nom && r.nom ≤ 1000 && (r.data == 0 || (r.nom ≤ r.data && r.data ≤ 5000)) && r.spNom ≤ 100 && r.spData ≤ 100) && c.holdMs < 1024 && c.busoffMax < 16 && c.winS < 1024 &&
  1 ≤ c.cands.length && c.cands.length ≤ 16 && c.filters.length ≤ 64 && c.rx.length ≤ 256 && c.tx.length ≤ 128 &&
  (c.rx ++ c.tx).all frameDOk && (c.tx.map fun f => (f.id, f.ide)).eraseDups.length == c.tx.length &&
  (c.sigs.filter (·.num < 512)).length ≤ 512 && (c.sigs.filter (512 ≤ ·.num)).length ≤ 512 &&
  (c.sigs.map (·.num)).eraseDups.length == c.sigs.length && c.sigs.all (sigOk c) &&
  c.sigs.all (fun a => c.sigs.all fun b => a.num == b.num || !sigsMeet a b) && matrixOk c

/-! A profile (R73) -/

/-- The checks of R5, R18 and R73 on a profile beside a safety configuration and a network image. -/
def profileOk (b : Beside) (p : Profile) : Bool :=
  p.slcs.length ≤ 48 && (List.range p.slcs.length).all (fun k => slcOk b (k + 1) (p.slcs.getD k {})) &&
  p.adcs.length ≤ b.v.groups && (List.range p.adcs.length).all (fun g => adcOk b p g (p.adcs.getD g {})) &&
  p.loops.length ≤ 48 && (p.loops.filterMap id).all (fun c => loopCfgOk c && loopRefsOk b p c) && cascadesOk p.loops &&
  p.slots.length ≤ 8 && slotsOk p.slots p.disp && (p.slots.filterMap id).all (slotRefsOk b p) && pumpsOk b p &&
  (match p.prg with | some g => prgOk g && prgRefsOk b p g | none => false) &&
  p.can.length ≤ b.v.segments && (p.can.filterMap id).all (fun c => canCfgOk c && c.sigs.all (sigMirrorOk b)) &&
  (p.mtr.heats.filter (·.on)).all (heatRefsOk b p) && safeValsOk b p && dispRefsOk b p &&
  mtrOk (slcUnder b p) b.v.slices ((ownedBy { p with mtr := {} }).filterMap fun t => match t with | .slice n => some n | _ => none) p.mtr &&
  ownersOk b p && p.mirrors.all (mirrorOk b p)

/-- The safety configuration and network image that profiles of the running set are checked against. -/
def State.beside (s : State) : Beside := ⟨s.variant, s.safe.cfg, s.net.img⟩

/-- A part of an image set. -/
def partOf (x : ImageSet) (typ index : Nat) : Option Part := x.parts.find? fun p => p.typ == typ && p.index == index

/-- A profile's or a network image's own signature verifies under anchor 2 (R477, R497). -/
def State.partSigned (s : State) (p : Part) : Bool :=
  let m := Config.signedPart p.typ p.plain
  s.verifies 2 m.1 m.2

/-- The program image of a profile verifies under the configuration-signing anchor (R333). -/
def State.prgSigned (s : State) (p : Profile) : Bool := match p.prg with
  | some g => s.verifies 2 g.head g.sig
  | none => false

/-- Stored profile `n`, where it is valid (R73): present, its signature verifies, its checks pass. -/
def State.validProf (s : State) (n : Nat) : Option Profile :=
  match s.prof.stored.getD n none, partOf s.upd.run 0x10 n with
  | some p, some x => if s.partSigned x && s.prgSigned p && profileOk s.beside p then some p else none
  | _, _ => none

/-- The first slot of a profile whose screed would exceed a limit of R25, with the screeds before it resident (R201). -/
def State.firstTooLarge (s : State) (p : Profile) : List Nat → Nat → Option Nat
  | [], _ => none
  | n :: ns, used => match p.slots.getD n none with
    | none => s.firstTooLarge p ns used
    | some c =>
      let x := s.makeScreed n c p.disp
      if tooLarge x used then some n else s.firstTooLarge p ns (used + x.fig.nnz)

/-! Loading at a start -/

/-- The slices that the safety configuration claims take its functions, and the test-pulse supplies its period (R270, R424). -/
def State.applySafeSlcs (s : State) : State :=
  let c := s.safe.cfg
  let s := { s with fld := { s.fld with
    tpMs := c.tpMs
    tpUse := maskOf ((List.range 4).filter fun g => c.slcs.any fun (x : SafeSlc) => x.func == 0xF && grpOf x.slice == g) } }
  (List.range 48).foldl (fun s k => match safeSlcOf c (k + 1) with
    | some x => s.updSlc (k + 1) fun y => { y with cfg := safeSlcCfg x }
    | none => if (s.slc (k + 1)).cfg.safety then s.updSlc (k + 1) fun _ => {} else s) s

/-- The slices of a profile with their OWNED flags (R292). -/
def ownSlcs (p : Profile) : List SlcCfg :=
  let ts := ownedBy p
  (List.range p.slcs.length).map fun k => { p.slcs.getD k {} with owned := ts.contains (.slice (k + 1)) }

/-- The schedule slot of every loop (R242). -/
def State.placeLoops (s : State) (cs : List (Option LoopCfg)) : State :=
  let t := schedule cs
  { s with lp := { s.lp with
    loops := (List.range 48).map fun n => { s.lp.loops.getD n ({} : Loop) with slot := (lookupA n t).getD 0 } } }

/-- Load a profile at a start: every field marked "From profile" takes its value. The forecaster is `applyForecast`'s. -/
def State.loadProfile (s : State) (p : Profile) : State :=
  let s := s.applySafeSlcs
  let s := s.applyField (ownSlcs p) p.adcs true
  let s := { s with lp := { s.lp with
    loops := (List.range 48).map fun n => match p.loops.getD n none with
      | some c => loadLoop c {}
      | none => ({} : Loop) } }
  let s := s.placeLoops p.loops
  let s := { s with prg := { s.prg with img := p.prg, oldImg := none, tasks := List.replicate 16 {} } }
  let s := (List.range 6).foldl (fun s k => s.applySeg (k + 1) (p.can.getD k none) true) s
  let s := s.mtrLoad p.mtr
  let s := { s with net := { s.net with safeVals := p.safeVals, mirrors := p.mirrors } }
  s.startSlots p.slots p.disp

/-- A profile event (0x0105): 1 switched, 2 substituted, 3 abandoned, 4 rejected. -/
def State.profEvent (s : State) (what n : Nat) (e : Err) : State := s.record 0x0105 (w32 what) (w32 n) (w32 e.code)

/-- Why stored profile `n` cannot be used at this BOOT, each reason recorded (R5, R73, R201). -/
def State.bootProf (s : State) (n : Nat) : Option Profile × State :=
  match s.prof.stored.getD n none, s.validProf n with
  | none, _ => (none, s)
  | some _, none => (none, s.profEvent 4 n .rejected)
  | some _, some p => match s.firstTooLarge p (List.range 8) 0 with
    | some k => (none, (s.record 0x0404 (w32 k) 0 (w32 Err.capacity.code)).profEvent 4 n .capacity)
    | none => (some p, s)

/-- PROF.LAST_GOOD as number and VALID. -/
def State.lastGood (s : State) : Option Nat :=
  let w := s.rdp .prof 0 Off.PROF_LAST_GOOD
  if w.bit 4 then some (w.fld 0 2) else none

/-- Profile selection at BOOT (R72, R73). -/
def State.selectProfile (s : State) : State :=
  let sel := (s.rdp .sys 0 Off.SYS_CFG).bit 0
  let n := if sel then (s.rdp .prof 0 Off.PROF_BOOT_SEL).fld 0 2 else s.prof.pinsBoot
  let use := fun (s : State) (n : Nat) (src : ProfSrc) (p : Profile) =>
    ({ s with prof := { s.prof with active := n, valid := true, source := src, switch := none, target := none } }).loadProfile p |>.applyForecast p.disp
  match s.bootProf n with
  | (some p, s) => use s n (if sel then .bootSel else .pins) p
  | (none, s) =>
    let none_ := fun (s : State) =>
      ({ s with prof := { s.prof with active := n, valid := false, source := if sel then .bootSel else .pins, switch := none, target := none } }).loadProfile {}
    match s.lastGood with
    | none => none_ s
    | some k => if k = n then none_ s else match s.bootProf k with
      | (some p, s) => use (s.profEvent 2 k .rejected) k .lastGood p
      | (none, s) => none_ s

/-- The active profile runs in RUN, DEGRADED, MAINTENANCE or STANDBY: PROF.LAST_GOOD takes it (R86). -/
def State.profRuns (s : State) : State :=
  if s.prof.valid then s.wrp .prof 0 Off.PROF_LAST_GOOD (w32 (s.prof.active + 16)) else s

/-! The switch (R74–R76) -/

/-- A PROF.CMD completes. -/
def State.profDone (s : State) (c : QCmd) (e : Err) : State := s.complete .prof 0 Off.PROF_CMD_STAT e (c.word.fld 8 8) 2

/-- The pending switch ends without effect: what was being built for it is dropped; no task has exchanged before its
boundary, so every task keeps its program (R75, R355). -/
def State.dropSwitch (s : State) (e : Err) : State :=
  match s.prof.switch with
  | none => s
  | some w =>
    let s := { s with prof := { s.prof with switch := none, target := none }, slv := { s.slv with next := none } }
    s.profDone w.cmd e

/-- A pending switch is abandoned, completes with ABORTED and is recorded (R76, R83). -/
def State.abandonSwitch (s : State) : State :=
  match s.prof.switch with
  | none => s
  | some w =>
    let s := (s.dropSwitch .aborted).profEvent 3 w.target .aborted
    s.record 0x0103 (w32 (Page.prof.base 0)) (w32 Off.PROF_CMD_STAT) 3

/-- PROF_SWITCH (R74, R76): accepted as pending where the mode allows it; a switch pending before is replaced. -/
def State.profSwitch (s : State) (c : QCmd) : State :=
  match s.md.mode with
  | .run | .degraded | .maintenance | .commission =>
    let s := s.dropSwitch .aborted
    { s with prof := { s.prof with switch := some ⟨c, c.word.fld 4 2, false, s.md.mode == .commission⟩ } }
  | .standby => s.profDone c .state
  | _ => s.profDone c .mode

/-- PROF_CANCEL (R76). -/
def State.profCancel (s : State) (c : QCmd) : State :=
  if s.prof.switch.isNone then s.profDone c .state else (s.dropSwitch .aborted).profDone c .ok

/-- Execute a PROF.CMD (R86). -/
def State.execProfCmd (s : State) (c : QCmd) : State :=
  let op := c.word.fld 0 3
  if op = 1 then s.profSwitch c else if op = 2 then s.profCancel c else s.profDone c .range

/-- The target of the pending switch takes effect (R75): origin, slots, loops, tasks, field, segments, metering, registers. -/
def State.takeSwitch (s : State) (w : Switch) (p : Profile) (x : NextSlots) : State :=
  let s := s.switchSlots x w.commission
  let s := (s.endTests.placeLoops p.loops).switchLoops p.loops
  let s := s.switchPrg p.prg
  let s := s.applyField (ownSlcs p) p.adcs false
  let s := (List.range 6).foldl (fun s k => s.applySeg (k + 1) (p.can.getD k none) false) s
  let s := { s with
    mtr := { s.mtr with next := some p.mtr }
    net := { s.net with safeVals := p.safeVals, mirrors := p.mirrors }
    prof := { s.prof with active := w.target, valid := true, source := .command, switch := none, target := none } }
  let s := s.applyForecast p.disp
  let s := if (s.rdp .sys 0 Off.SYS_CFG).bit 0 then s.wrp .prof 0 Off.PROF_BOOT_SEL (w32 w.target) else s
  let s := if w.commission then s else s.profRuns.startSwitched
  ((s.profEvent 1 w.target .ok).irq .prof 0 1).profDone w.cmd .ok

/-- PROF_VERIFY_DONE (R74): a failed verification rejects the switch; in COMMISSION a verified one is active at once, with the changed screeds to
build; elsewhere the screeds of changed slots are to be built first. -/
def State.profVerify (s : State) : State :=
  match s.prof.switch with
  | none => s
  | some w =>
    if w.verified then s
    else match s.validProf w.target with
      | none => (s.dropSwitch .rejected).profEvent 4 w.target .rejected
      | some p =>
        let x := s.planNext p.slots p.disp
        if w.commission then (s.takeSwitch w p x).grant
        else ({ s with
          prof := { s.prof with switch := some { w with verified := true }, target := some p }
          slv := { s.slv with next := some x } }).grant

/-- The period whose boundaries a switch awaits (R75). -/
def State.switchPeriod (s : State) : Nat := s.dispPeriod

/-- PROFILE_SWITCH_BOUNDARY (R75): the instant is a boundary and every slot of the target has a screed. -/
def State.switchBoundary (s : State) : State :=
  match s.prof.switch, s.prof.target, s.slv.next, s.slv.origin with
  | some w, some p, some x, some o =>
    if w.verified && x.todo.isEmpty && !x.failed && s.md.mode.tasksRun && s.now > o && (s.now - o) % s.switchPeriod == 0 then s.takeSwitch w p x
    else s
  | _, _, _, _ => s

/-- A build for the pending switch exceeded a limit: the switch is rejected (R201). -/
def State.switchBuilds (s : State) : State :=
  match s.prof.switch, s.slv.next with
  | some w, some x => if x.failed then (s.dropSwitch .rejected).profEvent 4 w.target .rejected else s
  | _, _ => s

/-! The PROF page (R86) -/

/-- Value of offset `o` of the PROF page, where it is computed. -/
def State.profPageView (s : State) (o : Nat) : Option Word :=
  if o = Off.PROF_ACTIVE then some (w32 (s.prof.active + 16 * b2n s.prof.valid + 256 * s.prof.source.code))
  else if Off.PROF_CRC0 ≤ o ∧ o < Off.PROF_CRC0 + 16 then
    some (match s.prof.stored.getD ((o - Off.PROF_CRC0) / 4) none with | some p => p.crc | none => 0)
  else if o = Off.PROF_CMD_STAT then
    let w := s.rdp .prof 0 Off.PROF_CMD_STAT
    some (match s.prof.switch with | some x => (w.put 16 1 1).put 17 2 x.target | none => w)
  else if o = Off.PROF_PINS then some (w32 ((Config.measure (Page.prof.reg 0 Off.PROF_PINS) s.now).fld 0 2 + 16 * s.prof.pinsBoot))
  else none

end Sys2Proof.Machine
end

