-- ==== Sys2Proof/Machine/Upd.lean ====
section
/-!
DEFINITION. Packages (R495–R499), staging (R500, R501), verification and activation (R502–R504), trial and fallback (R506–R508), the UPD page (R511, R512).
-/
namespace Sys2Proof.Machine

/-- Update the update state. -/
def State.updUpd (s : State) (f : UpdState → UpdState) : State := { s with upd := f s.upd }

/-- Bytes of a block. -/
def blockLen : Nat := 2048
/-- Blocks of a package of a length. -/
def blocksFor (len : Nat) : Nat := (len + blockLen - 1) / blockLen
/-- Bytes of a manifest. -/
def manifestLen : Nat := 1376
/-- The longest package (R496). -/
def pkgMax : Nat := 134217728

/-- The staged package as one byte string. -/
def stagedBytes (u : UpdState) : List Byte := u.blocks.flatMap (·.2)

/-- The first block that has not arrived. -/
def firstMissing (u : UpdState) : Option Nat := (List.range (blocksFor u.len)).find? fun k => (lookupA k u.blocks).isNone

/-! The manifest (R496–R498) -/

/-- A part entry (R497): type, index, version, SVN, offset, length as encrypted, nonce, hash, its bytes 0–15. -/
structure PartEntry where
  typ   : Nat
  index : Nat
  ver   : Nat
  svn   : Nat
  off   : Nat
  len   : Nat
  iv    : List Byte
  hash  : List Byte
  head  : List Byte
deriving DecidableEq, Repr

/-- Part entry `n` of a manifest. -/
def partEntry (m : List Byte) (n : Nat) : PartEntry :=
  let b := sliceB m (32 + 64 * n) 64
  ⟨leAt b 0 1, leAt b 1 1, leAt b 4 4, leAt b 8 4, leAt b 12 4, leAt b 16 4, sliceB b 20 12, sliceB b 32 32, sliceB b 0 16⟩

/-- Parts of a manifest. -/
def partsOf (m : List Byte) : List PartEntry := (List.range (leAt m 3 1)).map (partEntry m)

/-- A firmware type. -/
def isFirmware (t : Nat) : Bool := 1 ≤ t && t ≤ 8
/-- A part that changes the safety domain (R503, check 10). -/
def isSafePart (t : Nat) : Bool := t == 4 || t == 5 || t == 0x12

/-- A part entry lies within its table (R495, R497). -/
def partOk (m : List Byte) (n : Nat) : Bool :=
  let e := partEntry m n
  (isFirmware e.typ || (e.svn == 0 && (e.typ == 0x10 || e.typ == 0x11 || e.typ == 0x12))) && (if e.typ = 0x10 then e.index ≤ 3 else e.index == 0) &&
  leAt m (32 + 64 * n + 2) 2 == 0 && e.off % blockLen == 0 && blockLen ≤ e.off && 16 ≤ e.len && e.off + e.len ≤ leAt m 12 4

/-- The manifest header and part entries lie within their tables (R496, R497, R501). -/
def manifestOk (m : List Byte) (len : Nat) : Bool :=
  let ps := partsOf m
  let h := leAt m 18 2
  leAt m 0 2 == 0x4B50 && leAt m 2 1 == 1 && 1 ≤ leAt m 3 1 && leAt m 3 1 ≤ 12 && leAt m 4 4 != 0 && leAt m 12 4 == len &&
  manifestLen ≤ len && len ≤ pkgMax && leAt m 16 1 < 16 && leAt m 17 1 == 0 && (h == 0 || (5 ≤ h && h ≤ 1440)) &&
  1 ≤ leAt m 20 1 && leAt m 20 1 ≤ 4 && (sliceB m 21 11).all (· == 0) &&
  (sliceB m (32 + 64 * leAt m 3 1) (768 - 64 * leAt m 3 1)).all (· == 0) &&
  (List.range ps.length).all (partOk m) && (ps.map fun e => (e.typ, e.index)).eraseDups.length == ps.length &&
  (List.range ps.length).all fun i => (List.range i).all fun j =>
    let a := partEntry m i
    let b := partEntry m j
    a.off + a.len ≤ b.off || b.off + b.len ≤ a.off

/-- A key entry in use has its form (R498). -/
def keyEntryOk (m : List Byte) (k : Nat) : Bool :=
  let b := sliceB m (800 + 128 * k) 128
  leAt b 16 1 == 4 && (sliceB b 81 7).all (· == 0)

/-- The variant's bit of TARGET (R496). -/
def targetBit : Variant → Nat
  | .dxn7448 => 0
  | .dxn7448NS => 1
  | .dxn7432 => 2
  | .dxn7448NP => 3

/-- A part names a unit that the variant has (R497). -/
def partFits (v : Variant) (t : Nat) : Bool := v.safety || !isSafePart t

/-! Verification (R503) -/

/-- Why a package is rejected: status and part index, 0xF for the manifest. -/
abbrev Reject := Err × Nat

/-- Content key of a manifest for this controller (R498). -/
def contentKey (m : List Byte) : Option (List Byte) :=
  let id := deviceId
  match (List.range (leAt m 20 1)).find? fun k => sliceB m (800 + 128 * k) 16 == id with
  | none => none
  | some k =>
    let b := sliceB m (800 + 128 * k) 128
    let z := P256.agreeWith Config.kuKey (sliceB b 16 65)
    let kek := Hash.hkdfExpand32 (Hash.hkdfExtract (id ++ sliceB m 4 4) z) (Hash.ascii "DXPK1")
    Aes.unwrap kek (sliceB b 88 40)

/-- Decrypt the parts in order (check 5). -/
def openParts (pkg key id : List Byte) : List PartEntry → Nat → List (PartEntry × List Byte) → Reject ⊕ List (PartEntry × List Byte)
  | [], _, acc => .inr acc.reverse
  | e :: es, n, acc => match Aes.gcmOpen key e.iv (id ++ e.head) (sliceB pkg e.off e.len) with
    | none => .inl (.integrity, n)
    | some x => openParts pkg key id es (n + 1) ((e, x) :: acc)

/-- The first index of a list whose element fails a check. -/
def firstFail {α : Type} (ok : α → Bool) : List α → Nat → Option Nat
  | [], _ => none
  | x :: xs, n => if ok x then firstFail ok xs (n + 1) else some n

/-- A part's own signature verifies (check 7). -/
def State.partSig (s : State) (e : PartEntry) (x : List Byte) : Bool :=
  if isFirmware e.typ then
    let n := x.length - 64
    64 ≤ x.length && P256.verify Config.vendorAnchor (x.take n) (x.drop n)
  else if e.typ = 0x12 then s.verifies 3 (x.take 64) (sliceB x 64 64)
  else s.partSigned ⟨e.typ, e.index, e.ver, e.svn, x⟩

/-- The set that an activation would run: the package's parts, every other part from the running set (R504). -/
def newSet (old : ImageSet) (m : List Byte) (ps : List (PartEntry × List Byte)) (confirmed : Bool) : ImageSet :=
  let new := ps.map fun p => (⟨p.1.typ, p.1.index, p.1.ver, p.1.svn, p.2⟩ : Part)
  let keep := old.parts.filter fun p => !(new.any fun q => q.typ == p.typ && q.index == p.index)
  { pkg := w32 (leAt m 4 4), rev := w32 (leAt m 8 4), parts := new ++ keep
    health := if leAt m 18 2 = 0 then 30 else leAt m 18 2
    safeOk := confirmed && !(new.any (·.typ == 0x12)) }

/-- Profile `n` of a set. -/
def setProf (x : ImageSet) (n : Nat) : Option Profile := (partOf x 0x10 n).bind fun p => decodeProfile p.plain
/-- Network image of a set. -/
def setNet (x : ImageSet) : Option NetImage := (partOf x 0x11 0).bind fun p => Config.netOf p.plain
/-- Safety configuration of a set: the empty one of R424 where it holds none. -/
def setSafe (x : ImageSet) : SafeCfg := ((partOf x 0x12 0).bind fun p => decodeSafe p.plain).getD {}

/-- A safety configuration and a profile do not clash (R270, R425). -/
def safeProfOk (c : SafeCfg) (p : Profile) : Bool :=
  c.slcs.all (fun x => x.func == 0 || (p.slcs.getD (x.slice - 1) {}).func == 0) &&
  (c.conns.filterMap id).all fun k => !k.can || (match p.can.getD (k.segment - 1) none with
    | some g => !(g.tx.any fun f => f.id == k.txId % 2 ^ 29 && f.ide == k.txId.testBit 29)
    | none => true)

/-- A safety configuration file holds together beside the active profile of its set (R425; check 9). -/
def State.safePartOk (s : State) (x : ImageSet) (b : List Byte) : Bool :=
  let body := b.drop 128
  let sel := if (s.rdp .sys 0 Off.SYS_CFG).bit 0 then (s.rdp .prof 0 Off.PROF_BOOT_SEL).fld 0 2 else s.prof.pinsBoot
  w32 (leAt b 20 4) == Hash.crc32 body && sliceB b 32 32 == Hash.sha256 body &&
  (match decodeSafe b with
    | none => false
    | some c => safeCfgOk c s.variant && (match setProf x sel with | some p => safeProfOk c p | none => true))

/-- One part of a package is valid in the new set (check 9). -/
def State.partValid (s : State) (x : ImageSet) (p : PartEntry × List Byte) : Bool :=
  if p.1.typ = 0x10 then (match decodeProfile p.2 with | some q => s.prgSigned q && profileOk ⟨s.variant, setSafe x, setNet x⟩ q | none => false)
  else if p.1.typ = 0x11 then (match Config.netOf p.2 with | some g => netOk g | none => false)
  else if p.1.typ = 0x12 then s.safePartOk x p.2
  else true

/-- Minimum SVN of a firmware type (R499). -/
def State.svnMin (s : State) (t : Nat) : Nat := (s.rdp .upd 0 (Off.UPD_SVN_MIN1 + 4 * (t - 1))).toNat

/-- The activation checks in their order (R503): the set that would run, or the first failure. -/
def State.checkPackage (s : State) : Reject ⊕ ImageSet :=
  let pkg := stagedBytes s.upd
  let m := pkg.take manifestLen
  let es := partsOf m
  if !s.keys.pufOk then .inl (.state, 0xF)
  else if !manifestOk m s.upd.len || !((List.range (leAt m 20 1)).all (keyEntryOk m)) then .inl (.format, 0xF)
  else if !(leAt m 16 1).testBit (targetBit s.variant) then .inl (.absentUnit, 0xF)
  else match firstFail (fun (e : PartEntry) => partFits s.variant e.typ) es 0 with
  | some n => .inl (.absentUnit, n)
  | none =>
    if !s.verifies 1 (m.take 1312) (sliceB m 1312 64) then .inl (.auth, 0xF)
    else match contentKey m with
    | none => .inl (.auth, 0xF)
    | some key => match openParts pkg key (sliceB m 4 4) es 0 [] with
      | .inl e => .inl e
      | .inr ps =>
        match firstFail (fun (p : PartEntry × List Byte) => Hash.sha256 p.2 == p.1.hash) ps 0 with
        | some n => .inl (.integrity, n)
        | none => match firstFail (fun (p : PartEntry × List Byte) => s.partSig p.1 p.2) ps 0 with
          | some n => .inl (.auth, n)
          | none => match firstFail (fun (p : PartEntry × List Byte) => !isFirmware p.1.typ || s.svnMin p.1.typ ≤ p.1.svn) ps 0 with
            | some n => .inl (.counter, n)
            | none =>
              let x := newSet s.upd.run m ps s.safe.confirmed
              match firstFail (s.partValid x) ps 0 with
              | some n => .inl (.rejected, n)
              | none => match firstFail (fun (p : PartEntry × List Byte) => !isSafePart p.1.typ || s.safe.edit) ps 0 with
                | some n => .inl (.seal, n)
                | none => .inr x

/-! Activation, trial, fallback (R502–R508) -/

/-- UPD.RESULT, its record and event (R503, R508, R511). -/
def State.updResult (s : State) (kind : Nat) (r : Reject) (pkg : Word) : State :=
  let w := w32 (r.1.code + 256 * r.2 + 4096 * kind)
  ((s.wrp .upd 0 Off.UPD_RESULT w).record 0x0F01 w pkg 0).irq .upd 0 2

/-- Every processor loads from the running set (R504): profiles, network image, safety configuration, microcode version. -/
def State.loadSet (s : State) (confirmed : Bool) : State :=
  let x := s.upd.run
  { s with
    prof := { s.prof with stored := (List.range 4).map (setProf x) }
    net := { s.net with img := setNet x }
    safe := { s.safe with cfg := setSafe x, confirmed := confirmed }
    slv := { s.slv with ucode := match partOf x 2 0 with | some p => w32 p.ver | none => 0 } }

/-- The set that a set in force is kept as, with the state of its safety configuration (R508). -/
def State.keepSet (s : State) : ImageSet := { s.upd.run with safeOk := s.safe.confirmed }

/-- The commit of an activation (R504, R506). -/
def State.activate (s : State) (x : ImageSet) : State :=
  let pkg := x.pkg
  let safeNew := x.parts.any fun p => p.typ == 0x12 && !(s.upd.run.parts.contains p)
  let s := s.updUpd fun u => { u with run := x, prev := some s.keepSet, stage := .empty, owner := none, len := 0, blocks := [], trial := 1, starts := 0, from_ := none }
  (s.loadSet (s.safe.confirmed && !safeNew)).updResult 1 (.ok, 0) pkg

/-- An armed package at BOOT (R502, R503); only check 10 leaves it ARMED. -/
def State.tryActivate (s : State) : State :=
  let pkg := w32 (leAt (stagedBytes s.upd) 4 4)
  match s.checkPackage with
  | .inr x => s.activate x
  | .inl (e, n) =>
    let s := if e == .seal then s else s.updUpd fun u => { u with stage := .rejected }
    s.updResult 2 (e, n) pkg

/-- Fallback (R508): `reads` when every part of the previous set reads back. -/
def State.fallBack (s : State) (reads : Bool) : State :=
  match s.upd.prev with
  | none => s
  | some x =>
    let bad := s.upd.run.pkg
    if reads then
      let s := s.updUpd fun u => { u with run := x, prev := some s.keepSet, trial := 0, starts := 0, from_ := none }
      (s.loadSet x.safeOk).updResult 3 (.ok, 0) bad
    else
      let w := w32 Err.integrity.code
      ((s.wrp .upd 0 Off.UPD_RESULT w).irq .upd 0 2).trigger (.safeHold .bootCheck 0x0F01)

/-- The update's part of BOOT: the trial (R507), then an armed package (R502), unless the start follows a tamper reset. -/
def State.updBoot (s : State) (k : ResetKind) (tamper reads : Bool) : State :=
  let s := s.updUpd fun u => { u with owner := none, expired := false }
  let s :=
    if s.upd.trial ≠ 1 then s
    else if (k == .powerOn || k == .brownOut) && s.upd.starts < 3 then s.updUpd fun u => { u with starts := u.starts + 1, from_ := none }
    else s.fallBack reads
  if s.upd.stage == .armed && !tamper then s.tryActivate else s

/-- The health window starts at the end of BOOT, in full (R506, R507). -/
def State.updWindow (s : State) : State := if s.upd.trial = 1 then s.updUpd fun u => { u with from_ := some s.opNs } else s

/-- When the health window ends, on the count of powered time. -/
def State.healthEnd (s : State) : Option Nat :=
  if s.upd.trial = 1 then s.upd.from_.map (· + s.upd.run.health * 60 * sec) else none

/-- HEALTH_WINDOW_EXPIRY (R507): the device watchdog resets the controller. -/
def State.healthExpiry (s : State) : State :=
  match s.healthEnd with
  | some t => if s.opNs ≥ t then (s.updUpd fun u => { u with expired := true }).trigger (.reset .watchdog) else s
  | none => s

/-- UPD_HEALTH_WRITE (R506, R511). -/
def State.healthWrite (s : State) (v : Word) : Err × State :=
  if s.upd.trial ≠ 1 then (.state, s)
  else if v ≠ s.upd.run.pkg then (.range, s)
  else
    let s := s.updUpd fun u => { u with trial := 2, from_ := none }
    let s := (List.range 8).foldl (fun s k => match partOf s.upd.run (k + 1) 0 with
      | some p => if s.svnMin (k + 1) < p.svn then s.wrp .upd 0 (Off.UPD_SVN_MIN1 + 4 * k) (w32 p.svn) else s
      | none => s) s
    (.ok, (s.irq .upd 0 3).recordGen 0xF .upd 0 Off.UPD_TRIAL (w32 (2 + 4 * s.upd.starts)))

/-! Commands (R500, R501, R512) -/

/-- The session owns staging. -/
def State.ownsStaging (s : State) (slot : Nat) : Bool := s.upd.owner == some slot

/-- UPD.BUF as bytes. -/
def State.updBuf (s : State) (len : Nat) : List Byte :=
  ((List.range 512).flatMap fun k => (s.rdp .upd 0 (Off.UPD_BUF0 + 4 * k)).bytes).take len

/-- OPEN. Log entry 84, DEDUCED. -/
def State.updOpen (s : State) (slot : Nat) : Err × State :=
  let n := (s.rdp .upd 0 Off.UPD_ARG).toNat
  if s.upd.stage == .armed then (.state, s)
  else if s.upd.owner.isSome && !s.ownsStaging slot then (.state, s)
  else if n < manifestLen ∨ pkgMax < n then (.range, s)
  else (.ok, s.updUpd fun u => { u with stage := .receiving, owner := some slot, len := n, blocks := [] })

/-- RESUME. Log entry 84, DEDUCED. -/
def State.updResume (s : State) (slot : Nat) : Err × State :=
  if s.upd.stage != .receiving || (s.rdp .upd 0 Off.UPD_ARG).toNat ≠ s.upd.len then (.state, s)
  else if s.upd.owner.isSome && !s.ownsStaging slot then (.state, s)
  else (.ok, s.updUpd fun u => { u with owner := some slot })

/-- WRITE. -/
def State.updWrite (s : State) (slot len : Nat) : Err × State :=
  let a := (s.rdp .upd 0 Off.UPD_ARG).toNat
  if s.upd.stage != .receiving || !s.ownsStaging slot then (.state, s)
  else if a % blockLen ≠ 0 ∨ s.upd.len ≤ a then (.range, s)
  else if len ≠ min blockLen (s.upd.len - a) then (.length, s)
  else (.ok, s.updUpd fun u => { u with blocks := insertA (a / blockLen) (s.updBuf len) u.blocks })

/-- FINISH. -/
def State.updFinish (s : State) (slot : Nat) : Err × State :=
  if s.upd.stage != .receiving || !s.ownsStaging slot then (.state, s)
  else match firstMissing s.upd with
  | some k => (.state, s.wrp .upd 0 Off.UPD_MISSING (w32 (k * blockLen)))
  | none =>
    let s := s.wrp .upd 0 Off.UPD_MISSING 0xFFFFFFFF
    if !manifestOk ((stagedBytes s.upd).take manifestLen) s.upd.len then (.format, s)
    else (.ok, s.updUpd fun u => { u with stage := .complete, owner := none })

/-- ARM. -/
def State.updArm (s : State) : Err × State :=
  if s.upd.stage != .complete || s.upd.trial = 1 then (.state, s) else (.ok, s.updUpd fun u => { u with stage := .armed })

/-- DISARM. -/
def State.updDisarm (s : State) : Err × State :=
  if s.upd.stage != .armed then (.state, s) else (.ok, s.updUpd fun u => { u with stage := .complete })

/-- DISCARD. -/
def State.updDiscard (s : State) : Err × State := (.ok, s.updUpd fun u => { u with stage := .empty, owner := none, len := 0, blocks := [] })

/-- Modes that accept OPEN to ARM (R512). -/
def updModeOk (m : Mode) : Bool := m == .commission || m == .standby || m == .maintenance || m == .safeHold

/-- Execute a UPD.CMD (R512). -/
def State.execUpdCmd (s : State) (c : QCmd) : State :=
  let op := c.word.fld 0 4
  let r : Err × State :=
    if op = 0 ∨ 7 < op then (.range, s)
    else if op = 6 then s.updDisarm
    else if op = 7 then s.updDiscard
    else if !updModeOk s.md.mode then (.mode, s)
    else if op = 1 then s.updOpen c.sess
    else if op = 2 then s.updResume c.sess
    else if op = 3 then s.updWrite c.sess (c.word.fld 16 12)
    else if op = 4 then s.updFinish c.sess
    else s.updArm
  r.2.complete .upd 0 Off.UPD_CMD_STAT r.1 (c.word.fld 8 8)

/-- The end of a session releases staging (R500). -/
def State.updSessionEnd (s : State) (slot : Nat) : State := if s.ownsStaging slot then s.updUpd fun u => { u with owner := none } else s

/-- A write to UPD.ARG or UPD.BUF by a session that may not make it is refused with STATE (R511): ARG also takes the length for OPEN while no session owns
staging. -/
def State.updStageOk (s : State) (slot o : Nat) : Bool := s.ownsStaging slot || (o == Off.UPD_ARG && s.upd.owner.isNone)

/-- Both image sets and the staging area are erased (R489, R510). -/
def State.updErase (s : State) : State := ({ s with upd := {} }).loadSet false

/-! Views (R511) -/

/-- Value of offset `o` of the UPD page, where it is computed. -/
def State.updPageView (s : State) (o : Nat) : Option Word :=
  let u := s.upd
  if o = Off.UPD_STAT then some (w32 (u.stage.code + 256 * u.owner.getD 0xFF))
  else if o = Off.UPD_PKG_LEN then some (w32 u.len)
  else if o = Off.UPD_RCVD then some (w32 u.blocks.length)
  else if o = Off.UPD_RUN_PKG then some u.run.pkg
  else if o = Off.UPD_RUN_REV then some u.run.rev
  else if o = Off.UPD_PREV_PKG then some (match u.prev with | some x => x.pkg | none => 0)
  else if o = Off.UPD_TRIAL then some (w32 (u.trial + 4 * u.starts))
  else if o = Off.UPD_HEALTH_LEFT_S then some (match s.healthEnd with | some t => w32 ((t - s.opNs + sec - 1) / sec) | none => 0)
  else none

/-- PAGE_STAT[STATE] of the UPD page (R511). -/
def State.updPageState (s : State) : Nat := s.upd.stage.code

end Sys2Proof.Machine
end

