-- ==== Sys2Proof/Machine/PageReset.lean ====
section
/-!
DEFINITION. The page reset (R33, R590): when it takes effect, what it clears, the commands it aborts. A reset not yet taken stands in PAGE_CTRL[1]; the commands
that wait behind an executing command of a direct page are kept apart until it completes, at the key one past the command register's address.
-/
namespace Sys2Proof.Machine

/-- Offset of the command register of a page kind, where the page has one; the reset command register is no queue (R79, R592). -/
def cmdOff : Page → Option Nat
  | .mode => some Off.MODE_CMD
  | .prof => some Off.PROF_CMD
  | .time => some Off.TIME_CMD
  | .rtc => some Off.RTC_CMD
  | .evt => some Off.EVT_CMD
  | .sec => some Off.SEC_CMD
  | .upd => some Off.UPD_CMD
  | .pair => some Off.PAIR_CMD
  | .safe => some Off.SAFE_CMD
  | .disp => some Off.DISP_CMD
  | .pwr => some Off.PWR_CMD
  | .slc => some Off.SLC_CMD
  | .adc => some Off.ADC_CMD
  | .mtr => some Off.MTR_CMD
  | .loop => some Off.LOOP_CMD
  | .lcap => some Off.LCAP_CMD
  | .force => some Off.FORCE_CMD
  | .slv => some Off.SLV_CMD
  | .slot => some Off.SLOT_CMD
  | .sdata => some Off.SDATA_CMD
  | .can => some Off.CAN_CMD
  | .net => some Off.NET_CMD
  | _ => none

/-- Address of the command queue of an instance. -/
def cmdAddr (p : Page) (i : Nat) : Nat := p.reg i ((cmdOff p).getD 0)

/-- Offset of CMD_STAT and the CMD_DONE event of a page kind. -/
def statOff : Page → Nat × Nat
  | .mode => (Off.MODE_CMD_STAT, 2)
  | .prof => (Off.PROF_CMD_STAT, 2)
  | .time => (Off.TIME_CMD_STAT, 1)
  | .rtc => (Off.RTC_CMD_STAT, 1)
  | .evt => (Off.EVT_CMD_STAT, 1)
  | .sec => (Off.SEC_CMD_STAT, 1)
  | .upd => (Off.UPD_CMD_STAT, 1)
  | .pair => (Off.PAIR_CMD_STAT, 1)
  | .safe => (Off.SAFE_CMD_STAT, 1)
  | .disp => (Off.DISP_CMD_STAT, 1)
  | .pwr => (Off.PWR_CMD_STAT, 1)
  | .slc => (Off.SLC_CMD_STAT, 4)
  | .adc => (Off.ADC_CMD_STAT, 4)
  | .mtr => (Off.MTR_CMD_STAT, 1)
  | .loop => (Off.LOOP_CMD_STAT, 1)
  | .lcap => (Off.LCAP_CMD_STAT, 1)
  | .force => (Off.FORCE_CMD_STAT, 1)
  | .slv => (Off.SLV_CMD_STAT, 3)
  | .slot => (Off.SLOT_CMD_STAT, 8)
  | .sdata => (Off.SDATA_CMD_STAT, 1)
  | .can => (Off.CAN_CMD_STAT, 1)
  | .net => (Off.NET_CMD_STAT, 1)
  | _ => (0, 1)

/-- The page belongs to an engine with epochs of its own (*Page engines*). -/
def enginePage : Page → Bool
  | .loop | .lcap | .mtr | .pq | .heat | .pulse | .prg | .slot | .slv | .sdata | .safe | .pol => true
  | _ => false

/-- A command of the page is executing (R32, R590). -/
def State.pageBusy (s : State) : Page → Nat → Bool
  | .mode, _ => s.md.crossing.isSome
  | .prof, _ => s.prof.switch.isSome
  | .slc, i => !(s.queue (cmdAddr .slc i)).isEmpty
  | .can, i => (s.seg (i + 1)).job.isSome
  | .pwr, _ => s.pwrBusy
  | .pair, _ => s.pairBusy
  | .force, _ => !s.prg.due.isEmpty && !(s.queue (cmdAddr .force 0)).isEmpty
  | .slot, i => !(s.queue (cmdAddr .slot i)).isEmpty
  | .slv, _ => !(s.queue (cmdAddr .slv 0)).isEmpty
  | _, _ => false

/-- A reset of the page awaits its boundary. -/
def State.resetPending (s : State) (p : Page) (i : Nat) : Bool := (s.rdp p i Off.PAGE_CTRL).bit 1

/-- A waiting command completes with ABORTED (R33). -/
def State.abortCmd (s : State) (p : Page) (i : Nat) (c : QCmd) : State :=
  match p with
  | .mode => (s.wrp .mode 0 Off.MODE_CMD_STAT (w32 (c.word.fld 0 4 + 256 * c.word.fld 8 8 + 65536 * Err.aborted.code + 2 ^ 24))).irq .mode 0 2
  | _ => s.complete p i (statOff p).1 .aborted (c.word.fld 8 8) (statOff p).2

/-- W-class and V-class fields of the page return to their reset values (R33). -/
def State.eraseVW (s : State) (p : Page) (i : Nat) : State :=
  { s with regs := s.regs.filter fun (r : Nat × Word) => !(r.1 / 0x1000 == p.base i / 0x1000 && (regClass r.1 == RClass.w || regClass r.1 == RClass.v)) }

/-- The V-class fields of an electrical point's block (R327): the N-class accounts, maximum demand and error time stay. -/
def ElPoint.unshown (x : ElPoint) : ElPoint :=
  { x with quals := [], est := false, uncert := false, fixed := false, rms := List.replicate 6 0, pqs := List.replicate 9 0, p := 0, q := 0, s := 0, pf := 0, dem := 0 }

/-- The V-class fields of a thermal point's block (R330). -/
def HeatPoint.unshown (x : HeatPoint) : HeatPoint :=
  { x with qual := .good, est := false, bad := 0, flow := 0, tf := 0, tr := 0, power := 0 }

/-- A change of the accounts being built and of those committed. -/
def State.mapAccts (s : State) (f : Accts → Accts) : State := { s with mtr := { s.mtr with w := f s.mtr.w, c := f s.mtr.c } }

/-- The V-class fields of a slice that its last conversion, sample or release gave (R292); an output keeps its last released value. -/
def Slc.unshown (x : Slc) : Slc := { x with qual := .bad, reason := 0xA, val := 0, raw := 0, ts := {}, at_ := none, count := 0, rb := 0 }

/-- V-class state of the page that stands outside its registers (R33). A field that shows a condition which stands, such as a fence, a link or a running event, shows it
again at once; a field of the profile keeps its value, the reset value being the profile's. Log entry 11, DEDUCED. -/
def State.clearPageState (s : State) (p : Page) (i : Nat) : State :=
  let sessions := fun (f : Session → Session) => { s with host := { s.host with sessions := s.host.sessions.map f } }
  match p with
  | .loop => if s.md.mode.loopsRun then (List.range 8).foldl (fun s j => if (s.loop (8 * i + j)).cfg.isSome then s.startLoop (8 * i + j) else s) s else s
  | .lcap => { s with lp := { s.lp with caps := List.replicate 4 {} } }
  | .mode => { s with md := { s.md with transitions := 0, reason := .none, deg := 0, shCauses := [] } }
  | .prof => s.abandonSwitch
  | .ord => sessions fun x => if x.barrier.isSome then x else { x with barStat := 0 }
  | .mem => { s with mem := { s.mem with sandPos := 0, sweepFrom := s.now, sweeps := 0, late := false, overdue := false, loopBlk := 0 } }
  | .evt => s.evtReset
  | .slot => s.slotReset i
  | .slv => { s with slv := { s.slv with eff := 0 } }
  | .sdata => sessions fun x => { x with sdSel := 0, sdFrozen := [], stage := [], sdStat := 0, sdIrq := 0 }
  | .can => s.updSeg (i + 1) fun g => { g with trace := [], lastErr := 0 }
  | .pnt => s.pntFreeze false
  | .net => { s with net := { s.net with kexBuf := [] } }
  | .force => s.clearMasks
  | .disp => s.updPanel fun p => { p with stage := [] }
  | .mtr =>
    let s := s.mapAccts fun a => { a with els := a.els.map ElPoint.unshown }
    { s with mtr := { s.mtr with recMiss := false } }
  | .pq =>
    let s := s.mapAccts fun a => { a with els := a.els.map fun x => { x with harm := [], freq := 0 } }
    { s with mtr := { s.mtr with ring := [], ringN := 0, unread := [] } }
  | .heat => s.mapAccts fun a => { a with heats := a.heats.map HeatPoint.unshown }
  | .pulse => s.mapAccts fun a => { a with pulses := a.pulses.map fun x => { x with back := 0, lag := false } }
  | .slc => ((List.range 12).foldl (fun s k => s.updSlc (12 * i + k + 1) Slc.unshown) s).updGrp i fun g => { g with fences := 0 }
  | .adc => s.updGrp i fun g => { g with scanUs := 0, scans := 0, settleUs := 0, calRun := 0 }
  | .time => let t := s.startTime; { t with time := { t.time with cfg := s.time.cfg } }
  | .eth => if i < 2 then { s with eth := { s.eth with nodes := [] } } else s
  | .dpx =>
    let s := s.countIngest 0
    { s with net := { s.net with lastSec := 0, secCount := 0, secFrom := s.now - s.now % sec } }
  | .prg => { s with prg := { s.prg with tasks := s.prg.tasks.map fun (x : Task) => { x with exchd := false, overrun := false, waitOwn := false, execUs := 0, maxUs := 0 } } }
  | _ => s

/-- The reset takes effect: `gone` are the commands accepted and not started (R33). -/
def State.pageReset (s : State) (p : Page) (i : Nat) (gone : List QCmd) : State :=
  let s := gone.foldl (fun s c => s.abortCmd p i c) s
  let s := (s.clearPageState p i).eraseVW p i
  s.record 0x0104 (w32 (p.base i)) 0 0

/-- How many commands of a page's queue have started: several on a SLOT page (R234). -/
def State.startedCmds (s : State) (p : Page) (i : Nat) : Nat := if p == .slot then (s.slot i).begun.length else b2n (s.pageBusy p i)

/-- The commands of a page that have not started. -/
def State.notStarted (s : State) (p : Page) (i : Nat) : List QCmd :=
  match cmdOff p with
  | none => []
  | some _ => (s.queue (cmdAddr p i)).drop (s.startedCmds p i)

/-- Take the commands that have not started out of the queue. -/
def State.dropWaiting (s : State) (p : Page) (i : Nat) : State :=
  match cmdOff p with
  | none => s
  | some _ => s.setQueue (cmdAddr p i) ((s.queue (cmdAddr p i)).take (s.startedCmds p i))

/-- A write of 1 to PAGE_CTRL[PAGE_RESET] is accepted (R33, R590): a direct page resets now, or after its executing command, whose followers are set apart;
an engine page at its boundary. Log entry 11, DEDUCED. -/
def State.pageResetWrite (s : State) (p : Page) (i : Nat) : State :=
  let q := s.notStarted p i
  if !enginePage p then
    if !s.pageBusy p i || p == .prof then (s.dropWaiting p i).pageReset p i q
    else ((s.dropWaiting p i).setQueue (cmdAddr p i + 1) (s.queue (cmdAddr p i + 1) ++ q)).putf p i Off.PAGE_CTRL 1 1 1
  else
    let s := s.putf p i Off.PAGE_CTRL 1 1 1
    if p == .slot && (s.slot i).started then s.updSlot i fun x => { x with doReset := true } else s

/-- PAGE_RESET_TAKE_EFFECT (R33, R590, R103): the boundary of an engine page's engine; a SLOT page waits for the commit of a cycle in progress (R231). Log entry 11, DEDUCED. -/
def State.resetTakes (s : State) (p : Page) (i : Nat) : State :=
  let engs := (s.pageEngines p i 0x40).1
  if !enginePage p || !s.resetPending p i || engs.any s.inMg || (p == .slot && ((s.slot i).cyc.isSome || (s.slot i).doReset)) then s
  else
    let q := s.notStarted p i
    (s.dropWaiting p i).pageReset p i q

/-- Resets that wait for the executing command of a direct page, or for the commit of a slot. -/
def State.resetsDue (s : State) : State :=
  let direct := [(Page.mode, 0), (.pwr, 0), (.force, 0)] ++ (List.range 4).map (fun i => (Page.slc, i)) ++ (List.range 6).map fun i => (Page.can, i)
  let s := direct.foldl (fun s (x : Page × Nat) =>
    if s.resetPending x.1 x.2 && !s.pageBusy x.1 x.2 then
      let q := s.queue (cmdAddr x.1 x.2 + 1)
      (s.setQueue (cmdAddr x.1 x.2 + 1) []).pageReset x.1 x.2 q
    else s) s
  (List.range 8).foldl (fun s n =>
    if s.resetPending .slot n && !(s.slot n).doReset then s.resetTakes .slot n else s) s

end Sys2Proof.Machine
end

