-- ==== Sys2Proof/Machine/Modes.lean ====
section
/-!
DEFINITION. Modes and their transitions (R59–R68), power states (R69), sessions' ends (R44), resets with the retention of *Retention matrix* (R77–R83), the SYS, MODE and
RST pages (R84–R87).
-/
namespace Sys2Proof.Machine

/-- Update the mode logic. -/
def State.updMd (s : State) (f : ModeState → ModeState) : State := { s with md := f s.md }

/-! The causes of SAFE-HOLD (R68) -/

/-- Rank of a cause for MODE.SH_CAUSE[CAUSE] (R68). -/
def shRank : ShCause → Nat
  | .bootCheck => 0
  | .ctlFault => 1
  | .cmpFault => 2
  | .tamper => 3
  | .safety => 4
  | .host => 5

/-- The cause shown, of a list with the newest first (R68). -/
def shShown : List (ShCause × Nat) → Option (ShCause × Nat)
  | [] => none
  | c :: cs => match shShown cs with
    | some d => if shRank d.1 < shRank c.1 then some d else some c
    | none => some c

/-- MODE.SH_CAUSE (R85). -/
def State.shWord (s : State) : Word :=
  match shShown s.md.shCauses with
  | none => 0
  | some c => w32 (c.1.code + 256 * maskOf ((s.md.shCauses.map fun x => x.1.code - 1).eraseDups) + 65536 * (c.2 % 65536))

/-- Add a cause as the newest. -/
def State.addCause (s : State) (c : ShCause) (p : Nat) : State :=
  s.updMd fun m => { m with shCauses := (c, p) :: m.shCauses.filter fun x => x != (c, p) }

/-- A cause counts as cleared within SAFE-HOLD (*Clearing of SAFE-HOLD causes*); the host's clears when its command completes. -/
def State.causeCleared (s : State) (c : ShCause × Nat) : Bool :=
  match c.1 with
  | .safety => s.fnReset c.2 && !(s.fn c.2).demand
  | .tamper => !s.tamperActive && !s.keysZeroed
  | _ => false

/-- Causes that have cleared leave MODE.SH_CAUSE (R68). -/
def State.refreshCauses (s : State) : State :=
  if s.md.mode == .safeHold then s.updMd fun m => { m with shCauses := m.shCauses.filter fun c => !s.causeCleared c } else s

/-! The end of a session (R44) -/

/-- Every instance of every page of *Page map*. -/
def allPages : List (Page × Nat) := Page.all.flatMap fun p => (List.range p.count).map fun i => (p, i)

/-- Pages that a session unlocked lock again (R36). -/
def State.relock (s : State) (slot : Nat) : State :=
  allPages.foldl (fun s p => if s.rdp p.1 p.2 Off.PAGE_LOCK = w32 (256 * slot) then s.wrp p.1 p.2 Off.PAGE_LOCK 0xFF01 else s) s

/-- A session ends (R44): its freeze, its staging, its locks and its waiting barriers with it; in SAFE-HOLD the idle count starts with the last (R69). -/
def State.endSession (s : State) (slot : Nat) : State :=
  let s := { s with host := { s.host with sessions := s.host.sessions.filter fun x => x.slot != slot } }
  let s := ((s.freezeOfSession slot).updSessionEnd slot).relock slot
  let s := { s with
    ord := { s.ord with pend := s.ord.pend.filter fun w => w.sess != slot }
    pair := { s.pair with acks := s.pair.acks.filter fun a => a.2.1 != slot } }
  if s.md.mode == .safeHold && s.host.sessions.isEmpty then s.updMd fun m => { m with idleFrom := some s.now } else s

/-- Every session ends. -/
def State.endAllSessions (s : State) : State := (s.host.sessions.map (·.slot)).foldl (fun s k => s.endSession k) s

/-! Changing the mode -/

/-- The mode changes: MODE_CHG and a 0x0102 record (R85, R515). -/
def State.setMode (s : State) (m : Mode) (r : ModeReason) : State :=
  let old := s.md.mode
  if old == m then s
  else
    let s := s.updMd fun x => { x with mode := m, reason := r, transitions := (x.transitions + 1) % 65536 }
    (s.irq .mode 0 1).record 0x0102 (w32 (old.code + 16 * m.code + 256 * r.code)) s.shWord (w32 s.degNow)

/-- RUN, or DEGRADED when a fitted unit is out of service (R61). -/
def State.activeMode (s : State) : Mode := if s.degNow ≠ 0 then .degraded else .run

/-- After a change of mode, values that R17 now drives differently are sent: event frames of active segments (R363). Log entry 86, DEDUCED. -/
def State.refreshCan (s : State) (old : State) : State :=
  (List.range s.variant.segments).foldl (fun s k => match (s.seg (k + 1)).cfg with
    | none => s
    | some c =>
      if (s.seg (k + 1)).st != .active then s
      else
        let ch := (c.sigs.filter fun d => d.num ≥ 512 && (old.drivenCan (k + 1) d.num).2 != (s.drivenCan (k + 1) d.num).2).map (·.num)
        let fs := evtFrames c ch []
        s.updSeg (k + 1) fun g => { g with evtQ := g.evtQ ++ fs.take (32 - g.evtQ.length) }) s

/-- After a change of mode, the OUT points of stations that are UP whose driven values differ are sent; SAFE-HOLD sends every OUT point of each of them, in one set with
FULL (R593). Log entry 86, DEDUCED. -/
def State.refreshPts (s : State) (old : State) : State :=
  if s.servesDpx then
    (upStations s).foldl (fun s st => match s.stn? st with
      | none => s
      | some x =>
        let ch := x.outs.filter fun o => (old.drivenPt (ptIndex st o.idx)).2 != (s.drivenPt (ptIndex st o.idx)).2
        if s.md.mode == .safeHold then s.sendFull st false
        else if ch.isEmpty then s
        else
          let es := ch.map fun o => s.outEntry st o.idx (s.drivenPt (ptIndex st o.idx)).2
          (ch.foldl (fun s o => s.noteSent st o.idx (s.drivenPt (ptIndex st o.idx)).2) s).queueSet st 0 es) s
  else s

/-- What a change of mode sends. -/
def State.refreshOuts (s : State) (old : State) : State := (s.refreshCan old).refreshPts old

/-- The solver slots stop: cycles are discarded, and a TRIAL or CAPTURE that awaits one completes with ABORTED. Log entry 87, DEDUCED. -/
def State.stopSlots (s : State) : State :=
  (List.range 8).foldl (fun s n =>
    let x := s.slot n
    let s := if x.trialCmd.isSome then (s.updSlot n fun y => { y with trialCmd := none }).endCmds n 2 (fun _ => true) .aborted else s
    s.endCmds n 4 (fun _ => true) .aborted) s.discardCycles

/-- A CAPTURE that awaits a cycle completes with ABORTED where no further cycle starts. Log entry 87, DEDUCED. -/
def State.dropCaptures (s : State) : State :=
  (List.range 8).foldl (fun s n => if (s.slot n).cyc.isNone then s.endCmds n 4 (fun _ => true) .aborted else s) s

/-- A switch accepted in COMMISSION is abandoned when COMMISSION is left (R76). -/
def State.leaveCommission (s : State) : State :=
  match s.prof.switch with
  | some w => if w.commission then s.abandonSwitch else s
  | none => s

/-- Entry to RUN, DEGRADED, MAINTENANCE or STANDBY from BOOT, COMMISSION or SAFE-HOLD: the origin (R22), the tasks (R343), PROF.LAST_GOOD (R86). -/
def State.enterActive (s : State) : State := s.setOrigin.startTasks.profRuns

/-- What a change to `m` starts and stops, apart from SAFE-HOLD and DORMANT. -/
def State.changeMode (s : State) (m : Mode) (r : ModeReason) : State :=
  let old := s
  let was := s.md.mode
  let s := if was == .commission then s.leaveCommission else s
  let s := if was == .commission || was == .maintenance then s.endTests else s
  let s := if m == .commission then s.abandonSwitch.stopTasks.dropCaptures else s
  let s := s.setMode m r
  let s := if was == .safeHold then s.updMd fun x => { x with shCauses := [], idleFrom := none } else s
  let s := if m.tasksRun && !was.tasksRun then s.enterActive else s
  let s := if m == .commission then s.newFrames else s
  let s := if m == .commission || was == .safeHold then s.startLoops else s
  let s := if m == .standby then s.segsStandby.stopServing else s
  s.refreshOuts old

/-! MODE.CMD (R61–R66) -/

/-- Address of MODE.CMD's queue. -/
def modeCmdAddr : Nat := Page.reg .mode 0 Off.MODE_CMD

/-- A MODE.CMD completes (R85). -/
def State.modeDone (s : State) (c : QCmd) (e : Err) : State :=
  (s.wrp .mode 0 Off.MODE_CMD_STAT (w32 (c.word.fld 0 4 + 256 * c.word.fld 8 8 + 65536 * e.code + 2 ^ 24))).irq .mode 0 2

/-- Every MODE.CMD not yet complete completes with ABORTED but for `keep` (R64). -/
def State.abortModes (s : State) (keep : Option QCmd) : State :=
  let q := s.queue modeCmdAddr
  let s := (s.setQueue modeCmdAddr []).updMd fun m => { m with crossing := none }
  (q.filter fun c => some c != keep).foldl (fun s c => s.modeDone c .aborted) s

/-- The reason of an entry to SAFE-HOLD (R85). -/
def shReason : ShCause → ModeReason
  | .safety => .safety
  | .host => .host
  | _ => .fault

/-- Entry to SAFE-HOLD (R64): every output takes rank 4 of R17, engines of CMP discard their epochs, making goods are abandoned (R103), masks clear (R65), a pending switch
is abandoned (R76), a proposed handover with it. -/
def State.enterSafeHold (s : State) (c : ShCause) (p : Nat) (keep : Option QCmd) : State :=
  let old := s
  let s := (s.abortModes keep).abandonSwitch
  let s := (s.mgAbandon fun _ => true).stopSlots.stopTasks.stopLoops.clearMasks.dropHandover
  let s := s.updMd fun m => { m with shCauses := [(c, p)], idleFrom := if s.host.sessions.isEmpty then some s.now else none }
  (s.setMode .safeHold (shReason c)).refreshOuts old

/-- The conditions for RUN under R61, R65 and R68 but for the token. Log entry 85, DEDUCED. -/
def State.runAllowed (s : State) : Bool :=
  s.prg.masks.isEmpty && s.prof.valid && s.keys.lcs == 2 &&
  (s.md.mode != .safeHold || (s.refreshCauses.md.shCauses.isEmpty && !s.keysZeroed && (List.range 32).all fun n => (s.fnCfg n).isNone || s.fnReset n))

/-- Where TARGET RUN lands: STANDBY while the partner holds the token; nowhere when neither holds it. -/
def State.runLands (s : State) : Option Mode :=
  if s.hasToken then some s.activeMode else if s.pair.loop then some .standby else none

/-- The engines inside an epoch now (R63): slots with a cycle, tasks in a cycle, metering between two saves, loops and stations being made good (R103). -/
def State.inEpoch (s : State) : List Eng :=
  ((List.range 8).filter fun n => (s.slot n).cyc.isSome).map Eng.slot ++
  ((List.range 16).filter fun n => (s.task n).running && s.now < (s.task n).busyTill).map Eng.task ++
  (if s.mtr.running then [.metering] else []) ++
  (s.ord.mg.map (·.eng)).filter fun e => match e with | .loop _ => true | .ingest _ => true | _ => false

/-- An engine of a crossing has committed the epoch it was in. -/
def State.crossed_ (s : State) (c : Crossing) : Eng → Bool
  | .slot n => match (s.slot n).cyc with | some y => y.boundary > c.since | none => true
  | .task n => !(s.task n).running || s.now ≥ (s.task n).busyTill
  | .metering => !s.mtr.running || (match s.mtr.savedAt with | some t => t > c.since | none => false)
  | _ => true

/-- Every engine of the crossing is past its boundary, and none of them is being made good (R63, R103). -/
def State.allCrossed (s : State) (c : Crossing) : Bool := c.engines.all fun e => s.crossed_ c e && !s.inMg e

/-- A host-commanded transition is executed: the mode changes, the command completes when every engine has crossed. -/
def State.cross (s : State) (c : QCmd) (m : Mode) : State :=
  let es := s.inEpoch
  let was := s.md.mode
  let s := s.changeMode m .host
  if es.isEmpty then s.modeDone c .ok else s.updMd fun x => { x with crossing := some ⟨c, was, es, s.now⟩ }

/-- Execute a MODE.CMD (R61–R66, R68). COMMISSION and DORMANT are reached from SAFE-HOLD whatever causes stand, and clear them: R61 gives those rows no
condition. Log entry 103, DEDUCED. -/
def State.execModeCmd (s : State) (c : QCmd) : State :=
  let m := s.md.mode
  match c.word.fld 0 4 with
  | 2 => if m == .safeHold || m == .maintenance then s.cross c .commission else s.modeDone c .mode
  | 4 =>
    if !(m == .commission || m == .maintenance || m == .safeHold) then s.modeDone c .mode
    else if !s.runAllowed then s.modeDone c .state
    else match s.runLands with
      | some n => s.cross c n
      | none => s.modeDone c .state
  | 6 =>
    if m == .boot || m == .dormant || m == .safeHold then s.modeDone c .mode
    else
      let s := (s.enterSafeHold .host 0 (some c)).modeDone c .ok
      s.updMd fun x => { x with shCauses := x.shCauses.filter fun y => y.1 != ShCause.host }
  | 7 =>
    if !(m == .run || m == .degraded || m == .standby) then s.modeDone c .mode
    else if !c.priv.ge .service then s.modeDone c .denied
    else s.cross c .maintenance
  | 0 =>
    if !(m == .safeHold || m == .commission || m == .maintenance) then s.modeDone c .mode
    else if (s.rdp .mode 0 Off.MODE_WAKE_SRC).fld 0 3 = 0 || s.upd.trial = 1 then s.modeDone c .state
    else s.updMd fun x => { x with crossing := some ⟨c, m, s.inEpoch.filter fun e => e != .metering, s.now⟩ }
  | _ => s.modeDone c .range

/-- Execute waiting MODE.CMDs while none is crossing (OP-3, R63). -/
def runModeQueue : List QCmd → State → State
  | [], s => s.setQueue modeCmdAddr []
  | c :: cs, s =>
    if s.md.crossing.isSome then s.setQueue modeCmdAddr (c :: cs)
    else
      let s := (s.setQueue modeCmdAddr (c :: cs)).execModeCmd c
      if s.md.crossing.isSome || s.queue modeCmdAddr = [] then s else runModeQueue cs s

/-- A MODE.CMD enters the queue; it executes at once where none is crossing. -/
def State.modeCmd (s : State) (c : QCmd) : State :=
  let q := s.queue modeCmdAddr ++ [c]
  if s.md.crossing.isSome then s.setQueue modeCmdAddr q else runModeQueue q s

/-- The band of DORMANT is drawn, or the panel cannot update (R66, R544). -/
def State.bandDrawn (s : State) : Bool := s.panel.run.isNone && (s.panel.pend.isNone || panelHolds s.panel)

/-- Entry to DORMANT (R66, R563): final save, masks cleared, switch abandoned, sessions ended, the token's source and the engines of CTL
stopped, P3. -/
def State.goDormant (s : State) (c : QCmd) : State :=
  let s := (s.finalSave true true).mtrStop
  let s := (s.abandonSwitch.stopSlots.stopTasks.stopLoops).clearMasks
  let s := s.modeDone c .ok
  let s := (s.abortModes (some c)).endAllSessions
  let s := s.startStations.ethOff
  let s := s.stopSource 4
  let s := (s.setMode .dormant .host).ctlOff
  let s := s.updPwr fun p => { p with dormant := true }
  s.updMd fun m => { m with pstate := .p3, shCauses := [], idleFrom := none, wakes := 0 }

/-- MODE_TRANSITION_COMPLETE (R63): every engine has crossed; the next command executes. -/
def State.transitionDone (s : State) : State :=
  match s.md.crossing with
  | none => s
  | some c =>
    if !s.allCrossed c then s
    else if c.cmd.word.fld 0 4 = 0 then (if s.bandDrawn then s.goDormant c.cmd else s)
    else
      let q := (s.queue modeCmdAddr).tail
      let s := s.updMd fun m => { m with crossing := none }
      runModeQueue q (s.modeDone c.cmd .ok)

/-- An engine that is inside an epoch of the old mode commits it under that mode (R63). -/
def State.underOld (s : State) (e : Eng) (f : State → State) : State :=
  match s.md.crossing with
  | none => f s
  | some c =>
    if !c.engines.contains e || s.crossed_ c e then f s
    else
      let m := s.md.mode
      let t := f (s.updMd fun x => { x with mode := c.from_ })
      t.updMd fun x => { x with mode := m }

/-- What may commit an epoch of `e`: under the mode that the epoch was entered in (R63), mirrored to the partner where it commits (R461). -/
def State.epoch (s : State) (e : Eng) (f : State → State) : State := s.withCommit e fun s => s.underOld e f

/-- Cycles that wait for lanes past their deadline commit when the last lane is fenced (R216). -/
def State.lateSlots (s : State) : State :=
  if s.healthyCount ≠ 0 then s
  else (List.range 8).foldl (fun s n => match (s.slot n).cyc with
    | some y => if y.late && y.lanes == 0 then s.epoch (.slot n) fun s => s.noLane n else s
    | none => s) s

/-! Power states (R69) -/

/-- Registers of pages held in CMP (R591). -/
def inCmp (a : Nat) : Bool := match decodeAddr a with | some r => r.page.domain == .cmp | none => false

/-- CMP powers off (R69, R591): sessions end, W fields of its pages go to the AON shadow, V fields and the main memory are lost. -/
def State.sleepP2 (s : State) : State :=
  let s := s.endAllSessions
  let s := (s.startStations.ethOff.timeSleep.loseScreeds.linkLost).updMd fun m => { m with pstate := .p2, idleFrom := none, wakes := 0 }
  { s with
    shadow := s.regs.filter fun r => inCmp r.1 && regClass r.1 == .w
    regs := s.regs.filter fun r => !(inCmp r.1 && (regClass r.1 == .w || regClass r.1 == .v))
    net := { s.net with hs := [], pntFrz := none, kexBuf := [] }
    slv := { s.slv with series := [], overrides := [] }
    cmdq := s.cmdq.filter fun q => !inCmp q.1
    prg := { s.prg with tasks := s.prg.tasks.map fun (x : Task) => { x with exchd := false, overrun := false, waitOwn := false, execUs := 0, maxUs := 0 } }
    mem := { s.mem with poison := s.mem.poison.filter (·.sram), sandPos := 0, sweeps := 0, late := false, overdue := false } }

/-- SH_IDLE_EXPIRY (R69): MODE.SH_IDLE_S seconds of SAFE-HOLD without a session. -/
def State.idleExpiry (s : State) : State :=
  let n := (s.rdp .mode 0 Off.MODE_SH_IDLE_S).toNat
  match s.md.idleFrom with
  | some t => if s.md.mode == .safeHold && s.md.pstate.cmp && n ≠ 0 && s.host.sessions.isEmpty && s.now ≥ t + n * sec then s.sleepP2 else s
  | none => s

/-- A wake source that MODE.WAKE_SRC arms fires: 0 USB, 1 countdown, 2 alarm, 3 the slice input (R69, R77). -/
def State.wakeArmed (s : State) (src : Nat) : Bool :=
  src ≤ 3 && (s.rdp .mode 0 Off.MODE_WAKE_SRC).bit src && (src == 0 || src == 3 || s.md.wakes.testBit src)

/-- MODE.WAKE_CAUSE of a source. -/
def State.wakeWord (s : State) (src : Nat) : Word :=
  w32 (2 ^ src + (if src = 3 then 256 * (s.rdp .mode 0 Off.MODE_WAKE_SRC).fld 8 6 else 0))

/-- WAKE_FROM_P2 (R69, R70): CMP returns to P1, W fields are restored, screeds are rebuilt. The idle count starts anew, and a CMP fault that stands among
the causes does not send CMP off again before it has run out. Log entry 98, DESIGN CHOICE. -/
def State.wakeP2 (s : State) (src : Nat) : State :=
  if s.md.pstate != .p2 || !s.wakeArmed src then s
  else
    let s := { s with regs := s.shadow.foldl (fun (m : List (Nat × Word)) (r : Nat × Word) => regPut m r.1 r.2) s.regs, shadow := [] }
    let s := s.wrp .mode 0 Off.MODE_WAKE_CAUSE (s.wakeWord src)
    let s := s.updMd fun m => { m with pstate := .p1, wakes := 0, idleFrom := some s.now }
    { s.startStations.wakeEth.grant with mem := { s.mem with sweepFrom := s.now, overdue := false } }

/-! Resets (R77–R83) -/

/-- Registers that keep their values across a reset of kind `k` (*Retention matrix*); B-class registers are lost with the backup supply. -/
def keptReg (k : ResetKind) (bkp : Bool) (a : Nat) : Bool :=
  match regClass a with
  | .n => true
  | .b => bkp
  | .k => !k.clearsK
  | _ => false

/-- RST.COUNTS field of a kind (R87). -/
def State.countReset (s : State) (k : ResetKind) : State :=
  match k with
  | .watchdog => s.satf .rst 0 Off.RST_COUNTS 0 8
  | .software => s.satf .rst 0 Off.RST_COUNTS 8 8
  | .tamper => s.satf .rst 0 Off.RST_COUNTS 16 8
  | .tokenLoss => s.satf .rst 0 Off.RST_COUNTS 24 8
  | _ => s

/-- The kind whose retention counts when several coincide (R78). -/
def firstKind (ks : List ResetKind) : ResetKind :=
  match [ResetKind.powerOn, .brownOut, .tamper, .watchdog, .tokenLoss, .software, .wake].find? fun k => ks.contains k with
  | some k => k
  | none => .software

/-- The mode logic after a reset: BOOT in P0, with what the next start reports. -/
def State.resetMd (s : State) (ks : List ResetKind) (switching : Bool) : ModeState :=
  let k := firstKind ks
  let m := s.md
  let old := m.mode == .boot
  let bits := ks.map ResetKind.bit ++ (if s.upd.expired then [7] else [])
  let df := [1, 2] ++ (if k.clearsK then [0] else []) ++ (if s.prg.masks.isEmpty then [] else [6]) ++ (if switching then [7] else []) ++
    (if ks.contains .tamper then [4] else [])
  { mode := .boot, pstate := .p0, reason := if k == .wake then .wake else .reset, bootFrom := s.now
    causes := (bits ++ (if old then m.causes else m.causes.filter fun c => c == ResetKind.tamper.bit)).eraseDups
    defaulted := (df ++ (if old then m.defaulted else [])).eraseDups
    skipped := if old && m.skipped > 0 then m.skipped else evtSkipped s.evt }

/-- What the engines keep and lose at a reset, apart from registers (R80, R81): V-class state is gone; FRAM, NAND and BKP keep theirs. The count of failed
proofs and the lockout of R44 go with the sessions. Log entry 98, DESIGN CHOICE. -/
def State.resetEngines (s : State) : State :=
  let e := s.evt
  let v := s.slv
  let p := s.pair
  { s with
    shadow := [], cmdq := [], host := {}, ord := { commits := s.ord.commits }, prg := { tasks := List.replicate 16 {} }, can := { segs := List.replicate 6 {} }
    mem := { sweepFrom := s.now }
    evt := { log := e.log, full := e.full, block := ⟨e.block.stop, e.block.stop⟩, nextBlock := e.nextBlock, unnumFrom := (s.rdp .evt 0 Off.EVT_UNNUM).toNat }
    lp := { loops := List.replicate 48 {}, caps := List.replicate 4 {}, frame0 := s.lp.frame0 }
    slv := { slots := (List.range 8).map fun n => { capture := (v.slots.getD n {}).capture }, lanes := List.replicate 8 {}, fc := dropMeans v.fc, fcGen := v.fcGen, ucode := v.ucode }
    pair := { posB := p.posB, loop := p.loop, absentFrom := if p.loop then none else some (p.absentFrom.getD s.now), drillDue := p.drillDue }
    time := { ofs := s.time.ofs }
    eth := { ports := List.replicate 4 {} }
    fld := { slcs := List.replicate 48 {}, grps := List.replicate 4 {} }
    net := { s.net with safeVals := [], mirrors := [], kexBuf := [], secFrom := 0, secCount := 0, lastSec := 0 }
    mtr := { s.mtr with running := false, next := none, saveNow := false }
    prof := { stored := s.prof.stored }
    keys := { s.keys with report := [] }
    upd := { s.upd with owner := none }
    panel := { s.panel with run := none }
    pwr := { s.pwr with test := none } }

/-- The operating time that resumes after a loss of supply: that of the newest save (R517). -/
def State.savedOp (s : State) : Nat := match newestSave s.mtr with | some x => x.opS * sec | none => 0

/-- The backup domain after a loss of its supply: the calendar starts at its reset value (R403, R417). -/
def State.bkpFresh (s : State) : RtcState :=
  { ofs := calReset - s.now, fresh := some s.now, src := s.rtc.src, vbk := s.rtc.vbk, lost := true, stampOn := true }

/-- A reset (R77–R83, R455): the token's source stops, the retention matrix applies, BOOT begins. -/
def State.resetCore (s : State) (ks : List ResetKind) : State :=
  let k : ResetKind := firstKind ks
  let s := s.stopSource 1
  let md := s.resetMd ks s.prof.switch.isSome
  let s := match s.prof.switch with | some _ => s.abandonSwitch | none => s
  let bkp := !(k == ResetKind.powerOn && s.rtc.lost)
  let s := if k == ResetKind.powerOn || k == ResetKind.brownOut then s.putf .sys 0 Off.SYS_PWRCYC 0 24 ((s.rdp .sys 0 Off.SYS_PWRCYC).fld 0 24 + 1) else s
  let s := ks.foldl (fun s k => s.countReset k) s
  let s := { s with
    regs := s.regs.filter fun r => keptReg k bkp r.1
    opNs := if k == ResetKind.powerOn then s.savedOp else s.opNs
    rtc := if !bkp then s.bkpFresh else if k == ResetKind.powerOn then { s.rtc with stampOn := true } else s.rtc }
  let s := { s.resetEngines with md := md, trig := [] }
  let s := if k.clearsK then s.clearDrops else s
  s.startStations.startSafe

/-- WAKE_FROM_DORMANT (R61, R69, R77): an armed source starts BOOT as a wake reset. -/
def State.wakeDormant (s : State) (src : Nat) : State :=
  if s.md.mode != .dormant || s.md.pstate != .p3 || src == 3 || !s.wakeArmed src then s
  else
    let w := s.wakeWord src
    (s.resetCore [.wake]).wrp .mode 0 Off.MODE_WAKE_CAUSE w

/-- RST.CMD SOFT (R79): metering ends its window and step and saves, RELEASE goes to the partner, the reset follows. -/
def State.softReset (s : State) : State :=
  let s := if s.mtr.running then let t := s.finalSave false true; { t with mtr := { t.mtr with clean := true } } else s
  let s := if s.isActive then s.releaseFirst 1 else s
  s.trigger (.reset .software)

/-- RST.COUNTS_CLR (R87). -/
def State.countsClr (s : State) (v : Word) : State :=
  if v.bit 0 then (s.wrp .rst 0 Off.RST_COUNTS 0).recordClr (Page.reg .rst 0 Off.RST_COUNTS_CLR) v else s

/-! The change into DECOMMISSIONED (R489) -/

/-- Slots, anchors, the PUF keys, accumulators, packages, profiles, the backup domain and every register return to factory default;
the log and the registers that describe it stay (R524). -/
def State.decommission (s : State) : State :=
  let s := if s.md.mode == .safeHold then s.addCause .bootCheck 0x0E03 else s.enterSafeHold .bootCheck 0x0E03 none
  let s := { s.clearDrops with
    regs := s.regs.filter fun (r : Nat × Word) => r.1 == Page.reg .evt 0 Off.EVT_OVF
    opNs := 0
    keys := { s.keys with slots := List.replicate 64 none, anchors := List.replicate 5 none, pufOk := false, report := [] }
    mtr := { s.mtr with w := accts0, c := accts0, jrn := [], bufs := [none, none], mark := none, recs := [], hold := [], recNext := 0, full := false, done := [], ring := [], unread := [] }
    slv := { s.slv with series := [], overrides := [], fc := [], fcGen := 0, slots := s.slv.slots.map fun (x : Slot) => { x with capture := none, hostSkim := none } }
    rtc := { s.bkpFresh with lost := false, stampOn := s.rtc.stampOn } }
  (s.updErase).loadProfile {}

/-! Settlement in the order of *Trigger precedence* (R62) -/

/-- Rank of a trigger; making good and the ends of sessions stand outside the table and act first. -/
def Trigger.rank : Trigger → Nat
  | .reset _ => 1
  | .fault _ _ => 2
  | .endSessions => 2
  | .tokenLost _ => 3
  | .decommission => 4
  | .safeHold _ _ => 5
  | .toStandby => 3
  | .tokenGained => 6
  | .unit => 7

/-- The trigger that acts next, with those left: the first of the lowest rank. -/
def nextTrigger : List Trigger → Option (Trigger × List Trigger)
  | [] => none
  | t :: ts => match nextTrigger ts with
    | none => some (t, [])
    | some (u, us) => if u.rank < t.rank then some (u, t :: us) else some (t, ts)

/-- A SAFE-HOLD trigger (R61, R64, R68): in BOOT it decides how BOOT ends; in SAFE-HOLD it is a further cause. A fault of an ACTIVE with a QUALIFIED partner
releases the token instead (R455). A CMP fault powers CMP off (R69). Log entry 68, DEDUCED. -/
def State.safeHoldTrigger (s : State) (c : ShCause) (p : Nat) : State :=
  match s.md.mode with
  | .boot => s.addCause c p
  | .dormant => s
  | m =>
    let fault := c == .cmpFault || c == .ctlFault
    let lockout := c == .ctlFault && p == 0x0C02
    if fault && !lockout && s.isActive && s.pair.peerQual then s.faultRelease 3 true
    else
      let s := if m == .safeHold then s.addCause c p else s.enterSafeHold c p none
      if c == .cmpFault && s.md.pstate.cmp then s.sleepP2 else s

/-- The token is gained in STANDBY (R61, R465, R467): the adapter steers the converters' inputs here, and each starts with REF_SETTLED clear (R452, R466). -/
def State.tokenTaken (s : State) : State :=
  if s.md.mode != .standby then s
  else
    let old := s
    let s :=
      if s.pair.byHandover then s.continue_
      else let (k, s) := s.takeCause; s.takeover k (s.pair.relAt.getD s.now)
    let s := (s.updPair fun p => { p with byHandover := false, released := false, relAt := none }).planDrill.startConverters
    ((s.setMode s.activeMode .token).refreshCan old).resyncStations

/-- A trigger acts, evaluated against the mode that stands (R62). A recoverable fault found in BOOT or DORMANT, where no engine runs an epoch, is not made good. Log
entry 99, DESIGN CHOICE. -/
def State.act (s : State) : Trigger → State
  | .reset k =>
    let ks := k :: s.trig.filterMap fun t => match t with | .reset j => some j | _ => none
    s.resetCore ks.eraseDups
  | .fault e c => if s.md.mode == .boot || s.md.mode == .dormant then s else restart (s.mgStart e c) e
  | .endSessions => s.endAllSessions
  | .tokenLost _ => if s.md.mode == .boot || s.md.mode == .dormant then s else (s.mgAbandon fun _ => true).resetCore [.tokenLoss]
  | .decommission => s.decommission
  | .safeHold c p => s.safeHoldTrigger c p
  | .toStandby => if s.md.mode.drives then (s.mgAbandon fun _ => true).changeMode .standby .token else s
  | .tokenGained => s.tokenTaken
  | .unit => s
where
  /-- A slot whose cycle is being made good computes again from its skim (R99); metering returns to its last internal commit (R89). -/
  restart (s : State) : Eng → State
    | .slot n => s.withCommit (.slot n) fun s => s.restartCycle n
    | .metering => s.mtrRollback
    | _ => s

/-- Triggers act one after another until none is left. -/
def settleTriggers : Nat → State → State
  | 0, s => { s with trig := [] }
  | k + 1, s => match nextTrigger s.trig with
    | none => s
    | some (t, ts) => settleTriggers k ({ s with trig := ts }.act t)

/-- MODE.DEG follows the units; RUN and DEGRADED follow MODE.DEG (R61, R67, R85). -/
def State.refreshDeg (s : State) : State :=
  let d := s.degNow
  let s := if d = s.md.deg then s else (s.updMd fun m => { m with deg := d }).irq .mode 0 3
  if s.md.mode == .run && d ≠ 0 then s.setMode .degraded .unit
  else if s.md.mode == .degraded && d = 0 then s.setMode .run .unit
  else s

/-- What follows from the state whatever brought it about: MODE.DEG, causes, connections, qualification, drills, the panel's band, commands that wait. Log entry 95, DEDUCED. -/
def State.follow (s : State) : State :=
  ((((((((((s.refreshDeg.sandLate).refreshSat).refreshCauses).switchBuilds).polSync).refreshQual).drillCheck).bandCheck).runPair).runPwr).resetsDue

/-- A number of trigger steps that no event reaches. -/
def settleFuel : Nat := 256

/-- The event settles. -/
def State.settle (s : State) : State :=
  (settleTriggers settleFuel (settleTriggers settleFuel s).follow).refreshDeg.countTx

/-! Time and page resets -/

/-- An event occurs at instant `t` of the cycle timer, which never runs back. Log entry 9, DESIGN CHOICE. Log entry 65, DEDUCED. Log entry 95, DEDUCED. -/
def State.begin (s : State) (t : Nat) : State :=
  { s with now := max s.now t, lp := { s.lp with loops := s.passFrames t }, opNs := if s.md.pstate == .p4 then s.opNs else s.opNs + (t - s.now), out := [], trig := [], edge := if t > s.now then [] else s.edge }

/-! SYS and MODE pages (R84, R85) -/

/-- SYS.STAT (R84). -/
def State.sysStat (s : State) : Word :=
  w32 (b2n (!s.prg.masks.isEmpty) + 2 * b2n (s.md.deg != 0) + 4 * b2n (s.md.mode == .safeHold) + 8 * b2n s.hasToken +
    16 * b2n (s.slv.slots.any (·.stale)) + 32 * b2n (s.rdp .rst 0 Off.RST_DEFAULTED != 0))

/-- Value of offset `o` of the SYS page, where it is computed. -/
def State.sysPageView (s : State) (o : Nat) : Option Word :=
  if o = Off.SYS_CAP then some s.variant.cap
  else if o = Off.SYS_STAT then some s.sysStat
  else if o = Off.SYS_OPTIME_S then some (w32 s.optimeS)
  else none

/-- MODE.CUR (R85). -/
def State.modeCur (s : State) : Word :=
  w32 (s.md.mode.code + 16 * s.md.pstate.code + 256 * s.md.reason.code + 65536 * s.md.transitions)

/-- Value of offset `o` of the MODE page, where it is computed. -/
def State.modePageView (s : State) (o : Nat) : Option Word :=
  if o = Off.MODE_CUR then some s.modeCur
  else if o = Off.MODE_DEG then some (w32 s.md.deg)
  else if o = Off.MODE_SH_CAUSE then some s.shWord
  else none

/-- MODE.WAKE_SRC accepts a value: an armed slice input names a fitted slice (R85). -/
def State.wakeSrcOk (s : State) (w : Word) : Bool := !w.bit 3 || (1 ≤ w.fld 8 6 && w.fld 8 6 ≤ s.variant.slices)

end Sys2Proof.Machine
end

