-- ==== Sys2Proof/Machine/View.lean ====
section
/-!
DEFINITION. What a register reads as (R4, R29, R32): the common page header and, page by page, the values that are computed, all others as stored.
-/
namespace Sys2Proof.Machine

/-- PAGE_ID (R27, R32). -/
def pageId (p : Page) (i : Nat) : Word := w32 (1 + 256 * (p.inst0 + i) + 65536 * p.blockCode)

/-- PAGE_CAP of a page kind (R32 and the owning chapters). -/
def pageCap (v : Variant) (p : Page) (i : Nat) : Word :=
  match p with
  | .slv => w32 (v.lanes + 16 * 8)
  | .loop | .mtr => 8
  | .slc => 0xC
  | .prg => 0x10
  | .can => 6
  | .eth => if i < 2 then 1 else 0
  | .safe => 0x20
  | .pol => 0x40
  | _ => 0

/-- PAGE_CTRL[ENABLE] (R32, R233, R380). -/
def State.pageEnable (s : State) (p : Page) (i : Nat) : Bool :=
  match p with
  | .slot => (s.slot i).cfg.isSome
  | .can => (s.seg (i + 1)).cfg.isSome
  | _ => true

/-- PAGE_CTRL[FREEZE] (R163, R522). -/
def State.pageFrozen (s : State) (p : Page) : Bool :=
  match p with
  | .pnt => s.net.pntFrz.isSome
  | .evt => s.evt.freeze.isSome
  | _ => false

/-- PAGE_CTRL (R32). -/
def State.pageCtrl (s : State) (p : Page) (i : Nat) : Word :=
  w32 (b2n (s.pageEnable p i) + 2 * b2n (s.resetPending p i) + 4 * b2n (s.pageFrozen p))

/-- PAGE_STAT[STATE], as the owning chapter encodes it; zero where it gives none. -/
def State.pageState (s : State) (p : Page) (i : Nat) : Nat :=
  match p with
  | .ord => s.ordPageState
  | .mem => s.memPageState
  | .rtc => s.rtcPageState
  | .time => s.timePageState
  | .evt => s.evtPageState
  | .sec => s.secPageState
  | .upd => s.updPageState
  | .pair => s.pairPageState
  | .safe => s.safePageState
  | .disp => s.dispPageState
  | .pwr => s.pwrPageState
  | .slc => s.slcPageState i
  | .adc => s.adcPageState i
  | .mtr => s.mtrPageState
  | .loop => s.loopPageState
  | .prg => s.prgPageState
  | .force => s.forcePageState
  | .slv => s.slvPageState
  | .slot => s.slotPageState i
  | .can => (s.seg (i + 1)).st.code
  | .eth => s.ethPageState i
  | .dpx => b2n (!(upStations s).isEmpty)
  | _ => 0

/-- PAGE_STAT[DEGRADED] (R32, R232, R233). Log entry 63, DEDUCED. -/
def State.pageDegraded (s : State) : Page → Bool
  | .slv | .slot => s.slvDegraded
  | _ => false

/-- PAGE_STAT[FAULT]: the page's unit is fenced or failed (R32, R287, R376). -/
def State.pageFault (s : State) (p : Page) (i : Nat) : Bool :=
  match p with
  | .slc => (s.grp i).cause.isSome
  | .can => (s.seg (i + 1)).st == SegState.fenced
  | .safe => s.safe.lockout
  | _ => false

/-- PAGE_STAT (R32): READY from the end of BOOT on. Log entry 63, DEDUCED. -/
def State.pageStat (s : State) (p : Page) (i : Nat) : Word :=
  w32 (b2n (s.md.mode != .boot) + 2 * b2n (s.pageBusy p i) + 4 * b2n (s.pageDegraded p) + 8 * b2n (s.pageFault p i) + 16 * (s.pageState p i % 16))

/-- A header register (R32). -/
def State.headerView (s : State) (x : Session) (p : Page) (i o : Nat) : Word :=
  if o = Off.PAGE_ID then pageId p i
  else if o = Off.PAGE_CAP then pageCap s.variant p i
  else if o = Off.PAGE_CTRL then s.pageCtrl p i
  else if o = Off.PAGE_STAT then s.pageStat p i
  else if o = Off.PAGE_IRQ then s.irqWord x p i
  else s.rdp p i o

/-- A block register whose value is computed; `x` is the reading session. -/
def State.blockView (s : State) (x : Session) (p : Page) (i o : Nat) : Option Word :=
  match p with
  | .sys => s.sysPageView o
  | .rst => none
  | .mode => s.modePageView o
  | .prof => s.profPageView o
  | .ord => if o = Off.ORD_BAR_STAT then some x.barStat else none
  | .mem => s.memPageView o
  | .rtc => s.rtcPageView o
  | .time => s.timePageView o
  | .evt => s.evtPageView x o
  | .sec => s.secPageView x o
  | .upd => s.updPageView o
  | .pair => s.pairPageView o
  | .safe => s.safePageView o
  | .pol => s.polPageView o
  | .disp => s.dispPageView o
  | .pwr => s.pwrPageView o
  | .slc => s.slcPageView i o
  | .adc => s.adcPageView i o
  | .mtr => s.mtrPageView o
  | .pq => s.pqPageView o
  | .heat => s.heatPageView o
  | .pulse => s.pulsePageView o
  | .loop => s.loopPageView i o
  | .lcap => s.lcapView o
  | .prg => s.prgPageView o
  | .force => s.forcePageView o
  | .slv => s.slvPageView o
  | .slot => s.slotPageView i o
  | .sdata => s.sdataView x o
  | .can => s.canPageView (i + 1) o
  | .eth => s.ethPageView i o
  | .dpx => s.dpxPageView o
  | .pnt => s.pntPageView o
  | .net => s.netPageView o

/-- What a defined register of a present page reads as (R29): WO and SC read zero. -/
def State.view (s : State) (x : Session) (r : RegAddr) (d : RegDef) : Word :=
  if d.acc == .wo || d.acc == .sc then 0
  else if r.off < 0x40 then s.headerView x r.page r.inst r.off
  else (s.blockView x r.page r.inst r.off).getD (s.rdp r.page r.inst r.off)

end Sys2Proof.Machine
end

