-- ==== Sys2Proof/Machine/Write.lean ====
section
/-!
DEFINITION. A write to a register: where it may go (R4, R27–R30, R36, R43, R65, R592), what commands enter their queues (R592, OP-3), and what each writable register
of each page does with the value. Every write of a host, of a mirrored HOSTIN frame and of the rows that stand for one write runs through here.
-/
namespace Sys2Proof.Machine

/-! NET.CMD (R148, R162) -/

/-- The pre-shared key of generation `g` of a station (R146), from the root in the slot that DPX.ROOT_SLOT names. -/
def State.stationPsk (s : State) (st g : Nat) : Option (List Byte) :=
  match s.keyOf ((s.rdp .dpx 0 Off.DPX_ROOT_SLOT).fld 0 6) useRoot, s.net.img with
  | some root, some im =>
    some (Hash.hkdfExpand32 (Hash.hkdfExtract (Hash.ascii "Duxaeth DPX") root) (Hash.ascii "DPX1" ++ natLE 4 im.netid.toNat ++ natLE 2 st ++ natLE 4 g))
  | _, _ => none

/-- KEXPORT (R148): the key of the next generation, wrapped under the key of the slot in NET.KEX_SLOT. -/
def State.netKexport (s : State) (st : Nat) : Err × State :=
  match s.stn? st with
  | none => (.notFound, s)
  | some x =>
    let k := (s.rdp .net 0 Off.NET_KEX_SLOT).fld 0 6
    if !s.occupied k then (.absentUnit, s)
    else match s.keyOf k useKek with
      | none => (.auth, s)
      | some kek => match s.stationPsk st (x.kgen + 1) with
        | none => (.state, s)
        | some psk =>
          let b := Aes.wrap kek psk
          let s := { s with net := { s.net with kexBuf := (List.range 10).map fun j => w32 (leAt b (4 * j) 4) } }
          (.ok, s.recordGen 0xB .net 0 Off.NET_KEX_SLOT (w32 k))

/-- DISABLE: the departure of the station is a point-ingest epoch (R142). -/
def State.netDisableEpoch (s : State) (st : Nat) : Err × State := ((s.netDisable st).1, s.epoch (.ingest st) fun s => (s.netDisable st).2)

/-- Execute one NET.CMD (*NET.CMD operations*). -/
def State.execNetCmd (s : State) (c : QCmd) : State :=
  let op := c.word.fld 0 4
  let st := c.word.fld 16 12
  let need : Priv := if op = 3 then .operate else if op ≤ 2 then .config else .service
  let r : Err × State :=
    if op = 0 ∨ 5 < op ∨ st = 0 then (.range, s)
    else if !c.priv.ge need then (.denied, s)
    else if op ≠ 3 ∧ !commMaint s.md.mode then (.mode, s)
    else if op = 1 then s.netEnable st
    else if op = 2 then s.netDisableEpoch st
    else if op = 3 then s.netResync st
    else if op = 4 then s.netNextGen st
    else s.netKexport st
  r.2.complete .net 0 Off.NET_CMD_STAT r.1 (c.word.fld 8 8)

/-! Command registers (R592) -/

/-- The lowest privilege of any operation of a page's command register. -/
def lowestPriv : Page → Priv
  | .rst | .evt | .sec | .upd | .time | .safe | .slc | .slv | .force => .service
  | .prof | .adc | .can => .config
  | _ => .operate

/-- The page's command register stands at this offset; RST.CMD is one without a queue (R79). -/
def isCmd (p : Page) (o : Nat) : Bool := cmdOff p == some o || (p == .rst && o == Off.RST_CMD)

/-- Commands that wait on a page, those set apart behind a page reset among them. -/
def State.waiting (s : State) (p : Page) (i : Nat) : Nat := (s.queue (cmdAddr p i)).length + (s.queue (cmdAddr p i + 1)).length

/-- Append a command to its page's queue. -/
def State.enqueue (s : State) (p : Page) (i : Nat) (c : QCmd) : State := s.setQueue (cmdAddr p i) (s.queue (cmdAddr p i) ++ [c])

/-- An accepted command enters its queue, and executes at once where nothing makes it wait (R592, OP-3). -/
def State.takeCmd (s : State) (p : Page) (i : Nat) (c : QCmd) : State :=
  if s.resetPending p i && !enginePage p then s.setQueue (cmdAddr p i + 1) (s.queue (cmdAddr p i + 1) ++ [c])
  else match p with
    | .mode => s.modeCmd c
    | .prof => s.execProfCmd c
    | .time => s.execTimeCmd c
    | .rtc => s.execRtcCmd c
    | .evt => s.execEvtCmd c
    | .sec => s.execSecCmd c
    | .upd => s.execUpdCmd c
    | .pair => (s.enqueue .pair 0 c).runPair
    | .safe => s.execSafeCmd c
    | .disp => s.execDispCmd c
    | .pwr => (s.enqueue .pwr 0 c).runPwr
    | .slc => runSlcQueue i none (s.queue (cmdAddr .slc i) ++ [c]) s
    | .adc => s.execAdcCmd i c
    | .mtr => s.enqueue .mtr 0 c
    | .loop => (s.enqueue .loop i c).runLoop i none
    | .lcap => s.execLcapCmd c
    | .force => if s.prg.due.isEmpty then runForceQueue false (s.queue (cmdAddr .force 0) ++ [c]) s else s.enqueue .force 0 c
    | .slv => s.slvCmd c
    | .slot => s.slotCmd i c
    | .sdata => s.sdataCmd c
    | .can => (s.enqueue .can i c).runCan (i + 1)
    | .net => s.execNetCmd c
    | _ => s

/-- What a command captures at its acceptance: the target registers of FORCE (R358). -/
def State.cmdArgs (s : State) : Page → List Word
  | .force => [Off.FORCE_T_KIND, Off.FORCE_T_ADDR, Off.FORCE_T_VAL_LO, Off.FORCE_T_VAL_HI].map fun o => s.rdp .force 0 o
  | _ => []

/-- A write to a command register: BUSY when its queue is full, else accepted. RST.CMD has no queue and no CMD_STAT: without its key or with another OP it is accepted and does nothing (R79, R87, R592). Log entry 19, DEDUCED. Log entry 89, DEDUCED. -/
def State.cmdWrite (s : State) (x : Session) (p : Page) (i : Nat) (v : Word) : Err × State :=
  if p == .rst then
    (.ok, if v.fld 8 8 = 0xC3 ∧ v.fld 0 4 = 1 then s.softReset else s)
  else if s.waiting p i ≥ queueMax then (.busy, s)
  else (.ok, s.takeCmd p i ⟨v, x.slot, x.priv, s.now, s.cmdArgs p⟩)

/-! Where a write may go -/

/-- What an address leads to. -/
inductive Located
  | bad (e : Err) (at_ : Option (Page × Nat))
  | reg (r : RegAddr) (d : RegDef)
deriving DecidableEq, Repr

/-- Decode an address: unmapped, absent, misaligned, undefined (R4, R27, R28, R37). Log entry 4, DEDUCED. Log entry 93, DEDUCED. -/
def State.locate (s : State) (a : Nat) : Located :=
  match decodeAddr a with
  | none => .bad .addr none
  | some r =>
    if !r.page.present s.variant r.inst then .bad .absent none
    else if a % 4 ≠ 0 then .bad .align (some (r.page, r.inst))
    else match r.page.defAt r.off with
      | none => .bad .addr (some (r.page, r.inst))
      | some d => .reg r d

/-- The modes of an RWL register permit the write (R29). -/
def mdOk (md : Nat) (m : Mode) : Bool := md = 0 || m == .commission || (md = 2 && m == .maintenance)

/-- A user-calibration register of a slice block (R281). -/
def isUsr (o : Nat) : Bool := 0x100 ≤ o && o < 0x400 && ((o - 0x100) % 0x40 = 0x1C || (o - 0x100) % 0x40 = 0x20)

/-- The privilege a write needs (R43, R592; R146, R281, R298, R319 for single registers; PAGE_LOCK judges the privilege itself, R36). Log entry 10, DEDUCED. -/
def needPriv (p : Page) (o : Nat) : Priv :=
  if isCmd p o then lowestPriv p
  else if o = Off.PAGE_LOCK then .none
  else match p with
    | .slc => if isUsr o then .service else .operate
    | .mtr => if o = Off.MTR_KEY_SLOT || isCorr o then .service else .operate
    | .dpx => if o = Off.DPX_ROOT_SLOT then .service else .config
    | _ => p.writePriv

/-- The register takes no write: all its fields are RO (R30), or are RO as things stand. -/
def State.readOnly (s : State) (x : Session) (r : RegAddr) (d : RegDef) : Bool :=
  d.acc == .ro || (r.page == .eth && ethReadOnly r.inst r.off) || (r.page == .sdata && 0x100 ≤ r.off && x.sdSel.fld 4 4 ≠ 0) ||
    (r.page == .sec && 0x400 ≤ r.off && s.secWin ≠ 0)

/-- The page is unlocked by this session (R36). -/
def State.ownsLock (s : State) (x : Session) (p : Page) (i : Nat) : Bool := s.rdp p i Off.PAGE_LOCK == w32 (256 * x.slot)

/-- Access, lock, mode and privilege of a write, in the order of R48. Log entry 4, DEDUCED. -/
def State.writeErr (s : State) (x : Session) (r : RegAddr) (d : RegDef) : Err :=
  if s.readOnly x r d then .access
  else if d.acc == .rwl && !s.ownsLock x r.page r.inst then .locked
  else if (d.acc == .rwl && !mdOk d.md s.md.mode) || (r.page == .force && 0x40 ≤ r.off && !commMaint s.md.mode) then .mode
  else if !x.priv.ge (needPriv r.page r.off) then .denied
  else .ok

/-! What a write does -/

/-- Store the writable bits. -/
def State.store (s : State) (r : RegAddr) (d : RegDef) (v : Word) : State :=
  s.wr r.addr ((s.rd r.addr &&& ~~~(w32 d.wm)) ||| (v &&& w32 d.wm))

/-- Store if the value is in its range, else refuse with RANGE. -/
def State.storeIf (s : State) (r : RegAddr) (d : RegDef) (v : Word) (ok : Bool) : Err × State := if ok then (.ok, s.store r d v) else (.range, s)

/-- PAGE_LOCK (R36). Log entry 10, DEDUCED. -/
def State.lockWrite (s : State) (x : Session) (p : Page) (i : Nat) (v : Word) : Err × State :=
  let w := s.rdp p i Off.PAGE_LOCK
  let own := s.ownsLock x p i
  if v.bit 0 then
    if w.bit 0 then (if x.priv.ge .operate then (.ok, s) else (.denied, s)) else if own then (.ok, s.wrp p i Off.PAGE_LOCK 0xFF01) else (.locked, s)
  else if !w.bit 0 && !own then (.locked, s)
  else if !x.priv.ge .config then (.denied, s)
  else if v.fld 16 16 ≠ 0x5A5A then (.range, s)
  else (.ok, s.wrp p i Off.PAGE_LOCK (w32 (256 * x.slot)))

/-- PAGE_IRQ: 1 clears (R31); clearing ERR clears PAGE_ERR (R34); a masked event word that stays non-zero is a new rise (R55). -/
def State.irqWrite (s : State) (x : Session) (p : Page) (i : Nat) (v : Word) : State :=
  let s := s.w1c (p.reg i Off.PAGE_IRQ) v
  let s := if p == .sdata then s.updSess x.slot fun y => { y with sdIrq := y.sdIrq &&& ~~~(v &&& ~~~((lookupA (sessEdge x.slot) s.edge).getD 0)) } else s
  let s := if v.bit 0 && !(s.rdp p i Off.PAGE_IRQ).bit 0 then s.wrp p i Off.PAGE_ERR 0 else s
  if s.masked p i ≠ 0 then s.rise p i
  else match s.sess? x.slot with
    | some y => if s.irqWord y p i &&& s.rdp p i Off.PAGE_IRQ_EN ≠ 0 then s.updSess x.slot (noteRise (p.sumBit i)) else s
    | none => s

/-- PAGE_CTRL (R32, R33, R163, R522): ENABLE ignores writes. -/
def State.ctrlWrite (s : State) (x : Session) (p : Page) (i : Nat) (v : Word) : Err × State :=
  if v.bit 1 && p.resetDenied then (.denied, s)
  else
    let r : Err × State := match p with
      | .pnt => (.ok, s.pntFreeze (v.bit 2))
      | .evt => s.evtFreeze x.slot (v.bit 2)
      | _ => (.ok, s)
    if r.1 == .ok && v.bit 1 then (.ok, r.2.pageResetWrite p i) else r

/-- A header register takes a write. -/
def State.headerWrite (s : State) (x : Session) (r : RegAddr) (d : RegDef) (v : Word) : Err × State :=
  if r.off = Off.PAGE_CTRL then s.ctrlWrite x r.page r.inst v
  else if r.off = Off.PAGE_IRQ then (.ok, s.irqWrite x r.page r.inst v)
  else if r.off = Off.PAGE_IRQ_EN then
    (.ok, (s.wrp r.page r.inst r.off (v &&& w32 (r.page.irqDefined ||| 1))).riseIf r.page r.inst (s.masked r.page r.inst))
  else if r.off = Off.PAGE_LOCK then s.lockWrite x r.page r.inst v
  else (.ok, s.store r d v)

/-- A loop-block register (R247, R248, R267): `j` is the loop's number, `o` the offset in its block. -/
def State.loopBlkWrite (s : State) (x : Session) (r : RegAddr) (d : RegDef) (n o : Nat) (v : Word) : Err × State :=
  if o = 0x34 then
    if v.fld 0 8 = 0 then (.range, s) else (.ok, s.updLoop n fun l => { l with missLim := v.fld 0 8 })
  else if o = 0x38 then
    if v.fld 0 20 = 0 ∨ 600000 < v.fld 0 20 then (.range, s) else (.ok, s.updLoop n fun l => { l with maxAge := v.fld 0 20 })
  else if 0x40 ≤ o ∧ o < 0xF8 then
    if o % 8 = 0 then (.ok, s.noteLo x.slot r.addr v) else s.tuneHi x.slot n ((o - 0x40) / 8) v
  else if o = 0x100 ∨ o = 0x108 ∨ o = 0x160 then (.ok, s.noteLo x.slot r.addr v)
  else if o = 0x104 then s.spLocalHi x.slot n v
  else if o = 0x10C then s.manOutHi x.slot n v
  else if o = 0x164 then
    let w := s.pairValue x.slot (r.addr - 4) (pair64 (s.rd (r.addr - 4)) (s.rd r.addr)) v
    (.ok, (s.wr (r.addr - 4) (lo32 w)).wr r.addr (hi32 w))
  else (.ok, s.store r d v)

/-- DPX.CFG accepts a value (R161). -/
def dpxCfgOk (w : Word) : Bool :=
  10 ≤ w.fld 0 8 && w.fld 0 8 ≤ 250 && 1 ≤ w.fld 8 4 && 2 ≤ w.fld 12 4 && 1 ≤ w.fld 16 5 && w.fld 16 5 ≤ 16

/-- The clearing register of a page, and what a write to it does. -/
def State.clrWrite (s : State) (p : Page) (i o : Nat) (v : Word) : Option State :=
  match p with
  | .rst => if o = Off.RST_COUNTS_CLR then some (s.countsClr v) else none
  | .mem => if o = Off.MEM_CLR then some (s.memClr v) else none
  | .time => if o = Off.TIME_CLR then some (s.timeClr v) else none
  | .evt => if o = Off.EVT_CNT_CLR then some (s.evtCntClr v) else none
  | .sec => if o = Off.SEC_CLR then some (s.secClr v) else none
  | .pair => if o = Off.PAIR_CLR then some (s.pairClr v) else none
  | .safe => if o = Off.SAFE_CLR then some (s.safeClr v) else none
  | .pol => if o = Off.POL_CLR then some (s.polClr v) else none
  | .disp => if o = Off.DISP_CLR then some (s.dispClr v) else none
  | .pwr => if o = Off.PWR_CLR then some (s.pwrClr v) else none
  | .slc => if o = Off.SLC_CLR then some (s.slcClr i v) else none
  | .adc => if o = Off.ADC_CLR then some (s.adcClr i v) else none
  | .mtr => if o = Off.MTR_CLR then some (s.mtrClr v) else none
  | .pq => if o = Off.PQ_CLR then some (s.pqClr v) else none
  | .heat => if o = Off.HEAT_CLR then some (s.heatClr v) else none
  | .pulse => if o = Off.PULSE_CLR then some (s.pulseClr v) else none
  | .loop => if o = Off.LOOP_CLR then some (s.loopClr i v) else none
  | .prg => if o = Off.PRG_CLR then some (s.prgClr v) else none
  | .slot => if o = Off.SLOT_CLR then some (s.slotClr i v) else none
  | .can => if o = Off.CAN_CLR then some (s.canClr (i + 1) v) else none
  | .eth => if o = Off.ETH_CLR then some (s.ethClr i v) else none
  | .dpx => if o = Off.DPX_CLR then some (s.dpxClr v) else none
  | _ => none

/-- A block register other than a command or clearing register takes a write. -/
def State.blockWrite (s : State) (x : Session) (r : RegAddr) (d : RegDef) (v : Word) : Err × State :=
  let o := r.off
  let i := r.inst
  match r.page with
  | .sys => s.storeIf r d v (v.fld 1 2 ≠ 3)
  | .rst => s.storeIf r d v (100 ≤ v.fld 0 14 && v.fld 0 14 ≤ 10000)
  | .mode =>
    if o = Off.MODE_SH_IDLE_S then s.storeIf r d v (v.toNat ≤ 86400)
    else if o = Off.MODE_WAKE_SRC then s.storeIf r d v (s.wakeSrcOk v)
    else (.ok, s.store r d v)
  | .ord => if o = Off.ORD_BARRIER then s.barrierWrite x.slot (v.fld 0 8) none else s.storeIf r d v (mgCfgOk v)
  | .mem => if memCfgOk v then (.ok, (s.store r d v).sandCfg ((s.rdp .mem 0 Off.MEM_CFG).bit 0)) else (.range, s)
  | .rtc =>
    if o = Off.RTC_FLAGS then (.ok, s.rtcFlagsClear v)
    else if o = Off.RTC_ALM_DATE ∨ o = Off.RTC_ALM_TIME then if s.alarmArmed then (.state, s) else (.ok, s.store r d v)
    else if o = Off.RTC_CD_LOAD then (.ok, s.cdLoad v)
    else if o = Off.RTC_PWRREQ_CFG then s.storeIf r d v (pwrReqOk v)
    else (.ok, s.store r d v)
  | .time =>
    if o = Off.TIME_CFG then s.storeIf r d v (timeCfgOk v)
    else if o = Off.TIME_JUMP_US then s.storeIf r d v (jumpUsOk v)
    else if o = Off.TIME_HOLD_MIN then s.storeIf r d v (holdMinOk v)
    else (.ok, s.store r d v)
  | .evt =>
    if o = Off.EVT_CFG then s.storeIf r d v (evtCfgOk v)
    else if o = Off.EVT_RD_IDX then (.ok, s.updSess x.slot fun y => { y with rdIdx := v.fld 0 16 })
    else if o = Off.EVT_RD_SEQ then s.rdSeq x.slot v
    else (.ok, s.updSess x.slot fun y => { y with auth := insertA ((o - Off.EVT_AUTH0) / 4) v y.auth })
  | .sec =>
    if o = Off.SEC_TAMPER_CAUSE then (.ok, s.w1c r.addr (v &&& w32 d.wm))
    else if 0x400 ≤ o then s.secWinWrite x.slot o v
    else (.ok, s.store r d v)
  | .upd =>
    if o = Off.UPD_HEALTH then s.healthWrite v
    else if s.updStageOk x.slot o then (.ok, s.store r d v) else (.state, s)
  | .pair =>
    if o = Off.PAIR_CFG then s.storeIf r d v (pairCfgOk v)
    else if drillCfgOk v then (.ok, (s.store r d v).planDrill) else (.range, s)
  | .disp =>
    if o = Off.DISP_CFG then s.storeIf r d v (dispCfgOk v)
    else if o = Off.DISP_SEL then s.storeIf r d v (dispSelOk v)
    else if Off.DISP_BUF0 ≤ o then (.ok, s.dispBuf o v)
    else (.ok, s.store r d v)
  | .pwr => s.fieldLim v
  | .slc => s.usrCal (12 * i + (o - 0x100) / 0x40 + 1) ((o - 0x100) % 0x40 = 0x20) v
  | .mtr =>
    if isCorr o then (.ok, s.corrWrite o v)
    else if o = Off.MTR_REC_SEL then (.ok, s.recSel v)
    else (.ok, s.store r d v)
  | .loop => if 0x100 ≤ o then s.loopBlkWrite x r d (8 * i + (o - 0x100) / 0x180) ((o - 0x100) % 0x180) v else (.ok, s.store r d v)
  | .prg =>
    if o = Off.PRG_ALM_ACK then s.almAck v
    else if (o - Off.PRG_HIN0_LO) % 8 = 0 then (.ok, s.noteLo x.slot r.addr v)
    else (.ok, s.hinHi x.slot ((o - Off.PRG_HIN0_LO) / 8) v)
  | .slv => s.storeIf r d v (slvCfgOk v)
  | .sdata => if o = Off.SDATA_SEL then (.ok, s.sdSelWrite x.slot v) else (.ok, s.stageWrite x.slot o v)
  | .eth => if o = Off.ETH_IP_PREFIX then s.storeIf r d v (ipPrefixOk v) else (.ok, s.store r d v)
  | .dpx => if o = Off.DPX_CFG then s.storeIf r d v (dpxCfgOk v) else (.ok, s.store r d v)
  | .pnt => s.pntBase v
  | _ => (.ok, s.store r d v)

/-- The effect of an accepted write, or the RANGE, STATE or other refusal that its value meets. -/
def State.effect (s : State) (x : Session) (r : RegAddr) (d : RegDef) (v : Word) : Err × State :=
  if r.off < 0x40 then s.headerWrite x r d v
  else if isCmd r.page r.off then s.cmdWrite x r.page r.inst v
  else match s.clrWrite r.page r.inst r.off v with
    | some t => (.ok, t)
    | none => s.blockWrite x r d v

/-- What a masked write merges with (R46): the value read, with the bits that trigger actions at 0. Log entry 6, DEDUCED. -/
def State.mergeBase (s : State) (x : Session) (r : RegAddr) (d : RegDef) : Word :=
  match d.acc with
  | .w1c | .w1s | .wo | .sc => 0
  | _ => if r.off = Off.PAGE_CTRL then (s.view x r d).setBit 1 false else s.view x r d

/-- One register write by a session (R30, R34, R35, R46): refused into PAGE_ERR, or counted and performed. Log entry 6, DEDUCED. -/
def State.writeReg (s : State) (x : Session) (a : Nat) (v : Word) (mask : Option Word) : Err × State :=
  match s.locate a with
  | .bad e none => (e, s)
  | .bad e (some p) => (e, s.refuse p.1 p.2 e)
  | .reg r d =>
    match s.writeErr x r d with
    | .ok =>
      let v := match mask with
        | some m => (s.mergeBase x r d &&& ~~~m) ||| (v &&& m)
        | none => v
      match ((s.accepted r.page r.inst).notePend x.slot r.page r.inst r.off).effect x r d v with
      | (.ok, t) => (.ok, t)
      | (e, _) => (e, s.refuse r.page r.inst e)
    | e => (e, s.refuse r.page r.inst e)

end Sys2Proof.Machine
end

