-- ==== Sys2Proof/Machine/Dra.lean ====
section
/-!
DEFINITION. Duxaeth Register Access (R38–R58): sessions, requests with their order and responses, block operations, subscriptions, and writes mirrored to
the partner (R109).
-/
namespace Sys2Proof.Machine

/-! Frames and sessions (R38–R44) -/

/-- A discarded frame counts at its port (R41, R401). -/
def State.draDrop (s : State) : Port → State
  | .e3 => s.satp .eth 2 Off.ETH_DRA_DROP
  | .e4 => s.satp .eth 3 Off.ETH_DRA_DROP
  | .usb => s.satp .eth 3 Off.ETH_USB_DRA_DROP

/-- The session of an identity, on the port it was opened on. -/
def State.sessOf (s : State) (port : Port) (id : Word) : Option Session := s.host.sessions.find? fun x => x.id == id && x.port == port

/-- A valid frame of the host keeps its session alive (R44). -/
def State.touch (s : State) (slot : Nat) : State := s.updSess slot fun x => { x with last := s.now }

/-- A session frame arrives: dropped when CMP is off or the frame is bad, answered with ERROR-PLAIN when it names no session that is ready as `ready` asks. Log entry 5, DESIGN CHOICE. -/
def State.withSess (s : State) (port : Port) (good ready : Bool) (id : Word) (f : Session → State → State) : State :=
  if !s.md.pstate.cmp then s
  else if !good then s.draDrop port
  else match s.sessOf port id with
    | none => s.emit (.errorPlain port .session)
    | some x => if x.ready == ready then f x (s.touch x.slot) else s.emit (.errorPlain port .session)

/-- The lowest free session slot. -/
def State.freeSlot (s : State) : Option Nat := (List.range 8).find? fun k => (s.sess? k).isNone

/-- SESSION-INIT (R42, R44; refused in DECOMMISSIONED, R489): the host's public key and nonce, the credential identity, the privilege requested. Log entry 5, DESIGN CHOICE. -/
def State.sessionInit (s : State) (port : Port) (good : Bool) (key nonce : List Byte) (cred want : Nat) : State :=
  if !s.md.pstate.cmp then s
  else if !good then s.draDrop port
  else if s.keys.lcs = 3 || s.host.lockUntil.any (s.now < ·) then s.emit (.errorPlain port .denied)
  else match s.freeSlot with
    | none => s.emit (.errorPlain port .capacity)
    | some k =>
      if Priv.ofCode want == Priv.none then s.emit (.errorPlain port .range)
      else
        let (id, s) := s.fresh 0x42
        let (cn, s) := s.fresh 0x43
        let d := Config.ephemeral s.free
        let cnb := natLE 16 cn
        let idb := natLE 4 id
        let init := key ++ nonce ++ natLE 4 cred ++ natLE 1 want
        let body := idb ++ P256.uncompressed (P256.publicKey d) ++ cnb ++ deviceId
        let hash := Hash.sha256 (init ++ body)
        let sig := P256.idSign hash
        let keys := (Hash.hkdfExpand96 (Hash.hkdfExtract (nonce ++ cnb) (P256.agreeWith d key)) (Hash.ascii "DRA1")).take 72
        let x : Session := {
          slot := k, id := w32 id, port := port, ready := false, cred := cred, want := Priv.ofCode want, priv := .none, rx := 0, tx := 0,
          last := s.now, script := hash ++ sig, keys := keys }
        { s with host := { s.host with sessions := s.host.sessions ++ [x] } }.emit (.accept port (body ++ sig))

/-- The secret and the privilege of a credential (R42, R487): identity 0 is the recovery credential, accepted over USB only. -/
def State.credential (s : State) (port : Port) (cred : Nat) : Option (List Byte × Priv) :=
  if cred = 0 then if port == .usb && s.recoveryOpen then some (s.recoverySecret, .service) else none
  else if s.keys.lcs = 0 then none
  else (s.credSlot cred).map fun k => (k.key, Priv.ofCode k.priv)

/-- The proof's code: HMAC under the credential secret over the transcript hash extended by the signature (R42). -/
def proofMac (secret : List Byte) (x : Session) : List Byte := Hash.hmac secret x.script

/-- A failed proof (R44): AUTH, the session discarded, recorded; the fifth within 60 s refuses every SESSION-INIT for 60 s. -/
def State.proofFails (s : State) (x : Session) : State :=
  let s := (s.emit (.errorPlain x.port .auth)).endSession x.slot
  let s := s.recordGen 0xE .sec 0 Off.SEC_STAT (w32 x.cred)
  let fs := s.now :: s.host.fails.filter fun t => s.now < t + 60 * sec
  { s with host := if fs.length ≥ 5 then { s.host with fails := [], lockUntil := some (s.now + 60 * sec) } else { s.host with fails := fs } }

/-- SESSION-PROOF (R42–R44). -/
def State.sessionProof (s : State) (port : Port) (good : Bool) (id : Word) (mac : List Byte) : State :=
  s.withSess port good false id fun x s =>
    match s.credential port x.cred with
    | none => s.proofFails x
    | some (secret, p) =>
      if mac = proofMac secret x then
        let g := if p.code < x.want.code then p else x.want
        (s.updSess x.slot fun x => { x with ready := true, priv := g, rx := 1, tx := 1 }).emit (.ready x.slot g)
      else s.proofFails x

/-- SESSION-CLOSE from the host. -/
def State.sessionClose (s : State) (port : Port) (good : Bool) (id : Word) : State :=
  s.withSess port good true id fun x s => s.endSession x.slot

/-- SESSION-CLOSE from the controller. -/
def State.ownClose (s : State) (slot : Nat) : State :=
  match s.sess? slot with
  | some x => if s.md.pstate.cmp then (s.emit (.close x.port slot)).endSession slot else s
  | none => s

/-- 60 s without a valid frame (R44). -/
def State.sessionIdle (s : State) (slot : Nat) : State :=
  match s.sess? slot with
  | some x => if s.now ≥ x.last + 60 * sec then s.endSession slot else s
  | none => s

/-- The end of the lockout (R44). -/
def State.lockoutEnds (s : State) : State :=
  match s.host.lockUntil with
  | some u => if s.now ≥ u then { s with host := { s.host with lockUntil := none } } else s
  | none => s

/-! Register and block operations (R45–R50) -/

/-- One register read by a session. -/
def State.readReg (s : State) (x : Session) (a : Nat) : Err × Word × State :=
  match s.locate a with
  | .bad e none => (e, 0, s)
  | .bad e (some p) => (e, 0, s.refuse p.1 p.2 e)
  | .reg r d => (.ok, s.view x r d, if r.page == .pq then s.pqRead r.off 1 else s)

/-- The page that a block operation addresses, or why it is refused whole (R27, R28, R47). -/
def State.blockPage (s : State) (a n : Nat) : Err × Option (Page × Nat) :=
  match decodeAddr a with
  | none => (.addr, none)
  | some r =>
    if !r.page.present s.variant r.inst then (.absent, none)
    else if a % 4 ≠ 0 then (.align, some (r.page, r.inst))
    else if r.off + 4 * n > 0x1000 then (.length, some (r.page, r.inst))
    else (.ok, some (r.page, r.inst))

/-- A refusal of a block operation counts at its page. -/
def State.refuseAt (s : State) (p : Option (Page × Nat)) (e : Err) : State :=
  match p with
  | some (p, i) => s.refuse p i e
  | none => s

/-- Read `n` registers in ascending order; the first refused one ends the operation with its address. -/
def State.readWords (s : State) (x : Session) (a : Nat) : Nat → Err × Nat × List Word × State
  | 0 => (.ok, a, [], s)
  | n + 1 => match s.readReg x a with
    | (.ok, w, s) => match s.readWords x (a + 4) n with
      | (.ok, b, ws, s) => (.ok, b, w :: ws, s)
      | (e, b, _, s) => (e, b, [], s)
    | (e, _, s) => (e, a, [], s)

/-- Write words in ascending order while each is accepted: the first refusal, its address, and the state that would be. -/
def State.writeWords (s : State) (x : Session) (a : Nat) : List Word → Err × Nat × State
  | [] => (.ok, a, s)
  | v :: vs => match s.writeReg x a v none with
    | (.ok, t) => State.writeWords t ((t.sess? x.slot).getD x) (a + 4) vs
    | (e, _) => (e, a, s)

/-- WRITE-BLOCK (R47, R48; R237 for the staging buffer of SDATA): all words or none. The error, the address reported, the new state. -/
def State.blockWriteAll (s : State) (x : Session) (a : Nat) (vs : List Word) : Err × Nat × State :=
  match s.blockPage a vs.length with
  | (.ok, p) =>
    if p == some (.sdata, 0) && 0x100 ≤ a % 0x1000 && x.sdSel.fld 4 4 ≠ 0 then (.state, a, s.refuseAt p .state)
    else match s.writeWords x a vs with
    | (.ok, _, t) => (.ok, a, t)
    | (e, b, _) => (e, b, s.refuseAt p e)
  | (e, p) => (e, a, s.refuseAt p e)

/-- READ-BLOCK (R47, R49). -/
def State.blockRead (s : State) (x : Session) (a n : Nat) : Err × Nat × List Word × State :=
  match s.blockPage a n with
  | (.ok, _) => match s.readWords x a n with
    | (.ok, _, ws, t) => (.ok, a, ws, t)
    | r => r
  | (e, p) => (e, a, [], s.refuseAt p e)

/-! Requests (R45, R51–R53) -/

/-- WSEQ of a response: that of the page a register operation addresses. -/
def State.wseqOf (s : State) (rq : Request) : Nat :=
  if 1 ≤ rq.op ∧ rq.op ≤ 4 then
    match decodeAddr rq.addr with
    | some r => if r.page.present s.variant r.inst then (s.rdp r.page r.inst Off.PAGE_WSEQ).fld 0 16 else 0
    | none => 0
  else 0

/-- The response to a request with a status, an address, a count and data. -/
def State.respOf (s : State) (rq : Request) (e : Err) (addr count : Nat) (data : List Word) : Resp :=
  ⟨rq.reqId, rq.op, e, addr, count, s.wseqOf rq, data⟩

/-- Send a RESPONSE: it takes the next SEQ of the session (R42, R58). -/
def State.sendResp (s : State) (slot : Nat) (r : Resp) : State :=
  match s.sess? slot with
  | none => s
  | some x => (s.updSess slot fun y => { y with tx := x.tx + 1 }).emit (.response slot (x.tx + 1) r)

/-- The SEQ of a write that no frame carried: no frame has it, and none answers it. -/
def noSeq : Nat := 2 ^ 32

/-- Answer the request accepted with `seq`: the response is kept for retransmissions (R52) and sent. -/
def State.answer (s : State) (slot seq : Nat) (r : Resp) : State :=
  if seq = noSeq then s else (s.updSess slot fun x => { x with stored := x.stored.map fun e => if e.1 = seq then (seq, .answered r) else e }).sendResp slot r

/-- Is the request well formed (R45)? An unknown code is FORMAT, a LEN that disagrees with the size of the data is LENGTH, then a flag or count outside *Request payload* is FORMAT. Log entry 7, DESIGN CHOICE. -/
def requestErr (rq : Request) : Err :=
  let countOk := if rq.op = 1 ∨ rq.op = 2 then rq.count = 1 else if rq.op = 3 ∨ rq.op = 4 then 1 ≤ rq.count ∧ rq.count ≤ 356 else rq.count = 0
  let size := if rq.op = 2 then (if rq.flags % 2 = 1 then 8 else 4) else if rq.op = 4 then 4 * rq.count else if rq.op = 6 then 12 else 0
  if rq.op = 0 ∨ 7 < rq.op then .format
  else if rq.len ≠ 12 + size ∨ 4 * rq.data.length ≠ size then .length
  else if 1 < rq.flags ∨ (rq.flags = 1 ∧ rq.op ≠ 2) ∨ !decide countOk then .format
  else .ok

/-- NOTIFY (R56): the subscription is replaced or ended. Log entry 7, DESIGN CHOICE. -/
def State.subscribe (s : State) (slot : Nat) (data : List Word) : Err × State :=
  let mask := (pair64 (data.getD 0 0) (data.getD 1 0)).toNat % 2 ^ 60
  let iv := (data.getD 2 0).fld 0 16
  if mask = 0 then (.ok, s.updSess slot fun x => { x with sub := none })
  else if iv = 0 ∨ 1000 < iv then (.range, s)
  else (.ok, s.updSess slot fun x => { x with sub := some { mask := mask, interval := iv } })

/-- The DRA operation BARRIER: a write to ORD.BARRIER with tag 0 (R51), checked, counted or refused as one. -/
def State.barrierAsWrite (s : State) (x : Session) (seq : Nat) : Err × State :=
  let r : RegAddr := ⟨.ord, 0, Off.ORD_BARRIER⟩
  match r.page.defAt r.off with
  | none => (.addr, s)
  | some d => match s.writeErr x r d with
    | .ok => match (s.accepted .ord 0).barrierWrite x.slot 0 (some seq) with
      | (.ok, t) => (.ok, t)
      | (e, _) => (e, s.refuse .ord 0 e)
    | e => (e, s.refuse .ord 0 e)

/-- Execute a well-formed request of a session and answer it; a barrier that waits is answered when it completes (R51). -/
def State.execRequest (s : State) (x : Session) (seq : Nat) (rq : Request) : State :=
  let k := x.slot
  let done := fun (s : State) (e : Err) (addr : Nat) (data : List Word) =>
    s.answer k seq (s.respOf rq e addr (if e == .ok then (if rq.op = 1 ∨ rq.op = 2 then 1 else if rq.op = 3 ∨ rq.op = 4 then rq.count else 0) else 0) data)
  match rq.op with
  | 1 => let r := s.readReg x rq.addr; done r.2.2 r.1 rq.addr (if r.1 == .ok then [r.2.1] else [])
  | 2 =>
    let r := s.writeReg x rq.addr (rq.data.getD 0 0) (if rq.flags = 1 then some (rq.data.getD 1 0) else none)
    done r.2 r.1 rq.addr []
  | 3 => let r := s.blockRead x rq.addr rq.count; done r.2.2.2 r.1 r.2.1 r.2.2.1
  | 4 => let r := s.blockWriteAll x rq.addr rq.data; done r.2.2 r.1 r.2.1 []
  | 5 => match s.barrierAsWrite x seq with
    | (.ok, s) => match (s.sess? k).bind (·.barrier) with
      | some _ => s
      | none => done s .ok rq.addr []
    | (e, s) => done s e rq.addr []
  | 6 => let r := s.subscribe k rq.data; done r.2 r.1 rq.addr []
  | _ => done s .ok rq.addr []

/-! Writes mirrored to the partner (R109) -/

/-- A register whose writes act on an engine that the partner runs as well, or on the profile switch and the SAFE-HOLD command that both modules take. -/
def mirrored (p : Page) (o : Nat) (v : Word) : Bool :=
  match p with
  | .loop | .lcap | .mtr | .pq | .heat | .pulse | .prg | .slot | .slv | .sdata => 0x40 ≤ o
  | .prof => o = Off.PROF_CMD
  | .mode => o = Off.MODE_CMD && v.fld 0 4 = 6
  | _ => false

/-- The write that a request mirrors, with masked values merged; none where it is not mirrored or would be refused. Log entry 62, DEDUCED. -/
def State.mirrorOf (s : State) (x : Session) (rq : Request) : Option HostWrite :=
  if !(s.isActive && s.pair.session) then none
  else match decodeAddr rq.addr with
    | none => none
    | some r => match r.page.defAt r.off with
      | none => none
      | some d =>
        let v0 := rq.data.getD 0 0
        let v := if rq.flags = 1 then (s.mergeBase x r d &&& ~~~(rq.data.getD 1 0)) ||| (v0 &&& rq.data.getD 1 0) else v0
        let vs := if rq.op = 2 then [v] else rq.data
        if (rq.op = 2 || rq.op = 4) && mirrored r.page r.off v && (s.blockWriteAll x rq.addr vs).1 == .ok then
          some ⟨x.slot, x.priv, rq.addr, vs, x.lastLo, x.stage, x.sdSel⟩
        else none

/-- The session waits: for a barrier (R108) or for the partner's acknowledgement (R109). What waits is every later REQUEST of the session, one that writes
ORD.BARRIER again among them: it is served when the barrier completes. Log entry 99, DESIGN CHOICE. -/
def State.blocked (s : State) (x : Session) : Bool := x.barrier.isSome || s.pair.acks.any fun a => a.2.1 == x.slot

/-- Execute the held requests of a session in SEQ order until one must wait (R53, R108, R109); `go` lets the first pass without mirroring. -/
def runHeld (slot : Nat) (go : Bool) : Nat → State → State
  | 0, s => s
  | n + 1, s => match s.sess? slot with
    | none => s
    | some x => match x.held with
      | [] => s
      | (seq, rq) :: rest =>
        if s.blocked x then s
        else
          let pop := fun (s : State) => s.updSess slot fun y => { y with held := rest }
          match requestErr rq with
          | .ok => match if go then none else s.mirrorOf x rq with
            | some w =>
              let s := s.pl1Send (.hostin w)
              { s with pair := { s.pair with acks := s.pair.acks ++ [(s.pair.txSeq, slot, seq)] } }
            | none => let s := pop s; runHeld slot false n (s.execRequest ((s.sess? slot).getD x) seq rq)
          | e => runHeld slot false n ((pop s).answer slot seq ((pop s).respOf rq e rq.addr 0 []))

/-- Execute what a session holds. -/
def State.runHeldOf (s : State) (slot : Nat) (go : Bool) : State :=
  match s.sess? slot with
  | some x => runHeld slot go (x.held.length + 1) s
  | none => s

/-- Execute what every session holds. -/
def State.runAllHeld (s : State) : State := (s.host.sessions.map (·.slot)).foldl (fun s k => s.runHeldOf k false) s

/-- A request enters execution in its session's order. -/
def State.hold (s : State) (slot seq : Nat) (rq : Request) : State :=
  (s.updSess slot fun x => { x with held := x.held ++ [(seq, rq)] }).runHeldOf slot false

/-- A stored entry is a request still unanswered. -/
def isPending : Stored → Bool | .pending _ => true | _ => false

/-- Requests accepted and still unanswered. -/
def unanswered (x : Session) : Nat := (x.stored.filter fun e => isPending e.2).length

/-- A SEQ is accepted: it joins the last 64, and a request still unanswered stays (R52). Log entry 64, DEDUCED. -/
def acceptSeq (x : Session) (seq : Nat) (st : Stored) : Session :=
  { x with rx := seq, stored := (x.stored.filter fun e => seq < e.1 + 64 || isPending e.2) ++ [(seq, st)] }

/-- A frame that comes in SEQ order (R52): the next is accepted, a later one answered with SEQ, one of the last 64 answered again, an older one discarded. -/
def State.inOrder (s : State) (x : Session) (seq reqId op wseq : Nat) (f : State → State) : State :=
  if seq = x.rx + 1 then f s
  else if x.rx + 1 < seq then s.sendResp x.slot ⟨reqId, op, .seq, (x.rx + 1) % 2 ^ 32, 0, wseq, []⟩
  else if x.rx < seq + 64 then
    match x.stored.find? (·.1 = seq) with
    | some (_, .answered r) => s.sendResp x.slot r
    | _ => s
  else s

/-- A REQUEST frame (R52). -/
def State.request (s : State) (port : Port) (good : Bool) (id : Word) (seq : Nat) (rq : Request) : State :=
  s.withSess port good true id fun x s => s.inOrder x seq rq.reqId rq.op (s.wseqOf rq) fun s =>
    if unanswered x ≥ 16 then
      let r := s.respOf rq .busy rq.addr rq.count []
      (s.updSess x.slot fun y => acceptSeq y seq (.answered r)).sendResp x.slot r
    else (s.updSess x.slot fun y => acceptSeq y seq (.pending rq)).hold x.slot seq rq

/-- One operation of a session, as the rows of the table for single operations command it: it acts only while CMP runs and the session is ready (R38, R42). -/
def State.operation (s : State) (slot seq : Nat) (rq : Request) : State :=
  match s.sess? slot with
  | some x => if s.md.pstate.cmp && x.ready then (s.touch slot).hold slot seq rq else s
  | none => s

/-- A WRITE of one register that no frame carried. -/
def bareWrite (a : Nat) (v : Word) : Request := ⟨0, 2, 0, a, 1, [v], 16⟩

/-- A bare write acts at once: nothing of the session stands before it, nor is it one to mirror first (R108, R109); and so does a second write of ORD.BARRIER,
which is refused (R110). -/
def State.atOnce (s : State) (x : Session) (a : Nat) (v : Word) : Bool :=
  (x.held.isEmpty && !s.blocked x && (s.mirrorOf x (bareWrite a v)).isNone) || (a == Page.reg .ord 0 Off.ORD_BARRIER && x.barrier.isSome)

/-- One register write of a session at its page, without a frame: what the rows of the table for single registers command. It acts at once or takes its place among
the session's requests. Log entry 8, DEDUCED. -/
def State.hostWrite (s : State) (slot : Nat) (a : Nat) (v : Word) : State :=
  match s.sess? slot with
  | some x =>
    if s.md.pstate.cmp && x.ready then
      let s := s.touch slot
      if s.atOnce x a v then (s.writeReg x a v none).2 else s.hold slot noSeq (bareWrite a v)
    else s
  | none => s

/-- A read and what it finds in memory (R50, R113, R117): an error that the decoder corrects is counted, and the read goes on; one that it cannot correct is answered
UNCORR, without data. Log entry 88, DEDUCED. -/
def State.readOperation (s : State) (slot seq : Nat) (rq : Request) (f : MemFind) : State :=
  match s.sess? slot with
  | some x =>
    if s.md.pstate.cmp && x.ready then
      match (s.touch slot).readFind f with
      | (true, s) => s.hold slot seq rq
      | (false, s) => s.answer slot seq (s.respOf rq .uncorr rq.addr 0 [])
    else s
  | none => s

/-- A barrier completes (R108): with OK once every earlier write has reached its engine, with TIMEOUT after 65 s; what followed it executes. -/
def State.barrierDone (s : State) (slot : Nat) : State :=
  match s.barrierOutcome slot with
  | none => s
  | some (b, e) =>
    let s := s.endBarrier slot b e
    let s := match b.viaSeq with
      | some q => match (s.sess? slot).bind (fun (x : Session) => x.stored.find? fun (e : Nat × Stored) => e.1 = q) with
        | some (_, .pending rq) => s.answer slot q (s.respOf rq e rq.addr 0 [])
        | _ => s.sendResp slot ⟨0, 5, e, 0, 0, 0, []⟩
      | none => s
    s.runHeldOf slot false

/-! Notifications (R57, R58) -/

/-- The subscribed pages whose masked event word is non-zero, as the session sees it. -/
def State.pendingMask (s : State) (x : Session) (mask : Nat) : Nat :=
  maskOf ((allPages.filter fun p => mask.testBit (p.1.sumBit p.2) && s.irqWord x p.1 p.2 &&& s.rdp p.1 p.2 Off.PAGE_IRQ_EN != 0).map fun p => p.1.sumBit p.2)

/-- A NOTIFY takes the next SEQ. -/
def State.sendNotify (s : State) (slot num risen mask : Nat) : State :=
  match s.sess? slot with
  | none => s
  | some x => (s.updSess slot fun y => { y with tx := x.tx + 1 }).emit (.notify slot (x.tx + 1) num risen (s.pendingMask x mask))

/-- Replace a session's subscription. -/
def State.setSub (s : State) (slot : Nat) (u : Subscription) : State := s.updSess slot fun x => { x with sub := some u }

/-- NOTIFY_SEND (R57): at most one in an interval, none while one is unacknowledged. -/
def State.notifySend (s : State) (slot : Nat) : State :=
  match (s.sess? slot).bind (·.sub) with
  | none => s
  | some u =>
    let due := match u.sentAt with | some t => s.now ≥ t + u.interval * ms | none => true
    if s.md.pstate.cmp && u.risen ≠ 0 && u.outst.isNone && due then
      let n := u.lastNum + 1
      let s := s.setSub slot { u with lastNum := n, risen := 0, sentAt := some s.now, outst := some ⟨n, u.risen, u.interval, s.now⟩ }
      s.sendNotify slot n u.risen u.mask
    else s

/-- NOTIFY_REPEAT (R58): the same number, the masks as they stand: all pages that rose since the NOTIFY before, and the pending ones. What rose after the first
sending stands in the next NOTIFY too. The repeat interval doubles up to 1 s. Log entry 107, DEDUCED. -/
def State.notifyRepeat (s : State) (slot : Nat) : State :=
  match (s.sess? slot).bind (·.sub) with
  | none => s
  | some u => match u.outst with
    | none => s
    | some o =>
      if s.md.pstate.cmp && s.now ≥ o.sentAt + o.every * ms then
        let s := s.setSub slot { u with sentAt := some s.now, outst := some { o with every := min 1000 (2 * o.every), sentAt := s.now } }
        s.sendNotify slot o.num (o.risen ||| u.risen) u.mask
      else s

/-- A NOTIFY-ACK frame (R52, R58). Log entry 64, DEDUCED. -/
def State.notifyAck (s : State) (port : Port) (good : Bool) (id : Word) (seq num : Nat) : State :=
  s.withSess port good true id fun x s => s.inOrder x seq 0 0 0 fun s =>
    let s := s.updSess x.slot fun y => acceptSeq y seq .ack
    match x.sub with
    | some u => match u.outst with
      | some o => if o.num = num then s.setSub x.slot { u with outst := none } else s
      | none => s
    | none => s

/-! The partner's side of a mirrored write (R109) -/

/-- Writes already accepted by the ACTIVE take effect in order. -/
def State.applyWords (s : State) (slot : Nat) (a : Nat) : List Word → State
  | [] => s
  | v :: vs => match s.sess? slot, s.locate a with
    | some x, .reg r d => (((s.accepted r.page r.inst).notePend slot r.page r.inst r.off).effect x r d v).2.applyWords slot (a + 4) vs
    | _, _ => s

/-- HOSTIN (R109, R460): the STANDBY performs the write for a session of the partner, which stands at slot 8 or above while it acts, and acknowledges it. Log entry 62, DEDUCED. -/
def State.hostIn (s : State) (seq : Nat) (w : HostWrite) : State :=
  if s.md.mode != .standby then s
  else
    let k := 8 + w.slot % 8
    let x : Session := {
      slot := k, id := 0, port := .e3, ready := true, cred := 0, want := w.priv, priv := w.priv, rx := 0, tx := 0, last := s.now,
      lastLo := w.lastLo, stage := w.stage, sdSel := w.sdSel }
    let s := { s with host := { s.host with sessions := s.host.sessions ++ [x] } }
    let s := s.asPeer k fun s => s.applyWords k w.addr w.vals
    let s := { s with host := { s.host with sessions := s.host.sessions.filter fun x => x.slot < 8 } }
    let s := if s.md.mode == .safeHold && s.host.sessions.isEmpty && s.md.idleFrom.isNone then s.updMd fun m => { m with idleFrom := some s.now } else s
    s.pl1Send (.wack seq)

/-- WACK (R109): the write it acknowledges counts as accepted, and its request executes. -/
def State.wackRx (s : State) (seq : Nat) : State :=
  match s.pair.acks.find? (·.1 = seq) with
  | none => s
  | some a => { s with pair := { s.pair with acks := s.pair.acks.filter fun b => b.1 ≠ seq } }.runHeldOf a.2.1 true

end Sys2Proof.Machine
end

