-- ==== Sys2Proof/Machine/Start.lean ====
section
/-!
DEFINITION. The end of BOOT (R61, R70–R73, R82, R83, R457): what the start finds, reports and starts, and the mode in which it lands.
-/
namespace Sys2Proof.Machine

/-- The reset kind whose retention this start followed, from the bits of RST.CAUSE (R78). -/
def bootKind (m : ModeState) : ResetKind :=
  firstKind ([ResetKind.powerOn, .brownOut, .watchdog, .software, .tamper, .tokenLoss, .wake].filter fun k => m.causes.contains k.bit)

/-- A condition holds BOOT in SAFE-HOLD whatever the token does (R61, R78). -/
def State.bootHeld (s : State) (b : BootIn) : Bool :=
  s.keys.lcs = 3 || s.md.causes.contains ResetKind.tamper.bit || !s.md.shCauses.isEmpty || !b.checksOk || b.safeFail || b.safeCheck ≠ 0 ||
  s.safe.cfg.addr ≠ s.safe.swAddr || !s.bootDemands.isEmpty || s.pair.conflict

/-- N shadow groups whose copies both fail return to their reset values, each with one record (R82, R83). -/
def State.shadowReturns (s : State) (gs : List (List Nat)) : State :=
  gs.foldl (fun s g => match g with
    | [] => s
    | a :: _ =>
      let s := { s with regs := s.regs.filter fun (r : Nat × Word) => !(g.contains r.1 && regClass r.1 == RClass.n) }
      s.record 0x0103 (w32 (a / 4096 * 4096)) (w32 (a % 4096)) 1) s

/-- The forecaster's shadow group returns to its reset values: no zone has a state (R82, R184). -/
def State.forecastReturns (s : State) : State :=
  { s with slv := { s.slv with fc := [], fcGen := 0 } }.record 0x0103 (w32 (Page.slv.base 0)) 0 1

/-- RST.CAUSE and RST.DEFAULTED load, and the start record is written (R83). Log entry 80, DEDUCED. -/
def State.startRecord (s : State) (b : BootIn) : State :=
  let df := s.md.defaulted ++ (if b.fcBad || b.shadowBad.any (fun g => !g.isEmpty) then [5] else []) ++ (if s.rtc.lost then [3] else [])
  let c := w32 (maskOf s.md.causes.eraseDups)
  let d := w32 (maskOf df.eraseDups)
  let s := ((s.wrp .rst 0 Off.RST_CAUSE c).wrp .rst 0 Off.RST_DEFAULTED d).record 0x0101 c d (w32 s.md.skipped)
  let s := s.shadowReturns b.shadowBad
  let s := if b.fcBad then s.forecastReturns else s
  if s.rtc.lost then let s := s.record 0x0103 0 0 2; { s with rtc := { s.rtc with lost := false } } else s

/-- The engines and units that start with every BOOT (R60, R70), the metering saves first, then the profile. -/
def State.startUnits (s : State) (b : BootIn) : State :=
  let k := bootKind s.md
  let tamper := s.md.causes.contains ResetKind.tamper.bit
  let was := s.safe.cfg
  let s := (s.pwrStart (k == ResetKind.powerOn)).panelStart.startSec
  let s := { s with keys := { s.keys with pufOk := b.pufOk } }
  let s := s.updBoot k tamper b.prevReads
  let s := s.checkSafe b.safeFail b.safeCheck (s.safe.cfg != was)
  let s := s.startTime
  let s := s.startStations
  let s := s.mtrStart (s.md.causes.contains ResetKind.powerOn.bit || s.md.causes.contains ResetKind.wake.bit)
  let s := ({ s with prof := { s.prof with pinsBoot := b.pins % 4 } }).selectProfile
  let s := (List.range s.variant.groups).foldl (fun s g =>
    let c := (s.grp g).cause
    let s := s.startGroup g
    if c == some 6 then s.fenceGroup g 6 else s) s
  s.startEth.startSegs

/-- The causes of SAFE-HOLD that BOOT found, newest first, with their parameters (R61, R68, R78, R457, R489). -/
def State.bootCauses (s : State) (b : BootIn) : List (ShCause × Nat) :=
  (if s.keys.lcs = 3 then [(ShCause.bootCheck, 0x0E03)] else []) ++
  (if s.md.causes.contains ResetKind.tamper.bit then [(ShCause.tamper, 0x0E02)] else []) ++
  (if s.safe.bootFail ≠ 0 then [(ShCause.bootCheck, 0x0C02)] else []) ++
  (s.bootDemands.map fun n => (ShCause.safety, n)) ++
  (if !b.checksOk then [(ShCause.bootCheck, 0x01FF)] else []) ++
  (if s.pair.conflict then [(ShCause.bootCheck, 0x0DFF)] else []) ++ s.md.shCauses

/-- The reason that MODE.CUR shows for a BOOT that ends in SAFE-HOLD (R85). -/
def bootShReason (cs : List (ShCause × Nat)) : ModeReason := match shShown cs with | some (c, _) => shReason c | none => .fault

/-- The mode and reason of a BOOT that nothing holds (R61, R73, R457). -/
def State.bootLands (s : State) : Mode × ModeReason :=
  let t := (s.rdp .sys 0 Off.SYS_CFG).fld 1 2
  if !s.prof.valid then (.commission, .noProfile)
  else if s.keys.lcs < 2 || t = 1 then (.commission, s.md.reason)
  else if !s.hasToken then (.standby, s.md.reason)
  else if t = 2 then (.maintenance, s.md.reason)
  else (s.activeMode, s.md.reason)

/-- BOOT lands: the mode changes (R85, R515: MODE_CHG and a 0x0102 record), and what runs in it starts. Log entry 85, DEDUCED. -/
def State.land (s : State) (m : Mode) (r : ModeReason) : State :=
  let s := s.updMd fun x => { x with mode := m, reason := r, pstate := .p1, causes := [], defaulted := [], skipped := 0, transitions := 1, deg := s.degNow, idleFrom := if m == .safeHold then some s.now else none }
  let s := ((s.irq .mode 0 1).record 0x0102 (w32 (Mode.boot.code + 16 * m.code + 256 * r.code)) s.shWord (w32 s.degNow)).grant
  let s := if m.tasksRun then s.enterActive else s
  let s := if m == .commission then s.newFrames else s
  let s := if m.loopsRun then s.startLoops else s
  let s := if m == .standby then s.segsStandby else s
  s.updWindow.planDrill

/-- BOOT_COMPLETE (R61, R69–R73, R83, R457). A controller whose role waits for the token stays in BOOT until the loop is present or held. -/
def State.bootComplete (s : State) (b : BootIn) : State :=
  if s.md.mode != .boot || s.md.pstate == .p4 then s
  else
    let s := s.updPair fun p => { p with posB := b.posB }
    let held := s.bootHeld b
    let s := if !held && s.mayTake then s.source b.est else s
    if !held && s.variant.pair && !s.pair.token && !s.pair.loop then s
    else
      let s := (s.startRecord b).startUnits b
      let s := (s.updPair fun p => { p with decided := true }).resumeNumbering
      let cs := s.bootCauses b
      let s := if b.checksOk then s else s.recordGen 1 .mode 0 Off.MODE_SH_CAUSE 0
      if cs.isEmpty then s.land s.bootLands.1 s.bootLands.2
      else
        let s := (s.updMd fun m => { m with shCauses := cs.eraseDups }).land .safeHold (bootShReason cs)
        if cs.any (·.1 == .cmpFault) then s.sleepP2 else s

end Sys2Proof.Machine
end

