-- ==== Sys2Proof/Machine/Ops.lean ====
section
/-!
DEFINITION. What the meanings of all rows share: a command comes at an instant, acts, and everything that follows from it settles; the words of command
registers; the requests that the rows for single operations stand for.
-/
namespace Sys2Proof.Machine

/-- The state after a command that comes at instant `t` of the cycle timer: it acts, and what follows from it at once settles in the order of *Trigger
precedence* (R62). The queue of commands stays as it is. Log entry 9, DESIGN CHOICE. -/
def State.after (s : State) (t : Nat) (f : State → State) : State := { (f (s.begin t)).settle with pending := s.pending }

/-- A command occurs; none faults or refuses. Log entries 66 and 67, DEDUCED. -/
def occurs (t : Nat) (f : State → State) (s : State) : Host.Outcome State Fault Refusal := .next (s.after t f)

/-- The word of a command register: OP in [3:0], TAG in [15:8], the further fields as they stand in the word. Log entry 8, DEDUCED. -/
def cmdWord (op tag extra : Nat) : Word := w32 (op + 256 * (tag % 256) + extra)

/-- A well-formed REQUEST (R45): LEN covers the 12 bytes before the data and the data. -/
def rqOf (req op flags addr count : Nat) (data : List Word) : Request := ⟨req, op, flags, addr, count, data, 12 + 4 * data.length⟩

/-- READ (R45). -/
def readRq (req addr : Nat) : Request := rqOf req 1 0 addr 1 []

/-- WRITE, with a mask or without (R46). -/
def writeRq (req addr : Nat) (val : Word) (mask : Option Word) : Request :=
  match mask with
  | none => rqOf req 2 0 addr 1 [val]
  | some m => rqOf req 2 1 addr 1 [val, m]

/-- READ-BLOCK (R49). -/
def readBlockRq (req addr count : Nat) : Request := rqOf req 3 0 addr count []

/-- WRITE-BLOCK (R48). -/
def writeBlockRq (req addr : Nat) (data : List Word) : Request := rqOf req 4 0 addr data.length data

/-- An operation without address and data: BARRIER 5, PING 7 (R51). -/
def plainRq (req op : Nat) : Request := rqOf req op 0 0 0 []

/-- NOTIFY (R56): page mask and interval. -/
def notifyRq (req : Nat) (pages : Word64) (interval : Nat) : Request := rqOf req 6 0 0 0 [lo32 pages, hi32 pages, w32 interval]

/-- This instant lies in a handover frame (R467). -/
def State.handoverFrame (s : State) : Bool := match s.pair.hoFrame with | some t => t ≤ s.now && s.now < t + ms | none => false

/-- DPX_SET_APPLY (R137): the oldest completed set of a station is applied; where its check fails, and while its ingest is being made good, it waits (R89, R98). -/
def State.ingestSet (s : State) (st : Nat) (chk : List MemFind) : State :=
  if s.inMg (.ingest st) then s.deferSet st else s.checked chk (fun s => (s.epoch (.ingest st) fun s => s.setApply st).ackApplied st) fun s => s.deferSet st

/-- The sets of a station that waited for the end of its making good are applied in their order (R96, R98). -/
def State.ingestAgain (s : State) (st : Nat) : State :=
  let n := s.ord.redo.countP (· == st)
  let s := { s with ord := { s.ord with redo := s.ord.redo.filter (· != st) } }
  ((List.range n).foldl (fun s _ => (s.epoch (.ingest st) fun s => s.setApply st).ackApplied st) s).mgDone (.ingest st)

/-- The engine's discarded epochs are re-executed from their journal and commit, and its making good is complete (R96). A slot's ends with the commit of its cycle. -/
def State.reexecuted (s : State) (e : Eng) : State :=
  if !s.inMg e then s
  else match e with
    | .slot n => if (s.slot n).cyc.any fun y => y.phase == .makingGood then s else s.mgDone (.slot n)
    | .loop n => s.epoch (.loop n) fun s => s.loopAgain n
    | .task n => s.epoch (.task n) fun s => s.taskAgain n
    | .metering => (s.mtrReplay fun f s => s.epoch .metering f).mgDone .metering
    | .ingest n => s.ingestAgain n
    | .safety => s

end Sys2Proof.Machine
end

