-- ==== Sys2Proof/Machine/RowsCan.lean ====
section
/-!
DEFINITION. The meanings of the rows of the table for ShaiqLink segments (R359–R381).
-/
namespace Sys2Proof.Machine

/-- CAN_FRAME_RX (R364). A received CAN frame is filtered into URGENT or BULK, or discarded and counted. Segment index 0–5 for C1–C6. -/
def execCanFrameRx (t : Nat) (i : Nat) (f : CanFrame) (s : State) : Host.Outcome State Fault Refusal := occurs t (fun s => s.canRx (i + 1) f) s

/-- CAN_FRAME_DECODE (R362). A queued frame is decoded into all of its signals in one step. -/
def execCanFrameDecode (t : Nat) (i : Nat) (s : State) : Host.Outcome State Fault Refusal := occurs t (fun s => s.canDecode (i + 1)) s

/-- CAN_SIGNAL_TIMEOUT (R362). A receive signal older than TIMEOUT_MS turns BAD. -/
def execCanSignalTimeout (t : Nat) (i sig : Nat) (s : State) : Host.Outcome State Fault Refusal := occurs t (fun s => s.sigTimeout (i + 1) sig) s

/-- CAN_BASE_CYCLE (R366). A base cycle of the segment starts and the reference frame is sent. -/
def execCanBaseCycle (t : Nat) (i : Nat) (s : State) : Host.Outcome State Fault Refusal := occurs t (fun s => s.canBase (i + 1)) s

/-- CAN_TT_LOAD (R369). A TT frame is loaded 5 µs before its slot from the held signal values. `k` is the index of the transmit slot. -/
def execCanTtLoad (t : Nat) (i k : Nat) (s : State) : Host.Outcome State Fault Refusal := occurs t (fun s => s.canLoad (i + 1) k) s

/-- CAN_TT_SLOT (R369). A TT frame is sent in its slot, retried within its reservation, or withdrawn and counted. -/
def execCanTtSlot (t : Nat) (i k : Nat) (sent : Bool) (s : State) : Host.Outcome State Fault Refusal := occurs t (fun s => s.canSlot (i + 1) k sent) s

/-- CAN_ARB_WINDOW (R370). In an arbitration window the queued Polien and event frames that fit are sent. `durs` are the bus times of the frames that
contend, in order. -/
def execCanArbWindow (t : Nat) (i w : Nat) (durs : List Nat) (s : State) : Host.Outcome State Fault Refusal :=
  occurs t (fun s => s.canWindow (i + 1) w durs) s

/-- CAN_BUS_OFF (R375). At bus-off the event queue is discarded, the bus-off is counted, and the segment is fenced at BUSOFF_MAX. -/
def execCanBusOff (t : Nat) (i : Nat) (s : State) : Host.Outcome State Fault Refusal := occurs t (fun s => s.canBusOff (i + 1)) s

/-- CAN_BUSOFF_HOLD_EXPIRY (R375). After BUSOFF_HOLD_MS the ISO recovery sequence starts. -/
def execCanBusoffHoldExpiry (t : Nat) (i : Nat) (s : State) : Host.Outcome State Fault Refusal := occurs t (fun s => s.canHoldExpiry (i + 1)) s

/-- CAN_RECOVERY_DONE (R375). Bus-off recovery completes and the segment is ACTIVE from the next base cycle. -/
def execCanRecoveryDone (t : Nat) (i : Nat) (s : State) : Host.Outcome State Fault Refusal := occurs t (fun s => s.canRecovered (i + 1)) s

/-- CAN_DETECT_DWELL (R372). A rate candidate's dwell ends and it passes under silence or fails. -/
def execCanDetectDwell (t : Nat) (i : Nat) (s : State) : Host.Outcome State Fault Refusal := occurs t (fun s => s.canDwell (i + 1)) s

/-- CAN_DETECT_TIMEOUT (R373). No candidate passing within DETECT_MAX_S fences the segment with cause RATE. -/
def execCanDetectTimeout (t : Nat) (i : Nat) (s : State) : Host.Outcome State Fault Refusal := occurs t (fun s => s.canDetectTimeout (i + 1)) s

/-- CAN_TRANSCEIVER_FAULT (R376). A transceiver supply or thermal fault fences the segment. -/
def execCanTransceiverFault (t : Nat) (i : Nat) (s : State) : Host.Outcome State Fault Refusal := occurs t (fun s => s.fenceSeg (i + 1) 3) s

/-- CAN_RETEST (R376). Every 10 s a fenced segment is retested by rate detection. -/
def execCanRetest (t : Nat) (i : Nat) (s : State) : Host.Outcome State Fault Refusal := occurs t (fun s => s.canRetest (i + 1)) s

/-- CAN_DETECT (R381). CAN.CMD DETECT clears the stored rate and restarts detection. -/
def execCanDetect (t : Nat) (slot tag i : Nat) (s : State) : Host.Outcome State Fault Refusal :=
  occurs t (fun s => s.hostWrite slot (Page.reg .can i Off.CAN_CMD) (cmdWord 1 tag 0)) s

/-- CAN_FENCE (R381). CAN.CMD FENCE fences the segment with cause HOST. -/
def execCanFence (t : Nat) (slot tag i : Nat) (s : State) : Host.Outcome State Fault Refusal :=
  occurs t (fun s => s.hostWrite slot (Page.reg .can i Off.CAN_CMD) (cmdWord 2 tag 0)) s

/-- CAN_UNFENCE (R381). CAN.CMD UNFENCE retests a HOST-fenced segment by detection. -/
def execCanUnfence (t : Nat) (slot tag i : Nat) (s : State) : Host.Outcome State Fault Refusal :=
  occurs t (fun s => s.hostWrite slot (Page.reg .can i Off.CAN_CMD) (cmdWord 3 tag 0)) s

/-- CAN_CLR (R380). A write to CAN.CLR zeroes the segment's K-class counters and records the clearing. -/
def execCanClr (t : Nat) (slot i : Nat) (val : Word) (s : State) : Host.Outcome State Fault Refusal :=
  occurs t (fun s => s.hostWrite slot (Page.reg .can i Off.CAN_CLR) val) s

/-- CAN_BUS_ERROR (R372). An error detected on a CAN segment updates the error counters and CAN.LAST_ERR, and during rate detection fails the
candidate held so that the next is tried. -/
def execCanBusError (t : Nat) (i kind : Nat) (data : Bool) (tec rec_ : Nat) (s : State) : Host.Outcome State Fault Refusal :=
  occurs t (fun s => s.canError (i + 1) kind data tec rec_) s

end Sys2Proof.Machine
end

