-- ==== Sys2Proof/Machine/RowsEth.lean ====
section
/-!
DEFINITION. The meanings of the rows of the table for Ethernet and the time base (R382–R401).
-/
namespace Sys2Proof.Machine

/-- ETH_FRAME_RX (R382). A received Ethernet frame is accepted for its port role, deduplicated under PRP, or discarded and counted. -/
def execEthFrameRx (t : Nat) (i : Nat) (f : EthFrame) (s : State) : Host.Outcome State Fault Refusal := occurs t (fun s => s.ethRx i f) s

/-- ETH_LINK_CHANGE (R386). A port link goes up or down, and a PRP leg loses service on link loss. -/
def execEthLinkChange (t : Nat) (i : Nat) (up fd1000 : Bool) (s : State) : Host.Outcome State Fault Refusal := occurs t (fun s => s.ethLink i up fd1000) s

/-- PRP_LEG_SILENT (R386). A leg that receives nothing for 6 s while the other leg receives frames goes down. -/
def execPrpLegSilent (t : Nat) (leg : Nat) (s : State) : Host.Outcome State Fault Refusal := occurs t (fun s => s.legSilent leg) s

/-- PRP_LEG_RETURN (R386). A leg that passes its 10 s self-test returns to service. -/
def execPrpLegReturn (t : Nat) (leg : Nat) (s : State) : Host.Outcome State Fault Refusal := occurs t (fun s => s.legReturn leg) s

/-- PRP_SUPERVISION_TX (R385). A PRP supervision frame is sent every 2 s. -/
def execPrpSupervisionTx (t : Nat) (s : State) : Host.Outcome State Fault Refusal := occurs t (fun s => s.prpSupervise) s

/-- PTP_ANNOUNCE (R388). A PTP announce enters the best master clock selection over both legs. -/
def execPtpAnnounce (t : Nat) (dom : Nat) (m : Master) (s : State) : Host.Outcome State Fault Refusal := occurs t (fun s => s.ptpAnnounce dom m) s

/-- PTP_ANNOUNCE_TIMEOUT (R390). Loss of the selected master reselects a master or enters HOLDOVER. -/
def execPtpAnnounceTimeout (t : Nat) (s : State) : Host.Outcome State Fault Refusal := occurs t (fun s => s.ptpTimeout) s

/-- PTP_SYNC_SAMPLE (R392). An offset sample qualifies, steps once, disciplines the rate, or is refused toward JUMP_HOLD. -/
def execPtpSyncSample (t : Nat) (leg : Nat) (id : Word64) (off : Int) (rx tx : Nat) (s : State) : Host.Outcome State Fault Refusal :=
  occurs t (fun s => s.ptpSample leg id off rx tx) s

/-- TIME_HOLD_EXPIRY (R390). HOLD_MIN minutes without a servo sample end time-base validity. -/
def execTimeHoldExpiry (t : Nat) (s : State) : Host.Outcome State Fault Refusal := occurs t (fun s => s.refreshValid) s

/-- TIME_SET_TIME (R400). TIME.CMD SET_TIME sets the time base from a FREE state and enters HOST. -/
def execTimeSetTime (t : Nat) (slot tag : Nat) (s : State) : Host.Outcome State Fault Refusal :=
  occurs t (fun s => s.hostWrite slot (Page.reg .time 0 Off.TIME_CMD) (cmdWord 1 tag 0)) s

/-- TIME_ACCEPT_STEP (R395). TIME.CMD ACCEPT_STEP steps the time base by the median refused offset and locks. -/
def execTimeAcceptStep (t : Nat) (slot tag : Nat) (s : State) : Host.Outcome State Fault Refusal :=
  occurs t (fun s => s.hostWrite slot (Page.reg .time 0 Off.TIME_CMD) (cmdWord 2 tag 0)) s

/-- TIME_CLR (R399). A write to TIME.CLR zeroes the K-class time counters and records the clearing. -/
def execTimeClr (t : Nat) (slot : Nat) (val : Word) (s : State) : Host.Outcome State Fault Refusal :=
  occurs t (fun s => s.hostWrite slot (Page.reg .time 0 Off.TIME_CLR) val) s

/-- ETH_CLR (R401). A write to ETH.CLR zeroes the port's K-class counters and records the clearing. -/
def execEthClr (t : Nat) (slot i : Nat) (val : Word) (s : State) : Host.Outcome State Fault Refusal :=
  occurs t (fun s => s.hostWrite slot (Page.reg .eth i Off.ETH_CLR) val) s

end Sys2Proof.Machine
end

