-- ==== Sys2Proof/Machine/RowsEvt.lean ====
section
/-!
DEFINITION. The meanings of the rows of the table for the snag log (R513–R527).
-/
namespace Sys2Proof.Machine

/-- EVT_RD_SEQ_WRITE (R521). A write to EVT.RD_SEQ positions the session's read window at the first record of that SEQ or later. -/
def execEvtRdSeqWrite (t : Nat) (slot : Nat) (val : Word) (s : State) : Host.Outcome State Fault Refusal :=
  occurs t (fun s => s.hostWrite slot (Page.reg .evt 0 Off.EVT_RD_SEQ) val) s

/-- EVT_FREEZE_WRITE (R522). A write to the EVT page's PAGE_CTRL[FREEZE] freezes or unfreezes the log for the session. -/
def execEvtFreezeWrite (t : Nat) (slot : Nat) (on : Bool) (s : State) : Host.Outcome State Fault Refusal :=
  occurs t (fun s => s.hostWrite slot (Page.reg .evt 0 Off.PAGE_CTRL) (w32 (4 * b2n on))) s

/-- EVT_FREEZE_TIMEOUT (R522). The freeze ends after FREEZE_MAX_S and the held records are stored. -/
def execEvtFreezeTimeout (t : Nat) (s : State) : Host.Outcome State Fault Refusal := occurs t (fun s => s.freezeTimeout) s

/-- CLEAR (R524). EVT.CMD CLEAR verifies the authorisation and clears the log with a clear record. -/
def execEvtClear (t : Nat) (slot tag : Nat) (s : State) : Host.Outcome State Fault Refusal :=
  occurs t (fun s => s.hostWrite slot (Page.reg .evt 0 Off.EVT_CMD) (cmdWord 1 tag 0)) s

/-- EVT_CNT_CLR (R526). A write to EVT.CNT_CLR zeroes the K-class log counters and records the clearing. -/
def execEvtCntClr (t : Nat) (slot : Nat) (val : Word) (s : State) : Host.Outcome State Fault Refusal :=
  occurs t (fun s => s.hostWrite slot (Page.reg .evt 0 Off.EVT_CNT_CLR) val) s

end Sys2Proof.Machine
end

