-- ==== Sys2Proof/Machine/RowsField.lean ====
section
/-!
DEFINITION. The meanings of the rows of the table for field slices and converters (R270–R294).
-/
namespace Sys2Proof.Machine

/-- CONVERSION_END (R272). A converter conversion ends, passes the correction chain with its quality, and the next conversion begins. The code
converted, and whether the wire-break and over-current comparators tripped. -/
def execConversionEnd (t : Nat) (g : Nat) (code : Word) (wire ovc : Bool) (s : State) : Host.Outcome State Fault Refusal :=
  occurs t (fun s => s.conversionEnd g code wire ovc) s

/-- CALIBRATION_SLOT (R273). The calibration slot measures zero or reference and applies, or discards and counts, the result. -/
def execCalibrationSlot (t : Nat) (g : Nat) (res : Word64) (inWindow : Bool) (s : State) : Host.Outcome State Fault Refusal :=
  occurs t (fun s => s.calibrationSlot g res inWindow) s

/-- REF_SETTLE_CHECK (R275). A reference measurement taken every 500 µs sets REF_SETTLED when two agree within 20 ppm. -/
def execRefSettleCheck (t : Nat) (g meas : Nat) (s : State) : Host.Outcome State Fault Refusal := occurs t (fun s => s.settleCheck g meas) s

/-- REF_SETTLE_TIMEOUT (R276). The settling bound passes without settling and sets REF_FAULT. -/
def execRefSettleTimeout (t : Nat) (g : Nat) (s : State) : Host.Outcome State Fault Refusal := occurs t (fun s => s.settleTimeout g) s

/-- CNT_GATE (R282). At the end of each frequency gate a CNT slice computes its frequency. -/
def execCntGate (t : Nat) (n : Nat) (s : State) : Host.Outcome State Fault Refusal := occurs t (fun s => s.cntGate n) s

/-- MOD_FRAME (R283). At each 1 ms frame end a MOD slice updates SLC.VAL with the mean of its 80 samples. -/
def execModFrame (t : Nat) (n : Nat) (samples : List Int) (stuck : Bool) (s : State) : Host.Outcome State Fault Refusal :=
  occurs t (fun s => s.modFrame n samples stuck) s

/-- OUTPUT_OVERCURRENT (R284). A high-side output reaching its current limit switches off after 100 µs and is counted. -/
def execOutputOvercurrent (t : Nat) (n : Nat) (s : State) : Host.Outcome State Fault Refusal := occurs t (fun s => s.overcurrent n) s

/-- READBACK_MISMATCH (R284). A readback differing from the driven value for 2 ms sets RB_MISMATCH. `rb` is what the readback has shown for 2 ms. -/
def execReadbackMismatch (t : Nat) (n : Nat) (rb : Word) (s : State) : Host.Outcome State Fault Refusal := occurs t (fun s => s.readback n rb) s

/-- TEST_PULSE (R286). TPA or TPB falls to 0 V for a 400 µs pulse once per test-pulse period. -/
def execTestPulse (t : Nat) (tpb : Bool) (s : State) : Host.Outcome State Fault Refusal := occurs t (fun s => s.testPulse tpb) s

/-- GROUP_FENCE (R287). A fence cause drives the group's outputs to fault values within 50 µs and marks its inputs BAD. -/
def execGroupFence (t : Nat) (g cause : Nat) (s : State) : Host.Outcome State Fault Refusal := occurs t (fun s => s.fenceGroup g cause) s

/-- GROUP_RETEST (R289). Every 10 s a fenced group is retested and unfenced on a pass. -/
def execGroupRetest (t : Nat) (g : Nat) (r : Retest) (s : State) : Host.Outcome State Fault Refusal := occurs t (fun s => s.groupRetest g r) s

/-- SLC_FENCE (R293). SLC.CMD FENCE fences the group with cause HOST. -/
def execSlcFence (t : Nat) (slot tag g : Nat) (s : State) : Host.Outcome State Fault Refusal :=
  occurs t (fun s => s.hostWrite slot (Page.reg .slc g Off.SLC_CMD) (cmdWord 1 tag 0)) s

/-- SLC_UNFENCE (R293). SLC.CMD UNFENCE retests a HOST-fenced group and unfences it on a pass. -/
def execSlcUnfence (t : Nat) (slot tag g : Nat) (s : State) : Host.Outcome State Fault Refusal :=
  occurs t (fun s => s.hostWrite slot (Page.reg .slc g Off.SLC_CMD) (cmdWord 2 tag 0)) s

/-- SLC_USER_CAL_WRITE (R281). A write to USR_OFS or USR_GAIN is range-checked, applies from the next conversion and is recorded. -/
def execSlcUserCalWrite (t : Nat) (slot n : Nat) (gain : Bool) (val : Word) (s : State) : Host.Outcome State Fault Refusal :=
  occurs t (fun s => s.hostWrite slot (Page.reg .slc ((n - 1) / 12) (0x100 + 0x40 * ((n - 1) % 12) + (if gain then 0x20 else 0x1C))) val) s

/-- SLC_CLR (R292). A write to SLC.CLR zeroes the group's K-class counters and records the clearing. -/
def execSlcClr (t : Nat) (slot g : Nat) (val : Word) (s : State) : Host.Outcome State Fault Refusal :=
  occurs t (fun s => s.hostWrite slot (Page.reg .slc g Off.SLC_CLR) val) s

/-- ADC_SET_REF (R277). ADC.CMD SET_REF switches the group's reference and restarts the settling check. -/
def execAdcSetRef (t : Nat) (slot tag g ref : Nat) (s : State) : Host.Outcome State Fault Refusal :=
  occurs t (fun s => s.hostWrite slot (Page.reg .adc g Off.ADC_CMD) (cmdWord 1 tag (16 * (ref % 4)))) s

/-- ADC_CLR (R294). A write to ADC.CLR zeroes the converter's K-class counters and records the clearing. -/
def execAdcClr (t : Nat) (slot g : Nat) (val : Word) (s : State) : Host.Outcome State Fault Refusal :=
  occurs t (fun s => s.hostWrite slot (Page.reg .adc g Off.ADC_CLR) val) s

/-- DISCRETE_INPUT_SAMPLE (R271). Every 10 µs the group's isolated logic samples each DI, SDI and CNT input, accepts a debounced state after FILT_MS
and counts CNT edges into SLC.COUNT. A level and an over-current bit for each slice of the group. -/
def execDiscreteInputSample (t : Nat) (g levels ovc : Nat) (s : State) : Host.Outcome State Fault Refusal := occurs t (fun s => s.sampleGroup g levels ovc) s

end Sys2Proof.Machine
end

