-- ==== Sys2Proof/Machine/RowsHost.lean ====
section
/-!
DEFINITION. The meanings of the rows of the table for host access (R35–R58): sessions, requests, operations, notifications.
-/
namespace Sys2Proof.Machine

/-- SESSION_INIT (R42). A host SESSION-INIT frame opens a DRA session: capacity and lockout are checked and a SESSION-ACCEPT is signed and sent.
`fr` is the frame's envelope; `key` and `nonce` are the host's, `cred` the credential identity, `want` the privilege code requested.
-/
def execSessionInit (t : Nat) (port : Port) (fr : FrameIn) (key nonce : List Byte) (cred want : Nat) (s : State) : Host.Outcome State Fault Refusal :=
  occurs t (fun s => s.sessionInit port (fr.ok port 0x01) key nonce cred want) s

/-- SESSION_PROOF (R42). A host SESSION-PROOF is verified and the controller grants privilege with SESSION-READY, or sends ERROR-PLAIN AUTH and
discards the session. `id` is the session identity, `mac` the proof. -/
def execSessionProof (t : Nat) (port : Port) (fr : FrameIn) (id : Word) (mac : List Byte) (s : State) : Host.Outcome State Fault Refusal :=
  occurs t (fun s => s.sessionProof port (fr.ok port 0x03) id mac) s

/-- SESSION_CLOSE (R44). A SESSION-CLOSE from either side ends the DRA session. From the host it comes with port and identity; the controller closes
the session of a slot. -/
def execSessionClose (t : Nat) (fromHost : Bool) (slot : Nat) (port : Port) (fr : FrameIn) (id : Word) (s : State) : Host.Outcome State Fault Refusal :=
  occurs t (fun s => if fromHost then s.sessionClose port (fr.ok port 0x05) id else s.ownClose slot) s

/-- SESSION_IDLE_TIMEOUT (R44). A session ends after 60 s without a valid frame from the host. -/
def execSessionIdleTimeout (t : Nat) (slot : Nat) (s : State) : Host.Outcome State Fault Refusal := occurs t (fun s => s.sessionIdle slot) s

/-- PROOF_LOCKOUT_EXPIRY (R44). The 60 s refusal of SESSION-INIT after five failed proofs ends. -/
def execProofLockoutExpiry (t : Nat) (s : State) : Host.Outcome State Fault Refusal := occurs t (fun s => s.lockoutEnds) s

/-- REQUEST (R52). A REQUEST frame is checked for SEQ order and the limit of unanswered requests, then executed, answered BUSY or SEQ, or answered
again as a retransmission. -/
def execRequest (t : Nat) (port : Port) (fr : FrameIn) (id : Word) (seq : Nat) (rq : Request) (s : State) : Host.Outcome State Fault Refusal :=
  occurs t (fun s => s.request port (fr.okRequest port rq) id seq rq) s

/-- READ (R45). The READ operation reads one register and returns its value. `found` is what it finds in memory (R50, R113). -/
def execRead (t : Nat) (slot seq req addr : Nat) (found : MemFind) (s : State) : Host.Outcome State Fault Refusal :=
  occurs t (fun s => s.readOperation slot seq (readRq req addr) found) s

/-- WRITE (R46). The WRITE operation writes one register, optionally under a mask, as one atomic access. -/
def execWrite (t : Nat) (slot seq req addr : Nat) (val : Word) (mask : Option Word) (s : State) : Host.Outcome State Fault Refusal :=
  occurs t (fun s => s.operation slot seq (writeRq req addr val mask)) s

/-- READ_BLOCK (R49). The READ-BLOCK operation returns up to 356 registers of one page from one commit. `found` is what it
finds in memory (R50, R113). -/
def execReadBlock (t : Nat) (slot seq req addr count : Nat) (found : MemFind) (s : State) : Host.Outcome State Fault Refusal :=
  occurs t (fun s => s.readOperation slot seq (readBlockRq req addr count) found) s

/-- WRITE_BLOCK (R48). The WRITE-BLOCK operation checks every word first and then writes all of them in ascending order, or writes none. -/
def execWriteBlock (t : Nat) (slot seq req addr : Nat) (data : List Word) (s : State) : Host.Outcome State Fault Refusal :=
  occurs t (fun s => s.operation slot seq (writeBlockRq req addr data)) s

/-- BARRIER (R51). The BARRIER operation acts as a write to ORD.BARRIER and is answered when that write completes. -/
def execBarrier (t : Nat) (slot seq req : Nat) (s : State) : Host.Outcome State Fault Refusal := occurs t (fun s => s.operation slot seq (plainRq req 5)) s

/-- PING (R51). The PING operation only keeps the session alive. -/
def execPing (t : Nat) (slot seq req : Nat) (s : State) : Host.Outcome State Fault Refusal := occurs t (fun s => s.operation slot seq (plainRq req 7)) s

/-- NOTIFY (R56). The NOTIFY request replaces or ends the session's subscription. `pages` is the page mask, `interval` in milliseconds. -/
def execNotify (t : Nat) (slot seq req : Nat) (pages : Word64) (interval : Nat) (s : State) : Host.Outcome State Fault Refusal :=
  occurs t (fun s => s.operation slot seq (notifyRq req pages interval)) s

/-- NOTIFY_SEND (R57). When the notification interval expires and a subscribed page has risen, a numbered NOTIFY is sent. -/
def execNotifySend (t : Nat) (slot : Nat) (s : State) : Host.Outcome State Fault Refusal := occurs t (fun s => s.notifySend slot) s

/-- NOTIFY_REPEAT (R58). An unacknowledged NOTIFY is repeated at a doubling interval capped at 1 s. -/
def execNotifyRepeat (t : Nat) (slot : Nat) (s : State) : Host.Outcome State Fault Refusal := occurs t (fun s => s.notifyRepeat slot) s

/-- NOTIFY_ACK (R58). A NOTIFY-ACK acknowledges the outstanding notification number. -/
def execNotifyAck (t : Nat) (port : Port) (fr : FrameIn) (id : Word) (seq num : Nat) (s : State) : Host.Outcome State Fault Refusal :=
  occurs t (fun s => s.notifyAck port (fr.ok port 0x13) id seq num) s

end Sys2Proof.Machine
end

