-- ==== Sys2Proof/Machine/RowsLoop.lean ====
section
/-!
DEFINITION. The meanings of the rows of the table for control loops and captures (R238–R269).
-/
namespace Sys2Proof.Machine

/-- LOOP_SAMPLE (R241). At its frame a loop reads its sources, latches inputs, computes the control law and releases its output at the output instant,
or misses. `late` tells that a making good could not complete by the output instant; `chk` is what the check of its staged effects and
new state finds (R89). -/
def execLoopSample (t : Nat) (n : Nat) (late : Bool) (chk : List MemFind) (s : State) : Host.Outcome State Fault Refusal :=
  occurs t (fun s => s.epoch (.loop n) fun s => s.loopSample n late s.handoverFrame chk) s

/-- LOOP_NOP (R268). LOOP.CMD NOP completes with OK. -/
def execLoopNop (t : Nat) (slot tag n : Nat) (s : State) : Host.Outcome State Fault Refusal :=
  occurs t (fun s => s.hostWrite slot (Page.reg .loop (loopPage n) Off.LOOP_CMD) (cmdWord 0 tag (16 * (n % 8)))) s

/-- LOOP_SET_MODE (R250). LOOP.CMD SET_MODE changes the loop mode at the next sample start. -/
def execLoopSetMode (t : Nat) (slot tag n mode : Nat) (s : State) : Host.Outcome State Fault Refusal :=
  occurs t (fun s => s.hostWrite slot (Page.reg .loop (loopPage n) Off.LOOP_CMD) (cmdWord 1 tag (16 * (n % 8) + 65536 * (mode % 8)))) s

/-- LOOP_TEST_START (R261). LOOP.CMD TEST_START starts a step, PRBS or chirp test signal. -/
def execLoopTestStart (t : Nat) (slot tag n : Nat) (s : State) : Host.Outcome State Fault Refusal :=
  occurs t (fun s => s.hostWrite slot (Page.reg .loop (loopPage n) Off.LOOP_CMD) (cmdWord 2 tag (16 * (n % 8)))) s

/-- LOOP_TEST_STOP (R263). LOOP.CMD TEST_STOP ends the active test. -/
def execLoopTestStop (t : Nat) (slot tag n : Nat) (s : State) : Host.Outcome State Fault Refusal :=
  occurs t (fun s => s.hostWrite slot (Page.reg .loop (loopPage n) Off.LOOP_CMD) (cmdWord 3 tag (16 * (n % 8)))) s

/-- LOOP_TUNE_HI_WRITE (R248). A write to a tuning pair's HI register checks range and changes the binary64 parameter. `k` is the index of the tuning
pair. -/
def execLoopTuneHiWrite (t : Nat) (slot n k : Nat) (val : Word) (s : State) : Host.Outcome State Fault Refusal :=
  occurs t (fun s => s.hostWrite slot (Page.reg .loop (loopPage n) (loopOff n (0x44 + 8 * k))) val) s

/-- LOOP_CLR (R267). A write to LOOP.CLR zeroes the selected loop blocks' K-class counters and records the clearing. -/
def execLoopClr (t : Nat) (slot p : Nat) (val : Word) (s : State) : Host.Outcome State Fault Refusal :=
  occurs t (fun s => s.hostWrite slot (Page.reg .loop p Off.LOOP_CLR) val) s

/-- LCAP_ARM (R264). LCAP.CMD ARM clears and arms a capture for its loop and trigger. -/
def execLcapArm (t : Nat) (slot tag k : Nat) (s : State) : Host.Outcome State Fault Refusal :=
  occurs t (fun s => s.hostWrite slot (Page.reg .lcap 0 Off.LCAP_CMD) (cmdWord 1 tag (16 * (k % 4)))) s

/-- LCAP_STOP (R269). LCAP.CMD STOP ends a running capture as DONE, or an armed one as IDLE. -/
def execLcapStop (t : Nat) (slot tag k : Nat) (s : State) : Host.Outcome State Fault Refusal :=
  occurs t (fun s => s.hostWrite slot (Page.reg .lcap 0 Off.LCAP_CMD) (cmdWord 2 tag (16 * (k % 4)))) s

end Sys2Proof.Machine
end

