-- ==== Sys2Proof/Machine/RowsMem.lean ====
section
/-!
DEFINITION. The meanings of the rows of the table for memory protection (R111–R130).
-/
namespace Sys2Proof.Machine

/-- SANDING_BURST (R119). Sanding reads the next 64-byte main-memory burst, corrects and writes back as needed, and wraps at the end of the sweep.
What the reads of the two codewords of the burst find. -/
def execSandingBurst (t : Nat) (f0 f1 : MemFind) (s : State) : Host.Outcome State Fault Refusal := occurs t (fun s => s.sandBurst f0 f1) s

/-- SRAM_SCRUB (R123). The CTL SRAM scrub sweeps the SRAM every 10 s. `found` gives the words that the sweep did not find clean, by index. -/
def execSramScrub (t : Nat) (found : List (Nat × MemFind)) (s : State) : Host.Outcome State Fault Refusal := occurs t (fun s => s.sramScrub found) s

/-- TELEMETRY_SAMPLE (R129). A telemetry sample is taken between scheduling points, or skipped and counted. -/
def execTelemetrySample (t : Nat) (taken : Bool) (s : State) : Host.Outcome State Fault Refusal := occurs t (fun s => s.telemetry taken) s

/-- MEM_CLR (R130). A write to MEM.CLR zeroes the K-class memory counters and records the clearing. -/
def execMemClr (t : Nat) (slot : Nat) (val : Word) (s : State) : Host.Outcome State Fault Refusal :=
  occurs t (fun s => s.hostWrite slot (Page.reg .mem 0 Off.MEM_CLR) val) s

end Sys2Proof.Machine
end

