-- ==== Sys2Proof/Machine/RowsMeter.lean ====
section
/-!
DEFINITION. The meanings of the rows of the table for metering (R295–R331).
-/
namespace Sys2Proof.Machine

/-- METER_WINDOW_END (R301). At each window end the point's quantities, harmonics and energies are computed and accumulated or estimated. The
frequency measured, and for each channel its quality and decimated samples. -/
def execMeterWindowEnd (t : Nat) (p : Nat) (freq : Word64) (chans : List (Qual × List Word64)) (s : State) : Host.Outcome State Fault Refusal :=
  occurs t (fun s => s.meterWindow p freq chans) s

/-- PQ_HALF_CYCLE (R305). At each half-cycle U_rms(1/2) is refreshed and sag, swell and interruption events begin or end. -/
def execPqHalfCycle (t : Nat) (p : Nat) (chans : List (Qual × List Word64)) (s : State) : Host.Outcome State Fault Refusal :=
  occurs t (fun s => s.meterHalf p chans) s

/-- METER_INTERVAL_STEP (R313). Every 200 ms metering commits accumulators, thermal energy, demand, pulses and PQ records, and saves or fixes billing
records where due. `bad` counts the verifications of a save at this step that fail (R314), `chk` is what the check of its staged effects and
new state finds (R89). -/
def execMeterIntervalStep (t : Nat) (bad : Nat) (chk : List MemFind) (s : State) : Host.Outcome State Fault Refusal :=
  occurs t (fun s => s.epoch .metering fun s => s.intervalStep bad chk) s

/-- BILLING_RECORD_SIGN (R319). The application cluster signs a fixed billing record and stores it on NAND within 2 s. -/
def execBillingRecordSign (t : Nat) (s : State) : Host.Outcome State Fault Refusal := occurs t (fun s => s.billSign) s

/-- MTR_SAVE_NOW (R328). MTR.CMD SAVE_NOW makes a save at the next step end. -/
def execMtrSaveNow (t : Nat) (slot tag : Nat) (s : State) : Host.Outcome State Fault Refusal :=
  occurs t (fun s => s.hostWrite slot (Page.reg .mtr 0 Off.MTR_CMD) (cmdWord 1 tag 0)) s

/-- MTR_MAXDEM_RESET (R328). MTR.CMD MAXDEM_RESET resets the maximum demand of all points and records it. -/
def execMtrMaxdemReset (t : Nat) (slot tag : Nat) (s : State) : Host.Outcome State Fault Refusal :=
  occurs t (fun s => s.hostWrite slot (Page.reg .mtr 0 Off.MTR_CMD) (cmdWord 2 tag 0)) s

/-- MTR_CORR_WRITE (R298). A write to MTR.CORR changes a channel's delay or gain trim from the next step and is recorded. -/
def execMtrCorrWrite (t : Nat) (slot p ch : Nat) (val : Word) (s : State) : Host.Outcome State Fault Refusal :=
  occurs t (fun s => s.hostWrite slot (Page.reg .mtr 0 (0x2D0 + 0x100 * p + 4 * ch)) val) s

/-- MTR_REC_SEL_WRITE (R320). A write to MTR.REC_SEL shows that billing record in the window, or zeros with REC_MISS. -/
def execMtrRecSelWrite (t : Nat) (slot : Nat) (val : Word) (s : State) : Host.Outcome State Fault Refusal :=
  occurs t (fun s => s.hostWrite slot (Page.reg .mtr 0 Off.MTR_REC_SEL) val) s

/-- MTR_CLR (R327). A write to MTR.CLR zeroes the K-class metering counters and records the clearing. -/
def execMtrClr (t : Nat) (slot : Nat) (val : Word) (s : State) : Host.Outcome State Fault Refusal :=
  occurs t (fun s => s.hostWrite slot (Page.reg .mtr 0 Off.MTR_CLR) val) s

/-- PQ_CLR (R329). A write to PQ.CLR zeroes the K-class PQ counters and records the clearing. -/
def execPqClr (t : Nat) (slot : Nat) (val : Word) (s : State) : Host.Outcome State Fault Refusal :=
  occurs t (fun s => s.hostWrite slot (Page.reg .pq 0 Off.PQ_CLR) val) s

/-- HEAT_CLR (R330). A write to HEAT.CLR zeroes the K-class thermal counters and records the clearing. -/
def execHeatClr (t : Nat) (slot : Nat) (val : Word) (s : State) : Host.Outcome State Fault Refusal :=
  occurs t (fun s => s.hostWrite slot (Page.reg .heat 0 Off.HEAT_CLR) val) s

/-- PULSE_CLR (R331). A write to PULSE.CLR zeroes DROP and records the clearing. -/
def execPulseClr (t : Nat) (slot : Nat) (val : Word) (s : State) : Host.Outcome State Fault Refusal :=
  occurs t (fun s => s.hostWrite slot (Page.reg .pulse 0 Off.PULSE_CLR) val) s

end Sys2Proof.Machine
end

