-- ==== Sys2Proof/Machine/RowsMode.lean ====
section
/-!
DEFINITION. The meanings of the rows of the table for modes, resets, power states and profiles (R59–R87).
-/
namespace Sys2Proof.Machine

/-- MODE_CMD_COMMISSION (R61). MODE.CMD with TARGET COMMISSION requests a transition to COMMISSION. -/
def execModeCmdCommission (t : Nat) (slot tag : Nat) (s : State) : Host.Outcome State Fault Refusal :=
  occurs t (fun s => s.hostWrite slot (Page.reg .mode 0 Off.MODE_CMD) (cmdWord 2 tag 0)) s

/-- MODE_CMD_RUN (R61). MODE.CMD with TARGET RUN requests RUN, DEGRADED or STANDBY after its conditions are checked. -/
def execModeCmdRun (t : Nat) (slot tag : Nat) (s : State) : Host.Outcome State Fault Refusal :=
  occurs t (fun s => s.hostWrite slot (Page.reg .mode 0 Off.MODE_CMD) (cmdWord 4 tag 0)) s

/-- MODE_CMD_SAFE_HOLD (R64). MODE.CMD with TARGET SAFE-HOLD enters SAFE-HOLD at once. -/
def execModeCmdSafeHold (t : Nat) (slot tag : Nat) (s : State) : Host.Outcome State Fault Refusal :=
  occurs t (fun s => s.hostWrite slot (Page.reg .mode 0 Off.MODE_CMD) (cmdWord 6 tag 0)) s

/-- MODE_CMD_MAINTENANCE (R61). MODE.CMD with TARGET MAINTENANCE from a SERVICE session requests MAINTENANCE. -/
def execModeCmdMaintenance (t : Nat) (slot tag : Nat) (s : State) : Host.Outcome State Fault Refusal :=
  occurs t (fun s => s.hostWrite slot (Page.reg .mode 0 Off.MODE_CMD) (cmdWord 7 tag 0)) s

/-- MODE_CMD_DORMANT (R66). MODE.CMD with TARGET DORMANT takes a final save, draws the panel band and powers CTL down when a wake source is armed. -/
def execModeCmdDormant (t : Nat) (slot tag : Nat) (s : State) : Host.Outcome State Fault Refusal :=
  occurs t (fun s => s.hostWrite slot (Page.reg .mode 0 Off.MODE_CMD) (cmdWord 0 tag 0)) s

/-- MODE_TRANSITION_COMPLETE (R63). A host-commanded transition completes and sets MODE.CMD_STAT[DONE] once every engine has crossed an epoch
boundary. -/
def execModeTransitionComplete (t : Nat) (s : State) : Host.Outcome State Fault Refusal := occurs t (fun s => s.transitionDone) s

/-- UNRECOVERABLE_FAULT (R95). An unrecoverable fault takes the controller to SAFE-HOLD with a CTL or CMP cause. `cmp` tells whether the engine runs
on CMP, `code` is the snag-log code of the fault. -/
def execUnrecoverableFault (t : Nat) (cmp : Bool) (code : Nat) (s : State) : Host.Outcome State Fault Refusal :=
  occurs t (fun s => s.trigger (.safeHold (if cmp then .cmpFault else .ctlFault) code)) s

/-- SH_IDLE_EXPIRY (R69). After MODE.SH_IDLE_S seconds in SAFE-HOLD without a session, W fields are shadowed and CMP powers off into P2. -/
def execShIdleExpiry (t : Nat) (s : State) : Host.Outcome State Fault Refusal := occurs t (fun s => s.idleExpiry) s

/-- WAKE_FROM_P2 (R69). An armed wake source in P2 powers CMP back to P1, restores W fields and rebuilds screeds. `src` is the bit of the source in
MODE.WAKE_SRC. -/
def execWakeFromP2 (t : Nat) (src : Nat) (s : State) : Host.Outcome State Fault Refusal := occurs t (fun s => s.wakeP2 src) s

/-- WAKE_FROM_DORMANT (R77). An armed wake source in DORMANT starts BOOT as a wake reset. `src` is the bit of the source in MODE.WAKE_SRC. -/
def execWakeFromDormant (t : Nat) (src : Nat) (s : State) : Host.Outcome State Fault Refusal := occurs t (fun s => s.wakeDormant src) s

/-- BOOT_COMPLETE (R61). At the end of BOOT the controller restores metering, selects its profile, decides its pair role and lands in its target mode.
`b` is what the end of BOOT finds. -/
def execBootComplete (t : Nat) (b : BootIn) (s : State) : Host.Outcome State Fault Refusal := occurs t (fun s => s.bootComplete b) s

/-- POWER_ON_RESET (R77). AON starts from unpowered and the controller restarts through BOOT. -/
def execPowerOnReset (t : Nat) (s : State) : Host.Outcome State Fault Refusal := occurs t (fun s => s.trigger (.reset .powerOn)) s

/-- BROWN_OUT_RESET (R77). A CTL or CMP rail below threshold while AON stays powered resets the controller. -/
def execBrownOutReset (t : Nat) (s : State) : Host.Outcome State Fault Refusal :=
  occurs t (fun s => if s.md.pstate.ctl then s.trigger (.reset .brownOut) else s) s

/-- WATCHDOG_RESET (R77). Expiry of the device watchdog resets the controller. -/
def execWatchdogReset (t : Nat) (s : State) : Host.Outcome State Fault Refusal :=
  occurs t (fun s => if s.md.pstate.ctl then s.trigger (.reset .watchdog) else s) s

/-- RST_SOFT (R79). RST.CMD SOFT from a SERVICE session with the key commits CTL engines, saves metering, releases the token and resets within 50 ms.
-/
def execRstSoft (t : Nat) (slot key : Nat) (s : State) : Host.Outcome State Fault Refusal :=
  occurs t (fun s => s.hostWrite slot (Page.reg .rst 0 Off.RST_CMD) (cmdWord 1 key 0)) s

/-- RST_COUNTS_CLR (R87). A write to RST.COUNTS_CLR zeroes the reset counters and records the clearing. -/
def execRstCountsClr (t : Nat) (slot : Nat) (val : Word) (s : State) : Host.Outcome State Fault Refusal :=
  occurs t (fun s => s.hostWrite slot (Page.reg .rst 0 Off.RST_COUNTS_CLR) val) s

/-- PROF_SWITCH (R74). PROF.CMD SWITCH accepts a profile switch, which stays pending or completes by mode. -/
def execProfSwitch (t : Nat) (slot tag target : Nat) (s : State) : Host.Outcome State Fault Refusal :=
  occurs t (fun s => s.hostWrite slot (Page.reg .prof 0 Off.PROF_CMD) (cmdWord 1 tag (16 * target))) s

/-- PROF_VERIFY_DONE (R74). Verification of a pending switch completes within 1 s and the switch is kept or rejected. -/
def execProfVerifyDone (t : Nat) (s : State) : Host.Outcome State Fault Refusal := occurs t (fun s => s.profVerify) s

/-- PROF_CANCEL (R76). PROF.CMD CANCEL withdraws the pending switch. -/
def execProfCancel (t : Nat) (slot tag : Nat) (s : State) : Host.Outcome State Fault Refusal :=
  occurs t (fun s => s.hostWrite slot (Page.reg .prof 0 Off.PROF_CMD) (cmdWord 2 tag 0)) s

/-- PROFILE_SWITCH_BOUNDARY (R75). At the first dispatch boundary with all target screeds resident, the switch takes effect and a new cycle origin is
set. -/
def execProfileSwitchBoundary (t : Nat) (s : State) : Host.Outcome State Fault Refusal := occurs t (fun s => s.switchBoundary) s

end Sys2Proof.Machine
end

