-- ==== Sys2Proof/Machine/RowsNet.lean ====
section
/-!
DEFINITION. The meanings of the rows of the table for stations, the DPX protocol and the point window (R131–R163).
-/
namespace Sys2Proof.Machine

/-- DTLS_CLIENT_HELLO (R145). A station ClientHello is answered with a cookie, a PSK handshake, or a refusal that is counted. Whether it offers the
parameters and returns a valid cookie, and the PSK identity: NETID, whether its form holds, station, generation. -/
def execDtlsClientHello (t : Nat) (offers cookie : Bool) (netid : Word) (formed : Bool) (st gen : Nat) (s : State) : Host.Outcome State Fault Refusal :=
  occurs t (fun s => s.clientHello offers cookie netid formed st gen) s

/-- DTLS_HANDSHAKE_DONE (R147). A completed PSK handshake binds the DTLS session to its station and may advance the key generation. -/
def execDtlsHandshakeDone (t : Nat) (st gen : Nat) (s : State) : Host.Outcome State Fault Refusal := occurs t (fun s => s.epoch (.ingest st) fun s => s.handshakeDone st gen) s

/-- DTLS_KEY_UPDATE (R145). The controller starts a key update after 2^23 records or 24 h. -/
def execDtlsKeyUpdate (t : Nat) (st : Nat) (s : State) : Host.Outcome State Fault Refusal := occurs t (fun s => s.dtlsKeyUpdate st) s

/-- DTLS_SESSION_FAIL (R141). A fatal alert or a failed record-protection check ends the station's session and takes the station down. -/
def execDtlsSessionFail (t : Nat) (st : Nat) (s : State) : Host.Outcome State Fault Refusal := occurs t (fun s => s.epoch (.ingest st) fun s => s.dtlsFail st) s

/-- DPX_HELLO (R150). A station HELLO is answered within 10 ms by the controller HELLO with SNAP_REQ, or with ACK RANGE or FORMAT. -/
def execDpxHello (t : Nat) (st : Nat) (hdr : DpxHdr) (m : HelloMsg) (s : State) : Host.Outcome State Fault Refusal :=
  occurs t (fun s => s.epoch (.ingest st) fun s => s.dpxHello st hdr m) s

/-- DPX_SET_MESSAGE (R152). A SNAPSHOT or DELTA fragment is taken by SEQ order and checked, and a completed set is queued for application. -/
def execDpxSetMessage (t : Nat) (st : Nat) (hdr : DpxHdr) (f : SetFrag) (s : State) : Host.Outcome State Fault Refusal :=
  occurs t (fun s => s.dpxSet st hdr f) s

/-- DPX_SET_APPLY (R137). A completed uplink set is applied atomically as one point-ingest epoch, creating a version and possibly making the station
UP. -/
def execDpxSetApply (t : Nat) (st : Nat) (chk : List MemFind) (s : State) : Host.Outcome State Fault Refusal := occurs t (fun s => s.ingestSet st chk) s

/-- DPX_ACK_RX (R154). A station ACK acknowledges downlink COMMAND messages. -/
def execDpxAckRx (t : Nat) (st : Nat) (hdr : DpxHdr) (m : AckMsg) (s : State) : Host.Outcome State Fault Refusal := occurs t (fun s => s.dpxAckRx st hdr m) s

/-- DPX_SAFE_RX (R155). A SAFE message from a station delivers a Polien telegram to the safety domain. -/
def execDpxSafeRx (t : Nat) (st : Nat) (hdr : DpxHdr) (telegram : List Byte) (s : State) : Host.Outcome State Fault Refusal :=
  occurs t (fun s => s.dpxSafeRx st hdr telegram) s

/-- DPX_RETRANSMIT (R157). An unacknowledged COMMAND is retransmitted after RETX_MS, and the station goes down after RETX_MAX. -/
def execDpxRetransmit (t : Nat) (st seq : Nat) (s : State) : Host.Outcome State Fault Refusal := occurs t (fun s => s.epoch (.ingest st) fun s => s.dpxRetransmit st seq) s

/-- STATION_HB_TIMEOUT (R141). No valid message from a station for HB_MISS heartbeat intervals takes it down. -/
def execStationHbTimeout (t : Nat) (st : Nat) (s : State) : Host.Outcome State Fault Refusal := occurs t (fun s => s.epoch (.ingest st) fun s => s.hbTimeout st) s

/-- NET_ENABLE (R162). NET.CMD ENABLE moves a DISABLED station to DOWN. -/
def execNetEnable (t : Nat) (slot tag st : Nat) (s : State) : Host.Outcome State Fault Refusal :=
  occurs t (fun s => s.hostWrite slot (Page.reg .net 0 Off.NET_CMD) (cmdWord 1 tag (65536 * (st % 4096)))) s

/-- NET_DISABLE (R162). NET.CMD DISABLE takes a station to DISABLED with its points marked STATION_DOWN. -/
def execNetDisable (t : Nat) (slot tag st : Nat) (s : State) : Host.Outcome State Fault Refusal :=
  occurs t (fun s => s.hostWrite slot (Page.reg .net 0 Off.NET_CMD) (cmdWord 2 tag (65536 * (st % 4096)))) s

/-- NET_RESYNC (R162). NET.CMD RESYNC moves an UP station to JOINING and requests a snapshot. -/
def execNetResync (t : Nat) (slot tag st : Nat) (s : State) : Host.Outcome State Fault Refusal :=
  occurs t (fun s => s.hostWrite slot (Page.reg .net 0 Off.NET_CMD) (cmdWord 3 tag (65536 * (st % 4096)))) s

/-- NET_NEXT_GEN (R148). NET.CMD NEXT_GEN sets NEXT_OK for the station's next PSK generation. -/
def execNetNextGen (t : Nat) (slot tag st : Nat) (s : State) : Host.Outcome State Fault Refusal :=
  occurs t (fun s => s.hostWrite slot (Page.reg .net 0 Off.NET_CMD) (cmdWord 4 tag (65536 * (st % 4096)))) s

/-- NET_KEXPORT (R148). NET.CMD KEXPORT wraps the station's next-generation PSK into NET.KEX_BUF. -/
def execNetKexport (t : Nat) (slot tag st : Nat) (s : State) : Host.Outcome State Fault Refusal :=
  occurs t (fun s => s.hostWrite slot (Page.reg .net 0 Off.NET_CMD) (cmdWord 5 tag (65536 * (st % 4096)))) s

/-- DPX_CLR (R161). A write to DPX.CLR zeroes the K-class DPX counters and records the clearing. -/
def execDpxClr (t : Nat) (slot : Nat) (val : Word) (s : State) : Host.Outcome State Fault Refusal :=
  occurs t (fun s => s.hostWrite slot (Page.reg .dpx 0 Off.DPX_CLR) val) s

/-- PNT_BASE_WRITE (R163). A write to PNT.BASE selects the point window and ends a freeze when the station changes. -/
def execPntBaseWrite (t : Nat) (slot : Nat) (val : Word) (s : State) : Host.Outcome State Fault Refusal :=
  occurs t (fun s => s.hostWrite slot (Page.reg .pnt 0 Off.PNT_BASE) val) s

/-- PNT_FREEZE (R163). Setting PAGE_CTRL[FREEZE] of PNT holds the window at the current version. -/
def execPntFreeze (t : Nat) (slot : Nat) (on : Bool) (s : State) : Host.Outcome State Fault Refusal :=
  occurs t (fun s => s.hostWrite slot (Page.reg .pnt 0 Off.PAGE_CTRL) (w32 (4 * b2n on))) s

end Sys2Proof.Machine
end

