-- ==== Sys2Proof/Machine/RowsOrd.lean ====
section
/-!
DEFINITION. The meanings of the rows of the table for ordering and making good (R88–R110).
-/
namespace Sys2Proof.Machine

/-- ORD_BARRIER (R108). A write to ORD.BARRIER holds later requests of the path until earlier writes have reached their engines. -/
def execOrdBarrier (t : Nat) (slot tag : Nat) (s : State) : Host.Outcome State Fault Refusal :=
  occurs t (fun s => s.hostWrite slot (Page.reg .ord 0 Off.ORD_BARRIER) (w32 tag)) s

/-- BARRIER_COMPLETE (R108). A barrier completes with OK or TIMEOUT, and the requests that followed it execute. -/
def execBarrierComplete (t : Nat) (slot : Nat) (s : State) : Host.Outcome State Fault Refusal := occurs t (fun s => s.barrierDone slot) s

/-- RECOVERABLE_FAULT (R96). A recoverable fault stops the engine, fences the unit, restores the last commit and starts re-execution. `cause` is the
code of ORD.MG_LAST[CAUSE]. -/
def execRecoverableFault (t : Nat) (eng : Eng) (cause : Nat) (s : State) : Host.Outcome State Fault Refusal :=
  occurs t (fun s => s.trigger (.fault eng cause)) s

/-- MAKING_GOOD_DONE (R96). The re-executed epochs commit, and the making good is counted, stamped and recorded. -/
def execMakingGoodDone (t : Nat) (eng : Eng) (s : State) : Host.Outcome State Fault Refusal := occurs t (fun s => s.reexecuted eng) s

end Sys2Proof.Machine
end

