-- ==== Sys2Proof/Machine/RowsPage.lean ====
section
/-!
DEFINITION. The meanings of the rows of the table for the common page header and registers without behaviour of their own (R27–R37).
-/
namespace Sys2Proof.Machine

/-- REGISTER_WRITE (R35). A write to a register with no behaviour of its own is checked for access, lock, mode, privilege and range, then accepted and
counted or refused into PAGE_ERR. -/
def execRegisterWrite (t : Nat) (slot addr : Nat) (val : Word) (s : State) : Host.Outcome State Fault Refusal :=
  occurs t (fun s => s.hostWrite slot addr val) s

/-- PAGE_IRQ_CLEAR (R34). A W1C write to PAGE_IRQ clears latched events, and clearing ERR also clears PAGE_ERR. -/
def execPageIrqClear (t : Nat) (slot : Nat) (page : Page) (inst : Nat) (val : Word) (s : State) : Host.Outcome State Fault Refusal :=
  occurs t (fun s => s.hostWrite slot (Page.reg page inst Off.PAGE_IRQ) val) s

/-- PAGE_LOCK_WRITE (R36). A write to PAGE_LOCK locks or unlocks the page for the writing session, or is refused. -/
def execPageLockWrite (t : Nat) (slot : Nat) (page : Page) (inst : Nat) (val : Word) (s : State) : Host.Outcome State Fault Refusal :=
  occurs t (fun s => s.hostWrite slot (Page.reg page inst Off.PAGE_LOCK) val) s

/-- PAGE_RESET (R33). A write of 1 to PAGE_CTRL[PAGE_RESET] is accepted for action at the page engine's next epoch boundary, or refused on protected
pages. `freeze` is the FREEZE bit of the value written. -/
def execPageReset (t : Nat) (slot : Nat) (page : Page) (inst : Nat) (freeze : Bool) (s : State) : Host.Outcome State Fault Refusal :=
  occurs t (fun s => s.hostWrite slot (Page.reg page inst Off.PAGE_CTRL) (w32 (2 + 4 * b2n freeze))) s

/-- PAGE_RESET_TAKE_EFFECT (R33). At the epoch boundary the page discards staged effects, aborts queued commands and returns its W and V fields to
reset. -/
def execPageResetTakeEffect (t : Nat) (page : Page) (inst : Nat) (s : State) : Host.Outcome State Fault Refusal :=
  occurs t (fun s => s.resetTakes page inst) s

end Sys2Proof.Machine
end

