-- ==== Sys2Proof/Machine/RowsPair.lean ====
section
/-!
DEFINITION. The meanings of the rows of the table for active and standby pairs (R451–R472).
-/
namespace Sys2Proof.Machine

/-- PL2_LOOP_ABSENT (R454). The PL2 loop current falls below 4 mA, starting the take interval. -/
def execPl2LoopAbsent (t : Nat) (s : State) : Host.Outcome State Fault Refusal := occurs t (fun s => s.loopAbsent) s

/-- TOKEN_TAKE_INTERVAL (R454). After the take interval with the loop absent, the module sources the loop and takes over. `est` tells that the source
establishes the current. -/
def execTokenTakeInterval (t : Nat) (est : Bool) (s : State) : Host.Outcome State Fault Refusal := occurs t (fun s => s.takeInterval est) s

/-- PL2_OPEN_TIMEOUT (R456). A source that does not sense 16 mA within 5 ms stops and sets PL2_OPEN. -/
def execPl2OpenTimeout (t : Nat) (s : State) : Host.Outcome State Fault Refusal := occurs t (fun s => s.openTimeout) s

/-- PL2_RETRY (R456). Every 1 s a module seeking the token retries sourcing the loop. -/
def execPl2Retry (t : Nat) (est : Bool) (s : State) : Host.Outcome State Fault Refusal := occurs t (fun s => s.pl2Retry est) s

/-- PL2_LOOP_INTERRUPTION (R456). The holder's loop current falls below 16 mA without a release, and its outputs are gated. -/
def execPl2LoopInterruption (t : Nat) (s : State) : Host.Outcome State Fault Refusal := occurs t (fun s => s.loopBroken) s

/-- CMP_HEARTBEAT_TIMEOUT (R455). CTL finds no CMP heartbeat for 80 ms and releases the token. -/
def execCmpHeartbeatTimeout (t : Nat) (s : State) : Host.Outcome State Fault Refusal :=
  occurs t (fun s => if s.md.pstate.cmp then s.faultRelease 5 false else s) s

/-- ROLE_WATCHDOG_EXPIRY (R455). The AON role watchdog expires after 20 ms and releases the token. -/
def execRoleWatchdogExpiry (t : Nat) (s : State) : Host.Outcome State Fault Refusal := occurs t (fun s => s.faultRelease 4 false) s

/-- PL1_LINK_START (R458). At each start of the PL1 link the modules establish an authenticated session or refuse it. -/
def execPl1LinkStart (t : Nat) (id : List Word) (sigOk : Bool) (s : State) : Host.Outcome State Fault Refusal := occurs t (fun s => s.linkStart id sigOk) s

/-- PL1_LINK_DOWN (R459). PL1 is down after 2 ms without a valid frame. -/
def execPl1LinkDown (t : Nat) (s : State) : Host.Outcome State Fault Refusal := occurs t (fun s => s.linkDown.runAllHeld) s

/-- PL1_RETRANSMIT (R459). Unacknowledged PL1 frames are resent 200 µs after sending. -/
def execPl1Retransmit (t : Nat) (s : State) : Host.Outcome State Fault Refusal := occurs t (fun s => s.pl1Retransmit) s

/-- PL1_HEARTBEAT_TX (R459). Each side sends HEARTBEAT every 250 µs. -/
def execPl1HeartbeatTx (t : Nat) (s : State) : Host.Outcome State Fault Refusal := occurs t (fun s => s.heartbeatTx) s

/-- HELLO (R459). A PL1 HELLO carries identity, position, mode and configuration CRCs, and the POS check is made. -/
def execHello (t : Nat) (h : Pl1Hdr) (x : Peer) (s : State) : Host.Outcome State Fault Refusal := occurs t (fun s => s.helloRx h x) s

/-- HEARTBEAT (R459). A PL1 HEARTBEAT carries cycle timer, role and mode. `timer` is none where the partner has no origin. -/
def execHeartbeat (t : Nat) (h : Pl1Hdr) (timer : Option Nat) (token : Bool) (mode : Nat) (s : State) : Host.Outcome State Fault Refusal :=
  occurs t (fun s => s.pl1Do h fun s => s.heartbeat timer token mode) s

/-- INPUTS (R460). A PL1 INPUTS frame carries latched inputs for shadow epochs. -/
def execInputs (t : Nat) (h : Pl1Hdr) (e : Eng) (slcs : List (Nat × Word64 × Qual × Nat))
    (cans : List (Nat × Nat × Word64 × Qual × Nat)) (s : State) : Host.Outcome State Fault Refusal :=
  occurs t (fun s => s.pl1Do h fun s => s.inputs e slcs cans) s

/-- DATASET (R460). A PL1 DATASET frame carries applied station data sets and snapshot versions. -/
def execDataset (t : Nat) (h : Pl1Hdr) (st ver : Nat) (time : Time64) (es : List PtEntry) (up : Bool) (useq : Nat) (s : State) : Host.Outcome State Fault Refusal :=
  occurs t (fun s => s.pl1Do h fun s => s.dataset st ver time es up useq) s

/-- HOSTIN (R109). A PL1 HOSTIN frame mirrors accepted host writes and commands. -/
def execHostin (t : Nat) (h : Pl1Hdr) (w : HostWrite) (s : State) : Host.Outcome State Fault Refusal :=
  occurs t (fun s => s.pl1Do h fun s => s.hostIn h.seq w) s

/-- RESERVE (R107). A PL1 RESERVE frame mirrors continuity-counter and DTLS blocks, or grants an event block. -/
def execReserve (t : Nat) (h : Pl1Hdr) (c : Counter) (from_ to_ : Nat) (grant : Bool) (s : State) : Host.Outcome State Fault Refusal :=
  occurs t (fun s => s.pl1Do h fun s => s.reserveRx c from_ to_ grant) s

/-- COMMIT (R461). A PL1 COMMIT frame carries an epoch's digest and mirrored state for comparison. `glitch` tells that re-execution resolves a
mismatch, `explained` that R461 explains it. -/
def execCommit (t : Nat) (h : Pl1Hdr) (e : Eng) (digest : Word64) (glitch explained : Bool) (accts : Option Accts) (pol : List PolMirror) (masks : Nat) (s : State) : Host.Outcome State Fault Refusal :=
  occurs t (fun s => s.pl1Do h fun s => s.commitRx e digest glitch explained accts pol masks) s

/-- ITERHASH (R463). A PL1 ITERHASH frame carries a slot cycle's iterate hashes and selection. -/
def execIterhash (t : Nat) (h : Pl1Hdr) (n cycle : Nat) (hashes : List (List Byte)) (sel : Option Nat) (shifted : List Byte) (consec : Nat) (stale prevOk glitch : Bool) (s : State) : Host.Outcome State Fault Refusal :=
  occurs t (fun s => s.pl1Do h fun s => s.iterhash n cycle hashes sel shifted consec stale prevOk glitch) s

/-- RESULT (R463). A PL1 RESULT frame carries a published iterate for the STANDBY to adopt. -/
def execResult (t : Nat) (h : Pl1Hdr) (n : Nat) (x y : List Word64) (s : State) : Host.Outcome State Fault Refusal :=
  occurs t (fun s => s.pl1Do h fun s => s.resultRx n x y) s

/-- POLIEN (R446). A PL1 POLIEN frame relays a DPX Polien telegram to the STANDBY. -/
def execPolien (t : Nat) (h : Pl1Hdr) (conns : List Nat) (telegram : List Byte) (s : State) : Host.Outcome State Fault Refusal :=
  occurs t (fun s => s.pl1Do h fun s => s.polDeliver conns telegram) s

/-- STATE (R461). A PL1 STATE frame carries one engine instance's state on request. -/
def execState (t : Nat) (h : Pl1Hdr) (x : EngState) (s : State) : Host.Outcome State Fault Refusal :=
  occurs t (fun s => s.pl1Do h fun s => if s.md.mode == .standby then s.adopt x else s) s

/-- VERDICT (R461). A PL1 VERDICT frame reports comparison outcomes and requests state. `want` is a request for STATE, `qual` the STANDBY's QUALIFIED.
-/
def execVerdict (t : Nat) (h : Pl1Hdr) (e : Eng) (v : Verdict) (own peer : Word64) (want qual : Bool) (s : State) : Host.Outcome State Fault Refusal :=
  occurs t (fun s => s.pl1Do h fun s => s.verdictRx e v own peer want qual) s

/-- WACK (R109). A PL1 WACK acknowledges a mirrored write, making it accepted. -/
def execWack (t : Nat) (h : Pl1Hdr) (seq : Nat) (s : State) : Host.Outcome State Fault Refusal := occurs t (fun s => s.pl1Do h fun s => s.wackRx seq) s

/-- RELEASE (R454). A PL1 RELEASE frame shortens the take interval to 1 ms. -/
def execRelease (t : Nat) (h : Pl1Hdr) (cause : Nat) (s : State) : Host.Outcome State Fault Refusal :=
  occurs t (fun s => s.pl1Do h fun s => s.releaseRx cause) s

/-- HANDOVER (R467). A PL1 HANDOVER frame proposes or agrees a handover instant. -/
def execHandover (t : Nat) (h : Pl1Hdr) (at_ : Nat) (agree drill : Bool) (up : Nat) (s : State) : Host.Outcome State Fault Refusal :=
  occurs t (fun s => s.pl1Do h fun s => s.handoverRx at_ agree drill up) s

/-- HANDOVER_INSTANT (R467). At the agreed instant the ACTIVE stops sourcing and the partner takes the token without the take interval. -/
def execHandoverInstant (t : Nat) (est : Bool) (s : State) : Host.Outcome State Fault Refusal := occurs t (fun s => s.handoverInstant est) s

/-- QUALIFY_TIMER (R462). QUAL_S seconds without a persistent mismatch qualify the STANDBY. -/
def execQualifyTimer (t : Nat) (s : State) : Host.Outcome State Fault Refusal := occurs t (fun s => s.refreshQual) s

/-- DRILL_DUE (R469). A swap drill falls due or is retried hourly, and is recorded MISSED after 24 h. -/
def execDrillDue (t : Nat) (s : State) : Host.Outcome State Fault Refusal := occurs t (fun s => s.drillDue) s

/-- DRILL_HOLD_END (R469). At the end of a drill's hold the result is recorded and SWAP_BACK decides the token. `cause` is the failure cause of
PAIR.DRILL_STAT, 0 for a pass. -/
def execDrillHoldEnd (t : Nat) (cause : Nat) (s : State) : Host.Outcome State Fault Refusal := occurs t (fun s => s.drillHoldEnd cause) s

/-- PAIR_BIND (R472). PAIR.CMD BIND copies the partner's identity into PAIR.PEER_ID. -/
def execPairBind (t : Nat) (slot tag : Nat) (s : State) : Host.Outcome State Fault Refusal :=
  occurs t (fun s => s.hostWrite slot (Page.reg .pair 0 Off.PAIR_CMD) (cmdWord 1 tag 0)) s

/-- PAIR_HANDOVER (R472). PAIR.CMD HANDOVER proposes a handover to the partner. -/
def execPairHandover (t : Nat) (slot tag : Nat) (s : State) : Host.Outcome State Fault Refusal :=
  occurs t (fun s => s.hostWrite slot (Page.reg .pair 0 Off.PAIR_CMD) (cmdWord 2 tag 0)) s

/-- DRILL_NOW (R472). PAIR.CMD DRILL_NOW runs a swap drill at once. -/
def execDrillNow (t : Nat) (slot tag : Nat) (s : State) : Host.Outcome State Fault Refusal :=
  occurs t (fun s => s.hostWrite slot (Page.reg .pair 0 Off.PAIR_CMD) (cmdWord 3 tag 0)) s

/-- PAIR_CLR (R471). A write to PAIR.CLR zeroes the K-class pair counters and records the clearing. -/
def execPairClr (t : Nat) (slot : Nat) (val : Word) (s : State) : Host.Outcome State Fault Refusal :=
  occurs t (fun s => s.hostWrite slot (Page.reg .pair 0 Off.PAIR_CLR) val) s

/-- PL2_LOOP_PRESENT (R456). A module senses the PL2 loop current present, which ends its take-interval count, makes a source that succeeded hold the
token, and sends a module whose loop was interrupted to STANDBY when the partner has taken the loop. `own` tells that this module's source carries the
current. -/
def execPl2LoopPresent (t : Nat) (own : Bool) (s : State) : Host.Outcome State Fault Refusal := occurs t (fun s => s.loopPresent own) s

end Sys2Proof.Machine
end

