-- ==== Sys2Proof/Machine/RowsPanel.lean ====
section
/-!
DEFINITION. The meanings of the rows of the table for the status panel (R528–R546).
-/
namespace Sys2Proof.Machine

/-- DISP_UPDATE (R546). DISP.CMD UPDATE requests a full or partial update of the host region. -/
def execDispUpdate (t : Nat) (slot tag : Nat) (full : Bool) (s : State) : Host.Outcome State Fault Refusal :=
  occurs t (fun s => s.hostWrite slot (Page.reg .disp 0 Off.DISP_CMD) (cmdWord 1 tag (65536 * b2n full))) s

/-- DISP_BAND (R546). DISP.CMD BAND requests an immediate band redraw. -/
def execDispBand (t : Nat) (slot tag : Nat) (s : State) : Host.Outcome State Fault Refusal :=
  occurs t (fun s => s.hostWrite slot (Page.reg .disp 0 Off.DISP_CMD) (cmdWord 2 tag 0)) s

/-- PANEL_WAVEFORM_END (R533). A panel waveform ends, UPDATED is set and the pending update starts. -/
def execPanelWaveformEnd (t : Nat) (s : State) : Host.Outcome State Fault Refusal := occurs t (fun s => s.waveformEnd) s

/-- PANEL_FRAME (R541). At each 20 ms frame start the panel writes its progress word. -/
def execPanelFrame (t : Nat) (s : State) : Host.Outcome State Fault Refusal := occurs t (fun s => s.panelFrame) s

/-- PANEL_TEMP_READ (R538). Each 1 s the film temperature is read and held updates are released once it is in range. In 0.1 °C. -/
def execPanelTempRead (t : Nat) (temp : Int) (s : State) : Host.Outcome State Fault Refusal := occurs t (fun s => s.panelTemp temp) s

/-- PANEL_BAND_TIMER (R531). BAND_S seconds after an event-count change without a redraw, the band is redrawn. -/
def execPanelBandTimer (t : Nat) (s : State) : Host.Outcome State Fault Refusal := occurs t (fun s => s.bandTimer) s

/-- DISP_CLR (R545). A write to DISP.CLR zeroes the K-class panel counters and records the clearing. -/
def execDispClr (t : Nat) (slot : Nat) (val : Word) (s : State) : Host.Outcome State Fault Refusal :=
  occurs t (fun s => s.hostWrite slot (Page.reg .disp 0 Off.DISP_CLR) val) s

end Sys2Proof.Machine
end

