-- ==== Sys2Proof/Machine/RowsPower.lean ====
section
/-!
DEFINITION. The meanings of the rows of the table for the supply (R555–R568).
-/
namespace Sys2Proof.Machine

/-- SUPPLY_INPUT_CHANGE (R558). A supply input becomes present or absent after its 1 ms filter. `b` is false for PWR-A. -/
def execSupplyInputChange (t : Nat) (b present : Bool) (s : State) : Host.Outcome State Fault Refusal := occurs t (fun s => s.inputChange b present) s

/-- SUPPLY_VOLTAGE_ALARM (R560). An input low or high for 100 ms sets or clears UNDERVOLT or OVERVOLT. -/
def execSupplyVoltageAlarm (t : Nat) (b high on : Bool) (s : State) : Host.Outcome State Fault Refusal := occurs t (fun s => s.voltageAlarm b high on) s

/-- LAST_GASP (R562). Both inputs absent for 5 ms start the last-gasp sequence through its phases to P4. `phase` is the last phase completed, `dur`
its end in 0.1 ms, `saveOk` whether the CRC of the save holds, `cell` whether a cell takes over BKP. -/
def execLastGasp (t : Nat) (phase dur : Nat) (saveOk cell : Bool) (s : State) : Host.Outcome State Fault Refusal :=
  occurs t (fun s => s.lastGasp phase dur saveOk cell) s

/-- SUPPLY_RETURN (R564). Supply back for 50 ms charges the hold-up store and starts with a power-on reset. -/
def execSupplyReturn (t : Nat) (a b charged : Bool) (s : State) : Host.Outcome State Fault Refusal := occurs t (fun s => s.supplyReturn a b charged) s

/-- BASEPLATE_TEMP (R560). The baseplate at 105 °C or 115 °C for 1 s sets TEMP_HIGH, or stops CMP with OVERTEMP. In 0.1 °C. -/
def execBaseplateTemp (t : Nat) (temp : Int) (s : State) : Host.Outcome State Fault Refusal := occurs t (fun s => s.baseplate temp) s

/-- HOLDUP_MEASURE (R565). Each 24 h, and at each start, the hold-up store's usable energy measurement starts. -/
def execHoldupMeasure (t : Nat) (mj : Nat) (s : State) : Host.Outcome State Fault Refusal := occurs t (fun s => s.holdupMeasure mj) s

/-- HOLDUP_MEASURE_END (R565). The measurement ends after 100 ms or at 766 mJ, the charger reconnects and HOLDUP_MJ is loaded. -/
def execHoldupMeasureEnd (t : Nat) (mj : Nat) (s : State) : Host.Outcome State Fault Refusal := occurs t (fun s => s.holdupEnd mj) s

/-- HOLDUP_TEST (R568). PWR.CMD HOLDUP_TEST starts a hold-up measurement. -/
def execHoldupTest (t : Nat) (slot tag : Nat) (s : State) : Host.Outcome State Fault Refusal :=
  occurs t (fun s => s.hostWrite slot (Page.reg .pwr 0 Off.PWR_CMD) (cmdWord 1 tag 0)) s

/-- PWR_FIELD_LIM_WRITE (R559). A write to PWR.FIELD_LIM sets the group field limits, or is refused when their sum exceeds 100. -/
def execPwrFieldLimWrite (t : Nat) (slot : Nat) (val : Word) (s : State) : Host.Outcome State Fault Refusal :=
  occurs t (fun s => s.hostWrite slot (Page.reg .pwr 0 Off.PWR_FIELD_LIM) val) s

/-- PWR_CLR (R567). A write to PWR.CLR zeroes the K-class power counters and records the clearing. -/
def execPwrClr (t : Nat) (slot : Nat) (val : Word) (s : State) : Host.Outcome State Fault Refusal :=
  occurs t (fun s => s.hostWrite slot (Page.reg .pwr 0 Off.PWR_CLR) val) s

end Sys2Proof.Machine
end

