-- ==== Sys2Proof/Machine/RowsPrg.lean ====
section
/-!
DEFINITION. The meanings of the rows of the table for sequence programs and masks (R332–R358).
-/
namespace Sys2Proof.Machine

/-- TASK_RELEASE (R341). A task is released: it takes its input copy, applies masks, executes its blocks, exchanges its image if due and commits its
outputs. `execUs` is the execution time of the cycle, `chk` what the check of its staged effects and new state finds (R89). -/
def execTaskRelease (t : Nat) (n execUs : Nat) (chk : List MemFind) (s : State) : Host.Outcome State Fault Refusal :=
  occurs t (fun s => s.epoch (.task n) fun s => s.taskRelease n execUs chk) s

/-- PRG_ALM_ACK (R339). A write to PRG.ALM_ACK acknowledges an alarm, or all alarms, at the task's next input copy. -/
def execPrgAlmAck (t : Nat) (slot : Nat) (val : Word) (s : State) : Host.Outcome State Fault Refusal :=
  occurs t (fun s => s.hostWrite slot (Page.reg .prg 0 Off.PRG_ALM_ACK) val) s

/-- PRG_HIN_HI_WRITE (R348). A write to a PRG.HIN HI register updates the host input pair. -/
def execPrgHinHiWrite (t : Nat) (slot k : Nat) (val : Word) (s : State) : Host.Outcome State Fault Refusal :=
  occurs t (fun s => s.hostWrite slot (Page.reg .prg 0 (Off.PRG_HIN0_LO + 8 * k + 4)) val) s

/-- PRG_CLR (R356). A write to PRG.CLR zeroes the K-class task counters and records the clearing. -/
def execPrgClr (t : Nat) (slot : Nat) (val : Word) (s : State) : Host.Outcome State Fault Refusal :=
  occurs t (fun s => s.hostWrite slot (Page.reg .prg 0 Off.PRG_CLR) val) s

/-- FORCE_APPLY (R358). FORCE.CMD APPLY masks a target with a forced value. -/
def execForceApply (t : Nat) (slot tag : Nat) (s : State) : Host.Outcome State Fault Refusal :=
  occurs t (fun s => s.hostWrite slot (Page.reg .force 0 Off.FORCE_CMD) (cmdWord 1 tag 0)) s

/-- FORCE_REMOVE (R358). FORCE.CMD REMOVE removes the mask of a target. -/
def execForceRemove (t : Nat) (slot tag : Nat) (s : State) : Host.Outcome State Fault Refusal :=
  occurs t (fun s => s.hostWrite slot (Page.reg .force 0 Off.FORCE_CMD) (cmdWord 2 tag 0)) s

/-- FORCE_REMOVE_ALL (R358). FORCE.CMD REMOVE_ALL removes every mask. -/
def execForceRemoveAll (t : Nat) (slot tag : Nat) (s : State) : Host.Outcome State Fault Refusal :=
  occurs t (fun s => s.hostWrite slot (Page.reg .force 0 Off.FORCE_CMD) (cmdWord 3 tag 0)) s

/-- FORCED_RELEASE (R350). Within 10 ms the controller releases a forced or restored output value to the output's group. -/
def execForcedRelease (t : Nat) (s : State) : Host.Outcome State Fault Refusal := occurs t (fun s => s.forcedRelease) s

end Sys2Proof.Machine
end

