-- ==== Sys2Proof/Machine/RowsRtc.lean ====
section
/-!
DEFINITION. The meanings of the rows of the table for the backup domain (R402–R418).
-/
namespace Sys2Proof.Machine

/-- RTC_SYNC_ADJUST (R410). At most every 64 s the calendar is adjusted to a valid time base that differs by more than 2 ms. `cal` is the calendar as
BKP has counted it, in nanoseconds since 1970. -/
def execRtcSyncAdjust (t : Nat) (cal : Int) (s : State) : Host.Outcome State Fault Refusal := occurs t (fun s => s.rtcSync cal) s

/-- RTC_TRIM (R411). Every 4,096 s in LOCKED the oscillator is measured and RTC.TRIM is loaded. `steps` is the correction measured. -/
def execRtcTrim (t : Nat) (steps : Int) (s : State) : Host.Outcome State Fault Refusal := occurs t (fun s => s.rtcTrim steps) s

/-- VBK_MEASURE (R403). Once a second BKP measures the backup voltage and sets VBK_LOW below 2.2 V. -/
def execVbkMeasure (t : Nat) (mv : Nat) (s : State) : Host.Outcome State Fault Refusal := occurs t (fun s => s.vbkMeasure mv) s

/-- BKP_EXHAUSTED (R403). The backup voltage below 1.8 V stops BKP and loses the B-class fields. -/
def execBkpExhausted (t : Nat) (s : State) : Host.Outcome State Fault Refusal := occurs t (fun s => s.bkpExhausted) s

/-- VBK_LOW_CLEAR (R403). A W1C write to RTC.FLAGS[VBK_LOW] clears it only at 2.4 V or more. -/
def execVbkLowClear (t : Nat) (slot : Nat) (val : Word) (s : State) : Host.Outcome State Fault Refusal :=
  occurs t (fun s => s.hostWrite slot (Page.reg .rtc 0 Off.RTC_FLAGS) val) s

/-- RTC_CD_LOAD (R412). A write to RTC.CD_LOAD starts the countdown from N, or stops it with 0. -/
def execRtcCdLoad (t : Nat) (slot : Nat) (val : Word) (s : State) : Host.Outcome State Fault Refusal :=
  occurs t (fun s => s.hostWrite slot (Page.reg .rtc 0 Off.RTC_CD_LOAD) val) s

/-- COUNTDOWN_EXPIRY (R412). The countdown reaches zero, flags its expiry, wakes if armed and drives PWR_REQ. -/
def execCountdownExpiry (t : Nat) (s : State) : Host.Outcome State Fault Refusal := occurs t (fun s => s.cdExpiry) s

/-- ALARM_FIRE (R414). The armed alarm fires at its second, or at a forward adjustment past it, and disarms. -/
def execAlarmFire (t : Nat) (s : State) : Host.Outcome State Fault Refusal := occurs t (fun s => s.alarmReached) s

/-- CALENDAR_END (R408). The calendar stops at 2399-12-31 23:59:59 and sets INVALID. -/
def execCalendarEnd (t : Nat) (s : State) : Host.Outcome State Fault Refusal := occurs t (fun s => s.calendarEnd) s

/-- PWR_REQ_PULSE_END (R415). A PULSE-mode PWR_REQ releases PULSE_S seconds after assertion. -/
def execPwrReqPulseEnd (t : Nat) (s : State) : Host.Outcome State Fault Refusal := occurs t (fun s => s.pulseEnd) s

/-- RTC_SET_CAL (R409). RTC.CMD SET_CAL checks the date and sets the calendar and the time base. -/
def execRtcSetCal (t : Nat) (slot tag : Nat) (s : State) : Host.Outcome State Fault Refusal :=
  occurs t (fun s => s.hostWrite slot (Page.reg .rtc 0 Off.RTC_CMD) (cmdWord 1 tag 0)) s

/-- RTC_ARM_ALM (R413). RTC.CMD ARM_ALM arms or replaces the calendar alarm. -/
def execRtcArmAlm (t : Nat) (slot tag : Nat) (s : State) : Host.Outcome State Fault Refusal :=
  occurs t (fun s => s.hostWrite slot (Page.reg .rtc 0 Off.RTC_CMD) (cmdWord 2 tag 0)) s

/-- RTC_DISARM_ALM (R413). RTC.CMD DISARM_ALM disarms the alarm. -/
def execRtcDisarmAlm (t : Nat) (slot tag : Nat) (s : State) : Host.Outcome State Fault Refusal :=
  occurs t (fun s => s.hostWrite slot (Page.reg .rtc 0 Off.RTC_CMD) (cmdWord 3 tag 0)) s

/-- RTC_STAMP_CLR (R404). RTC.CMD STAMP_CLR clears STAMP_VALID. -/
def execRtcStampClr (t : Nat) (slot tag : Nat) (s : State) : Host.Outcome State Fault Refusal :=
  occurs t (fun s => s.hostWrite slot (Page.reg .rtc 0 Off.RTC_CMD) (cmdWord 4 tag 0)) s

/-- RTC_PWRREQ_REL (R418). RTC.CMD PWRREQ_REL releases PWR_REQ. -/
def execRtcPwrreqRel (t : Nat) (slot tag : Nat) (s : State) : Host.Outcome State Fault Refusal :=
  occurs t (fun s => s.hostWrite slot (Page.reg .rtc 0 Off.RTC_CMD) (cmdWord 5 tag 0)) s

end Sys2Proof.Machine
end

