-- ==== Sys2Proof/Machine/RowsSafe.lean ====
section
/-!
DEFINITION. The meanings of the rows of the table for the safety domain and Polien (R419–R450).
-/
namespace Sys2Proof.Machine

/-- SAFETY_CYCLE (R419). Each 1 ms both safety processors read inputs, evaluate functions, exchange digests and switch outputs and telegrams, or lock
out. `agree` tells that both digests arrived and agree and every self-test passed; `tests` are the raw samples of test pulses. -/
def execSafetyCycle (t : Nat) (agree : Bool) (tests : List SdiTest) (s : State) : Host.Outcome State Fault Refusal :=
  occurs t (fun s => s.safetyCycle agree tests) s

/-- SEAL_SWITCH_CHANGE (R423). A move of a seal switch is shown and recorded, and a disagreement for 100 ms locks out the domain. The positions as
processors A and B read them. -/
def execSealSwitchChange (t : Nat) (addrA : Nat) (editA : Bool) (addrB : Nat) (editB : Bool) (s : State) : Host.Outcome State Fault Refusal :=
  occurs t (fun s => s.sealChange addrA editA addrB editB) s

/-- SDO_OFF_PULSE (R434). Once a second each energised SDO is switched off briefly and its readback checked. `failed` are the outputs whose readback
did not follow. -/
def execSdoOffPulse (t : Nat) (failed : List Nat) (s : State) : Host.Outcome State Fault Refusal := occurs t (fun s => s.sdoOffPulse failed) s

/-- POLIEN_TELEGRAM_RX (R441). A received Polien telegram is checked and accepted, or discarded, possibly entering FAILSAFE. -/
def execPolienTelegramRx (t : Nat) (s : State) : Host.Outcome State Fault Refusal := occurs t (fun s => s.polRx) s

/-- POLIEN_FAILSAFE_END (R443). After WD_MS in FAILSAFE a connection goes to STARTING or CLOSED. -/
def execPolienFailsafeEnd (t : Nat) (k : Nat) (s : State) : Host.Outcome State Fault Refusal := occurs t (fun s => s.polFailEnd k) s

/-- SAFE_RESET (R449). SAFE.CMD RESET resets a function remotely when REMOTE_RESET is set. -/
def execSafeReset (t : Nat) (slot tag fn : Nat) (s : State) : Host.Outcome State Fault Refusal :=
  occurs t (fun s => s.hostWrite slot (Page.reg .safe 0 Off.SAFE_CMD) (cmdWord 1 tag (65536 * (fn % 32)))) s

/-- SAFE_CONFIRM (R427). SAFE.CMD CONFIRM confirms a safety configuration whose CRC matches. -/
def execSafeConfirm (t : Nat) (slot tag : Nat) (s : State) : Host.Outcome State Fault Refusal :=
  occurs t (fun s => s.hostWrite slot (Page.reg .safe 0 Off.SAFE_CMD) (cmdWord 2 tag 0)) s

/-- SAFE_CLR (R448). A write to SAFE.CLR zeroes the K-class safety counters and records the clearing. -/
def execSafeClr (t : Nat) (slot : Nat) (val : Word) (s : State) : Host.Outcome State Fault Refusal :=
  occurs t (fun s => s.hostWrite slot (Page.reg .safe 0 Off.SAFE_CLR) val) s

/-- POL_CLR (R450). A write to POL.CLR zeroes the K-class Polien counters and records the clearing. -/
def execPolClr (t : Nat) (slot : Nat) (val : Word) (s : State) : Host.Outcome State Fault Refusal :=
  occurs t (fun s => s.hostWrite slot (Page.reg .pol 0 Off.POL_CLR) val) s

end Sys2Proof.Machine
end

