-- ==== Sys2Proof/Machine/RowsSec.lean ====
section
/-!
DEFINITION. The meanings of the rows of the table for keys, tamper and life cycle (R473–R494).
-/
namespace Sys2Proof.Machine

/-- TAMPER (R485). A tamper source fires, BKP zeroes every key slot, and a tamper reset follows while powered. `src` has a bit for each source that
fires, as SEC.TAMPER_CAUSE numbers them. -/
def execTamper (t : Nat) (src : Nat) (s : State) : Host.Outcome State Fault Refusal := occurs t (fun s => s.tamper src) s

/-- SUBMIT (R481). SEC.CMD SUBMIT checks and commits a key-update message for a slot, an anchor or the life cycle. -/
def execSubmit (t : Nat) (slot tag : Nat) (s : State) : Host.Outcome State Fault Refusal :=
  occurs t (fun s => s.hostWrite slot (Page.reg .sec 0 Off.SEC_CMD) (cmdWord 1 tag 0)) s

/-- ATTEST (R490). SEC.CMD ATTEST builds and signs an attestation report over the nonce. -/
def execAttest (t : Nat) (slot tag : Nat) (s : State) : Host.Outcome State Fault Refusal :=
  occurs t (fun s => s.hostWrite slot (Page.reg .sec 0 Off.SEC_CMD) (cmdWord 2 tag 0)) s

/-- REPROV_DONE (R486). SEC.CMD REPROV_DONE clears KEYS_ZEROED when the conditions hold. -/
def execReprovDone (t : Nat) (slot tag : Nat) (s : State) : Host.Outcome State Fault Refusal :=
  occurs t (fun s => s.hostWrite slot (Page.reg .sec 0 Off.SEC_CMD) (cmdWord 3 tag 0)) s

/-- SEC_CLEAR_STAGE (R494). SEC.CMD CLEAR_STAGE zeroes the session's key-update staging object. -/
def execSecClearStage (t : Nat) (slot tag : Nat) (s : State) : Host.Outcome State Fault Refusal :=
  occurs t (fun s => s.hostWrite slot (Page.reg .sec 0 Off.SEC_CMD) (cmdWord 4 tag 0)) s

/-- SEC_CLR (R493). A write to SEC.CLR zeroes the K-class security counters and records the clearing. -/
def execSecClr (t : Nat) (slot : Nat) (val : Word) (s : State) : Host.Outcome State Fault Refusal :=
  occurs t (fun s => s.hostWrite slot (Page.reg .sec 0 Off.SEC_CLR) val) s

/-- TAMPER_SOURCE_CHANGE (R484). A tamper source becomes inactive, or an external tamper loop opens or closes while it is not enabled, updating
SEC.STAT[TAMPER_ACTIVE], TAMP_A_OPEN and TAMP_B_OPEN. -/
def execTamperSourceChange (t : Nat) (src : Nat) (on : Bool) (s : State) : Host.Outcome State Fault Refusal := occurs t (fun s => s.tamperChange src on) s

end Sys2Proof.Machine
end

