-- ==== Sys2Proof/Machine/RowsSolver.lean ====
section
/-!
DEFINITION. The meanings of the rows of the table for the solver (R164–R237).
-/
namespace Sys2Proof.Machine

/-- SLOT_CYCLE_BOUNDARY (R19). At a slot boundary the controller takes the snapshot, wakes the lanes, assembles and writes the skim and starts the
solve, or skips as an overrun. -/
def execSlotCycleBoundary (t : Nat) (n : Nat) (s : State) : Host.Outcome State Fault Refusal :=
  occurs t (fun s => s.epoch (.slot n) fun s => s.slotBoundary n) s

/-- FORECAST_UPDATE (R182). At each grid point the built-in forecaster updates each enabled zone from the step just completed and stores its state. -/
def execForecastUpdate (t : Nat) (s : State) : Host.Outcome State Fault Refusal := occurs t (fun s => s.gridPoint) s

/-- SOLVER_ITERATE_COMPLETE (R211). An iterate's merit is evaluated and the result is selected when the configured count is reached or a value is
non-finite. `chk` is what the check of the cycle's staged effects and new state finds (R89). -/
def execSolverIterateComplete (t : Nat) (n : Nat) (chk : List MemFind) (s : State) : Host.Outcome State Fault Refusal :=
  occurs t (fun s => s.checked chk (fun s => s.epoch (.slot n) fun s => s.iterateDone n) id) s

/-- SLOT_DEADLINE (R216). The slot deadline selects the best candidate, or a shift-reuse publication, under the slot's deadline class. `inside` tells
that the deadline falls inside an iteration or factorisation, `chk` is what the check of the cycle's staged effects and new state finds (R89). -/
def execSlotDeadline (t : Nat) (n : Nat) (inside : Bool) (chk : List MemFind) (s : State) : Host.Outcome State Fault Refusal :=
  occurs t (fun s => s.checked chk (fun s => s.epoch (.slot n) fun s => s.slotDeadline n inside) id) s

/-- SCREED_BUILD_DONE (R199). A screed build completes with SCREED_OK, or stops with CAPACITY. -/
def execScreedBuildDone (t : Nat) (n : Nat) (s : State) : Host.Outcome State Fault Refusal := occurs t (fun s => s.buildDone n) s

/-- LANE_FAULT (R228). A solver lane faults, is fenced, and the slot is made good. -/
def execLaneFault (t : Nat) (lane : Nat) (s : State) : Host.Outcome State Fault Refusal := occurs t (fun s => (s.laneFault lane).lateSlots) s

/-- LANE_RETEST (R228). After RETEST_S seconds a fenced lane is queued for its self-test. -/
def execLaneRetest (t : Nat) (lane : Nat) (s : State) : Host.Outcome State Fault Refusal := occurs t (fun s => s.laneRetest lane) s

/-- LANE_SELF_TEST_DONE (R228). A lane self-test completes, returning the lane or counting toward HELD. -/
def execLaneSelfTestDone (t : Nat) (pass : Bool) (s : State) : Host.Outcome State Fault Refusal := occurs t (fun s => s.selfTestDone pass) s

/-- SLV_LANE_TEST (R232). SLV.CMD LANE_TEST runs a self-test of a fenced lane at once. -/
def execSlvLaneTest (t : Nat) (slot tag lane : Nat) (s : State) : Host.Outcome State Fault Refusal :=
  occurs t (fun s => s.hostWrite slot (Page.reg .slv 0 Off.SLV_CMD) (cmdWord 1 tag (65536 * (lane % 8)))) s

/-- SLV_LANE_RELEASE (R232). SLV.CMD LANE_RELEASE clears HELD and restarts the retest wait. -/
def execSlvLaneRelease (t : Nat) (slot tag lane : Nat) (s : State) : Host.Outcome State Fault Refusal :=
  occurs t (fun s => s.hostWrite slot (Page.reg .slv 0 Off.SLV_CMD) (cmdWord 2 tag (65536 * (lane % 8)))) s

/-- SLOT_SCREED_BUILD (R234). SLOT.CMD SCREED_BUILD builds the slot's screed in COMMISSION. -/
def execSlotScreedBuild (t : Nat) (slot tag n : Nat) (s : State) : Host.Outcome State Fault Refusal :=
  occurs t (fun s => s.hostWrite slot (Page.reg .slot n Off.SLOT_CMD) (cmdWord 1 tag 0)) s

/-- SLOT_TRIAL (R234). SLOT.CMD TRIAL runs one cycle with TRIAL set and releases nothing. -/
def execSlotTrial (t : Nat) (slot tag n : Nat) (s : State) : Host.Outcome State Fault Refusal :=
  occurs t (fun s => s.hostWrite slot (Page.reg .slot n Off.SLOT_CMD) (cmdWord 2 tag 0)) s

/-- SLOT_COLD_NEXT (R224). SLOT.CMD COLD_NEXT sets COLD_PENDING so that the next cycle starts cold. -/
def execSlotColdNext (t : Nat) (slot tag n : Nat) (s : State) : Host.Outcome State Fault Refusal :=
  occurs t (fun s => s.hostWrite slot (Page.reg .slot n Off.SLOT_CMD) (cmdWord 3 tag 0)) s

/-- SLOT_CAPTURE (R207). SLOT.CMD CAPTURE stores the next cycle's skim, warm start and result on NAND. -/
def execSlotCapture (t : Nat) (slot tag n : Nat) (s : State) : Host.Outcome State Fault Refusal :=
  occurs t (fun s => s.hostWrite slot (Page.reg .slot n Off.SLOT_CMD) (cmdWord 4 tag 0)) s

/-- SLOT_CLR (R233). A write to SLOT.CLR zeroes the slot's K-class counters and records the clearing. -/
def execSlotClr (t : Nat) (slot n : Nat) (val : Word) (s : State) : Host.Outcome State Fault Refusal :=
  occurs t (fun s => s.hostWrite slot (Page.reg .slot n Off.SLOT_CLR) val) s

/-- COMMIT_SERIES (R237). SDATA.CMD COMMIT_SERIES checks the staged input series and accepts it for the next dispatch boundary. -/
def execCommitSeries (t : Nat) (slot tag len : Nat) (s : State) : Host.Outcome State Fault Refusal :=
  occurs t (fun s => s.hostWrite slot (Page.reg .sdata 0 Off.SDATA_CMD) (cmdWord 1 tag (65536 * (len % 4096)))) s

/-- COMMIT_SKIM (R237). SDATA.CMD COMMIT_SKIM stages a host skim for the next TRIAL. -/
def execCommitSkim (t : Nat) (slot tag len : Nat) (s : State) : Host.Outcome State Fault Refusal :=
  occurs t (fun s => s.hostWrite slot (Page.reg .sdata 0 Off.SDATA_CMD) (cmdWord 2 tag (65536 * (len % 4096)))) s

/-- CLEAR_STAGE (R237). SDATA.CMD CLEAR_STAGE zeroes the session's staging buffer. -/
def execClearStage (t : Nat) (slot tag : Nat) (s : State) : Host.Outcome State Fault Refusal :=
  occurs t (fun s => s.hostWrite slot (Page.reg .sdata 0 Off.SDATA_CMD) (cmdWord 3 tag 0)) s

end Sys2Proof.Machine
end

