-- ==== Sys2Proof/Machine/RowsUpd.lean ====
section
/-!
DEFINITION. The meanings of the rows of the table for updates (R495–R512).
-/
namespace Sys2Proof.Machine

/-- OPEN (R512). UPD.CMD OPEN discards staged blocks and claims staging for a new package. -/
def execUpdOpen (t : Nat) (slot tag : Nat) (s : State) : Host.Outcome State Fault Refusal :=
  occurs t (fun s => s.hostWrite slot (Page.reg .upd 0 Off.UPD_CMD) (cmdWord 1 tag 0)) s

/-- RESUME (R500). UPD.CMD RESUME claims staging and keeps the received blocks. -/
def execUpdResume (t : Nat) (slot tag : Nat) (s : State) : Host.Outcome State Fault Refusal :=
  occurs t (fun s => s.hostWrite slot (Page.reg .upd 0 Off.UPD_CMD) (cmdWord 2 tag 0)) s

/-- UPD_WRITE (R500). UPD.CMD WRITE stores the buffer as a ciphertext block at its offset in NAND. -/
def execUpdWrite (t : Nat) (slot tag len : Nat) (s : State) : Host.Outcome State Fault Refusal :=
  occurs t (fun s => s.hostWrite slot (Page.reg .upd 0 Off.UPD_CMD) (cmdWord 3 tag (65536 * (len % 4096)))) s

/-- FINISH (R501). UPD.CMD FINISH checks completeness and the manifest format, and releases staging. -/
def execUpdFinish (t : Nat) (slot tag : Nat) (s : State) : Host.Outcome State Fault Refusal :=
  occurs t (fun s => s.hostWrite slot (Page.reg .upd 0 Off.UPD_CMD) (cmdWord 4 tag 0)) s

/-- ARM (R502). UPD.CMD ARM arms a complete package for the next BOOT. -/
def execUpdArm (t : Nat) (slot tag : Nat) (s : State) : Host.Outcome State Fault Refusal :=
  occurs t (fun s => s.hostWrite slot (Page.reg .upd 0 Off.UPD_CMD) (cmdWord 5 tag 0)) s

/-- DISARM (R512). UPD.CMD DISARM returns an armed package to COMPLETE. -/
def execUpdDisarm (t : Nat) (slot tag : Nat) (s : State) : Host.Outcome State Fault Refusal :=
  occurs t (fun s => s.hostWrite slot (Page.reg .upd 0 Off.UPD_CMD) (cmdWord 6 tag 0)) s

/-- DISCARD (R512). UPD.CMD DISCARD clears the staging area. -/
def execUpdDiscard (t : Nat) (slot tag : Nat) (s : State) : Host.Outcome State Fault Refusal :=
  occurs t (fun s => s.hostWrite slot (Page.reg .upd 0 Off.UPD_CMD) (cmdWord 7 tag 0)) s

/-- UPD_HEALTH_WRITE (R506). A write of the package identity to UPD.HEALTH confirms the trial image set. -/
def execUpdHealthWrite (t : Nat) (slot : Nat) (val : Word) (s : State) : Host.Outcome State Fault Refusal :=
  occurs t (fun s => s.hostWrite slot (Page.reg .upd 0 Off.UPD_HEALTH) val) s

/-- HEALTH_WINDOW_EXPIRY (R507). An unconfirmed health window runs out and the device watchdog resets toward fallback. -/
def execHealthWindowExpiry (t : Nat) (s : State) : Host.Outcome State Fault Refusal := occurs t (fun s => s.healthExpiry) s

end Sys2Proof.Machine
end

