-- ==== Sys2Proof/Machine/Dispatch.lean ====
section
/-!
DEFINITION. One arm for each command.
-/
namespace Sys2Proof.Machine

/-- What a command does to everything but the queue. -/
def exec (i : Instr) (s : State) : Host.Outcome State Fault Refusal :=
  match i with
  | .sessionInit t port fr key nonce cred want => Sys2Proof.Machine.execSessionInit t port fr key nonce cred want s
  | .sessionProof t port fr id mac => Sys2Proof.Machine.execSessionProof t port fr id mac s
  | .sessionClose t fromHost slot port fr id => Sys2Proof.Machine.execSessionClose t fromHost slot port fr id s
  | .sessionIdleTimeout t slot => Sys2Proof.Machine.execSessionIdleTimeout t slot s
  | .proofLockoutExpiry t => Sys2Proof.Machine.execProofLockoutExpiry t s
  | .request t port fr id seq rq => Sys2Proof.Machine.execRequest t port fr id seq rq s
  | .read t slot seq req addr ue => Sys2Proof.Machine.execRead t slot seq req addr ue s
  | .write t slot seq req addr val mask => Sys2Proof.Machine.execWrite t slot seq req addr val mask s
  | .readBlock t slot seq req addr count ue => Sys2Proof.Machine.execReadBlock t slot seq req addr count ue s
  | .writeBlock t slot seq req addr data => Sys2Proof.Machine.execWriteBlock t slot seq req addr data s
  | .barrier t slot seq req => Sys2Proof.Machine.execBarrier t slot seq req s
  | .ping t slot seq req => Sys2Proof.Machine.execPing t slot seq req s
  | .notify t slot seq req pages interval => Sys2Proof.Machine.execNotify t slot seq req pages interval s
  | .notifySend t slot => Sys2Proof.Machine.execNotifySend t slot s
  | .notifyRepeat t slot => Sys2Proof.Machine.execNotifyRepeat t slot s
  | .notifyAck t port fr id seq num => Sys2Proof.Machine.execNotifyAck t port fr id seq num s
  | .registerWrite t slot addr val => Sys2Proof.Machine.execRegisterWrite t slot addr val s
  | .pageIrqClear t slot page inst val => Sys2Proof.Machine.execPageIrqClear t slot page inst val s
  | .pageLockWrite t slot page inst val => Sys2Proof.Machine.execPageLockWrite t slot page inst val s
  | .pageReset t slot page inst freeze => Sys2Proof.Machine.execPageReset t slot page inst freeze s
  | .pageResetTakeEffect t page inst => Sys2Proof.Machine.execPageResetTakeEffect t page inst s
  | .modeCmdCommission t slot tag => Sys2Proof.Machine.execModeCmdCommission t slot tag s
  | .modeCmdRun t slot tag => Sys2Proof.Machine.execModeCmdRun t slot tag s
  | .modeCmdSafeHold t slot tag => Sys2Proof.Machine.execModeCmdSafeHold t slot tag s
  | .modeCmdMaintenance t slot tag => Sys2Proof.Machine.execModeCmdMaintenance t slot tag s
  | .modeCmdDormant t slot tag => Sys2Proof.Machine.execModeCmdDormant t slot tag s
  | .modeTransitionComplete t => Sys2Proof.Machine.execModeTransitionComplete t s
  | .unrecoverableFault t cmp code => Sys2Proof.Machine.execUnrecoverableFault t cmp code s
  | .shIdleExpiry t => Sys2Proof.Machine.execShIdleExpiry t s
  | .wakeFromP2 t src => Sys2Proof.Machine.execWakeFromP2 t src s
  | .wakeFromDormant t src => Sys2Proof.Machine.execWakeFromDormant t src s
  | .bootComplete t b => Sys2Proof.Machine.execBootComplete t b s
  | .powerOnReset t => Sys2Proof.Machine.execPowerOnReset t s
  | .brownOutReset t => Sys2Proof.Machine.execBrownOutReset t s
  | .watchdogReset t => Sys2Proof.Machine.execWatchdogReset t s
  | .rstSoft t slot key => Sys2Proof.Machine.execRstSoft t slot key s
  | .rstCountsClr t slot val => Sys2Proof.Machine.execRstCountsClr t slot val s
  | .profSwitch t slot tag target => Sys2Proof.Machine.execProfSwitch t slot tag target s
  | .profVerifyDone t => Sys2Proof.Machine.execProfVerifyDone t s
  | .profCancel t slot tag => Sys2Proof.Machine.execProfCancel t slot tag s
  | .profileSwitchBoundary t => Sys2Proof.Machine.execProfileSwitchBoundary t s
  | .ordBarrier t slot tag => Sys2Proof.Machine.execOrdBarrier t slot tag s
  | .barrierComplete t slot => Sys2Proof.Machine.execBarrierComplete t slot s
  | .recoverableFault t eng cause => Sys2Proof.Machine.execRecoverableFault t eng cause s
  | .makingGoodDone t eng => Sys2Proof.Machine.execMakingGoodDone t eng s
  | .sandingBurst t f0 f1 => Sys2Proof.Machine.execSandingBurst t f0 f1 s
  | .sramScrub t found => Sys2Proof.Machine.execSramScrub t found s
  | .telemetrySample t taken => Sys2Proof.Machine.execTelemetrySample t taken s
  | .memClr t slot val => Sys2Proof.Machine.execMemClr t slot val s
  | .dtlsClientHello t offers cookie netid formed st gen => Sys2Proof.Machine.execDtlsClientHello t offers cookie netid formed st gen s
  | .dtlsHandshakeDone t st gen => Sys2Proof.Machine.execDtlsHandshakeDone t st gen s
  | .dtlsKeyUpdate t st => Sys2Proof.Machine.execDtlsKeyUpdate t st s
  | .dtlsSessionFail t st => Sys2Proof.Machine.execDtlsSessionFail t st s
  | .dpxHello t st hdr m => Sys2Proof.Machine.execDpxHello t st hdr m s
  | .dpxSetMessage t st hdr f => Sys2Proof.Machine.execDpxSetMessage t st hdr f s
  | .dpxSetApply t st chk => Sys2Proof.Machine.execDpxSetApply t st chk s
  | .dpxAckRx t st hdr m => Sys2Proof.Machine.execDpxAckRx t st hdr m s
  | .dpxSafeRx t st hdr telegram => Sys2Proof.Machine.execDpxSafeRx t st hdr telegram s
  | .dpxRetransmit t st seq => Sys2Proof.Machine.execDpxRetransmit t st seq s
  | .stationHbTimeout t st => Sys2Proof.Machine.execStationHbTimeout t st s
  | .netEnable t slot tag st => Sys2Proof.Machine.execNetEnable t slot tag st s
  | .netDisable t slot tag st => Sys2Proof.Machine.execNetDisable t slot tag st s
  | .netResync t slot tag st => Sys2Proof.Machine.execNetResync t slot tag st s
  | .netNextGen t slot tag st => Sys2Proof.Machine.execNetNextGen t slot tag st s
  | .netKexport t slot tag st => Sys2Proof.Machine.execNetKexport t slot tag st s
  | .dpxClr t slot val => Sys2Proof.Machine.execDpxClr t slot val s
  | .pntBaseWrite t slot val => Sys2Proof.Machine.execPntBaseWrite t slot val s
  | .pntFreeze t slot on => Sys2Proof.Machine.execPntFreeze t slot on s
  | .slotCycleBoundary t n => Sys2Proof.Machine.execSlotCycleBoundary t n s
  | .forecastUpdate t => Sys2Proof.Machine.execForecastUpdate t s
  | .solverIterateComplete t n chk => Sys2Proof.Machine.execSolverIterateComplete t n chk s
  | .slotDeadline t n inside chk => Sys2Proof.Machine.execSlotDeadline t n inside chk s
  | .screedBuildDone t n => Sys2Proof.Machine.execScreedBuildDone t n s
  | .laneFault t lane => Sys2Proof.Machine.execLaneFault t lane s
  | .laneRetest t lane => Sys2Proof.Machine.execLaneRetest t lane s
  | .laneSelfTestDone t pass => Sys2Proof.Machine.execLaneSelfTestDone t pass s
  | .slvLaneTest t slot tag lane => Sys2Proof.Machine.execSlvLaneTest t slot tag lane s
  | .slvLaneRelease t slot tag lane => Sys2Proof.Machine.execSlvLaneRelease t slot tag lane s
  | .slotScreedBuild t slot tag n => Sys2Proof.Machine.execSlotScreedBuild t slot tag n s
  | .slotTrial t slot tag n => Sys2Proof.Machine.execSlotTrial t slot tag n s
  | .slotColdNext t slot tag n => Sys2Proof.Machine.execSlotColdNext t slot tag n s
  | .slotCapture t slot tag n => Sys2Proof.Machine.execSlotCapture t slot tag n s
  | .slotClr t slot n val => Sys2Proof.Machine.execSlotClr t slot n val s
  | .commitSeries t slot tag len => Sys2Proof.Machine.execCommitSeries t slot tag len s
  | .commitSkim t slot tag len => Sys2Proof.Machine.execCommitSkim t slot tag len s
  | .clearStage t slot tag => Sys2Proof.Machine.execClearStage t slot tag s
  | .loopSample t n late chk => Sys2Proof.Machine.execLoopSample t n late chk s
  | .loopNop t slot tag n => Sys2Proof.Machine.execLoopNop t slot tag n s
  | .loopSetMode t slot tag n mode => Sys2Proof.Machine.execLoopSetMode t slot tag n mode s
  | .loopTestStart t slot tag n => Sys2Proof.Machine.execLoopTestStart t slot tag n s
  | .loopTestStop t slot tag n => Sys2Proof.Machine.execLoopTestStop t slot tag n s
  | .loopTuneHiWrite t slot n k val => Sys2Proof.Machine.execLoopTuneHiWrite t slot n k val s
  | .loopClr t slot p val => Sys2Proof.Machine.execLoopClr t slot p val s
  | .lcapArm t slot tag k => Sys2Proof.Machine.execLcapArm t slot tag k s
  | .lcapStop t slot tag k => Sys2Proof.Machine.execLcapStop t slot tag k s
  | .conversionEnd t g code wire ovc => Sys2Proof.Machine.execConversionEnd t g code wire ovc s
  | .calibrationSlot t g res inWindow => Sys2Proof.Machine.execCalibrationSlot t g res inWindow s
  | .refSettleCheck t g meas => Sys2Proof.Machine.execRefSettleCheck t g meas s
  | .refSettleTimeout t g => Sys2Proof.Machine.execRefSettleTimeout t g s
  | .cntGate t n => Sys2Proof.Machine.execCntGate t n s
  | .modFrame t n samples stuck => Sys2Proof.Machine.execModFrame t n samples stuck s
  | .outputOvercurrent t n => Sys2Proof.Machine.execOutputOvercurrent t n s
  | .readbackMismatch t n rb => Sys2Proof.Machine.execReadbackMismatch t n rb s
  | .testPulse t tpb => Sys2Proof.Machine.execTestPulse t tpb s
  | .groupFence t g cause => Sys2Proof.Machine.execGroupFence t g cause s
  | .groupRetest t g r => Sys2Proof.Machine.execGroupRetest t g r s
  | .slcFence t slot tag g => Sys2Proof.Machine.execSlcFence t slot tag g s
  | .slcUnfence t slot tag g => Sys2Proof.Machine.execSlcUnfence t slot tag g s
  | .slcUserCalWrite t slot n gain val => Sys2Proof.Machine.execSlcUserCalWrite t slot n gain val s
  | .slcClr t slot g val => Sys2Proof.Machine.execSlcClr t slot g val s
  | .adcSetRef t slot tag g ref => Sys2Proof.Machine.execAdcSetRef t slot tag g ref s
  | .adcClr t slot g val => Sys2Proof.Machine.execAdcClr t slot g val s
  | .meterWindowEnd t p freq chans => Sys2Proof.Machine.execMeterWindowEnd t p freq chans s
  | .pqHalfCycle t p chans => Sys2Proof.Machine.execPqHalfCycle t p chans s
  | .meterIntervalStep t bad chk => Sys2Proof.Machine.execMeterIntervalStep t bad chk s
  | .billingRecordSign t => Sys2Proof.Machine.execBillingRecordSign t s
  | .mtrSaveNow t slot tag => Sys2Proof.Machine.execMtrSaveNow t slot tag s
  | .mtrMaxdemReset t slot tag => Sys2Proof.Machine.execMtrMaxdemReset t slot tag s
  | .mtrCorrWrite t slot p ch val => Sys2Proof.Machine.execMtrCorrWrite t slot p ch val s
  | .mtrRecSelWrite t slot val => Sys2Proof.Machine.execMtrRecSelWrite t slot val s
  | .mtrClr t slot val => Sys2Proof.Machine.execMtrClr t slot val s
  | .pqClr t slot val => Sys2Proof.Machine.execPqClr t slot val s
  | .heatClr t slot val => Sys2Proof.Machine.execHeatClr t slot val s
  | .pulseClr t slot val => Sys2Proof.Machine.execPulseClr t slot val s
  | .taskRelease t n execUs chk => Sys2Proof.Machine.execTaskRelease t n execUs chk s
  | .prgAlmAck t slot val => Sys2Proof.Machine.execPrgAlmAck t slot val s
  | .prgHinHiWrite t slot k val => Sys2Proof.Machine.execPrgHinHiWrite t slot k val s
  | .prgClr t slot val => Sys2Proof.Machine.execPrgClr t slot val s
  | .forceApply t slot tag => Sys2Proof.Machine.execForceApply t slot tag s
  | .forceRemove t slot tag => Sys2Proof.Machine.execForceRemove t slot tag s
  | .forceRemoveAll t slot tag => Sys2Proof.Machine.execForceRemoveAll t slot tag s
  | .forcedRelease t => Sys2Proof.Machine.execForcedRelease t s
  | .canFrameRx t j f => Sys2Proof.Machine.execCanFrameRx t j f s
  | .canFrameDecode t j => Sys2Proof.Machine.execCanFrameDecode t j s
  | .canSignalTimeout t j sig => Sys2Proof.Machine.execCanSignalTimeout t j sig s
  | .canBaseCycle t j => Sys2Proof.Machine.execCanBaseCycle t j s
  | .canTtLoad t j k => Sys2Proof.Machine.execCanTtLoad t j k s
  | .canTtSlot t j k sent => Sys2Proof.Machine.execCanTtSlot t j k sent s
  | .canArbWindow t j w durs => Sys2Proof.Machine.execCanArbWindow t j w durs s
  | .canBusOff t j => Sys2Proof.Machine.execCanBusOff t j s
  | .canBusoffHoldExpiry t j => Sys2Proof.Machine.execCanBusoffHoldExpiry t j s
  | .canRecoveryDone t j => Sys2Proof.Machine.execCanRecoveryDone t j s
  | .canDetectDwell t j => Sys2Proof.Machine.execCanDetectDwell t j s
  | .canDetectTimeout t j => Sys2Proof.Machine.execCanDetectTimeout t j s
  | .canTransceiverFault t j => Sys2Proof.Machine.execCanTransceiverFault t j s
  | .canRetest t j => Sys2Proof.Machine.execCanRetest t j s
  | .canDetect t slot tag j => Sys2Proof.Machine.execCanDetect t slot tag j s
  | .canFence t slot tag j => Sys2Proof.Machine.execCanFence t slot tag j s
  | .canUnfence t slot tag j => Sys2Proof.Machine.execCanUnfence t slot tag j s
  | .canClr t slot j val => Sys2Proof.Machine.execCanClr t slot j val s
  | .ethFrameRx t j f => Sys2Proof.Machine.execEthFrameRx t j f s
  | .ethLinkChange t j up fd1000 => Sys2Proof.Machine.execEthLinkChange t j up fd1000 s
  | .prpLegSilent t leg => Sys2Proof.Machine.execPrpLegSilent t leg s
  | .prpLegReturn t leg => Sys2Proof.Machine.execPrpLegReturn t leg s
  | .prpSupervisionTx t => Sys2Proof.Machine.execPrpSupervisionTx t s
  | .ptpAnnounce t dom m => Sys2Proof.Machine.execPtpAnnounce t dom m s
  | .ptpAnnounceTimeout t => Sys2Proof.Machine.execPtpAnnounceTimeout t s
  | .ptpSyncSample t leg id off rx tx => Sys2Proof.Machine.execPtpSyncSample t leg id off rx tx s
  | .timeHoldExpiry t => Sys2Proof.Machine.execTimeHoldExpiry t s
  | .timeSetTime t slot tag => Sys2Proof.Machine.execTimeSetTime t slot tag s
  | .timeAcceptStep t slot tag => Sys2Proof.Machine.execTimeAcceptStep t slot tag s
  | .timeClr t slot val => Sys2Proof.Machine.execTimeClr t slot val s
  | .ethClr t slot j val => Sys2Proof.Machine.execEthClr t slot j val s
  | .rtcSyncAdjust t cal => Sys2Proof.Machine.execRtcSyncAdjust t cal s
  | .rtcTrim t steps => Sys2Proof.Machine.execRtcTrim t steps s
  | .vbkMeasure t mv => Sys2Proof.Machine.execVbkMeasure t mv s
  | .bkpExhausted t => Sys2Proof.Machine.execBkpExhausted t s
  | .vbkLowClear t slot val => Sys2Proof.Machine.execVbkLowClear t slot val s
  | .rtcCdLoad t slot val => Sys2Proof.Machine.execRtcCdLoad t slot val s
  | .countdownExpiry t => Sys2Proof.Machine.execCountdownExpiry t s
  | .alarmFire t => Sys2Proof.Machine.execAlarmFire t s
  | .calendarEnd t => Sys2Proof.Machine.execCalendarEnd t s
  | .pwrReqPulseEnd t => Sys2Proof.Machine.execPwrReqPulseEnd t s
  | .rtcSetCal t slot tag => Sys2Proof.Machine.execRtcSetCal t slot tag s
  | .rtcArmAlm t slot tag => Sys2Proof.Machine.execRtcArmAlm t slot tag s
  | .rtcDisarmAlm t slot tag => Sys2Proof.Machine.execRtcDisarmAlm t slot tag s
  | .rtcStampClr t slot tag => Sys2Proof.Machine.execRtcStampClr t slot tag s
  | .rtcPwrreqRel t slot tag => Sys2Proof.Machine.execRtcPwrreqRel t slot tag s
  | .safetyCycle t agree tests => Sys2Proof.Machine.execSafetyCycle t agree tests s
  | .sealSwitchChange t addrA editA addrB editB => Sys2Proof.Machine.execSealSwitchChange t addrA editA addrB editB s
  | .sdoOffPulse t failed => Sys2Proof.Machine.execSdoOffPulse t failed s
  | .polienTelegramRx t => Sys2Proof.Machine.execPolienTelegramRx t s
  | .polienFailsafeEnd t k => Sys2Proof.Machine.execPolienFailsafeEnd t k s
  | .safeReset t slot tag fn => Sys2Proof.Machine.execSafeReset t slot tag fn s
  | .safeConfirm t slot tag => Sys2Proof.Machine.execSafeConfirm t slot tag s
  | .safeClr t slot val => Sys2Proof.Machine.execSafeClr t slot val s
  | .polClr t slot val => Sys2Proof.Machine.execPolClr t slot val s
  | .pl2LoopAbsent t => Sys2Proof.Machine.execPl2LoopAbsent t s
  | .tokenTakeInterval t est => Sys2Proof.Machine.execTokenTakeInterval t est s
  | .pl2OpenTimeout t => Sys2Proof.Machine.execPl2OpenTimeout t s
  | .pl2Retry t est => Sys2Proof.Machine.execPl2Retry t est s
  | .pl2LoopInterruption t => Sys2Proof.Machine.execPl2LoopInterruption t s
  | .cmpHeartbeatTimeout t => Sys2Proof.Machine.execCmpHeartbeatTimeout t s
  | .roleWatchdogExpiry t => Sys2Proof.Machine.execRoleWatchdogExpiry t s
  | .pl1LinkStart t id sigOk => Sys2Proof.Machine.execPl1LinkStart t id sigOk s
  | .pl1LinkDown t => Sys2Proof.Machine.execPl1LinkDown t s
  | .pl1Retransmit t => Sys2Proof.Machine.execPl1Retransmit t s
  | .pl1HeartbeatTx t => Sys2Proof.Machine.execPl1HeartbeatTx t s
  | .hello t h x => Sys2Proof.Machine.execHello t h x s
  | .heartbeat t h timer token mode => Sys2Proof.Machine.execHeartbeat t h timer token mode s
  | .inputs t h e slcs cans => Sys2Proof.Machine.execInputs t h e slcs cans s
  | .dataset t h st ver time es up useq => Sys2Proof.Machine.execDataset t h st ver time es up useq s
  | .hostin t h w => Sys2Proof.Machine.execHostin t h w s
  | .reserve t h c from_ to_ grant => Sys2Proof.Machine.execReserve t h c from_ to_ grant s
  | .commit t h e digest glitch explained accts pol masks => Sys2Proof.Machine.execCommit t h e digest glitch explained accts pol masks s
  | .iterhash t h n cycle hashes sel shifted consec stale prevOk glitch => Sys2Proof.Machine.execIterhash t h n cycle hashes sel shifted consec stale prevOk glitch s
  | .result t h n x y => Sys2Proof.Machine.execResult t h n x y s
  | .polien t h conns telegram => Sys2Proof.Machine.execPolien t h conns telegram s
  | .state t h x => Sys2Proof.Machine.execState t h x s
  | .verdict t h e v own peer want qual => Sys2Proof.Machine.execVerdict t h e v own peer want qual s
  | .wack t h seq => Sys2Proof.Machine.execWack t h seq s
  | .release t h cause => Sys2Proof.Machine.execRelease t h cause s
  | .handover t h at_ agree drill up => Sys2Proof.Machine.execHandover t h at_ agree drill up s
  | .handoverInstant t est => Sys2Proof.Machine.execHandoverInstant t est s
  | .qualifyTimer t => Sys2Proof.Machine.execQualifyTimer t s
  | .drillDue t => Sys2Proof.Machine.execDrillDue t s
  | .drillHoldEnd t cause => Sys2Proof.Machine.execDrillHoldEnd t cause s
  | .pairBind t slot tag => Sys2Proof.Machine.execPairBind t slot tag s
  | .pairHandover t slot tag => Sys2Proof.Machine.execPairHandover t slot tag s
  | .drillNow t slot tag => Sys2Proof.Machine.execDrillNow t slot tag s
  | .pairClr t slot val => Sys2Proof.Machine.execPairClr t slot val s
  | .tamper t src => Sys2Proof.Machine.execTamper t src s
  | .submit t slot tag => Sys2Proof.Machine.execSubmit t slot tag s
  | .attest t slot tag => Sys2Proof.Machine.execAttest t slot tag s
  | .reprovDone t slot tag => Sys2Proof.Machine.execReprovDone t slot tag s
  | .secClearStage t slot tag => Sys2Proof.Machine.execSecClearStage t slot tag s
  | .secClr t slot val => Sys2Proof.Machine.execSecClr t slot val s
  | .updOpen t slot tag => Sys2Proof.Machine.execUpdOpen t slot tag s
  | .updResume t slot tag => Sys2Proof.Machine.execUpdResume t slot tag s
  | .updWrite t slot tag len => Sys2Proof.Machine.execUpdWrite t slot tag len s
  | .updFinish t slot tag => Sys2Proof.Machine.execUpdFinish t slot tag s
  | .updArm t slot tag => Sys2Proof.Machine.execUpdArm t slot tag s
  | .updDisarm t slot tag => Sys2Proof.Machine.execUpdDisarm t slot tag s
  | .updDiscard t slot tag => Sys2Proof.Machine.execUpdDiscard t slot tag s
  | .updHealthWrite t slot val => Sys2Proof.Machine.execUpdHealthWrite t slot val s
  | .healthWindowExpiry t => Sys2Proof.Machine.execHealthWindowExpiry t s
  | .evtRdSeqWrite t slot val => Sys2Proof.Machine.execEvtRdSeqWrite t slot val s
  | .evtFreezeWrite t slot on => Sys2Proof.Machine.execEvtFreezeWrite t slot on s
  | .evtFreezeTimeout t => Sys2Proof.Machine.execEvtFreezeTimeout t s
  | .evtClear t slot tag => Sys2Proof.Machine.execEvtClear t slot tag s
  | .evtCntClr t slot val => Sys2Proof.Machine.execEvtCntClr t slot val s
  | .dispUpdate t slot tag full => Sys2Proof.Machine.execDispUpdate t slot tag full s
  | .dispBand t slot tag => Sys2Proof.Machine.execDispBand t slot tag s
  | .panelWaveformEnd t => Sys2Proof.Machine.execPanelWaveformEnd t s
  | .panelFrame t => Sys2Proof.Machine.execPanelFrame t s
  | .panelTempRead t temp => Sys2Proof.Machine.execPanelTempRead t temp s
  | .panelBandTimer t => Sys2Proof.Machine.execPanelBandTimer t s
  | .dispClr t slot val => Sys2Proof.Machine.execDispClr t slot val s
  | .supplyInputChange t b present => Sys2Proof.Machine.execSupplyInputChange t b present s
  | .supplyVoltageAlarm t b high on => Sys2Proof.Machine.execSupplyVoltageAlarm t b high on s
  | .lastGasp t phase dur saveOk cell => Sys2Proof.Machine.execLastGasp t phase dur saveOk cell s
  | .supplyReturn t a b charged => Sys2Proof.Machine.execSupplyReturn t a b charged s
  | .baseplateTemp t temp => Sys2Proof.Machine.execBaseplateTemp t temp s
  | .holdupMeasure t mj => Sys2Proof.Machine.execHoldupMeasure t mj s
  | .holdupMeasureEnd t mj => Sys2Proof.Machine.execHoldupMeasureEnd t mj s
  | .holdupTest t slot tag => Sys2Proof.Machine.execHoldupTest t slot tag s
  | .pwrFieldLimWrite t slot val => Sys2Proof.Machine.execPwrFieldLimWrite t slot val s
  | .pwrClr t slot val => Sys2Proof.Machine.execPwrClr t slot val s
  | .discreteInputSample t g levels ovc => Sys2Proof.Machine.execDiscreteInputSample t g levels ovc s
  | .canBusError t j kind data tec rec_ => Sys2Proof.Machine.execCanBusError t j kind data tec rec_ s
  | .pl2LoopPresent t own => Sys2Proof.Machine.execPl2LoopPresent t own s
  | .tamperSourceChange t src on => Sys2Proof.Machine.execTamperSourceChange t src on s

end Sys2Proof.Machine
end

