-- ==== Sys2Proof/Safety.lean ====
section
/-!
DEFINITION. The terms in which statements speak of states: what every command leaves consistent, when a session may write and command, what an accepted
write counts before it acts, how the effect of a command settles.
-/
namespace Sys2Proof.Machine

/-- What every command leaves: no trigger waits (R62), MODE.DEG shows the units out of service (R67, R85), RUN stands with none and DEGRADED with some
(R61). -/
def State.Consistent (s : State) : Prop :=
  s.trig = [] ∧ s.md.deg = s.degNow ∧ (s.md.mode = .run → s.degNow = 0) ∧ (s.md.mode = .degraded → s.degNow ≠ 0)

/-- Keys strictly rising: the canonical form of the register file (beside leaving out registers at their reset value). -/
def Rising {α : Type} : List (Nat × α) → Prop
  | [] => True
  | (k, _) :: m => (∀ p ∈ m, k < p.1) ∧ Rising m

/-- Nothing further follows from a state: no trigger waits, the modes fit MODE.DEG, and nothing that settlement looks at calls for a change. -/
structure State.Calm (u : State) : Prop where
  trig   : u.trig = []
  deg    : u.md.deg = u.degNow
  run    : u.md.mode = .run → u.degNow = 0
  less   : u.md.mode = .degraded → u.degNow ≠ 0
  causes : u.md.mode ≠ .safeHold
  switch : u.prof.switch = none
  conns  : ∀ k, u.polCfg k = none
  qual   : u.variant.pair = true → u.pair.qualified = u.qualOk
  drill  : u.pair.drill = none
  band   : u.md.pstate.ctl = true → u.panel.seen = some u.bandNow
  pairQ  : lookupA pairCmdAddr u.cmdq = none
  pwrQ   : lookupA pwrCmdAddr u.cmdq = none
  resets : ∀ p i, i < p.count → u.resetPending p i = false
  sand   : (u.sanding && !u.mem.overdue && decide (u.mem.sweepFrom + u.sandPeriod < u.now)) = false
  ingest : u.net.sat = u.setsWait

/-- The state once the effect `u` of a command has settled in the order of *Trigger precedence* (R62); the queue stays as it is. -/
def State.settled (s u : State) : State := { u.settle with pending := s.pending }

/-- Session `x` in `slot` is ready, holds at least privilege `need`, and CMP runs, so that its writes are served (R38, R42, R43). -/
structure State.May (s : State) (slot : Nat) (x : Session) (need : Priv) : Prop where
  here  : s.sess? slot = some x
  ready : x.ready = true
  cmp   : s.md.pstate.cmp = true
  priv  : x.priv.ge need = true

/-- A page with writes that the partner runs as well (R109). -/
def mirroredPage : Page → Bool
  | .loop | .lcap | .mtr | .pq | .heat | .pulse | .prg | .slot | .slv | .sdata | .prof | .mode => true
  | _ => false

/-- Nothing of session `x` stands before its next write: it holds no request and waits for nothing (R53, R108, R109). -/
structure State.Direct (s : State) (x : Session) : Prop where
  first : x.held = []
  free  : s.blocked x = false

/-- Session `x` may command page `p`, instance `i`: the page is present, no page reset is pending, no command of the page waits or executes, and nothing of the
session stands before the command. -/
structure State.MayOrder (s : State) (slot : Nat) (x : Session) (need : Priv) (p : Page) (i : Nat) : Prop extends State.May s slot x need, State.Direct s x where
  inst    : i < p.count
  present : p.present s.variant i = true
  reset   : s.resetPending p i = false
  idle    : s.waiting p i = 0

/-- Session `x` may command page `p`, and the command acts at once: this module mirrors no write of the page to a partner (R109). -/
structure State.MayCommand (s : State) (slot : Nat) (x : Session) (need : Priv) (p : Page) (i : Nat) : Prop extends State.MayOrder s slot x need p i where
  alone : (s.isActive && s.pair.session && mirroredPage p) = false

/-- Session `x` writes offset `o` of page `p`, instance `i`: it is ready, CMP runs, and the page is present and defines `d` there. -/
structure State.Writes (s : State) (slot : Nat) (x : Session) (p : Page) (i o : Nat) (d : RegDef) : Prop where
  here    : s.sess? slot = some x
  ready   : x.ready = true
  cmp     : s.md.pstate.cmp = true
  inst    : i < p.count
  present : p.present s.variant i = true
  word    : o % 4 = 0 ∧ o < 0x1000
  def_    : p.defAt o = some d

/-- Session `x` may write offset `o` of page `p`, instance `i`: nothing of R29, R36, R43 and R592 refuses the write, and it acts at once: nothing of the session
stands before it, and this module mirrors no write of the page to a partner (R109). -/
structure State.MayWrite (s : State) (slot : Nat) (x : Session) (p : Page) (i o : Nat) (d : RegDef) : Prop extends State.Writes s slot x p i o d, State.Direct s x where
  served  : s.writeErr x ⟨p, i, o⟩ d = .ok
  alone   : (s.isActive && s.pair.session && mirroredPage p) = false

/-- A request of session `x` executes at once and is not mirrored: the session holds none, waits for nothing, and this module mirrors to no partner (R53,
R108, R109). -/
structure State.MayAsk (s : State) (slot : Nat) (x : Session) : Prop where
  here  : s.sess? slot = some x
  ready : x.ready = true
  cmp   : s.md.pstate.cmp = true
  first : x.held = []
  free  : s.blocked x = false
  alone : (s.isActive && s.pair.session) = false

/-- The state in which a request of the session in `slot` executes, once it was heard and taken from the session's queue (R44, R53). -/
def State.asked (s : State) (t slot seq : Nat) (rq : Request) : State :=
  (((s.begin t).touch slot).updSess slot fun x => { x with held := x.held ++ [(seq, rq)] }).updSess slot fun x => { x with held := [] }

/-- At instant `t`, what an accepted write of session `x` to offset `o` of a page has counted before it acts: the session was heard (R44), PAGE_WSEQ
counts (R35), the write is noted for the session's barriers (R108). -/
def State.counted (s : State) (t : Nat) (x : Session) (p : Page) (i o : Nat) : State :=
  (((s.begin t).touch x.slot).accepted p i).notePend x.slot p i o

end Sys2Proof.Machine
end

