-- ==== Sys2Proof/Certificates/Slice0/Obligations.lean ====
section
/-!
DEFINITION. The statements about the model. A command that occurs at instant `t` is stated by its effect on `s.begin t`, settled in the order of *Trigger
precedence* (`State.settled`); a write, by its effect once it was counted (`State.counted`). Where nothing follows from the effect, that state is the next one
(`CalmEffectsStand`).
-/
open Sys2Proof Sys2Proof.Machine

/-- A step performs the command at the front of the queue, with the rest of the queue waiting. -/
def Obligations.StepRunsTheFrontCommand : Prop :=
  ∀ (s : State) (c : Instr) (rest : List Instr), step { s with pending := c :: rest } = exec c { s with pending := rest }

/-- No command faults or is refused, and none touches the queue. -/
def Obligations.EveryCommandCompletes : Prop :=
  ∀ (c : Instr) (s : State), ∃ u : State, exec c s = .next u ∧ u.pending = s.pending

/-- Every step leaves no trigger waiting (R62), MODE.DEG equal to the units out of service, and the mode RUN or DEGRADED as they are (R61, R67, R85). -/
def Obligations.EveryStepKeepsConsistency : Prop :=
  ∀ s u : State, s.Consistent → step s = .next u → u.Consistent

/-- What reset leaves, as the controller left manufacture (R59, R61, R80, R488, R518, R588): BOOT, every stored register at its reset value, no session, no key, no
anchor, no valid profile, no network image and no record; the state is consistent. Values that the specification does not give are the model's (log entries
58 and 59) and are not stated here. -/
def Obligations.ResetLeaves : Prop :=
  let s := State.reset
  s.Consistent ∧ s.md.mode = .boot ∧ (∀ a : Nat, s.rd a = regReset a) ∧ s.host.sessions = [] ∧ (∀ k : Nat, s.keyOf k useSign = none) ∧
  (∀ k : Nat, s.anchor k = none) ∧ s.prof.valid = false ∧ s.net.img = none ∧ s.evt.log = [] ∧ s.pending = []

/-- A register reads back what was stored, every other register reads as before, and the register file keeps its canonical form (R28, R80). -/
def Obligations.RegistersReadBack : Prop :=
  ∀ (s : State) (p : Page) (i o b : Nat) (v : Word), Rising s.regs →
    (s.wrp p i o v).rdp p i o = v ∧ (b ≠ p.reg i o → (s.wrp p i o v).rd b = s.rd b) ∧ Rising (s.wrp p i o v).regs ∧
    (lookupA (p.reg i o) (s.wrp p i o v).regs = none ↔ v = regReset (p.reg i o))

/-- When triggers coincide, the one of the highest rank of *Trigger precedence* acts first, none is lost, and the next is judged in the state that results (R62). -/
def Obligations.TriggersActByRank : Prop :=
  (∀ (ts us : List Trigger) (x : Trigger), nextTrigger ts = some (x, us) → ts.Perm (x :: us) ∧ ∀ y ∈ ts, x.rank ≤ y.rank) ∧
  (∀ ts : List Trigger, nextTrigger ts = none ↔ ts = []) ∧
  (∀ (k : ResetKind) (n p : Nat) (c : ShCause), (Trigger.reset k).rank < (Trigger.tokenLost n).rank ∧
    (Trigger.tokenLost n).rank < (Trigger.safeHold c p).rank ∧ (Trigger.safeHold c p).rank < Trigger.tokenGained.rank ∧
    Trigger.tokenGained.rank < Trigger.unit.rank) ∧
  (∀ (k : Nat) (s : State) (x : Trigger) (us : List Trigger), nextTrigger s.trig = some (x, us) →
    settleTriggers (k + 1) s = settleTriggers k (({ s with trig := us } : State).act x))

/-- Settlement changes nothing further where nothing follows from the effect of a command: the next state of the statements about commands is then that effect,
with the frames sent counted at their ports. -/
def Obligations.CalmEffectsStand : Prop :=
  ∀ s u : State, u.Calm → s.settled u = { u.countTx with pending := s.pending } ∧ (u.out = [] → s.settled u = { u with pending := s.pending })

/-- MODE.SH_CAUSE shows the cause that comes first (R68, R85); a further trigger in SAFE-HOLD changes no mode and adds a
cause. -/
def Obligations.SafeHoldShowsItsFirstCause : Prop :=
  (∀ (cs : List (ShCause × Nat)) (c : ShCause × Nat), shShown cs = some c → c ∈ cs ∧ ∀ d ∈ cs, shRank c.1 ≤ shRank d.1) ∧
  (∀ cs : List (ShCause × Nat), shShown cs = none ↔ cs = []) ∧
  (∀ (s : State) (c : ShCause) (p : Nat), s.md.mode = .safeHold → c ≠ .cmpFault →
    s.safeHoldTrigger c p = s.addCause c p ∧ (s.addCause c p).md.mode = .safeHold ∧ (c, p) ∈ (s.addCause c p).md.shCauses)

/-- In SAFE-HOLD no value of an owner and no mask reaches an output that is not a safety output; a gated output is driven to zero in every mode (R17, R60, R64). -/
def Obligations.SafeHoldOverridesOwnersAndMasks : Prop :=
  ∀ (s : State) (o : Target),
    (s.gated = true → s.driven o = (1, F64.zero)) ∧
    (s.md.mode = .safeHold → (∀ n : Nat, o = .slice n → isSdo (s.slc n).cfg.func = false) →
      (s.driven o).1 ≤ 4 ∧
      ∀ (forced : List (Target × Word64)) (own : Option Word64) (n : Nat),
        (({ s with prg := { s.prg with forced := forced } } : State).updSlc n fun x => { x with own := own }).driven o = s.driven o)

/-- A record takes the next number of its block as it is stored, in order; the numbers of a block that is used up go on with the block granted
next, else with the next block of 256; a full log stores no further record (R107, R518, R519). -/
def Obligations.RecordsTakeTheirNumbers : Prop :=
  ∀ (s : State) (code : Nat) (p1 p2 p3 : Word), (s.variant.pair = true → s.pair.decided = true ∧ s.pair.token = true) → s.evt.freeze = none →
    let r := s.record code p1 p2 p3
    let blk := if s.evt.block.next < s.evt.block.stop then s.evt.block else s.evt.granted.headD s.evt.block
    let n := if blk.next < blk.stop then blk.next else s.evt.nextBlock
    (s.evt.full = false → s.evt.log.length < evtSlots →
      r.evt.log = s.evt.log ++ [{ s.mkRec code p1 p2 p3 false with seq := n }] ∧ r.evt.block.next = n + 1 ∧
      (blk.stop ≤ blk.next → r.evt.nextBlock = s.evt.nextBlock + 256)) ∧
    (s.evt.full = true → r.evt.log = s.evt.log)

/-- The calendar ends at 2399-12-31 23:59:59 (R408): no state shows a later time, at that second it stops with INVALID set and a record, and once it stands
there the alarm does not fire. -/
def Obligations.CalendarStopsAtItsEnd : Prop :=
  (calWords calEnd).1 = dateWord 2399 12 31 (Cal.dow (Cal.daysOf 2399 12 31)) ∧ (calWords calEnd).2.1 = timeWord 23 59 59 ∧
  ∀ (s : State) (t : Nat),
    let b := s.begin t
    s.calNs ≤ calEnd ∧
    (b.rtc.atEnd = false → calEnd ≤ b.now + b.rtc.ofs →
      let u := ({ b with rtc := { b.rtc with atEnd := true } } : State).rtcFlag 0 true
      exec (.calendarEnd t) s = .next (s.settled (u.recordGen 0x0A .rtc 0 Off.RTC_FLAGS (u.rdp .rtc 0 Off.RTC_FLAGS)))) ∧
    (b.rtc.atEnd = true → b.calNs = calEnd ∧ exec (.alarmFire t) s = .next (s.settled b))

/-- JUMP_HOLD ends without a step (R394): the sample that makes QUAL_N consecutive ones within JUMP_US returns the state to LOCKED, clears JUMP and records an event,
the offset of the time base unchanged; one outside begins the count anew. -/
def Obligations.JumpHoldEndsWithoutStep : Prop :=
  ∀ (s : State) (t leg rx tx : Nat) (id : Word64) (off : Int),
    let b := s.begin t
    b.ptpRuns = true → leg < 2 → b.time.sel = some (leg, id) → b.time.st = .jumpHold →
      let e := if b.rdp .eth leg Off.ETH_TS_TX_NS32 = b.stamp32 tx then b else b.emit (.ptp leg)
      let c := (((e.wrp .eth leg Off.ETH_PTP_OFS_NS (satI32 off)).wrp .eth leg Off.ETH_TS_RX_NS32 (b.stamp32 rx)).wrp .eth leg Off.ETH_TS_TX_NS32
        (b.stamp32 tx)).wrp .time 0 Off.TIME_OFFSET_NS (satI32 off)
      let d := { c with time := { c.time with recent := (off :: b.time.recent).take 15 } }
      (off.natAbs ≤ d.jumpNs → d.qualN ≤ b.time.run + 1 →
        let u := { d with time := { d.time with st := .locked, jump := false, run := 0, refused := [], servoAt := some b.now } }
        exec (.ptpSyncSample t leg id off rx tx) s = .next (s.settled (u.recordGen 0x0A .time 0 Off.TIME_STAT (w32 TState.locked.code)).refreshValid) ∧
        u.time.ofs = b.time.ofs) ∧
      (off.natAbs ≤ d.jumpNs → b.time.run + 1 < d.qualN →
        exec (.ptpSyncSample t leg id off rx tx) s = .next (s.settled { d with time := { d.time with run := b.time.run + 1 } })) ∧
      (d.jumpNs < off.natAbs →
        exec (.ptpSyncSample t leg id off rx tx) s = .next (s.settled
          (({ d with time := { d.time with run := 0 } } : State).satp .time 0 Off.TIME_OUTLIERS)))

/-- ADC.CMD SET_REF (R277): one that names another reference restarts the check from it with REF_SETTLED clear, also while the flag is clear; one that names the
reference in use completes with OK and changes nothing. -/
def Obligations.SetReferenceRestartsTheCheck : Prop :=
  ∀ (s : State) (t slot tag g ref : Nat) (x : Session), s.MayCommand slot x .config .adc g → commMaint s.md.mode = true → ref < 3 →
    let b := s.counted t x .adc g Off.ADC_CMD
    let done := fun (u : State) => s.settled (u.complete .adc g Off.ADC_CMD_STAT .ok tag 4)
    (ref = 1 → (b.slc (12 * g + 12)).cfg.func = 0) →
      ((b.grp g).refUsed = ref → exec (.adcSetRef t slot tag g ref) s = .next (done b)) ∧
      ((b.grp g).refUsed ≠ ref → g < b.fld.grps.length →
        let u := b.updGrp g fun y => { y with
          refUsed := ref, settled := false, refFault := false, convOk := false, checkFrom := b.now, lastMeas := none, faultFrom := none }
        let v := if (u.grp g).inCal then u.endScan g else u
        exec (.adcSetRef t slot tag g ref) s = .next (done v) ∧ (v.grp g).settled = false ∧ (v.grp g).checkFrom = b.now ∧ (v.grp g).refUsed = ref)

/-- TIME.CMD and RTC.CMD (R395, R400, R409, R413, R418): what each operation leaves when its page is free, the session holds the privilege and the
conditions of its rule hold. Every other part of the state stays as the write left it. -/
def Obligations.TimeAndCalendarCommandsAct : Prop :=
  ∀ (s : State) (t slot tag : Nat) (x : Session),
    (s.MayCommand slot x .service .time 0 →
      let b := s.counted t x .time 0 Off.TIME_CMD
      let ns := (b.rdp .time 0 Off.TIME_SET_NS).toNat
      let ss := (b.rdp .time 0 Off.TIME_SET_S).toNat
      (s.time.st = .free → ns ≤ 999999999 →
        exec (.timeSetTime t slot tag) s =
          .next (s.settled ((b.hostSet (((if ss < 946684800 then ss + 2 ^ 32 else ss) * sec + ns : Nat) : Int) true).complete .time 0 Off.TIME_CMD_STAT .ok tag))) ∧
      (s.time.st = .jumpHold → s.jumpN ≤ s.time.recent.length →
        exec (.timeAcceptStep t slot tag) s =
          .next (s.settled (((({ b with time := { b.time with st := .locked, jump := false, run := 0, refused := [] } } : State).stepBy 3
            (medianInt (s.time.recent.take s.jumpN))).refreshValid).complete .time 0 Off.TIME_CMD_STAT .ok tag)))) ∧
    (s.MayCommand slot x .service .rtc 0 → commMaint s.md.mode = true → s.time.st = .free →
      let b := s.counted t x .rtc 0 Off.RTC_CMD
      ∀ ns, dateOk (b.rdp .rtc 0 Off.RTC_SET_DATE) (b.rdp .rtc 0 Off.RTC_SET_TIME) = some ns →
        exec (.rtcSetCal t slot tag) s =
          .next (s.settled (((b.adjustCal b.calNs ns 1).hostSet ns false).complete .rtc 0 Off.RTC_CMD_STAT .ok tag))) ∧
    (s.MayCommand slot x .operate .rtc 0 →
      let b := s.counted t x .rtc 0 Off.RTC_CMD
      let done := fun (u : State) => s.settled (u.complete .rtc 0 Off.RTC_CMD_STAT .ok tag)
      (∀ ns, dateOk (b.rdp .rtc 0 Off.RTC_ALM_DATE) (b.rdp .rtc 0 Off.RTC_ALM_TIME) = some ns → b.calNs < ns →
        exec (.rtcArmAlm t slot tag) s = .next (done (b.wrp .rtc 0 Off.RTC_ALM_CTRL 1))) ∧
      exec (.rtcDisarmAlm t slot tag) s = .next (done (b.wrp .rtc 0 Off.RTC_ALM_CTRL 0)) ∧
      exec (.rtcStampClr t slot tag) s = .next (done (b.rtcFlag 6 false)) ∧
      (s.rtc.pwrReq.isSome = true →
        exec (.rtcPwrreqRel t slot tag) s = .next (done { b with rtc := { b.rtc with pwrReq := none } })))

/-- Events of the time base (R388–R396): a holdover that ends, a second announce that qualifies a master, the loss of every master, the sample that completes
the agreement of QUALIFYING, a sample that disciplines LOCKED, the sample that brings JUMP_HOLD about. -/
def Obligations.TimeBaseEventsAct : Prop :=
  ∀ (s : State) (t : Nat),
    let b := s.begin t
    (∀ u, b.time.valid = true → (b.time.st = .holdover ∨ b.time.st = .jumpHold) → b.time.servoAt = some u →
      u + (b.rdp .time 0 Off.TIME_HOLD_MIN).fld 0 11 * 60 * sec < b.now →
      exec (.timeHoldExpiry t) s = .next (s.settled (({ b with time := { b.time with valid := false } } : State).irq .time 0 4))) ∧
    (∀ (m : Master) (u : Nat), b.ptpRuns = true → m.leg < 2 → b.time.masters = [{ m with last := u, count := 1 }] →
      b.now ≤ u + 4 * b.announceNs → b.now < b.now + 3 * b.announceNs →
      exec (.ptpAnnounce t (b.time.cfg.fld 8 8) m) s = .next (s.settled
        (({ b with time := { b.time with masters := [{ m with last := b.now, count := 2 }] } } : State).selectMaster { m with last := b.now, count := 2 }))) ∧
    ((∀ m ∈ b.time.masters, m.last + 3 * b.announceNs ≤ b.now) → b.time.sel.isSome = true → b.time.st = .locked →
      exec (.ptpAnnounceTimeout t) s = .next (s.settled (({ b with time := { b.time with
        masters := [], sel := none, samples := [], refused := [], recent := [], run := 0, st := .holdover } } : State).refreshValid))) ∧
    (∀ (leg rx tx : Nat) (id : Word64) (off : Int), b.ptpRuns = true → leg < 2 → b.time.sel = some (leg, id) →
      let e := if b.rdp .eth leg Off.ETH_TS_TX_NS32 = b.stamp32 tx then b else b.emit (.ptp leg)
      let c := (((e.wrp .eth leg Off.ETH_PTP_OFS_NS (satI32 off)).wrp .eth leg Off.ETH_TS_RX_NS32 (b.stamp32 rx)).wrp .eth leg Off.ETH_TS_TX_NS32
        (b.stamp32 tx)).wrp .time 0 Off.TIME_OFFSET_NS (satI32 off)
      let rs := (off :: b.time.recent).take 15
      (b.time.st = .qualifying → b.qualN = b.time.samples.length + 1 → agree (off :: b.time.samples) = true →
        exec (.ptpSyncSample t leg id off rx tx) s = .next (s.settled ((({ c with time := { c.time with
          recent := rs, samples := [], refused := [], run := 0, stepped := true, st := .locked, servoAt := some b.now } } : State).stepBy 2
            (medianInt (off :: b.time.samples))).refreshValid))) ∧
      (b.time.st = .locked → off.natAbs ≤ c.jumpNs →
        exec (.ptpSyncSample t leg id off rx tx) s = .next (s.settled ((({ c with time := { c.time with
          recent := rs, refused := [], st := .locked, jump := false, servoAt := some b.now } } : State).disciplineRate).refreshValid))) ∧
      (b.time.st = .locked → c.jumpNs < off.natAbs → b.jumpN = b.time.refused.length + 1 →
        exec (.ptpSyncSample t leg id off rx tx) s = .next (s.settled
          ({ (c.satp .time 0 Off.TIME_OUTLIERS) with time := { c.time with recent := rs, refused := off :: b.time.refused } } : State).enterJumpHold)))

/-- Events of the backup domain (R402–R416): the periodic adjustment, the trim, the backup voltage, exhaustion, the countdown's end, the alarm, the end of the
calendar, the end of a PWR_REQ pulse. -/
def Obligations.BackupDomainEventsAct : Prop :=
  ∀ (s : State) (t : Nat),
    let b := s.begin t
    (∀ cal : Int, b.time.valid = true → b.rtc.atEnd = false → b.rtc.syncAt = none → 2 * ms < (b.now + b.time.ofs - min calEnd cal).natAbs →
      let c : State := { b with rtc := { b.rtc with ofs := cal - b.now } }
      exec (.rtcSyncAdjust t cal) s = .next (s.settled (c.adjustCal c.calNs (b.now + b.time.ofs) 3))) ∧
    (∀ steps : Int, b.time.st = .locked → -512 ≤ steps → steps ≤ 511 →
      exec (.rtcTrim t steps) s = .next (s.settled (b.wrp .rtc 0 Off.RTC_TRIM ((0 : Word).put 0 10 (steps % 1024).toNat)))) ∧
    (∀ mv : Nat, 2200 ≤ mv → exec (.vbkMeasure t mv) s = .next (s.settled { b with rtc := { b.rtc with vbk := mv } })) ∧
    (∀ mv : Nat, mv < 2200 →
      exec (.vbkMeasure t mv) s = .next (s.settled ((({ b with rtc := { b.rtc with vbk := mv } } : State).rtcFlag 1 true).irq .rtc 0 4))) ∧
    (b.md.pstate = .p4 →
      exec (.bkpExhausted t) s = .next (s.settled
        { (((b.wrp .rtc 0 Off.RTC_ALM_CTRL 0).wrp .rtc 0 Off.RTC_ALM_DATE 0).wrp .rtc 0 Off.RTC_ALM_TIME 0) with
          rtc := { b.rtc with lost := true, cd := none, pwrReq := none, stampOn := false }
          keys := { b.keys with slots := List.replicate 64 none } })) ∧
    (∀ c : Countdown, b.rtc.cd = some c → c.at_ + c.n * sec / 64 ≤ b.now → (b.rdp .mode 0 Off.MODE_WAKE_SRC).bit 1 = false →
      (b.rdp .rtc 0 Off.RTC_PWRREQ_CFG).bit 0 = false →
      let u := (({ b with rtc := { b.rtc with cd := none } } : State).rtcFlag 5 true).irq .rtc 0 3
      exec (.countdownExpiry t) s = .next (s.settled (u.record 0x0A09 0 0 (u.rdp .rtc 0 Off.RTC_FLAGS)))) ∧
    (∀ a : Int, b.alarmNs = some a → a ≤ b.calNs → b.rtc.lost = false → b.rtc.atEnd = false →
      exec (.alarmFire t) s = .next (s.settled (b.fireAlarm false))) ∧
    (b.rtc.atEnd = false → calEnd ≤ b.now + b.rtc.ofs →
      let u := ({ b with rtc := { b.rtc with atEnd := true } } : State).rtcFlag 0 true
      exec (.calendarEnd t) s = .next (s.settled (u.recordGen 0x0A .rtc 0 Off.RTC_FLAGS (u.rdp .rtc 0 Off.RTC_FLAGS)))) ∧
    (∀ u : Nat, b.rtc.pwrReq = some u → (b.rdp .rtc 0 Off.RTC_PWRREQ_CFG).bit 2 = false →
      u + (b.rdp .rtc 0 Off.RTC_PWRREQ_CFG).fld 16 8 * sec ≤ b.now →
      exec (.pwrReqPulseEnd t) s = .next (s.settled { b with rtc := { b.rtc with pwrReq := none } }))

/-- Events of the Ethernet ports (R382–R386): an answered ARP request on a port that PRP does not serve, a link that comes up, a leg that fails because it is
silent while the other receives, a leg that returns, the supervision frame. -/
def Obligations.EthernetEventsAct : Prop :=
  ∀ (s : State) (t : Nat),
    let b := s.begin t
    b.md.pstate.cmp = true →
    (∀ (p mac : Nat) (a : Word), 2 ≤ p → (b.port p).link = true → b.ownsAddr p a = true →
      exec (.ethFrameRx t p ⟨.arp a, true, false, mac, none⟩) s =
        .next (s.settled (((b.modp .eth p Off.ETH_RX_OK).updPort p fun x => { x with lastRx := some b.now }).emit (.arp p a)))) ∧
    (∀ (p mac : Nat) (k : EthKind) (tag : Bool) (rct : Option (Nat × Nat)), (b.port p).link = true →
      exec (.ethFrameRx t p ⟨k, false, tag, mac, rct⟩) s = .next (s.settled (b.satp .eth p Off.ETH_RX_ERR))) ∧
    (∀ (p : Nat) (fast : Bool), p < 4 → (b.port p).link = false →
      exec (.ethLinkChange t p true fast) s = .next (s.settled ((b.updPort p fun x => { x with link := true, fd1000 := fast }).irq .eth p 1))) ∧
    (∀ (leg u v : Nat), leg < 2 → (b.port leg).down = false → (b.port leg).lastRx = some u → (b.port (1 - leg)).lastRx = some v → u < v →
      b.now < v + 6 * sec → u + 6 * sec ≤ b.now →
      let c := b.updPort leg fun x => { x with down := true, runFrom := none, runLast := 0 }
      exec (.prpLegSilent t leg) s = .next (s.settled (((c.irq .eth leg 2).record 0x0A05 (w32 (leg + 1)) (w32 2) (w32 c.degNow)).trigger .unit))) ∧
    (∀ (leg u : Nat), leg < 2 → (b.port leg).down = true → (b.port leg).link = true → (b.port leg).fd1000 = true → (b.port leg).runFrom = some u →
      u + 10 * sec ≤ b.now → 9 ≤ (b.port leg).runLast →
      let c := b.updPort leg fun x => { x with down := false, runFrom := none, runLast := 0, lastRx := some b.now }
      exec (.prpLegReturn t leg) s = .next (s.settled (((c.irq .eth leg 3).record 0x0A06 (w32 (leg + 1)) 0 (w32 c.degNow)).trigger .unit))) ∧
    (∀ u : Nat, b.eth.supAt = some u → u + 2 * sec ≤ b.now →
      exec (.prpSupervisionTx t) s = .next (s.settled (({ b with eth := { b.eth with supAt := some b.now } } : State).emit .prpSup)))

/-- UPD.CMD (R500–R502, R512): what each operation leaves in the staging area when it is accepted. -/
def Obligations.UpdateCommandsAct : Prop :=
  ∀ (s : State) (t slot tag : Nat) (x : Session), s.MayCommand slot x .service .upd 0 →
    let b := s.counted t x .upd 0 Off.UPD_CMD
    let done := fun (u : State) => s.settled (u.complete .upd 0 Off.UPD_CMD_STAT .ok tag)
    let arg := (b.rdp .upd 0 Off.UPD_ARG).toNat
    (updModeOk s.md.mode = true → s.upd.stage ≠ .armed → (s.upd.owner = none ∨ s.upd.owner = some slot) → 1376 ≤ arg → arg ≤ 134217728 →
      exec (.updOpen t slot tag) s = .next (done (b.updUpd fun u => { u with stage := .receiving, owner := some slot, len := arg, blocks := [] }))) ∧
    (updModeOk s.md.mode = true → s.upd.stage = .receiving → (s.upd.owner = none ∨ s.upd.owner = some slot) → arg = s.upd.len →
      exec (.updResume t slot tag) s = .next (done (b.updUpd fun u => { u with owner := some slot }))) ∧
    (∀ len, updModeOk s.md.mode = true → s.upd.stage = .receiving → s.upd.owner = some slot → arg % 2048 = 0 → arg < s.upd.len →
      len = min 2048 (s.upd.len - arg) →
      exec (.updWrite t slot tag len) s = .next (done (b.updUpd fun u => { u with blocks := insertA (arg / 2048) (b.updBuf len) u.blocks }))) ∧
    (updModeOk s.md.mode = true → s.upd.stage = .receiving → s.upd.owner = some slot → firstMissing s.upd = none →
      manifestOk ((stagedBytes s.upd).take 1376) s.upd.len = true →
      exec (.updFinish t slot tag) s =
        .next (done ((b.wrp .upd 0 Off.UPD_MISSING 0xFFFFFFFF).updUpd fun u => { u with stage := .complete, owner := none }))) ∧
    (updModeOk s.md.mode = true → s.upd.stage = .complete → s.upd.trial ≠ 1 →
      exec (.updArm t slot tag) s = .next (done (b.updUpd fun u => { u with stage := .armed }))) ∧
    (s.upd.stage = .armed → exec (.updDisarm t slot tag) s = .next (done (b.updUpd fun u => { u with stage := .complete }))) ∧
    exec (.updDiscard t slot tag) s = .next (done (b.updUpd fun u => { u with stage := .empty, owner := none, len := 0, blocks := [] }))

/-- SEC.CMD (R481–R483, R486, R490, R494) and EVT.CMD (R523, R524, R527): a key update that passes every check commits, an attestation report is built, the zeroed
mark is cleared, the staging is cleared; the log is cleared by a valid authorisation. -/
def Obligations.KeyAndLogCommandsAct : Prop :=
  ∀ (s : State) (t slot tag : Nat) (x : Session),
    (s.MayCommand slot x .service .sec 0 →
      let b := s.counted t x .sec 0 Off.SEC_CMD
      let done := fun (u : State) => s.settled (u.complete .sec 0 Off.SEC_CMD_STAT .ok tag)
      (∀ u : State, svcMode s.md.mode = true → b.kuCheck (kuMsg x) = .ok → b.kuCommit (kuMsg x) = (.ok, u) →
        exec (.submit t slot tag) s = .next (s.settled (((u.wrp .sec 0 Off.SEC_KU_LAST (w32 (kuOp (kuMsg x) + 256 * kuSlot (kuMsg x)))).complete .sec 0
          Off.SEC_CMD_STAT .ok tag).setLcs (b.kuNextLcs (kuMsg x))))) ∧
      exec (.attest t slot tag) s = .next (done { b with keys := { b.keys with report := b.attestBody ++ P256.idSign b.attestBody } }) ∧
      (svcMode s.md.mode = true → b.tamperActive = false → (b.keyOf (b.rdp .dpx 0 Off.DPX_ROOT_SLOT).toNat useRoot).isSome = true →
        (∃ k ∈ s.keys.slots, ∃ y, k = some y ∧ y.usage = useCred) →
        exec (.reprovDone t slot tag) s = .next (done (b.putf .sec 0 Off.SEC_TAMPER 8 1 0))) ∧
      exec (.secClearStage t slot tag) s = .next (done (b.updSess slot fun y => { y with kuStage := [] }))) ∧
    (s.MayCommand slot x .service .evt 0 → svcMode s.md.mode = true →
      let b := s.counted t x .evt 0 Off.EVT_CMD
      ∀ (k : Nat) (u : State), b.clearErr { x with last := max s.now t } = .ok → b.takeSeq = some (k, u) →
        exec (.evtClear t slot tag) s = .next (s.settled ((((({ u with evt := { u.evt with
          log := [{ u.mkRec 0x1102 (w32 b.lastSeq) (w32 b.evt.log.length) (b.rdp .evt 0 Off.EVT_OVF) false with seq := k }], full := false } } : State).wrp .evt 0
            Off.EVT_OVF 0).irq .evt 0 2).irq .evt 0 4).complete .evt 0 Off.EVT_CMD_STAT .ok tag)))

/-- Tamper (R484, R485), updates (R506, R507), the freeze (R522): a source that counts zeroes every slot at once and resets the controller, one that does not
count only shows; the health window ends in a reset; a freeze ends after its longest time. -/
def Obligations.TamperHealthAndFreezeEventsAct : Prop :=
  ∀ (s : State) (t : Nat),
    let b := s.begin t
    (∀ src : Nat, src < 128 → src &&& b.tamperMask ≠ 0 → b.md.pstate ≠ .p4 →
      let c := (b.setActive src true).zeroSlots
      let d := c.devSet (Page.sec.reg 0 Off.SEC_TAMPER_CAUSE) (w32 (src &&& b.tamperMask))
      let e := ((d.satf .sec 0 Off.SEC_TAMPER 16 16).putf .sec 0 Off.SEC_TAMPER 8 1 1).putf .sec 0 Off.SEC_TAMPER 9 1 (b2n b.calInvalid)
      let u := e.wrp .sec 0 Off.SEC_TAMPER_S (w32 (b.calNs.toNat / sec))
      exec (.tamper t src) s = .next (s.settled (({ u with keys := { u.keys with told := false } } : State).trigger (.reset .tamper)))) ∧
    (∀ src : Nat, src < 128 → src &&& b.tamperMask = 0 →
      exec (.tamperSourceChange t src true) s = .next (s.settled { b with keys := { b.keys with active := b.keys.active ||| src } }) ∧
      exec (.tamperSourceChange t src false) s = .next (s.settled { b with keys := { b.keys with active := b.keys.active &&& (127 - src) } })) ∧
    (∀ u : Nat, b.upd.trial = 1 → b.upd.from_ = some u → u + b.upd.run.health * 60 * sec ≤ b.opNs →
      exec (.healthWindowExpiry t) s = .next (s.settled ((b.updUpd fun u => { u with expired := true }).trigger (.reset .watchdog)))) ∧
    (∀ k u : Nat, b.evt.freeze = some (k, u) → u + (b.rdp .evt 0 Off.EVT_CFG).fld 8 8 * sec ≤ b.now →
      exec (.evtFreezeTimeout t) s = .next (s.settled b.endFreeze))

/-- Events of the supply (R558–R568): an input lost or returned, a voltage alarm, the last gasp outside DORMANT and inside it, the return of the supply, the
baseplate's temperature, the hold-up store's measurement. -/
def Obligations.SupplyEventsAct : Prop :=
  ∀ (s : State) (t : Nat),
    let b := s.begin t
    (∀ ch : Bool, b.aon = true → b.md.mode ≠ .dormant → (if ch then b.pwr.inB else b.pwr.inA) = true →
      let c := ((b.updPwr fun p => if ch then { p with inB := false, lowB := false } else { p with inA := false, lowA := false }).satf .pwr 0 Off.PWR_IN_LOSSES
        (if ch then 16 else 0) 16).irq .pwr 0 2
      exec (.supplyInputChange t ch false) s = .next (s.settled (c.record 0x1201 c.pwrStat (Config.measure (Page.reg .pwr 0 Off.PWR_VIN_A_MV) c.now &&& 0xFFFF)
        (Config.measure (Page.reg .pwr 0 Off.PWR_VIN_B_MV) c.now &&& 0xFFFF)))) ∧
    (∀ on : Bool, b.aon = true →
      exec (.supplyVoltageAlarm t false false on) s = .next (s.settled (b.updPwr fun p => { p with lowA := on && p.inA })) ∧
      exec (.supplyVoltageAlarm t true false on) s = .next (s.settled (b.updPwr fun p => { p with lowB := on && p.inB })) ∧
      exec (.supplyVoltageAlarm t false true on) s = .next (s.settled (b.updPwr fun p => { p with highA := on })) ∧
      exec (.supplyVoltageAlarm t true true on) s = .next (s.settled (b.updPwr fun p => { p with highB := on }))) ∧
    (∀ (phase dur : Nat) (ok cell : Bool), b.aon = true → b.pwr.inA = false → b.pwr.inB = false → b.md.mode = .dormant →
      exec (.lastGasp t phase dur ok cell) s = .next (s.settled
        { b.changeOver (if cell then .cell else .supercap) with md := { (b.changeOver (if cell then .cell else .supercap)).md with pstate := .p4 } })) ∧
    (∀ (ok cell : Bool) (dur : Nat), b.aon = true → b.pwr.inA = false → b.pwr.inB = false → b.md.mode ≠ .dormant → b.isActive = false →
      let g := (((b.changeOver (if cell then .cell else .supercap)).updPwr fun p =>
        { p with gasp := some b.now, test := none, failed := true }).mgAbandon (· != .metering)).discardCycles
      let v := ((g.failMark.gaspSave ok).mtrStop.panelGasp.startStations.ethOff).ctlOff.pl1Off
      let c := v.wrp .pwr 0 Off.PWR_LASTGASP (gaspWord 4 (!b.md.pstate.cmp) dur)
      exec (.lastGasp t 4 dur ok cell) s = .next (s.settled { c.trigger .endSessions with md := { c.md with pstate := .p4, mode := .boot } })) ∧
    (∀ (a a' charged : Bool), b.aon = false → (a || a') = true →
      exec (.supplyReturn t a a' charged) s = .next (s.settled (((b.updPwr fun p => { p with
        inA := a, inB := a', lowA := false, lowB := false, highA := false, highB := false, gasp := none, holdLow := !charged, charging := !charged }).changeOver
          .main).trigger (.reset .powerOn)))) ∧
    (∀ temp : Int, b.aon = true → b.md.pstate.ctl = true → temp < 1050 → b.pwr.high = false →
      let c := b.updPwr fun p => { p with tBase := temp }
      exec (.baseplateTemp t temp) s = .next (s.settled
        (if ((b.rdp .pwr 0 Off.PWR_T_BASE_MAX).setWidth 16).toInt < temp then c.wrp .pwr 0 Off.PWR_T_BASE_MAX (sw32 temp &&& 0xFFFF) else c))) ∧
    (∀ mj : Nat, 766 ≤ mj → b.aon = true → b.pwr.gasp = none → b.pwr.test = none → b.pwr.lastTest = none →
      exec (.holdupMeasure t mj) s = .next (s.settled (b.updPwr fun p => { p with test := some (.own, b.now) }))) ∧
    (∀ mj u : Nat, b.pwr.test = some (.own, u) →
      exec (.holdupMeasureEnd t mj) s = .next (s.settled (
        let c := b.updPwr fun p => { p with holdMj := min 8191 mj, holdLow := mj < 1000, charging := p.charging && mj < 1000, test := none, lastTest := some b.now }
        if mj < 1000 then (c.irq .pwr 0 3).record 0x1202 (w32 (min 8191 mj)) 1 0 else c)))

/-- Events of the status panel (R531–R541): a waveform that ends shows its target, a frame starts, the band's timer and a temperature reading. DISP.CMD (R533,
R546) and PWR.CMD (R565, R568): an update of the rectangle that DISP.RECT gives, of the whole panel, of the band; a measurement of the hold-up store begins.
-/
def Obligations.PanelEventsAndItsCommandsAct : Prop :=
  (∀ (s : State) (t : Nat),
    let b := s.begin t
    (∀ w : Wave, b.panel.run = some w → w.start + waveTotal w * panelFrameNs ≤ b.now →
      exec (.panelWaveformEnd t) s = .next (s.settled (((((b.updPanel fun p => { p with
        run := none, prog := none, shown := w.target, lastMs := min 65535 (waveTotal w * 20)
        ledger := p.ledger.foldl (fun m e => if pixDriven w p.shown (e.1 % 400) (e.1 / 400) then putLedger m e.1 (toward e.2 8) else m) p.ledger }).modp .disp 0
          Off.DISP_UPDATES).irq .disp 0 2)).panelNext))) ∧
    (∀ w : Wave, b.md.pstate.ctl = true → b.panel.run = some w → w.done < waveTotal w → w.start + w.done * panelFrameNs ≤ b.now →
      exec (.panelFrame t) s = .next (s.settled (b.updPanel fun p => { p with
        prog := some (w, false), run := some { w with done := w.done + 1 }, stress := addStress p.stress (frameTiles w p.shown p.ledger w.done) }))) ∧
    (∀ u : Nat, b.md.pstate.ctl = true → b.panel.evtFrom = some u → u + (b.rdp .disp 0 Off.DISP_CFG).fld 0 8 * sec ≤ b.now →
      exec (.panelBandTimer t) s = .next (s.settled ((b.updPanel fun p => { p with evtFrom := none }).panelReq false bandRect))) ∧
    (∀ temp : Int, b.md.pstate.ctl = true → -190 ≤ temp → temp ≤ 590 →
      exec (.panelTempRead t temp) s = .next (s.settled ((b.updPanel fun p => { p with temp := some temp, tempOk := true, held := false }).panelNext)))) ∧
  (∀ (s : State) (t slot tag : Nat) (x : Session),
    (s.MayCommand slot x .operate .disp 0 →
      let b := s.counted t x .disp 0 Off.DISP_CMD
      let done := fun (u : State) => s.settled (u.complete .disp 0 Off.DISP_CMD_STAT .ok tag)
      ((b.rdp .disp 0 Off.DISP_CFG).bit 8 = true → exec (.dispUpdate t slot tag true) s = .next (done (b.panelReq true hostRect))) ∧
      ((b.rdp .disp 0 Off.DISP_CFG).bit 8 = true → rectOk (rectOf (b.rdp .disp 0 Off.DISP_RECT)) = true → 
        exec (.dispUpdate t slot tag false) s = .next (done (b.panelReq false (rectOf (b.rdp .disp 0 Off.DISP_RECT))))) ∧
      exec (.dispBand t slot tag) s = .next (done (b.panelReq false bandRect))) ∧
    (s.MayCommand slot x .operate .pwr 0 → s.pwr.test = none → s.pwr.charging = false →
      let c : QCmd := ⟨cmdWord 1 tag 0, slot, x.priv, max s.now t, []⟩
      exec (.holdupTest t slot tag) s = .next (s.settled ((((s.counted t x .pwr 0 Off.PWR_CMD).setQueue pwrCmdAddr [c]).updPwr fun p =>
        { p with test := some (.cmd c, max s.now t) }).setQueue pwrCmdAddr []))))

/-- Sessions (R42, R44, R487): a SESSION-INIT opens a session that is not ready and answers with SESSION-ACCEPT; a proof under the credential's secret makes it
ready with the lower of the requested and the credential's privilege; a session closes by either side and after 60 s of silence; a frame that fails a check of R39 or R41 only counts at its port;
the lockout ends. -/
def Obligations.SessionFramesAct : Prop :=
  ∀ (s : State) (t : Nat),
    let b := s.begin t
    (∀ (port : Port) (fr : FrameIn) (key nonce : List Byte) (cred want k : Nat), fr.ok port 0x01 = true → b.md.pstate.cmp = true → b.keys.lcs ≠ 3 → b.host.lockUntil = none → b.freeSlot = some k →
      1 ≤ want → want ≤ 4 →
      ∃ (y : Session) (m : List Byte), y.slot = k ∧ y.port = port ∧ y.ready = false ∧ y.cred = cred ∧ y.want = Priv.ofCode want ∧ y.last = b.now ∧
        exec (.sessionInit t port fr key nonce cred want) s = .next (s.settled
          (({ b with free := b.free + 2, host := { b.host with sessions := b.host.sessions ++ [y] } } : State).emit (.accept port m)))) ∧
    (∀ (port : Port) (fr : FrameIn) (id : Word) (x : Session) (secret : List Byte) (p : Priv), fr.ok port 0x03 = true → b.md.pstate.cmp = true → b.sessOf port id = some x → x.ready = false →
      (b.touch x.slot).credential port x.cred = some (secret, p) →
      exec (.sessionProof t port fr id (proofMac secret x)) s = .next (s.settled
        (((b.touch x.slot).updSess x.slot fun y => { y with ready := true, priv := if p.code < x.want.code then p else x.want, rx := 1, tx := 1 }).emit
          (.ready x.slot (if p.code < x.want.code then p else x.want))))) ∧
    (∀ (port : Port) (fr : FrameIn) (id : Word) (x : Session) (mac : List Byte), fr.ok port 0x03 = true → b.md.pstate.cmp = true → b.sessOf port id = some x → x.ready = false →
      (b.touch x.slot).credential port x.cred = none →
      exec (.sessionProof t port fr id mac) s = .next (s.settled ((b.touch x.slot).proofFails x))) ∧
    (∀ (port : Port) (fr : FrameIn) (id : Word) (x : Session) (k : Nat), fr.ok port 0x05 = true → b.md.pstate.cmp = true → b.sessOf port id = some x → x.ready = true →
      exec (.sessionClose t true k port fr id) s = .next (s.settled ((b.touch x.slot).endSession x.slot))) ∧
    (∀ (port : Port) (fr : FrameIn) (id : Word) (x : Session) (k : Nat), b.md.pstate.cmp = true → b.sess? k = some x →
      exec (.sessionClose t false k port fr id) s = .next (s.settled ((b.emit (.close x.port k)).endSession k))) ∧
    (∀ (fr : FrameIn) (id : Word) (key nonce mac : List Byte) (cred want : Nat), b.md.pstate.cmp = true →
      (fr.ok .e3 0x01 = false → exec (.sessionInit t .e3 fr key nonce cred want) s = .next (s.settled (b.satp .eth 2 Off.ETH_DRA_DROP))) ∧
      (fr.ok .usb 0x03 = false → exec (.sessionProof t .usb fr id mac) s = .next (s.settled (b.satp .eth 3 Off.ETH_USB_DRA_DROP)))) ∧
    (∀ (x : Session) (k : Nat), b.sess? k = some x → x.last + 60 * sec ≤ b.now → exec (.sessionIdleTimeout t k) s = .next (s.settled (b.endSession k))) ∧
    (∀ u : Nat, b.host.lockUntil = some u → u ≤ b.now →
      exec (.proofLockoutExpiry t) s = .next (s.settled { b with host := { b.host with lockUntil := none } }))

/-- Operations (R45–R51, R56): what a request that executes at once does and answers. A read answers with the register's value, a write with what it left, a
block with all its words, a barrier with nothing under way, a PING and a NOTIFY at once; a read that meets an uncorrectable error answers UNCORR without data, and one whose error the decoder
corrects counts it and executes. -/
def Obligations.OperationsAnswer : Prop :=
  ∀ (s : State) (t slot seq req : Nat) (x : Session), s.MayAsk slot x →
    let y : Session := { x with last := max s.now t, held := [] }
    (∀ (addr : Nat) (r : RegAddr) (d : RegDef), r.page ≠ .pq → s.locate addr = .reg r d →
      let c := s.asked t slot seq (readRq req addr)
      exec (.read t slot seq req addr .clean) s = .next (s.settled (c.answer slot seq ⟨req, 1, .ok, addr, 1, c.wseqOf (readRq req addr), [c.view y r d]⟩))) ∧
    (∀ (addr : Nat) (ps : List Nat) (e : MemErr), ((s.begin t).touch slot).decoded (.wrong ps e) = .failed →
      let c := ((s.begin t).touch slot).uncorrectable e false
      exec (.read t slot seq req addr (.wrong ps e)) s =
        .next (s.settled (c.answer slot seq ⟨req, 1, .uncorr, addr, 0, c.wseqOf (readRq req addr), []⟩))) ∧
    (∀ (addr : Nat) (ps qs : List Nat) (e : MemErr), ((s.begin t).touch slot).decoded (.wrong ps e) = .corrected qs →
      exec (.read t slot seq req addr (.wrong ps e)) s =
        .next (s.settled ((((s.begin t).touch slot).corrected e.sram e.index qs).hold slot seq (readRq req addr)))) ∧
    (∀ (addr : Nat) (val : Word) (u : State),
      let c := s.asked t slot seq (writeRq req addr val none)
      c.writeReg y addr val none = (.ok, u) → (∀ z, u.sess? slot = some z → z.held = []) →
      exec (.write t slot seq req addr val none) s =
        .next (s.settled (u.answer slot seq ⟨req, 2, .ok, addr, 1, u.wseqOf (writeRq req addr val none), []⟩))) ∧
    (∀ (addr : Nat) (val m : Word) (u : State),
      let c := s.asked t slot seq (writeRq req addr val (some m))
      c.writeReg y addr val (some m) = (.ok, u) → (∀ z, u.sess? slot = some z → z.held = []) →
      exec (.write t slot seq req addr val (some m)) s =
        .next (s.settled (u.answer slot seq ⟨req, 2, .ok, addr, 1, u.wseqOf (writeRq req addr val (some m)), []⟩))) ∧
    (∀ (addr n : Nat) (ws : List Word) (u : State), 1 ≤ n → n ≤ 356 →
      let c := s.asked t slot seq (readBlockRq req addr n)
      c.blockRead y addr n = (.ok, addr, ws, u) → (∀ z, u.sess? slot = some z → z.held = []) →
      exec (.readBlock t slot seq req addr n .clean) s =
        .next (s.settled (u.answer slot seq ⟨req, 3, .ok, addr, n, u.wseqOf (readBlockRq req addr n), ws⟩))) ∧
    (∀ (addr : Nat) (ws : List Word) (u : State), 1 ≤ ws.length → ws.length ≤ 356 →
      let c := s.asked t slot seq (writeBlockRq req addr ws)
      c.blockWriteAll y addr ws = (.ok, addr, u) → (∀ z, u.sess? slot = some z → z.held = []) →
      exec (.writeBlock t slot seq req addr ws) s =
        .next (s.settled (u.answer slot seq ⟨req, 4, .ok, addr, ws.length, u.wseqOf (writeBlockRq req addr ws), []⟩))) ∧
    (let c := s.asked t slot seq (plainRq req 5)
     ∀ d : RegDef, Page.ord.defAt Off.ORD_BARRIER = some d → c.writeErr y ⟨.ord, 0, Off.ORD_BARRIER⟩ d = .ok → c.barrierMet slot = true →
      exec (.barrier t slot seq req) s = .next (s.settled
        ((((c.accepted .ord 0).updSess slot fun z => { z with barrier := none, barStat := barWord 0 .ok }).irq .ord 0 1).answer slot seq
          ⟨req, 5, .ok, 0, 0, 0, []⟩))) ∧
    (let c := s.asked t slot seq (plainRq req 7)
     exec (.ping t slot seq req) s = .next (s.settled (c.answer slot seq ⟨req, 7, .ok, 0, 0, 0, []⟩))) ∧
    (∀ (pages : Word64) (iv : Nat), pages.toNat % 2 ^ 60 ≠ 0 → 1 ≤ iv → iv ≤ 1000 →
      let c := s.asked t slot seq (notifyRq req pages iv)
      exec (.notify t slot seq req pages iv) s = .next (s.settled
        ((c.updSess slot fun z => { z with sub := some { mask := pages.toNat % 2 ^ 60, interval := iv } }).answer slot seq ⟨req, 6, .ok, 0, 0, 0, []⟩)))

/-- Frames in SEQ order and notifications (R52, R56–R58): the next REQUEST joins the last 64 and executes; a notification goes out when pages have risen and none
is unacknowledged, is repeated with a doubled interval, and ends with its acknowledgement. -/
def Obligations.RequestsAndNotificationsAct : Prop :=
  ∀ (s : State) (t : Nat),
    let b := s.begin t
    b.md.pstate.cmp = true →
    (∀ (port : Port) (fr : FrameIn) (id : Word) (x : Session) (rq : Request), fr.okRequest port rq = true → b.sessOf port id = some x → x.ready = true → unanswered x < 16 →
      exec (.request t port fr id (x.rx + 1) rq) s = .next (s.settled
        (((b.touch x.slot).updSess x.slot fun y => acceptSeq y (x.rx + 1) (.pending rq)).hold x.slot (x.rx + 1) rq))) ∧
    (∀ (slot : Nat) (x : Session) (u : Subscription), b.sess? slot = some x → x.sub = some u → u.risen ≠ 0 → u.outst = none → u.sentAt = none →
      exec (.notifySend t slot) s = .next (s.settled (((b.setSub slot
        { u with lastNum := u.lastNum + 1, risen := 0, sentAt := some b.now, outst := some ⟨u.lastNum + 1, u.risen, u.interval, b.now⟩ }).sendNotify slot
          (u.lastNum + 1) u.risen u.mask)))) ∧
    (∀ (slot : Nat) (x : Session) (u : Subscription) (o : Outstanding), b.sess? slot = some x → x.sub = some u → u.outst = some o → o.sentAt + o.every * ms ≤ b.now →
      exec (.notifyRepeat t slot) s = .next (s.settled (((b.setSub slot
        { u with sentAt := some b.now, outst := some { o with every := min 1000 (2 * o.every), sentAt := b.now } }).sendNotify slot o.num (o.risen ||| u.risen) u.mask)))) ∧
    (∀ (port : Port) (fr : FrameIn) (id : Word) (x : Session) (u : Subscription) (o : Outstanding), fr.ok port 0x13 = true → b.sessOf port id = some x → x.ready = true → x.sub = some u →
      u.outst = some o →
      exec (.notifyAck t port fr id (x.rx + 1) o.num) s = .next (s.settled
        (((b.touch x.slot).updSess x.slot fun y => acceptSeq y (x.rx + 1) .ack).setSub x.slot { u with outst := none })))

/-- Any register write that nothing refuses counts in PAGE_WSEQ and has its register's effect; one that meets a refusal of the common order leaves
the register and loads PAGE_ERR with PAGE_IRQ[ERR] (R34, R35, R48). One that stands behind a request of its session waits, and so does one that this module
mirrors, which goes to the partner first (R53, R108, R109). -/
def Obligations.RegisterWritesActOrAreRefused : Prop :=
  ∀ (s : State) (t slot i o : Nat) (x : Session) (p : Page) (d : RegDef) (val : Word),
    s.Writes slot x p i o d →
    let b := (s.begin t).touch slot
    let rq := bareWrite (p.reg i o) val
    let held := b.updSess slot fun y => { y with held := y.held ++ [(noSeq, rq)] }
    (s.Direct x → (s.isActive && s.pair.session && mirrored p o val) = false →
      (s.writeErr x ⟨p, i, o⟩ d = .ok → ∀ u, (s.counted t x p i o).effect x ⟨p, i, o⟩ d val = (.ok, u) →
        exec (.registerWrite t slot (p.reg i o) val) s = .next (s.settled u)) ∧
      (s.writeErr x ⟨p, i, o⟩ d ≠ .ok →
        exec (.registerWrite t slot (p.reg i o) val) s = .next (s.settled (b.refuse p i (s.writeErr x ⟨p, i, o⟩ d))))) ∧
    (s.blocked x = true → (p ≠ .ord ∨ o ≠ Off.ORD_BARRIER) → exec (.registerWrite t slot (p.reg i o) val) s = .next (s.settled held)) ∧
    (∀ (y : Session) (w : HostWrite), s.Direct x → held.sess? slot = some y → (b.mirrorOf x rq).isSome = true → held.mirrorOf y rq = some w →
      let u := held.pl1Send (.hostin w)
      exec (.registerWrite t slot (p.reg i o) val) s =
        .next (s.settled { u with pair := { u.pair with acks := u.pair.acks ++ [(u.pair.txSeq, slot, noSeq)] } }))

/-- The common header (R31–R36, R235, R590): a 1 written to PAGE_IRQ clears its event, unless the device sets it in the same instant, on the SDATA page also the session's
own; clearing ERR clears PAGE_ERR; the unlock word gives the page to the session
and a 1 in LOCKED gives it back; PAGE_RESET resets a direct page at once and waits for its boundary on an engine page. -/
def Obligations.PageHeaderWritesAct : Prop :=
  ∀ (s : State) (t slot i : Nat) (x : Session) (p : Page) (d : RegDef),
    (∀ val : Word, s.MayWrite slot x p i Off.PAGE_IRQ d →
      let b := s.counted t x p i Off.PAGE_IRQ
      let dev := (lookupA (p.reg i Off.PAGE_IRQ) b.edge).getD 0
      let left := b.rdp p i Off.PAGE_IRQ &&& ~~~(val &&& ~~~dev)
      let c := b.wrp p i Off.PAGE_IRQ left
      (p ≠ .sdata →
        let e := if val.bit 0 && !left.bit 0 then c.wrp p i Off.PAGE_ERR 0 else c
        exec (.pageIrqClear t slot p i val) s = .next (s.settled (if e.masked p i ≠ 0 then e.rise p i else e))) ∧
      (p = .sdata → left = 0 →
        let own := fun w : Word => w &&& ~~~(val &&& ~~~((lookupA (sessEdge slot) b.edge).getD 0))
        let f := c.updSess slot fun y => { y with sdIrq := own y.sdIrq }
        let e := if val.bit 0 then f.wrp p i Off.PAGE_ERR 0 else f
        own x.sdIrq &&& e.rdp p i Off.PAGE_IRQ_EN = 0 → exec (.pageIrqClear t slot p i val) s = .next (s.settled e))) ∧
    (∀ val : Word, s.MayWrite slot x p i Off.PAGE_LOCK d → x.priv.ge .config = true → (s.rdp p i Off.PAGE_LOCK).bit 0 = true → val.bit 0 = false →
      val.fld 16 16 = 0x5A5A →
      exec (.pageLockWrite t slot p i val) s = .next (s.settled ((s.counted t x p i Off.PAGE_LOCK).wrp p i Off.PAGE_LOCK (w32 (256 * slot))))) ∧
    (∀ val : Word, s.MayWrite slot x p i Off.PAGE_LOCK d → s.rdp p i Off.PAGE_LOCK = w32 (256 * slot) → (w32 (256 * slot)).bit 0 = false → val.bit 0 = true →
      exec (.pageLockWrite t slot p i val) s = .next (s.settled ((s.counted t x p i Off.PAGE_LOCK).wrp p i Off.PAGE_LOCK 0xFF01))) ∧
    (s.MayWrite slot x p i Off.PAGE_CTRL d → p.resetDenied = false → enginePage p = false → p ≠ .evt → p ≠ .pnt → s.pageBusy p i = false →
      let b := s.counted t x p i Off.PAGE_CTRL
      exec (.pageReset t slot p i false) s = .next (s.settled ((b.dropWaiting p i).pageReset p i (b.notStarted p i)))) ∧
    (s.MayWrite slot x p i Off.PAGE_CTRL d → p.resetDenied = false → enginePage p = true → p ≠ .slot →
      exec (.pageReset t slot p i false) s = .next (s.settled ((s.counted t x p i Off.PAGE_CTRL).putf p i Off.PAGE_CTRL 1 1 1))) ∧
    (let b := s.begin t
     enginePage p = true → p ≠ .slot → s.resetPending p i = true → s.ord.mg = [] →
      exec (.pageResetTakeEffect t p i) s = .next (s.settled ((b.dropWaiting p i).pageReset p i (b.notStarted p i))))

/-- Barriers, recoverable faults and memory (R95–R99, R108, R113–R130): a barrier written with nothing under way completes at once, one whose writes have reached
their engines completes when it is asked; a recoverable fault is taken up in the order of the triggers; a corrected codeword counts; a clean sanding burst only
advances; a scrub that corrects one word counts it; a skipped telemetry sample counts. -/
def Obligations.OrderAndMemoryEventsAct : Prop :=
  ∀ (s : State) (t slot : Nat) (x : Session),
    let b := s.begin t
    (∀ (tag : Nat) (d : RegDef), tag < 256 → s.MayWrite slot x .ord 0 Off.ORD_BARRIER d → x.barrier = none →
      let c := s.counted t x .ord 0 Off.ORD_BARRIER
      c.barrierMet slot = true →
      exec (.ordBarrier t slot tag) s =
        .next (s.settled ((c.updSess slot fun y => { y with barrier := none, barStat := barWord tag .ok }).irq .ord 0 1))) ∧
    (∀ k : Barrier, s.sess? slot = some x → x.barrier = some k → k.viaSeq = none → b.barrierMet slot = true →
      exec (.barrierComplete t slot) s = .next (s.settled
        (((b.updSess slot fun y => { y with barrier := none, barStat := barWord k.tag .ok }).irq .ord 0 1).runHeldOf slot false))) ∧
    (∀ (e : Eng) (cause : Nat), exec (.recoverableFault t e cause) s = .next (s.settled { b with trig := [.fault e cause] })) ∧
    (∀ (k : Nat) (m : MakingGood), b.ord.mg.find? (fun m => m.eng == Eng.ingest k) = some m → b.ord.redo.countP (· == k) = 0 →
      let w := mgWord 5 k m.cause (b.now - m.since)
      let c := { b with
        ord := { b.ord with mg := b.ord.mg.filter fun m => m.eng != Eng.ingest k, redo := b.ord.redo.filter fun n => n != k }
        mem := { b.mem with poison := b.mem.poison.filter fun p => p.eng != some (Eng.ingest k) } }
      exec (.makingGoodDone t (.ingest k)) s =
        .next (s.settled ((((c.modp .ord 0 Off.ORD_MG_COUNT).wrp .ord 0 Off.ORD_MG_LAST w).irq .ord 0 2).record 0x0201 w 0 0))) ∧
    (∀ e : Eng, b.inMg e = false → exec (.makingGoodDone t e) s = .next (s.settled b)) ∧
    (b.sanding = true → b.now ≤ b.mem.sweepFrom + b.sandPeriod → b.mem.sandPos + 64 < mainBytes →
      exec (.sandingBurst t .clean .clean) s = .next (s.settled { b with mem := { b.mem with
        sandPos := b.mem.sandPos + 64
        poison := (b.mem.poison.filter fun e => !(e.sram == false && e.index == b.mem.sandPos / 32)).filter fun e =>
          !(e.sram == false && e.index == b.mem.sandPos / 32 + 1) } })) ∧
    (∀ (cw : Nat) (k : Nat) (e : MemErr), b.md.pstate.ctl = true → b.mem.poison = [] →
      exec (.sramScrub t [(cw, .wrong [k] e)]) s = .next (s.settled
        ((((b.satp .mem 0 Off.MEM_CE_SRAM).satp .mem 0 Off.MEM_CE_LIFE).storm true).unpoison fun p => p.sram && !(cw == p.index)))) ∧
    exec (.telemetrySample t false) s = .next (s.settled (b.satp .mem 0 Off.MEM_TELEM_SKIP)) ∧
    exec (.telemetrySample t true) s = .next (s.settled b)

/-- MODE.CMD (R61, R63–R66) and RST.CMD (R79): each target from a mode that may go there changes the mode at once and completes where no engine is inside an
epoch; DORMANT and a target with engines inside an epoch wait in the queue while they cross; the key of RST.CMD resets. -/
def Obligations.ModeCommandsAct : Prop :=
  ∀ (s : State) (t slot tag : Nat) (x : Session),
    (s.MayOrder slot x .operate .mode 0 → s.md.crossing = none →
      let b := s.counted t x .mode 0 Off.MODE_CMD
      let c := fun k : Nat => (⟨cmdWord k tag 0, slot, x.priv, max s.now t, []⟩ : QCmd)
      let q := fun k : Nat => b.setQueue modeCmdAddr [c k]
      ((s.md.mode = .safeHold ∨ s.md.mode = .maintenance) → (q 2).inEpoch = [] → 
        let u := ((q 2).changeMode .commission .host).modeDone (c 2) .ok
        exec (.modeCmdCommission t slot tag) s = .next (s.settled
          (if u.md.crossing.isSome || u.queue modeCmdAddr = [] then u else u.setQueue modeCmdAddr []))) ∧
      (∀ m : Mode, (s.md.mode = .commission ∨ s.md.mode = .maintenance ∨ s.md.mode = .safeHold) → (q 4).runAllowed = true → (q 4).runLands = some m →
        (q 4).inEpoch ≠ [] →
        exec (.modeCmdRun t slot tag) s = .next (s.settled
          (((q 4).changeMode m .host).updMd fun y => { y with crossing := some ⟨c 4, s.md.mode, (q 4).inEpoch, ((q 4).changeMode m .host).now⟩ }))) ∧
      ((s.md.mode = .run ∨ s.md.mode = .degraded ∨ s.md.mode = .standby) → x.priv.ge .service = true → (q 7).inEpoch ≠ [] →
        exec (.modeCmdMaintenance t slot tag) s = .next (s.settled
          (((q 7).changeMode .maintenance .host).updMd fun y =>
            { y with crossing := some ⟨c 7, s.md.mode, (q 7).inEpoch, ((q 7).changeMode .maintenance .host).now⟩ }))) ∧
      ((s.md.mode = .commission ∨ s.md.mode = .maintenance ∨ s.md.mode = .safeHold) → (s.rdp .mode 0 Off.MODE_WAKE_SRC).fld 0 3 ≠ 0 → s.upd.trial ≠ 1 →
        exec (.modeCmdDormant t slot tag) s = .next (s.settled
          ((q 0).updMd fun y => { y with crossing := some ⟨c 0, s.md.mode, (q 0).inEpoch.filter fun e => e != .metering, max s.now t⟩ }))) ∧
      (s.md.mode ≠ .boot → s.md.mode ≠ .dormant → s.md.mode ≠ .safeHold → (s.isActive && s.pair.session) = false →
        ∃ u : State, exec (.modeCmdSafeHold t slot tag) s = .next (s.settled u) ∧ u.md.mode = .safeHold ∧ u.md.shCauses = [] ∧ u.prg.masks = [] ∧
          u.prof.switch = none ∧ u.md.crossing = none)) ∧
    (∀ d : RegDef, s.MayWrite slot x .rst 0 Off.RST_CMD d →
      exec (.rstSoft t slot 0xC3) s = .next (s.settled ((s.counted t x .rst 0 Off.RST_CMD).softReset)))

/-- Events of the mode logic, of power and of resets (R61, R63, R69, R77–R79, R95): the last engine crosses, an unrecoverable fault, the idle end of
SAFE-HOLD, the two wakes, the three resets that no command brings. -/
def Obligations.ModeAndResetEventsAct : Prop :=
  ∀ (s : State) (t : Nat),
    let b := s.begin t
    (∀ c : Crossing, b.md.crossing = some c → b.allCrossed c = true → c.cmd.word.fld 0 4 ≠ 0 → (b.queue modeCmdAddr).tail = [] →
      exec (.modeTransitionComplete t) s = .next (s.settled
        (((b.updMd fun m => { m with crossing := none }).modeDone c.cmd .ok).setQueue modeCmdAddr []))) ∧
    (∀ c : Crossing, b.md.crossing = some c → b.allCrossed c = true → c.cmd.word.fld 0 4 = 0 → b.bandDrawn = true →
      exec (.modeTransitionComplete t) s = .next (s.settled (b.goDormant c.cmd))) ∧
    (∀ (cmp : Bool) (code : Nat), exec (.unrecoverableFault t cmp code) s =
      .next (s.settled { b with trig := [.safeHold (if cmp then .cmpFault else .ctlFault) code] })) ∧
    (∀ u : Nat, b.md.idleFrom = some u → b.md.mode = .safeHold → b.md.pstate.cmp = true → (b.rdp .mode 0 Off.MODE_SH_IDLE_S).toNat ≠ 0 →
      b.host.sessions = [] → u + (b.rdp .mode 0 Off.MODE_SH_IDLE_S).toNat * sec ≤ b.now →
      exec (.shIdleExpiry t) s = .next (s.settled b.sleepP2)) ∧
    (∀ src : Nat, b.md.pstate = .p2 → b.wakeArmed src = true →
      let c : State := { b with regs := b.shadow.foldl (fun m r => regPut m r.1 r.2) b.regs, shadow := [] }
      let w := (c.rdp .mode 0 Off.MODE_WAKE_SRC)
      exec (.wakeFromP2 t src) s = .next (s.settled
        { (((c.wrp .mode 0 Off.MODE_WAKE_CAUSE (w32 (2 ^ src + (if src = 3 then 256 * w.fld 8 6 else 0)))).updMd fun m =>
          { m with pstate := .p1, wakes := 0, idleFrom := some b.now }).startStations.wakeEth.grant) with mem := { b.mem with sweepFrom := b.now, overdue := false } })) ∧
    (∀ src : Nat, b.md.mode = .dormant → b.md.pstate = .p3 → src < 3 → b.wakeArmed src = true →
      exec (.wakeFromDormant t src) s = .next (s.settled ((b.resetCore [.wake]).wrp .mode 0 Off.MODE_WAKE_CAUSE (w32 (2 ^ src))))) ∧
    exec (.powerOnReset t) s = .next (s.settled { b with trig := [.reset .powerOn] }) ∧
    (b.md.pstate.ctl = true → exec (.brownOutReset t) s = .next (s.settled { b with trig := [.reset .brownOut] })) ∧
    (b.md.pstate.ctl = true → exec (.watchdogReset t) s = .next (s.settled { b with trig := [.reset .watchdog] }))

/-- The end of BOOT (R61, R72, R73, R83, R457): where nothing holds the start and the role is decided, the start record is written, the units start, and the
controller lands as the profile, the configuration and the token say; a start that finds a cause other than a CMP fault lands in SAFE-HOLD. -/
def Obligations.BootCompletes : Prop :=
  ∀ (s : State) (t : Nat) (i : BootIn),
    let b := (s.begin t).updPair fun p => { p with posB := i.posB }
    s.md.mode = .boot → s.md.pstate ≠ .p4 → b.mayTake = false → (s.variant.pair = false ∨ s.pair.token = true ∨ s.pair.loop = true) →
    let c := ((b.startRecord i).startUnits i).updPair fun p => { p with decided := true }
    (i.checksOk = true → c.resumeNumbering.bootCauses i = [] →
      exec (.bootComplete t i) s = .next (s.settled (c.resumeNumbering.land c.resumeNumbering.bootLands.1 c.resumeNumbering.bootLands.2))) ∧
    (i.checksOk = true → c.resumeNumbering.bootCauses i ≠ [] → (c.resumeNumbering.bootCauses i).any (·.1 == ShCause.cmpFault) = false →
      exec (.bootComplete t i) s = .next (s.settled ((c.resumeNumbering.updMd fun m => { m with shCauses := (c.resumeNumbering.bootCauses i).eraseDups }).land
        .safeHold (bootShReason (c.resumeNumbering.bootCauses i)))))

/-- PROF.CMD and the switch (R74–R76): a switch is pending once it is accepted, is withdrawn by CANCEL, is rejected by a verification that fails, is to be built
after one that passes, and takes effect at its boundary. -/
def Obligations.ProfileSwitchActs : Prop :=
  ∀ (s : State) (t slot tag : Nat) (x : Session),
    (s.MayCommand slot x .config .prof 0 →
      let b := s.counted t x .prof 0 Off.PROF_CMD
      (∀ n, n < 4 → (s.md.mode = .run ∨ s.md.mode = .degraded ∨ s.md.mode = .maintenance ∨ s.md.mode = .commission) → s.prof.switch = none →
        exec (.profSwitch t slot tag n) s = .next (s.settled { b with prof := { b.prof with
          switch := some ⟨⟨cmdWord 1 tag (16 * n), slot, x.priv, max s.now t, []⟩, n, false, s.md.mode == .commission⟩ } })) ∧
      (∀ w : Switch, s.prof.switch = some w →
        exec (.profCancel t slot tag) s = .next (s.settled ((b.dropSwitch .aborted).complete .prof 0 Off.PROF_CMD_STAT .ok tag 2)))) ∧
    (let b := s.begin t
     (∀ w : Switch, b.prof.switch = some w → w.verified = false → b.validProf w.target = none →
       exec (.profVerifyDone t) s = .next (s.settled ((b.dropSwitch .rejected).profEvent 4 w.target .rejected))) ∧
     (∀ (w : Switch) (p : Profile), b.prof.switch = some w → w.verified = false → w.commission = false → b.validProf w.target = some p →
       exec (.profVerifyDone t) s = .next (s.settled ({ b with
         prof := { b.prof with switch := some { w with verified := true }, target := some p }
         slv := { b.slv with next := some (b.planNext p.slots p.disp) } } : State).grant)) ∧
     (∀ (w : Switch) (p : Profile) (n : NextSlots) (o : Nat), b.prof.switch = some w → b.prof.target = some p → b.slv.next = some n → b.slv.origin = some o →
       w.verified = true → n.todo = [] → n.failed = false → b.md.mode.tasksRun = true → o < b.now → (b.now - o) % b.switchPeriod = 0 →
       exec (.profileSwitchBoundary t) s = .next (s.settled (b.takeSwitch w p n))))

/-- Sessions of stations (R141–R148): a ClientHello is answered by its cookie, its PSK identity or a refusal, a completed handshake begins a session, a key
update comes after 2²³ records in either direction or 24 h, and the traffic secrets are mirrored to the partner (R160), a failed session takes the station DOWN, silence and an exhausted retransmission take it out of UP. Leaving UP or JOINING (R141,
R142): the station's session and queues end, what waited in them is counted as dropped, its points read BAD in a new version, and 0x0B01 is recorded. -/
def Obligations.StationSessionsActAndEnd : Prop :=
  (∀ (s : State) (t st : Nat),
    let b := s.begin t
    (∀ (ck wf : Bool) (id : Word) (g : Nat), b.servesDpx = true →
      exec (.dtlsClientHello t false ck id wf st g) s = .next (s.settled (b.hsFail.emit (.dtls st .handshakeFailure)))) ∧
    (∀ (wf : Bool) (id : Word) (g : Nat), b.servesDpx = true → b.net.hs.length < 32 →
      exec (.dtlsClientHello t true false id wf st g) s = .next (s.settled (b.emit (.dtls st .helloRetry)))) ∧
    (∀ (x : Stn) (im : NetImage), b.servesDpx = true → b.net.hs.length < 32 → st ≠ 0 → b.stn? st = some x → b.net.img = some im → x.enabled = true →
      exec (.dtlsClientHello t true true im.netid true st x.kgen) s =
        .next (s.settled (({ b with net := { b.net with hs := b.net.hs ++ [(st, x.kgen)] } } : State).emit (.dtls st .serverHello)))) ∧
    (∀ (x : Stn) (id : Word) (g : Nat), b.servesDpx = true → b.net.hs.length < 32 → b.stn? st = some x → x.enabled = false →
      exec (.dtlsClientHello t true true id true st g) s =
        .next (s.settled ((b.hsFail.emit (.dtls st .unknownPsk)).record 0x0B02 (w32 st) (Config.downReason 32) 0))) ∧
    (∀ (x : Stn), b.servesDpx = true → b.md.crossing = none → (st, x.kgen) ∈ b.net.hs → b.stn? st = some x → x.st = .down → x.enabled = true → x.nextOk = false →
      let key := Config.trafficSecret (b.fresh 71).1
      let c := { b with net := { b.net with hs := b.net.hs.erase (st, x.kgen) }, free := b.free + 1 }
      let u := (c.updStn st fun y => { y with
        dtls := some { gen := x.kgen, keyedAt := b.now, records := 0, helloOk := false, rx := 0, secret := key }
        buf := [], reasm := none, ready := [], owed := [], lastSet := none }).pl1Send (.reserve (.secrets st x.kgen false key) 0 0 false)
      exec (.dtlsHandshakeDone t st x.kgen) s = .next (s.settled (b.withCommit (.ingest st) fun _ => u))) ∧
    (∀ (x : Stn) (d : Dtls), b.servesDpx = true → b.stn? st = some x → x.dtls = some d →
      (2 ^ 23 ≤ d.records ∨ 2 ^ 23 ≤ d.rx ∨ d.keyedAt + 24 * 3600 * sec ≤ b.now) →
      let key := Config.trafficSecret (b.fresh 71).1
      exec (.dtlsKeyUpdate t st) s = .next (s.settled
        (((({ b with free := b.free + 1 } : State).updStn st fun y => { y with dtls := some { d with keyedAt := b.now, records := 0, rx := 0, secret := key } }).emit
          (.dtls st .keyUpdate)).pl1Send (.reserve (.secrets st d.gen d.helloOk key) 0 0 false)))) ∧
    (b.md.crossing = none →
      exec (.dtlsSessionFail t st) s = .next (s.settled (b.withCommit (.ingest st) fun _ =>
        (b.stationDown st .down 3).updStn st fun x => { x with dtls := none }))) ∧
    (∀ (x : Stn) (c : StationCfg), b.servesDpx = true → b.md.crossing = none → b.stn? st = some x → b.stnCfg st = some c → (x.st = .up ∨ x.st = .joining) →
      x.lastRx + b.hbMiss * c.hbMs * ms ≤ b.now →
      exec (.stationHbTimeout t st) s = .next (s.settled (b.withCommit (.ingest st) fun _ => b.stationDown st .down 1))) ∧
    (∀ (x : Stn) (m : DownMsg) (q : Nat), b.servesDpx = true → b.md.crossing = none → b.stn? st = some x → x.cmdQ.find? (·.seq == some q) = some m →
      m.sentAt + b.retxMs * ms ≤ b.now →
      let u := ((((b.updStn st fun y => { y with cmdQ := y.cmdQ.map fun z => if z.seq == some q then { z with tries := z.tries + 1, sentAt := b.now } else z }).emit
        (.dpxCmd st q m.flags m.frag)).satp .dpx 0 Off.DPX_RETX).countRecord st)
      exec (.dpxRetransmit t st q) s = .next (s.settled (b.withCommit (.ingest st) fun _ =>
        if b.retxMax ≤ m.tries then b.stationDown st .down 2 else u)))) ∧
  (∀ (s : State) (st why : Nat) (to_ : StnState) (x : Stn), s.stn? st = some x → (x.st = .up ∨ x.st = .joining) →
    let n := x.cmdQ.length + x.safeQ.length
    let u := (s.updStn st fun y => { y with
      dtls := none, buf := [], reasm := none, ready := [], owed := [], cmdQ := [], safeQ := [], lastSet := none
      drop := satAdd max32 y.drop n, downs := satAdd max32 y.downs 1, st := to_ }).satp .dpx 0 Off.DPX_CMD_DROP n
    s.stationDown st to_ why =
      ((u.newVersion st (x.pts.map fun p => { p with qual := .bad, reason := .stationDown, at_ := s.now })).irq .dpx 0 1).record 0x0B01 (w32 st)
        (Config.downReason why) 0)

/-- Messages of stations (R149–R158): a HELLO makes the station JOINING and is answered, a set message joins what waits for its SEQ, one accepted before is
acknowledged again, a set that is complete becomes one version and is acknowledged once it is mirrored, a DELTA on another base is refused with STATE, a set that comes
while the station's ingest is being made good waits; an ACK frees what it acknowledges, a SAFE message goes to its connections. -/
def Obligations.StationMessagesAct : Prop :=
  ∀ (s : State) (t st : Nat) (x : Stn) (d : Dtls) (h : DpxHdr),
    let b := s.begin t
    b.servesDpx = true → b.stn? st = some x → x.dtls = some d →
    (∀ (c : StationCfg) (m : HelloMsg), b.stnCfg st = some c → hdrOk h st 1 = true → d.helloOk = false → m.proto = 1 → m.zero = 0 → m.station = h.station →
      m.points = c.points.length →
      b.md.crossing = none →
      exec (.dpxHello t st h m) s = .next (s.settled (b.withCommit (.ingest st) fun _ =>
        ((((b.modp .dpx 0 Off.DPX_RX_MSG).countRx st).updStn st fun y => { y with
            st := .joining, useq := m.upSeq, lastRx := b.now, lastSet := none, buf := [], reasm := none, ready := [], owed := [], fwId := m.fwId
            dtls := y.dtls.map fun z => { z with helloOk := true } }).dpxTx st
          (.dpxHello st ((if x.dseq.next < x.dseq.stop then x.dseq.next else x.dnext) % 2 ^ 32) m.upSeq c.hbMs true deviceId (b.time64At b.now)))))) ∧
    (∀ f : SetFrag, hdrOk h st 2 = true ∨ hdrOk h st 3 = true → d.helloOk = true → (h.seq + 2 ^ 32 - x.useq) % 2 ^ 32 ≤ 15 →
      exec (.dpxSetMessage t st h f) s = .next (s.settled
        (acceptChain st 16 ((b.countRx st).updStn st fun y => { y with buf := insertA h.seq (h.typ == 2, f) y.buf, lastRx := b.now })))) ∧
    (∀ f : SetFrag, hdrOk h st 2 = true ∨ hdrOk h st 3 = true → d.helloOk = true → 15 < (h.seq + 2 ^ 32 - x.useq) % 2 ^ 32 →
      (x.useq + 2 ^ 32 - h.seq) % 2 ^ 32 ≤ 64 →
      exec (.dpxSetMessage t st h f) s = .next (s.settled (((b.countRx st).updStn st fun y => { y with lastRx := b.now }).ack st .ok false))) ∧
    (∀ (r : RxSet) (since : Nat) (rest : List (RxSet × Nat)), x.ready = (r, since) :: rest → x.st = .up → b.md.crossing = none → b.inMg (.ingest st) = false →
      let d := b.updStn st fun y => { y with ready := rest }
      (r.snapshot = true ∨ (x.lastSet = some r.frag.baseId ∧ r.entries ≠ []) →
        let u := ((d.newVersion st (applyEntries b.now r.frag.time x.pts r.entries)).updStn st fun y =>
          { y with lastSet := some r.frag.setId, owed := y.owed ++ [r.seq] }).countIngest r.entries.length
        exec (.dpxSetApply t st []) s = .next (s.settled ((b.withCommit (.ingest st) fun _ => u).ackApplied st))) ∧
      (r.snapshot = false → x.lastSet ≠ some r.frag.baseId →
        exec (.dpxSetApply t st []) s = .next (s.settled ((b.withCommit (.ingest st) fun _ => d.ack st .state true).ackApplied st)))) ∧
    (b.inMg (.ingest st) = true → ∀ chk : List MemFind, exec (.dpxSetApply t st chk) s = .next (s.settled (b.deferSet st))) ∧
    (∀ (m : AckMsg) (k : DownMsg) (n : Nat), hdrOk h st 5 = true → x.cmdQ = [k] → k.seq = some n → m.ackSeq = n → n < 2 ^ 32 →
      exec (.dpxAckRx t st h m) s = .next (s.settled
        ((((b.modp .dpx 0 Off.DPX_RX_MSG).countRx st).updStn st fun y => { y with
          cmdQ := [], lastAck := m.status
          outs := x.outs.map fun o =>
            if k.frag.entries.any (fun e => e.index == o.idx && e.val == ptVal (match b.ptCfg st o.idx with | some c => c.typ | none => 5) o.cmd)
            then { o with acked := true } else o }).pump st))) ∧
    (∀ bs : List Byte, hdrOk h st 6 = true → b.pair.session = false →
      let u := (b.modp .dpx 0 Off.DPX_RX_MSG).countRx st
      exec (.dpxSafeRx t st h bs) s = .next (s.settled (u.polDeliver (u.polOfStation st) bs)))

/-- NET.CMD (R148, R162) and the PNT window (R163): a DISABLED station is enabled, a DOWN one disabled, an UP one asked for a snapshot, a next generation accepted,
its key exported; the window moves, freezes and follows again. -/
def Obligations.NetworkCommandsAct : Prop :=
  ∀ (s : State) (t slot tag st : Nat) (x : Session), 0 < st → st < 4096 →
    (s.MayCommand slot x .service .net 0 →
      let b := s.counted t x .net 0 Off.NET_CMD
      let done := fun (u : State) => s.settled (u.complete .net 0 Off.NET_CMD_STAT .ok tag)
      (∀ y : Stn, commMaint s.md.mode = true → b.stn? st = some y → y.st = .disabled →
        exec (.netEnable t slot tag st) s = .next (done (b.updStn st fun z => { z with st := .down, enabled := true }))) ∧
      (∀ y : Stn, commMaint s.md.mode = true → s.md.crossing = none → b.stn? st = some y → y.st = .down →
        exec (.netDisable t slot tag st) s = .next (done (b.withCommit (.ingest st) fun _ =>
          (((b.newVersion st (y.pts.map fun p => { p with qual := .bad, reason := .stationDown, at_ := b.now })).updStn st fun z =>
            { z with st := .disabled, enabled := false, dtls := none }).recordGen 0x0B .net 0 Off.NET_SD_STAT (w32 1))))) ∧
      (∀ y : Stn, b.stn? st = some y → y.st = .up →
        exec (.netResync t slot tag st) s = .next (done ((b.updStn st fun z => { z with st := .joining }).ack st .state true))) ∧
      (∀ y : Stn, commMaint s.md.mode = true → b.stn? st = some y →
        exec (.netNextGen t slot tag st) s = .next (done (b.updStn st fun z => { z with nextOk := true }))) ∧
      (∀ (y : Stn) (kek psk : List Byte), commMaint s.md.mode = true → b.stn? st = some y →
        let k := (b.rdp .net 0 Off.NET_KEX_SLOT).fld 0 6
        b.occupied k = true → b.keyOf k useKek = some kek → b.stationPsk st (y.kgen + 1) = some psk →
        exec (.netKexport t slot tag st) s = .next (done
          (({ b with net := { b.net with kexBuf := (List.range 10).map fun j => w32 (leAt (Aes.wrap kek psk) (4 * j) 4) } } : State).recordGen 0xB .net 0
            Off.NET_KEX_SLOT (w32 k))))) ∧
    (∀ (v : Word) (d : RegDef), s.MayWrite slot x .pnt 0 Off.PNT_BASE d → v.toNat < 2 ^ 23 → ptLocal v.toNat ≤ 1535 →
      let b := s.counted t x .pnt 0 Off.PNT_BASE
      let c : State := if ptStation v.toNat ≠ b.pntStation then { b with net := { b.net with pntFrz := none } } else b
      exec (.pntBaseWrite t slot v) s = .next (s.settled ((c.wrp .pnt 0 Off.PNT_BASE v).pruneVersions))) ∧
    (∀ d : RegDef, s.MayWrite slot x .pnt 0 Off.PAGE_CTRL d →
      let b := s.counted t x .pnt 0 Off.PAGE_CTRL
      (∀ y : Stn, b.net.pntFrz = none → b.stn? b.pntStation = some y →
        exec (.pntFreeze t slot true) s = .next (s.settled { b with net := { b.net with pntFrz := some (y.num, y.ver) } })) ∧
      exec (.pntFreeze t slot false) s = .next (s.settled (({ b with net := { b.net with pntFrz := none } } : State).pruneVersions)))

/-- Cycles of a solver slot (R22, R23, R195, R211–R217, R233): a boundary while a cycle is uncommitted is an overrun, another starts a cycle on the points as they
stand; an iterate is a candidate by its merit, the last one of the cycle commits the best; the deadline commits the best so far, or the shifted previous
publication where the profile says so, or awaits iterate 0. -/
def Obligations.SlotCyclesRun : Prop :=
  ∀ (s : State) (t n : Nat) (c : SlotCfg),
    let b := s.begin t
    b.md.crossing = none → (b.slot n).cfg = some c →
    (∀ (o : Nat) (y : Cycle), b.slv.origin = some o → b.md.mode.tasksRun = true → o < b.now → (b.now - o) % (c.periodMs * ms) = 0 → (b.slot n).lastB ≠ some b.now →
      (b.slot n).cyc = some y → n < b.slv.slots.length →
      let u := ((((b.updSlot n fun x => { x with nextNum := (b.slot n).nextNum + 1, lastB := some b.now }).satp .slot n Off.SLOT_OVERRUNS).irq .slot n 4).updSlot n
        fun x => { x with skips := x.skips + 1 }).recordEp 0x0401 (w32 n) (w32 (b.slot n).nextNum) 0
      exec (.slotCycleBoundary t n) s = .next (s.settled (b.withCommit (.slot n) fun _ => u))) ∧
    (∀ o : Nat, b.slv.origin = some o → b.md.mode.tasksRun = true → b.md.mode ≠ .standby → o < b.now → (b.now - o) % (c.periodMs * ms) = 0 →
      (b.slot n).lastB ≠ some b.now → (b.slot n).cyc = none → (b.slot n).screed.isSome = true → (b.slot n).started = true → n < b.slv.slots.length →
      let u := ((b.updSlot n fun x => { x with nextNum := (b.slot n).nextNum + 1, lastB := some b.now }).reached (.slot n)).startCycle n (b.slot n).nextNum false
      exec (.slotCycleBoundary t n) s = .next (s.settled (b.withCommit (.slot n) fun _ => u))) ∧
    (∀ (x : Screed) (y : Cycle), (b.slot n).screed = some x → (b.slot n).cyc = some y → y.lanes ≠ 0 →
      let i := iterateAt b.slv.ucode (b.iterIn n c x y) y.done
      i.finite = true → i.pivot = false →
      let m := i.m
      let z : Cycle := { y with
        done := y.done + 1
        best := if betterEq m y.best then some (y.done, m) else y.best
        merit0 := if y.done = 0 then some m else y.merit0
        hashes := y.hashes ++ [(solHash x.vars i.x).take 8] }
      let u := b.updSlot n fun w => { w with cyc := some z }
      (y.done ≠ c.iter → (y.done ≠ 0 ∨ y.late = false) →
        exec (.solverIterateComplete t n []) s = .next (s.settled (b.withCommit (.slot n) fun _ => u))) ∧
      (∀ q : Nat × Word64, y.done = c.iter → 0 < y.done → z.best = some q →
        exec (.solverIterateComplete t n []) s = .next (s.settled (b.withCommit (.slot n) fun _ => u.finishCycle n (.iterate q.1) rfComplete)))) ∧
    (∀ (y : Cycle) (inside : Bool), (b.slot n).cyc = some y → y.boundary + c.deadlineUs * us ≤ b.now →
      let part := if inside && y.lanes != 0 then rfPartial else 0
      (∀ q : Nat × Word64, c.shift = false → y.best = some q →
        exec (.slotDeadline t n inside []) s = .next (s.settled (b.withCommit (.slot n) fun _ => b.finishCycle n (.iterate q.1) (rfDeadline ||| part)))) ∧
      (c.shift = true → (b.slot n).prevOk = true → (b.slot n).res.isSome = true → b.healthyCount ≠ 0 →
        exec (.slotDeadline t n inside []) s =
          .next (s.settled (b.withCommit (.slot n) fun _ => b.finishCycle n .shifted (rfDeadline ||| part ||| rfShifted ||| 0)))) ∧
      (c.shift = false → y.best = none → b.healthyCount ≠ 0 → y.late = false →
        exec (.slotDeadline t n inside []) s = .next (s.settled (b.withCommit (.slot n) fun _ => b.updSlot n fun z => { z with
          cyc := some { y with late := true, flags := y.flags ||| rfDeadline ||| (if y.lanes == 0 then rfLaneWait else 0) } }))))

/-- Builds, lanes and the forecaster (R182, R195, R199–R203, R228): a build that ends within the limits makes its screed resident, a lane that faults is fenced
with its record, is retested after its wait and waits to return once it passes; the forecaster updates at each grid point. -/
def Obligations.SolverEventsAct : Prop :=
  ∀ (s : State) (t : Nat),
    let b := s.begin t
    (∀ (n : Nat) (c : SlotCfg), b.slv.holder = some (.build n) → (b.slot n).build = .running → (b.slot n).cfg = some c → (b.slot n).buildCmd = none →
      let x := b.makeScreed n c b.slv.disp
      tooLarge x (b.nnzOthers n) = false →
      let d := b.freeLanes.updSlot n fun z => { newScreed z x with buildCmd := none }
      exec (.screedBuildDone t n) s = .next (s.settled ((d.schedWarns.irq .slot n 5).grant))) ∧
    (∀ k : Nat, k < b.variant.lanes → (b.lane k).fenced = false → b.slv.holder = none →
      let d := ((b.updLane k fun x => { x with fenced := true, fails := 0, since := b.now, back := 0 }).irq .slv 0 1).satp .slv 0 Off.SLV_LANE_FLT
      exec (.laneFault t k) s = .next (s.settled ((d.record 0x0405 (w32 k) (w32 1) d.lanesWord).trigger .unit).lateSlots)) ∧
    (∀ k : Nat, k < b.variant.lanes → (b.lane k).fenced = true → (b.lane k).held = false → (b.lane k).queued = false → (b.lane k).back = 0 →
      (b.lane k).since + b.retestNs ≤ b.now →
      exec (.laneRetest t k) s = .next (s.settled ((b.updLane k fun x => { x with queued := true }).grant))) ∧
    (∀ k : Nat, b.slv.holder = some (.test k) → (b.lane k).cmd = none → (b.lane k).held = false →
      exec (.laneSelfTestDone t true) s = .next (s.settled
        ((b.freeLanes.updLane k fun y => { y with queued := false, cmd := none, fails := 0, back := if y.held then 0 else 1 }).grant))) ∧
    (∀ o : Nat, b.slv.origin = some o → b.md.mode.tasksRun = true → o < b.now → (b.now - o) % gridNs = 0 →
      exec (.forecastUpdate t) s = .next (s.settled (b.forecastUpdate (b.now - gridNs))))

/-- SLV.CMD and SLOT.CMD (R232, R234): a self-test of a fenced lane is queued, a held lane is released; a screed is built, a trial runs, the next cycle starts
cold, the next one is captured. Commands that wait for their end stand at the head of their queue. SDATA.CMD (R177, R204, R235–R237): a well-formed series of
the selected dispatch slot replaces the one of its code and scope, a well-formed skim for the resident screed waits for the next trial, the staging buffer is
cleared. -/
def Obligations.SolverCommandsAct : Prop :=
  (∀ (s : State) (t slot tag n : Nat) (x : Session),
    (s.MayCommand slot x .service .slv 0 → slvModeOk s.md.mode = true → n < 8 → n < s.variant.lanes →
      let b := s.counted t x .slv 0 Off.SLV_CMD
      let c := fun k : Nat => (⟨cmdWord k tag (65536 * n), slot, x.priv, max s.now t, []⟩ : QCmd)
      ((b.lane n).fenced = true →
        exec (.slvLaneTest t slot tag n) s = .next (s.settled
          ((b.updLane n fun y => { y with queued := true, cmd := some (c 1) }).grant.setQueue (Page.reg .slv 0 Off.SLV_CMD) [c 1]))) ∧
      exec (.slvLaneRelease t slot tag n) s = .next (s.settled
        ((((b.updLane n fun y => { y with held := false, fails := 0, since := max s.now t }).wrp .slv 0 Off.SLV_CMD_STAT
          ((statWord .ok tag).setBit 25 false)).irq .slv 0 3).setQueue (Page.reg .slv 0 Off.SLV_CMD) []))) ∧
    (s.MayCommand slot x .config .slot n → (s.slot n).build = .none → (s.slot n).cyc = none → (s.slot n).begun = [] → n < s.slv.slots.length →
      let b := s.counted t x .slot n Off.SLOT_CMD
      let c := fun k : Nat => (⟨cmdWord k tag 0, slot, x.priv, max s.now t, []⟩ : QCmd)
      let held := fun (k : Nat) (f : State → State) =>
        s.settled (f ((b.setQueue (Page.reg .slot n Off.SLOT_CMD) [c k]).updSlot n fun y => { y with begun := [.waiting] }))
      (s.md.mode = .commission → (s.slot n).cfg.isSome = true →
        exec (.slotScreedBuild t slot tag n) s =
          .next (held 1 fun u => (u.updSlot n fun y => { y with build := .waiting, buildCmd := some (c 1) }).grant)) ∧
      (s.md.mode = .commission → (s.slot n).cfg.isSome = true → (s.slot n).screed.isSome = true →
        exec (.slotTrial t slot tag n) s =
          .next (held 2 fun u => (u.updSlot n fun y => { y with trialCmd := some (c 2) }).startCycle n (s.slot n).nextNum true)) ∧
      (slvModeOk s.md.mode = true →
        exec (.slotColdNext t slot tag n) s = .next (s.settled
          ((((b.setQueue (Page.reg .slot n Off.SLOT_CMD) [c 3]).updSlot n fun y => { y with coldPend := true, begun := [] }).setQueue (Page.reg .slot n Off.SLOT_CMD)
            []).complete .slot n Off.SLOT_CMD_STAT .ok tag 8))) ∧
      ((slvModeOk s.md.mode = true ∨ s.md.mode = .standby) →
        exec (.slotCapture t slot tag n) s = .next (held 4 id)))) ∧
  (∀ (s : State) (t slot tag len : Nat) (x : Session), s.MayCommand slot x .operate .sdata 0 →
    let b := s.counted t x .sdata 0 Off.SDATA_CMD
    let done := fun (u : State) => s.settled ((u.updSess slot fun y => { y with sdStat := statWord .ok tag }).sessIrq slot 1)
    let n := x.sdSel.fld 0 3
    let bs := stageBytes x len
    let r := parseSeries bs
    (b.isDispatch n = true → leAt bs 1 1 = 0 → 1 ≤ leAt bs 12 2 → leAt bs 12 2 ≤ 192 → len = 16 + 8 * leAt bs 12 2 → seriesOk b.slv.disp r = true →
      exec (.commitSeries t slot tag len) s = .next (done
        { b with slv := { b.slv with
          series := (b.slv.series.filter fun y => !(y.code == r.code && y.scope == r.scope)) ++ [r], serHist := noteOld b.now b.slv.series b.slv.serHist } })) ∧
    (∀ (y : Screed), x.priv.ge .config = true → s.md.mode = .commission → leAt bs 0 2 = 0x4B53 → leAt bs 2 1 = 1 → leAt bs 3 1 = n → leAt bs 8 4 = 0 →
      len = 16 * (leAt bs 12 4 + 1) → len ≤ 3840 → (b.slot n).screed = some y → y.fig.id = w32 (leAt bs 4 4) →
      exec (.commitSkim t slot tag len) s = .next (done (b.updSlot n fun z => { z with
        hostSkim := some ⟨w32 (leAt bs 4 4), 0, (List.range (leAt bs 12 4)).map fun i =>
          ⟨leAt bs (16 + 16 * i) 1, leAt bs (20 + 16 * i) 4, BitVec.ofNat 64 (leAt bs (24 + 16 * i) 8)⟩⟩ }))) ∧
    exec (.clearStage t slot tag) s = .next (done (b.updSess slot fun y => { y with stage := [] })))

/-- A loop's sample (R240–R246, R254–R259): in its own frame a running loop whose inputs its start and latch have journaled computes by the law that stands, from
the values its start took, and commits at its output instant, or misses by the first reason that holds; captures take the sample, a test advances, and what the
host has written meanwhile stands. While its loop is being made good, it waits; `late` when that cannot end in time. -/
def Obligations.LoopSamplesRun : Prop :=
  ∀ (s : State) (t n : Nat) (c : LoopCfg) (j : LoopJr),
    let b := s.begin t
    let F := b.frameStart
    let a := Page.reg .loop (loopPage n) Off.LOOP_CMD
    b.md.crossing = none → b.loopFrame n = true → b.md.mode.loopsRun = true → b.md.mode ≠ .standby → (b.loop n).running = true → (b.loop n).next = none →
    (b.loop n).due = none → (b.loop n).cfg = some c → (b.loop n).jr = some j → j.frame = F → j.latched = true → b.queue a = [] →
    let d := (((b.updLoop n fun l => { l with due := none, sampled := some F }).reachedAt (.loop n) F).loopWaits).setQueue a []
    let l := workOn (d.loop n)
    let x := latchOf l j
    let e := d.updLoop n fun _ => { l with r := if l.fresh then x.y else l.r, fresh := false, sampMode := l.mode }
    let law := e.lawOf c (e.loop n) x
    let at_ := d.time64At (d.latchAt n F)
    let first := match l.test with | some y => y.j == 0 | none => false
    let dt := match l.test with | some y => testSignal c y | none => F64.zero
    let onOut := match l.test with | some y => y.onOut | none => false
    let ends := fun (u : State) => (match (u.loop n).test with
      | none => u
      | some y => match testStep y with
        | some z => u.updLoop n fun k => { k with test := some z }
        | none => u.endTest n).updLoop n (settleRegs (d.loop n))
    let missed := fun (why : Nat) => ends ((e.loopMiss n why (law.1 != .pid)).capSample n F (F64.clamp (tuneOf l tSpLo) (tuneOf l tSpHi) (e.loop n).r) x.y true
      (l.mode != l.sampMode) first at_)
    (∀ why : Nat, b.inMg (.loop n) = false → missWhy (e.loop n) law.1 x law.2.1 false b.handoverFrame = some why →
      exec (.loopSample t n false []) s = .next (s.settled (b.withCommit (.loop n) fun _ => missed why))) ∧
    (b.inMg (.loop n) = false → missWhy (e.loop n) law.1 x law.2.1 false b.handoverFrame = none →
      let r := e.loopComplete n c law.1 x dt onOut law.2.2.1 law.2.2.2 at_ (max b.now (b.outAt n F))
      exec (.loopSample t n false []) s = .next (s.settled (b.withCommit (.loop n) fun _ => ends (r.1.capSample n F r.2 x.y false (l.mode != l.sampMode) first at_)))) ∧
    (∀ chk : List MemFind, b.inMg (.loop n) = true →
      exec (.loopSample t n false chk) s = .next (s.settled (b.withCommit (.loop n) fun _ => b.updLoop n fun k => { k with due := some (F, b.handoverFrame) }))) ∧
    (∀ (why : Nat) (chk : List MemFind), missWhy (e.loop n) law.1 x law.2.1 true b.handoverFrame = some why →
      exec (.loopSample t n true chk) s = .next (s.settled (b.withCommit (.loop n) fun _ => (missed why).mgAbandon (· == .loop n))))

/-- LOOP.CMD (R250, R261–R263, R268): NOP completes at once; a mode, a test and its end act at once on a loop that takes no samples, and on one that does they
wait for its next sample; a tuning pair takes its checked value at the HI write, and the loop cuts in. LCAP.CMD (R264, R265, R269): ARM takes the loop,
trigger, decimation and count that LCAP.CFG gives; STOP ends a running capture as DONE and an armed one as IDLE. -/
def Obligations.LoopAndCaptureCommandsAct : Prop :=
  (∀ (s : State) (t slot tag n : Nat) (x : Session), n < 48 → slot < 8 →
    (s.MayCommand slot x .config .loop (n / 8) →
      let a := Page.reg .loop (n / 8) Off.LOOP_CMD
      let b := s.counted t x .loop (n / 8) Off.LOOP_CMD
      let c := fun (k e : Nat) => (⟨cmdWord k tag (16 * (n % 8) + 65536 * e), slot, x.priv, max s.now t, []⟩ : QCmd)
      let q := fun k e : Nat => b.setQueue a [c k e]
      let done := fun (u : State) => s.settled ((u.complete .loop (n / 8) Off.LOOP_CMD_STAT .ok tag).setQueue a [])
      exec (.loopNop t slot tag n) s = .next (done (q 0 0)) ∧
      (∀ (k : LoopCfg) (m : LoopMode), (b.loop n).cfg = some k → setModeOk s.md.mode = true → (b.loop n).mode ≠ .off → m ≠ .off →
        LoopMode.ofCode m.code = some m → m.code < 8 → ¬ (m = .cascade ∧ k.spKind = 0) → ¬ (m = .track ∧ k.trkKind = 0) → 
        let d := q 1 m.code
        let u := ((if (b.loop n).mode == m then d else d.endTest n).setLoopMode n m 1).updLoop n fun l => { l with stat := l.stat.setBit 15 false }
        ((b.loop n).running = false → exec (.loopSetMode t slot tag n m.code) s = .next (done u)) ∧
        ((b.loop n).running = true → exec (.loopSetMode t slot tag n m.code) s = .next (s.settled d))) ∧
      (∀ (u : State), (q 2 0).testStart n = (.ok, u) →
        ((b.loop n).running = false → exec (.loopTestStart t slot tag n) s = .next (done u)) ∧
        ((b.loop n).running = true → (b.loop n).cfg.isSome = true → exec (.loopTestStart t slot tag n) s = .next (s.settled (q 2 0)))) ∧
      ((b.loop n).test.isSome = true →
        ((b.loop n).running = false → exec (.loopTestStop t slot tag n) s =
          .next (done (((q 3 0).updLoop n fun l => { l with test := none }).irq .loop (n / 8) (18 + n % 8)))) ∧
        ((b.loop n).running = true → (b.loop n).cfg.isSome = true → exec (.loopTestStop t slot tag n) s = .next (s.settled (q 3 0))))) ∧
    (∀ (k : Nat) (val : Word) (d : RegDef) (c : LoopCfg), k < 23 → s.MayWrite slot x .loop (n / 8) (loopOff n (0x44 + 8 * k)) d →
      let b := s.counted t x .loop (n / 8) (loopOff n (0x44 + 8 * k))
      let v := b.pairValue slot (Page.reg .loop (n / 8) (loopOff n (0x40 + 8 * k))) (tuneOf (b.loop n) k) val
      (b.loop n).cfg = some c → tuneOk (loopT c) (b.loop n).tune k v = true →
      exec (.loopTuneHiWrite t slot n k val) s = .next (s.settled (b.updLoop n fun l => { l with tune := setAt l.tune k v, cutWr := true })))) ∧
  (∀ (s : State) (t slot tag k : Nat) (x : Session), k < 4 → s.MayCommand slot x .operate .lcap 0 → lcapModeOk s.md.mode = true →
    let b := s.counted t x .lcap 0 Off.LCAP_CMD
    let done := fun (u : State) => s.settled (u.complete .lcap 0 Off.LCAP_CMD_STAT .ok tag)
    let c := b.lp.caps.getD k {}
    let w := b.rdp .lcap 0 (Off.LCAP_CFG0 + 4 * k)
    (c.st ≠ .armed → c.st ≠ .running → (b.loop (w.fld 0 6)).mode ≠ .off → w.fld 8 8 ≠ 0 → w.fld 16 15 ≠ 0 → w.fld 16 15 ≤ 16384 →
      exec (.lcapArm t slot tag k) s = .next (done { b with lp := { b.lp with
        caps := setAt b.lp.caps k { st := .armed, loop := w.fld 0 6, trig := w.fld 6 2, decim := w.fld 8 8, count := w.fld 16 15, since := b.now } } })) ∧
    (c.st = .running → exec (.lcapStop t slot tag k) s =
      .next (done (({ b with lp := { b.lp with caps := setAt b.lp.caps k { c with st := .done } } } : State).irq .lcap 0 (2 + k)))) ∧
    (c.st = .armed → exec (.lcapStop t slot tag k) s = .next (done { b with lp := { b.lp with caps := setAt b.lp.caps k { c with st := .idle } } })))

/-- Conversions of a slice group (R272–R276, R278, R280): a one-slot conversion that ends in time goes through the correction chain and its nominal range; a
calibration result in its window is kept, the third failure in a row fences; two agreeing reference measurements settle the converter, the bound sets REF_FAULT. -/
def Obligations.ConversionsRun : Prop :=
  ∀ (s : State) (t g : Nat),
    let b := s.begin t
    let x := b.grp g
    x.running = true → x.cause = none → b.md.mode ≠ .standby →
    (∀ (code : Word), x.inCal = false → x.pos < (b.scan g).length → b.now ≤ x.convFrom + 2 * convPeriod x.cfg.period → x.convOk = true →
      let n := (b.scan g).getD x.pos 0
      let c := (b.slc n).cfg
      let cx := F64.mul (F64.sub (F64.ofInt (code24 code)) (calVal g 0 x.zeros)) (calVal g 1 x.gains)
      let v := userStages c x.usr (State.factoryStage n c cx)
      slotsOf c = 1 → (b.slc n).lead = none → F64.fin v.2 = true →
      exec (.conversionEnd t g code false false) s =
        .next (s.settled ((b.loadInput n v.2 (rawWord code) (gradeOf c v.1).1 (gradeOf c v.1).2).nextConv g))) ∧
    (∀ res : Word64, x.inCal = true → b.now ≤ x.convFrom + 2 * convPeriod x.cfg.period →
      exec (.calibrationSlot t g res true) s = .next (s.settled
        (((b.updGrp g fun y => { y with
            zeros := if y.calNo % 2 = 1 then (res :: y.zeros).take 2 else y.zeros
            gains := if y.calNo % 2 = 0 then (res :: y.gains).take 2 else y.gains
            calNo := y.calNo + 1, calRun := 0 }).modp .adc g Off.ADC_CAL_DONE).endScan g))) ∧
    (∀ res : Word64, x.inCal = true → b.now ≤ x.convFrom + 2 * convPeriod x.cfg.period →
      let u := (((b.updGrp g fun y => { y with calNo := y.calNo + 1, calRun := satAdd 255 y.calRun 1 }).satp .adc g Off.ADC_CAL_FAIL).irq .adc g 2).endScan g
      exec (.calibrationSlot t g res false) s = .next (s.settled (if (u.grp g).calRun ≥ 3 then u.fenceGroup g 3 else u))) ∧
    (∀ meas a : Nat, x.settled = false → x.lastMeas = some a → agree20 a meas = true →
      exec (.refSettleCheck t g meas) s = .next (s.settled
        ((b.updGrp g fun y => { y with settled := true, refFault := false, faultFrom := none, lastMeas := none, settleUs := (b.now - y.checkFrom) / us }).irq
          .adc g 1))) ∧
    (∀ meas : Nat, x.settled = false → x.lastMeas = none →
      exec (.refSettleCheck t g meas) s = .next (s.settled (b.updGrp g fun y => { y with lastMeas := some meas }))) ∧
    (x.settled = false → x.checkFrom + settleBound x.refUsed ≤ b.now →
      exec (.refSettleTimeout t g) s =
        .next (s.settled ((b.updGrp g fun y => { y with refFault := true, faultFrom := some (y.faultFrom.getD b.now) }).irq .adc g 3)))

/-- Discrete inputs, counters, modulators and output diagnostics (R271, R282–R284, R286): the twelve levels of a group are taken in order, a frequency gate divides
edges by their time, a frame's mean goes through the chain, an output at its limit trips, a readback outside its tolerance is an event, a test-pulse supply falls
in every group. -/
def Obligations.SliceEventsAct : Prop :=
  ∀ (s : State) (t n : Nat),
    let b := s.begin t
    let g := grpOf n
    let c := (b.slc n).cfg
    (∀ levels ovc : Nat, (b.grp g).running = true → (b.grp g).cause = none →
      exec (.discreteInputSample t g levels ovc) s =
        .next (s.settled ((List.range 12).foldl (fun u j => u.sampleDI (12 * g + j + 1) (levels.testBit j) (ovc.testBit j)) b))) ∧
    (c.func = 9 → c.opt0 = true → (b.grp g).cause = none → 2 ≤ (b.slc n).gateN → (b.slc n).gateT0 < (b.slc n).gateT1 →
      exec (.cntGate t n) s = .next (s.settled ((b.updSlc n fun y => { y with
        val := F64.div (F64.mul (F64.ofNat (b.slc n).gateN) (F64.ofNat sec)) (F64.ofNat ((b.slc n).gateT1 - (b.slc n).gateT0))
        qual := .good, reason := 0, gateN := 0, ts := b.time64At b.now, at_ := some b.now }).mirrorSlc n))) ∧
    (∀ samples : List Int, c.func = 6 → (b.grp g).running = true → (b.grp g).cause = none → b.md.mode ≠ .standby →
      let v := (userStages c (b.rdp .slc g (slcOff n 0x1C), b.rdp .slc g (slcOff n 0x20))
        (State.factoryStage n c (F64.mean (samples.map F64.ofInt)))).2
      (F64.fin v = true → exec (.modFrame t n samples false) s = .next (s.settled (b.loadInput n v 0 .good 0))) ∧
      exec (.modFrame t n samples true) s = .next (s.settled (b.loadInput n v 0 .bad 9))) ∧
    (n ≠ 0 → (c.func = 0xA ∨ c.func = 0xB ∨ c.func = 0xC ∨ c.func = 0xF) → Page.present b.variant .slc g = true →
      exec (.outputOvercurrent t n) s = .next (s.settled
        (((b.updSlc n fun x => { x with tripped := true, tripAt := b.now, reason := 7 }).satf .slc g (slcOff n 0x3C) 0 16).irq .slc g 3))) ∧
    (∀ rb : Word, n ≠ 0 → (c.func = 0xB ∨ c.func = 0xD ∨ c.func = 0xE) → Page.present b.variant .slc g = true →
      let d := b.updSlc n fun x => { x with rb := rb }
      (rbWrong c.func (d.terminal n) (F64.ofF32 rb) = true →
        exec (.readbackMismatch t n rb) s = .next (s.settled
          ((((d.updSlc n fun x => { x with reason := 8 }).satf .slc g (slcOff n 0x3C) 16 15).putf .slc g (slcOff n 0x3C) 31 1 1).irq .slc g 3))) ∧
      (rbWrong c.func (d.terminal n) (F64.ofF32 rb) = false →
        exec (.readbackMismatch t n rb) s = .next (s.settled (d.putf .slc g (slcOff n 0x3C) 31 1 0)))) ∧
    exec (.testPulse t false) s = .next (s.settled { b with fld := { b.fld with
      grps := b.fld.grps.map fun x => { x with tpLow := [b.now, x.tpLow.getD 1 0] } } }) ∧
    exec (.testPulse t true) s = .next (s.settled { b with fld := { b.fld with
      grps := b.fld.grps.map fun x => { x with tpLow := [x.tpLow.getD 0 0, b.now] } } })

/-- Fences of slice groups (R287–R290, R293) and the user calibration (R281): a first cause fences the group with its record and
its inputs turn BAD, a passed retest unfences it, and so do the commands; a user calibration within its range is stored and recorded. -/
def Obligations.GroupFencesAct : Prop :=
  ∀ (s : State) (t slot tag g : Nat) (x : Session),
    (let b := s.begin t
     (∀ cause : Nat, Page.present b.variant .slc g = true → (b.grp g).running = true → (b.grp g).cause = none →
       let c := b.updGrp g fun y => { y with cause := some cause, fencedAt := b.now, fences := satAdd 65535 y.fences 1, inCal := false }
       let d := (grpSlices g).foldl (fun u n => u.updSlc n fun y =>
         if y.cfg.func = 0 ∨ isOut y.cfg.func ∨ y.cfg.func = 0xF then y else { y with qual := .bad, reason := 6, lead := none }) c
       let e := (grpSlices g).foldl (fun u n => u.mirrorSlc n) d
       exec (.groupFence t g cause) s =
         .next (s.settled ((((e.satp .slc g Off.SLC_FENCES).irq .slc g 1).record 0x0601 (w32 g) (w32 cause) 0).trigger .unit))) ∧
     (∀ (r : Retest) (k : Nat), (b.grp g).cause = some k → k ≠ 5 → (b.grp g).fencedAt + 10 * sec ≤ b.now → retestPass r = true →
       let c := b.updGrp g fun y => { y with cause := none, retesting := false, calRun := 0 }
       let d := (grpSlices g).foldl (fun u n => u.updSlc n fun y => if isOut y.cfg.func && !isSdo y.cfg.func then { y with held := true } else { y with candAt := b.now }) c
       exec (.groupRetest t g r) s =
         .next (s.settled (((((d.startCheck g).restartScan g).irq .slc g 2).record 0x0602 (w32 g) (w32 k) 0).trigger .unit))) ∧
     (∀ (r : Retest) (c : QCmd), (b.grp g).cause = some 5 → b.queue (Page.reg .slc g Off.SLC_CMD) = [c] → c.word.fld 0 4 = 2 → c.priv.ge .service = true →
       commMaint b.md.mode = true → retestPass r = true →
       exec (.groupRetest t g r) s = .next (s.settled
         (((b.unfenceGroup g).complete .slc g Off.SLC_CMD_STAT .ok (c.word.fld 8 8) 4).setQueue (Page.reg .slc g Off.SLC_CMD) [])))) ∧
    (s.MayCommand slot x .service .slc g → commMaint s.md.mode = true →
      let b := s.counted t x .slc g Off.SLC_CMD
      exec (.slcFence t slot tag g) s = .next (s.settled
        (((b.fenceGroup g 5).complete .slc g Off.SLC_CMD_STAT .ok tag 4).setQueue (Page.reg .slc g Off.SLC_CMD) [])) ∧
      ((b.grp g).cause = some 5 →
        exec (.slcUnfence t slot tag g) s =
          .next (s.settled (b.setQueue (Page.reg .slc g Off.SLC_CMD) [⟨cmdWord 2 tag 0, slot, x.priv, max s.now t, []⟩])))) ∧
    (∀ (n : Nat) (gain : Bool) (val : Word) (d : RegDef), 1 ≤ n → n ≤ 48 →
      let o := slcOff n (if gain then 0x20 else 0x1C)
      s.MayWrite slot x .slc (grpOf n) o d → F64.fin (F64.ofF32 val) = true →
      let b := s.counted t x .slc (grpOf n) o
      (if gain then F64.le (F64.q 9 10) (F64.ofF32 val) && F64.le (F64.ofF32 val) (F64.q 11 10)
        else F64.le (F64.mul (F64.ofNat 100) (F64.abs (F64.ofF32 val))) (F64.mul (F64.ofNat 5) (nominalSpan (b.slc n).cfg))) = true →
      exec (.slcUserCalWrite t slot n gain val) s =
        .next (s.settled ((b.wrp .slc (grpOf n) o val).recordCfg (Page.reg .slc (grpOf n) o) (b.rdp .slc (grpOf n) o) val)))

/-- Metering (R297–R306, R313, R319): a window whose channels are not BAD adds its energies to the accumulators that its power feeds, one with a BAD channel adds an
estimate of the last billable power and error time; a half-cycle moves the three kinds of voltage event on, or notes the channels that it lost; an interval step
does the work of its end and commits what was built; the oldest fixed record is signed, or stored unsigned. Each is journaled. -/
def Obligations.MeteringEventsAct : Prop :=
  ∀ (s : State) (t : Nat),
    let b := s.begin t
    (∀ (p : Nat) (chans : List (Qual × List Word64)), b.mtr.running = true → (b.elCfg p).on = true → p < 8 →
      let c := b.elCfg p
      let x := b.el p
      (∀ freq : Word64,
        let ch := b.mtrChans p 6 chans
        let ql := fun k => (ch.getD k (.bad, [])).1
        let used := (elements c.conn).flatMap fun e => [e, e + 3]
        let n := (ch.getD (used.headD 0) (.bad, [])).2.length
        let d := b.journalMtr (.window b.now p freq ch)
        (b.inMg .metering = true → exec (.meterWindowEnd t p freq chans) s = .next (s.settled d)) ∧
        (b.inMg .metering = false → (∀ k ∈ used, ql k ≠ .bad) →
          ∃ y : ElPoint, y.freq = freq ∧ y.fOut = freqOut b.mtr.cfg.f60 freq ∧ y.est = false ∧ y.pGood = some y.p ∧ y.errUs = x.errUs ∧
            y.pf = (if F64.isZ y.s then F64.zero else F64.div y.p y.s) ∧
            (y.acc, y.res) = accAdds x.acc x.res (energies y.p (winEnergy y.p n) (winEnergy y.q n) (winEnergy y.s n) y.q) ∧
            exec (.meterWindowEnd t p freq chans) s = .next (s.settled (d.updEl p fun _ => y))) ∧
        (∀ k : Nat, b.inMg .metering = false → k ∈ used → ql k = .bad →
          ∃ y : ElPoint, y.freq = freq ∧ y.est = true ∧ y.pGood = x.pGood ∧ y.errUs = x.errUs + n * 125 ∧
            (y.acc, y.res) = (match (if x.seen then x.pGood else none) with
              | some g => accAdds x.acc x.res [(if F64.lt g F64.zero then 9 else 8, winEnergy (F64.abs g) n)]
              | none => (x.acc, x.res)) ∧
            exec (.meterWindowEnd t p freq chans) s =
              .next (s.settled (if x.est then d.updEl p fun _ => y else (d.updEl p fun _ => y).irq .mtr 0 5)))) ∧
      (let ch := b.mtrChans p 3 chans
       let els := elements c.conn
       let ql := fun k => (ch.getD k (.bad, [])).1
       let lost := maskOf (els.filter fun k => ql k == .bad)
       let d := b.journalMtr (.half b.now p ch)
       let e := (if lost &&& (7 - x.lost % 8) ≠ 0 then d.pqCut p else d).updEl p fun y => { y with lost := lost }
       let u := (els.filter fun k => ql k != .bad).map fun k => (k, rms (ch.getD k (.bad, [])).2)
       let pct := fun (v : Word64) => F64.mul (F64.div v (F64.ofF32 c.udin)) (F64.ofNat 100)
       let thr := fun k : Nat => F64.ofNat (c.thr.fld (8 * k) 8)
       let hyst := F64.q (c.thr.fld 24 8) 10
       let of := fun (f : Word64 → Bool) => maskOf ((u.filter fun y => f (pct y.2)).map (·.1))
       let lo := u.foldl (fun m y => F64.fmin m y.2) F64.inf
       let hi := u.foldl (fun m y => F64.fmax m y.2) F64.zero
       (b.inMg .metering = true → exec (.pqHalfCycle t p chans) s = .next (s.settled d)) ∧
       (b.inMg .metering = false → (∀ k ∈ els, ql k = .bad) → exec (.pqHalfCycle t p chans) s = .next (s.settled e)) ∧
       (∀ k : Nat, b.inMg .metering = false → k ∈ els → ql k ≠ .bad →
         exec (.pqHalfCycle t p chans) s = .next (s.settled
           (((e.pqKind p 0 (u.any fun y => F64.lt (pct y.2) (thr 0)) (!u.all fun y => F64.le (F64.add (thr 0) hyst) (pct y.2)) lo (of fun v => F64.lt v (thr 0))).pqKind
             p 1 (u.any fun y => F64.lt (thr 1) (pct y.2)) (!u.all fun y => F64.le (pct y.2) (F64.sub (thr 1) hyst)) hi (of fun v => F64.lt (thr 1) v)).pqKind
             p 2 (u.all fun y => F64.lt (pct y.2) (thr 2)) (!u.any fun y => F64.le (F64.add (thr 2) hyst) (pct y.2)) lo (of fun v => F64.lt v (thr 2))))))) ∧
    (∀ bad : Nat, b.mtr.running = true → b.md.pstate.ctl = true → b.mtr.startAt + (b.mtr.steps + 1) * stepNs ≤ b.now → b.md.mode ≠ .standby → b.md.crossing = none →
      let d : State := { b with mtr := { b.mtr with steps := b.mtr.steps + 1 } }
      let e := MtrEv.step b.now (b.mtr.steps + 1) bad d.heatIns
      (b.inMg .metering = false →
        ∃ u : State, u = (d.journalMtr e).atInstant b.now (fun y => y.stepEnd (b.mtr.steps + 1) bad d.heatIns) ∧ u.mtr.jrn = [] ∧ u.mtr.c = { u.mtr.w with recNo := u.mtr.recNext } ∧
          exec (.meterIntervalStep t bad []) s = .next (s.settled (b.withCommit .metering fun _ => u))) ∧
      (∀ chk : List MemFind, b.inMg .metering = true →
        exec (.meterIntervalStep t bad chk) s = .next (s.settled (b.withCommit .metering fun _ => d.journalMtr e)))) ∧
    (∀ (r : List Byte) (slot : Nat) (rest : List (List Byte × Nat)), b.mtr.hold = (r, slot) :: rest → b.md.pstate.cmp = true → b.stepsMirrored = true →
      let put := fun y : List Byte =>
        let l := b.mtr.recs ++ [(leAt y 4 4, y)]
        ({ b with mtr := { b.mtr with hold := rest, recs := l.drop (l.length - recMax) } } : State).irq .mtr 0 4
      (∀ k : List Byte, b.keyOf slot useSign = some k →
        exec (.billingRecordSign t) s = .next (s.settled (put (r ++ if r.getD 25 0 &&& 128 = 0 then P256.sign (P256.beNat k) r else List.replicate 64 0)))) ∧
      (b.keyOf slot useSign = none →
        let d := put (setAt r 25 (r.getD 25 0 ||| 128) ++ List.replicate 64 0)
        exec (.billingRecordSign t) s = .next (s.settled (d.recordGen 0x07 .mtr 0 Off.MTR_KEY_SLOT (d.rdp .mtr 0 Off.MTR_KEY_SLOT)))))

/-- Writes of the metering pages (R298, R320, R325, R328): SAVE_NOW and MAXDEM_RESET wait for the end of the interval step, where they ask for a save and clear
the maxima; a correction is recorded with both values; a record is selected. -/
def Obligations.MeteringWritesAct : Prop :=
  ∀ (s : State) (t slot tag : Nat) (x : Session),
    (s.MayCommand slot x .config .mtr 0 → slot < 8 →
      let b := s.counted t x .mtr 0 Off.MTR_CMD
      let c := fun k : Nat => (⟨cmdWord k tag 0, slot, x.priv, max s.now t, []⟩ : QCmd)
      exec (.mtrSaveNow t slot tag) s = .next (s.settled (b.setQueue mtrCmdAddr [c 1])) ∧
      exec (.mtrMaxdemReset t slot tag) s = .next (s.settled (b.setQueue mtrCmdAddr [c 2])) ∧
      (∀ u : State, u.md.mode ≠ .standby → u.queue mtrCmdAddr = [c 1] →
        u.mtrCmds = ({ u.setQueue mtrCmdAddr [] with mtr := { u.mtr with saveNow := true } } : State).complete .mtr 0 Off.MTR_CMD_STAT .ok tag) ∧
      (∀ u : State, (u.md.mode = .commission ∨ u.md.mode = .maintenance) → u.queue mtrCmdAddr = [c 2] →
        u.mtrCmds = (({ u.setQueue mtrCmdAddr [] with mtr := { u.mtr with w := { u.mtr.w with els := u.mtr.w.els.map fun y =>
          { y with maxDem := F64.zero, maxAt := 0 } } } } : State).recordClr (Page.reg .mtr 0 Off.MTR_CMD) (cmdWord 2 tag 0)).complete .mtr 0 Off.MTR_CMD_STAT .ok
            tag)) ∧
    (∀ (p ch : Nat) (val : Word) (d : RegDef), p < 8 → ch < 6 → s.MayWrite slot x .mtr 0 (0x2D0 + 0x100 * p + 4 * ch) d →
      let o := 0x2D0 + 0x100 * p + 4 * ch
      let b := s.counted t x .mtr 0 o
      exec (.mtrCorrWrite t slot p ch val) s =
        .next (s.settled (((b.wrp .mtr 0 o val).recordCfg (Page.reg .mtr 0 o) (b.rdp .mtr 0 o) val).billFlag [p] 4))) ∧
    (∀ (val : Word) (d : RegDef), s.MayWrite slot x .mtr 0 Off.MTR_REC_SEL d →
      let b := s.counted t x .mtr 0 Off.MTR_REC_SEL
      exec (.mtrRecSelWrite t slot val) s = .next (s.settled
        { (b.wrp .mtr 0 Off.MTR_REC_SEL val) with mtr := { b.mtr with recMiss := !(b.mtr.recs.any fun r => r.1 = val.toNat) } }))

/-- Tasks (R339–R341, R344, R348): a release runs the task's cycle, one while the last still executes is an overrun, an acknowledgement reaches every task or
the block's own, a pair of HIN takes the word and the LO word before it. FORCE.CMD (R349–R358): a mask on an output awaits its release, one on a block acts at
once; each application and removal is recorded; the release that is due drives the forced value and completes the command. -/
def Obligations.TasksRunAndMasksAct : Prop :=
  (∀ (s : State) (t slot n : Nat) (x : Session),
    (let b := s.begin t
     ∀ (us f : Nat), b.md.crossing = none → b.md.mode.tasksRun = true → (b.task n).running = true → b.taskFrame n = some f →
      (∀ g : PrgImage, b.md.mode ≠ .standby → (b.task n).exchDue = false → b.inMg (.task n) = false → (b.task n).busyTill ≤ b.now →
        (b.task n).img = some g →
        let u := b.reached (.task n)
        exec (.taskRelease t n us []) s =
          .next (s.settled (b.withCommit (.task n) fun _ => (u.updTask n fun y => { y with acks := [] }).taskCommit n (u.taskRun g n f us)))) ∧
      (∀ chk : List MemFind, b.inMg (.task n) = true ∨ b.now < (b.task n).busyTill →
        exec (.taskRelease t n us chk) s = .next (s.settled (b.withCommit (.task n) fun _ =>
          ((b.updTask n fun y => { y with overrun := true }).satp .prg 0 (taskOff n 0x10)).irq .prg 0 1)))) ∧
    (∀ d : RegDef, s.MayWrite slot x .prg 0 Off.PRG_ALM_ACK d →
      let b := s.counted t x .prg 0 Off.PRG_ALM_ACK
      exec (.prgAlmAck t slot 0xFFFFFFFF) s = .next (s.settled { b with prg := { b.prg with
        tasks := b.prg.tasks.map fun y => { y with acks := y.acks ++ [max32] } } }) ∧
      (∀ (val : Word) (k : Nat) (r : List Nat), val.toNat ≠ max32 →
        ((List.range 16).filter fun j => match (b.task j).img with
          | some g => (blocksOf g j).any fun y => isAlarm y.typ && y.id == val.toNat
          | none => false) = k :: r →
        exec (.prgAlmAck t slot val) s = .next (s.settled (b.updTask k fun y => { y with acks := y.acks ++ [val.toNat] })))) ∧
    (∀ (k : Nat) (val : Word) (d : RegDef), k < 16 →
      let o := Off.PRG_HIN0_LO + 8 * k
      s.MayWrite slot x .prg 0 (o + 4) d →
      let b := s.counted t x .prg 0 (o + 4)
      let v := b.pairValue slot (Page.reg .prg 0 o) (pair64 (b.rdp .prg 0 o) (b.rdp .prg 0 (o + 4))) val
      exec (.prgHinHiWrite t slot k val) s = .next (s.settled ((b.wrp .prg 0 o (lo32 v)).wrp .prg 0 (o + 4) (hi32 v))))) ∧
  (∀ (s : State) (t slot tag : Nat) (x : Session),
    (s.MayCommand slot x .service .force 0 → commMaint s.md.mode = true → s.prg.due = [] →
      let b := s.counted t x .force 0 Off.FORCE_CMD
      let a := Page.reg .force 0 Off.FORCE_CMD
      let kind := (b.rdp .force 0 Off.FORCE_T_KIND).fld 0 4
      let v := pair64 (b.rdp .force 0 Off.FORCE_T_VAL_LO) (b.rdp .force 0 Off.FORCE_T_VAL_HI)
      let c := fun k : Nat => (⟨cmdWord k tag 0, slot, x.priv, max s.now t, b.cmdArgs .force⟩ : QCmd)
      let applied := fun (k : MaskKind) =>
        let ms := if b.prg.masks.any (·.kind == k) then b.prg.masks.map fun y => if y.kind == k then (⟨k, v⟩ : Mask) else y else b.prg.masks ++ [⟨k, v⟩]
        ((({ b with prg := { b.prg with masks := ms } } : State).recordMask ⟨k, v⟩ 1).irq .force 0 2).satp .force 0 Off.FORCE_APPLIED
      let removed := fun (m : Mask) =>
        (({ b with prg := { b.prg with masks := b.prg.masks.filter (·.kind != m.kind) } } : State).recordMask m 2).irq .force 0 2
      let owed := fun (k : Nat) (u : State) (ts : List Target) =>
        s.settled (({ u with prg := { u.prg with due := ts } } : State).setQueue a [c k])
      let done := fun (u : State) => s.settled ((u.complete .force 0 Off.FORCE_CMD_STAT .ok tag).setQueue a [])
      (∀ k : MaskKind, b.maskTarget kind (b.rdp .force 0 Off.FORCE_T_ADDR) = (.ok, some k) → b.maskInRange k v = true → b.prg.masks.length < 256 →
        (∀ o : Target, k = .out o → exec (.forceApply t slot tag) s = .next (owed 1 (applied k) [o])) ∧
        ((∀ o : Target, k ≠ .out o) → exec (.forceApply t slot tag) s = .next (done (applied k)))) ∧
      (∀ m : Mask, b.maskTarget kind (b.rdp .force 0 Off.FORCE_T_ADDR) = (.ok, some m.kind) → b.prg.masks.find? (·.kind == m.kind) = some m →
        (∀ o : Target, m.kind = .out o → exec (.forceRemove t slot tag) s = .next (owed 2 (removed m) [o])) ∧
        ((∀ o : Target, m.kind ≠ .out o) → exec (.forceRemove t slot tag) s = .next (done (removed m)))) ∧
      (s.prg.masks = [] → exec (.forceRemoveAll t slot tag) s = .next (done { b with prg := { b.prg with masks := [] } })) ∧
      (∀ (o : Target) (v : Word64), s.prg.masks = [⟨.out o, v⟩] →
        exec (.forceRemoveAll t slot tag) s = .next (owed 3
          ((({ b with prg := { b.prg with masks := [] } } : State).recordMask ⟨.out o, v⟩ 2).irq .force 0 2) [o]))) ∧
    (let b := s.begin t
     ∀ (o : Target) (c : QCmd),
      let u := b.releaseForced o
      let d : State := { u with prg := { u.prg with due := [] } }
      b.prg.due = [o] → d.queue (Page.reg .force 0 Off.FORCE_CMD) = [c] →
      exec (.forcedRelease t) s = .next (s.settled
        ((d.complete .force 0 Off.FORCE_CMD_STAT .ok (c.word.fld 8 8)).setQueue (Page.reg .force 0 Off.FORCE_CMD) []))))

/-- Frames and the schedule of a ShaiqLink segment (R359–R370, R378, R445): a frame that no Polien connection claims is heard and filtered, the next queued frame is
decoded, URGENT before BULK, an old signal's point turns BAD, a base cycle takes its pending state and sends the reference frame, a TT slot loads, sends or is
lost, a window sends queued frames, Polien's before events. -/
def Obligations.CanScheduleRuns : Prop :=
  ∀ (s : State) (t i : Nat) (c : CanCfg),
    let b := s.begin t
    let n := i + 1
    let g := b.seg n
    g.cfg = some c →
    (∀ f : CanFrame, g.st ≠ .off →
      (b.polOfCan n f.id f.ide = [] ∨ f.rtr = true → exec (.canFrameRx t i f) s = .next (s.settled ((b.canHeard n f).canFilter n c f))) ∧
      (b.polOfCan n f.id f.ide ≠ [] → f.rtr = false →
        exec (.canFrameRx t i f) s = .next (s.settled ((b.canHeard n f).polDeliver (b.polOfCan n f.id f.ide) f.data)))) ∧
    (∀ (w : RxWait) (r : List RxWait), g.urgent = w :: r →
      exec (.canFrameDecode t i) s = .next (s.settled ((b.updSeg n fun y => { y with urgent := r }).decodeFrame n w))) ∧
    (∀ (w : RxWait) (r : List RxWait), g.urgent = [] → g.bulk = w :: r →
      exec (.canFrameDecode t i) s = .next (s.settled ((b.updSeg n fun y => { y with bulk := r }).decodeFrame n w))) ∧
    (∀ (sig l u : Nat) (d : SigD) (v : Word64), sigOf g sig = some d → lookupA sig g.rxVals = some (v, u) → u + d.timeoutMs * ms < b.now → d.point = some l →
      exec (.canSignalTimeout t i sig) s = .next (s.settled (b.localPoint l v .bad (b.time64At u)))) ∧
    (g.st ≠ .off → b.canOrigin ≤ b.now → (b.now - b.canOrigin) % baseNs c = 0 →
      let k := b.canCycleAt c b.now
      let nx := g.nextBase.getD g.st
      let d := b.updSeg n fun y => { y with cycle := k, st := nx, nextBase := none, evtQ := if g.nextBase = some .active then [] else y.evtQ }
      ((nx ≠ .active ∨ c.refEn = false) → (g.nextBase = none ∨ g.job = none) → exec (.canBaseCycle t i) s = .next (s.settled d)) ∧
      (nx = .active → c.refEn = true → (g.nextBase = none ∨ g.job = none) →
        let data := natLE 1 (k % max 1 c.matLen) ++ natLE 1 (b2n b.time.valid + 2 * b2n g.takeover + 4 * b2n (b.md.mode == .safeHold)) ++
          natLE 2 (k / max 1 c.matLen) ++ natLE 4 (if b.time.valid then (b.time64At b.now).s else 0)
        exec (.canBaseCycle t i) s = .next (s.settled ((d.canSend n c.refId false false false data).updSeg n fun y => { y with takeover := false }))) ∧
      (∀ j : QCmd, g.nextBase = some .active → g.job = some j → c.refEn = false →
        exec (.canBaseCycle t i) s = .next (s.settled ((d.updSeg n fun y => { y with job := none }).complete .can i Off.CAN_CMD_STAT .ok (j.word.fld 8 8))))) ∧
    (∀ (k : Nat) (x : TxSlot), c.slots[k]? = some x →
      (g.st = .active → slotOccurs c (b.canCycleAt c (b.now + 5 * us)) x = true →
        exec (.canTtLoad t i k) s = .next (s.settled (b.updSeg n fun y => { y with loaded := insertA k (b.txPayload n x.frame) y.loaded }))) ∧
      (∀ p : List Byte, g.st = .active → lookupA k g.loaded = some p → slotOccurs c (b.canCycleAt c (b.now - 1)) x = true →
        let d := b.updSeg n fun y => { y with loaded := eraseA k y.loaded }
        let f := c.tx.getD x.frame ⟨0, false, false, 8, true, false⟩
        exec (.canTtSlot t i k true) s = .next (s.settled (d.canSend n f.id f.ide f.fdf (f.fdf && (rateOf g).data != 0) p)) ∧
        exec (.canTtSlot t i k false) s = .next (s.settled ((d.satp .can i Off.CAN_SLOT_LOST).irq .can i 7))) ∧
      (∀ sent : Bool, g.st = .busOff → slotOccurs c (b.canCycleAt c (b.now - 1)) x = true →
        exec (.canTtSlot t i k sent) s = .next (s.settled (b.satp .can i Off.CAN_SLOT_LOST)))) ∧
    (∀ (w u len : Nat) (durs : List Nat), c.windows[w]? = some (u, len) → g.st = .active →
      exec (.canArbWindow t i w durs) s = .next (s.settled (windowLoop n ((u + len) * us) (u * us) durs b)) ∧
      (∀ (d conn : Nat) (bs : List Byte) (r : List (Nat × List Byte)), durs = [d] → g.polQ = (conn, bs) :: r →
        let id := b.polTxId conn
        u * us + frameNs g (id.testBit 29) true (fdLen bs.length) ≤ (u + len) * us →
        exec (.canArbWindow t i w durs) s =
          .next (s.settled ((b.updSeg n fun y => { y with polQ := r }).canSend n (id % 2 ^ 29) (id.testBit 29) true true (polPad bs)))))

/-- Errors, rate detection and fences of a segment (R360, R371–R376): an error sets the counters, a bus-off drops the event queue and starts the hold,
recovery follows it, a dwell that ends moves to the next candidate or, for a silent master's first one, ends with it, the timeout and the transceiver fence, a
retest begins a detection. CAN.CMD (R381): DETECT discards the stored rate and starts a detection, FENCE fences for the host, UNFENCE of such a fence starts
the detection that lifts it. -/
def Obligations.CanFaultsAndCommandsAct : Prop :=
  (∀ (s : State) (t i : Nat) (c : CanCfg),
    let b := s.begin t
    let n := i + 1
    let g := b.seg n
    g.cfg = some c →
    (∀ (kind tec rec_ : Nat) (data : Bool), g.st ≠ .off →
      let u := b.updSeg n fun y => { y with tec := tec, rec_ := rec_, lastErr := kind % 8 + 8 * b2n data }
      exec (.canBusError t i kind data tec rec_) s = .next (s.settled (if detecting g then u.nextCand n else u))) ∧
    (g.st = .active →
      let hist := (b.now :: g.busoffAt).filter fun u => u + c.winS * sec > b.now
      let d := ((b.satp .can i Off.CAN_EVT_DROP g.evtQ.length).updSeg n fun y =>
        { y with evtQ := [], busoffAt := hist, st := .busOff, recovering := false, loaded := [] }).satp .can i Off.CAN_BUSOFFS
      let e := d.irq .can i 4
      let u := e.recordGen 0x09 .can i Off.CAN_BUSOFFS (e.rdp .can i Off.CAN_BUSOFFS)
      exec (.canBusOff t i) s = .next (s.settled (if hist.length ≥ c.busoffMax then u.fenceSeg n 1 else u))) ∧
    (∀ (u : Nat) (r : List Nat), g.busoffAt = u :: r → g.st = .busOff → u + c.holdMs * ms ≤ b.now →
      exec (.canBusoffHoldExpiry t i) s = .next (s.settled (b.updSeg n fun y => { y with recovering := true }))) ∧
    (g.st = .busOff → g.recovering = true →
      exec (.canRecoveryDone t i) s = .next (s.settled (b.updSeg n fun y =>
        { y with recovering := false, nextBase := some (if b.hasToken then .active else .monitor), tec := 0, rec_ := 0 }))) ∧
    (detecting g = true → g.candFrom + c.dwellMs * ms ≤ b.now →
      ((c.master = false ∨ g.firstTry = false ∨ g.seen = true) → exec (.canDetectDwell t i) s = .next (s.settled (b.nextCand n))) ∧
      (c.master = true → g.firstTry = true → g.seen = false → exec (.canDetectDwell t i) s = .next (s.settled (b.rateFound n true)))) ∧
    (detecting g = true → g.detFrom + c.detectMaxS * sec ≤ b.now → g.st ≠ .fenced → 
      let u := b.fenceSeg n 2
      exec (.canDetectTimeout t i) s = .next (s.settled (match g.job with
        | some j => (u.updSeg n fun y => { y with job := none }).complete .can i Off.CAN_CMD_STAT (if j.word.fld 0 4 = 1 then .timeout else .state) (j.word.fld 8 8)
        | none => u))) ∧
    (n ≤ b.variant.segments → g.st ≠ .fenced → g.job = none →
      let u := State.fencePoints (b.updSeg n fun y => { y with st := .fenced, cause := 3, fencedAt := b.now, nextBase := none, retest := false, recovering := false }) n
      exec (.canTransceiverFault t i) s = .next (s.settled (((u.irq .can i 2).record 0x0601 (w32 n) (w32 3) 0).trigger .unit))) ∧
    (g.st = .fenced → g.cause ≠ 4 → g.fencedAt + 10 * sec ≤ b.now → g.retest = false →
      exec (.canRetest t i) s = .next (s.settled ((b.startDetect n true).updSeg n fun y => { y with fencedAt := b.now })))) ∧
  (∀ (s : State) (t slot tag i : Nat) (x : Session) (need : Priv), s.MayCommand slot x need .can i → need.ge .config = true → (s.seg (i + 1)).job = none →
    let n := i + 1
    let a := Page.reg .can i Off.CAN_CMD
    let b := s.counted t x .can i Off.CAN_CMD
    let c := fun k : Nat => (⟨cmdWord k tag 0, slot, x.priv, max s.now t, []⟩ : QCmd)
    let q := fun k : Nat => b.setQueue a [c k]
    let begun := fun (k : Nat) (u : State) => s.settled ((u.updSeg n fun y => { y with job := some (c k) }).setQueue a [])
    (s.md.mode = .commission → (s.seg n).st ≠ .fenced → (s.seg n).cfg.isSome = true →
      exec (.canDetect t slot tag i) s =
        .next (begun 1 (((q 1).wrp .can i Off.CAN_RATE (((q 1).rdp .can i Off.CAN_RATE).setBit 4 false)).startDetect n false))) ∧
    (x.priv.ge .service = true → commMaint s.md.mode = true →
      exec (.canFence t slot tag i) s = .next (s.settled ((((q 2).fenceSeg n 4).complete .can i Off.CAN_CMD_STAT .ok tag).setQueue a []))) ∧
    (x.priv.ge .service = true → commMaint s.md.mode = true → (s.seg n).st = .fenced → (s.seg n).cause = 4 →
      exec (.canUnfence t slot tag i) s = .next (begun 3 ((q 3).startDetect n true))))

/-- The safety domain's cycle (R419, R421, R423, R434): once in a frame payloads take effect, watchdogs expire, every function runs its cycle, and the
outputs and telegrams they demand follow; a disagreement, or a switch read differently for longer than 100 ms, locks the domain out; a readback fault belongs to the functions that own the output. -/
def Obligations.SafetyCyclesRun : Prop :=
  ∀ (s : State) (t : Nat),
    let b := s.begin t
    (∀ tests : List SdiTest, b.safeRuns = true → b.safe.lockout = false →
      b.cycleDue = true →
      let c := { (b.reached .safety) with safe := { b.safe with cycAt := some b.safeFrame } }
      (c.switchFault = false → exec (.safetyCycle t true tests) s = .next (s.settled
        ((List.range 64).foldl (fun s k => s.polSend k) ((List.range 32).foldl (fun s n => s.fnCycle n tests) c.polBegin).safeOutputs))) ∧
      exec (.safetyCycle t false tests) s = .next (s.settled c.lockout) ∧
      (c.switchFault = true → exec (.safetyCycle t true tests) s = .next (s.settled c.lockout))) ∧
    (∀ (addr : Nat) (edit : Bool), b.safeRuns = true → b.safe.disAt = none → addr < 256 →
      let c := { b with safe := { b.safe with swAddr := addr, edit := edit } }
      (b.safe.swAddr = addr ∧ b.safe.edit = edit → exec (.sealSwitchChange t addr edit addr edit) s = .next (s.settled b)) ∧
      (b.safe.swAddr ≠ addr ∨ b.safe.edit ≠ edit → exec (.sealSwitchChange t addr edit addr edit) s = .next (s.settled
        ((c.irq .safe 0 4).recordGen 0x0C .safe 0 Off.SAFE_STAT (w32 (b2n edit + 256 * addr))))) ∧
      (∀ other : Nat, other ≠ addr → b.safe.swAddr = addr → b.safe.edit = edit →
        exec (.sealSwitchChange t addr edit other edit) s = .next (s.settled { b with safe := { b.safe with disAt := some b.now } }))) ∧
    (∀ failed : List Nat, b.safeRuns = true → b.safe.fns.length = 32 →
      let hit := fun n : Nat => match b.fnCfg n with | some c => (fnOuts c).any fun k => failed.contains k && b.safe.sdo.contains k | none => false
      ∃ u : State, exec (.sdoOffPulse t failed) s = .next (s.settled u) ∧ u = { b with safe := { b.safe with fns := u.safe.fns } } ∧
        ∀ n : Nat, n < 32 → u.fn n = (if hit n then { b.fn n with rbFault := true } else b.fn n))

/-- A safety function in its cycle (R427–R431): unconfirmed it stays off in SAFE; a fault locks it and trips it from RUN; a demand trips it from RUN, at once or
after the delay of a stop; without a demand it becomes READY, or RUN at once where AUTO_START lets it; a reset starts it when its feedback
shows its outputs off. -/
def Obligations.SafetyFunctionsMove : Prop :=
  ∀ (s : State) (n : Nat) (tests : List SdiTest) (c : FnCfg), s.fnCfg n = some c →
    let r := s.fnPress c (s.fnInputs c (s.fn n) tests)
    let f := { r.2 with request := false }
    let reset := r.1 || r.2.request
    let fault := s.fnFault c f
    let put := fun g : Fn => s.updFn n fun _ => g
    let off := fun g : Fn => { g with on := false, fbAt := if g.on then some (s.now + ms) else g.fbAt }
    let auto := (fnFlags c).testBit 2 && !(fnFlags c).testBit 0
    let run := { f with st := .run, on := true, runAt := s.now, fbAt := some (s.now + ms), blocked := false }
    let why := if s.polDead c.inA || s.polDead c.inB then 2 else 1
    (s.safe.confirmed = false → s.fnCycle n tests = put { f with st := .safe, on := false }) ∧
    (s.safe.confirmed = true →
      (fault ≠ 0 → (f.st = .run ∨ f.st = .stopping) → s.fnCycle n tests = ((put (off { f with st := .locked, cause := fault })).irq .safe 0 3).trip n c fault) ∧
      (fault ≠ 0 → f.st = .safe → s.fnCycle n tests = (put (off { f with st := .locked, cause := fault })).irq .safe 0 3) ∧
      (fault = 0 →
        (f.st = .safe → f.demand = false → auto = false → s.fnCycle n tests = put { f with st := .ready }) ∧
        (f.st = .safe → f.demand = false → auto = true → s.fnCycle n tests = put run) ∧
        (f.st = .locked → reset = true → s.fnCycle n tests = put { f with st := .safe }) ∧
        (f.st = .ready → f.demand = true → s.fnCycle n tests = put { f with st := .safe }) ∧
        (f.st = .ready → f.demand = false → reset = true → (c.inFb = .none ∨ f.fb = true) →
          s.fnCycle n tests = put { run with tripped := false }) ∧
        (f.st = .ready → f.demand = false → reset = true → c.inFb ≠ .none → f.fb = false → s.fnCycle n tests = put { f with blocked := true }) ∧
        (f.st = .run → f.demand = false → s.fnCycle n tests = put f) ∧
        (f.st = .run → f.demand = true → (fnFlags c).testBit 5 = false → s.fnCycle n tests = (put (off { f with st := .safe })).trip n c why) ∧
        (f.st = .run → f.demand = true → (fnFlags c).testBit 5 = true →
          s.fnCycle n tests = put { f with st := .stopping, stopAt := s.now, stopWhy := why }) ∧
        (f.st = .stopping → f.stopAt + c.stopMs * ms ≤ s.now → s.fnCycle n tests = (put (off { f with st := .safe })).trip n c f.stopWhy) ∧
        (f.st = .stopping → s.now < f.stopAt + c.stopMs * ms → s.fnCycle n tests = put f)))

/-- Polien (R441–R443): the oldest telegram delivered is checked in the order of *Polien receiver rules*: a bad CHECK and a wrong version or length lead to
FAILSAFE, a repeated or late telegram is counted, an accepted one moves S on and brings its payload; FAILSAFE ends after WD_MS. -/
def Obligations.PolienActs : Prop :=
  ∀ (s : State) (t k : Nat) (c : PolCfg),
    let b := s.begin t
    b.polCfg k = some c →
      (∀ (bs : List Byte) (rest : List (List Nat × List Byte)), b.safeRuns = true → b.safe.lockout = false → b.safe.inbox = ([k], bs) :: rest →
        let u := { b with safe := { b.safe with inbox := rest } }
        let hdr := leAt bs 0 1
        let seq := leAt bs 2 2
        let good := u.polVerifies k bs = true ∧ hdr % 16 = 1 ∧ leAt bs 1 1 = c.lenRx ∧ hdr.testBit 4 = false ∧ hdr.testBit 5 = false
        (u.polVerifies k bs = false →
          exec (.polienTelegramRx t) s = .next (s.settled ((u.satf .pol 0 (0x118 + 0x20 * k) 16 16).polFail k 1))) ∧
        (u.polVerifies k bs = true → (hdr % 16 ≠ 1 ∨ leAt bs 1 1 ≠ c.lenRx) → exec (.polienTelegramRx t) s = .next (s.settled (u.polFail k 2))) ∧
        (good → ∀ s0 : Nat, (b.pol k).s = some s0 → ((seq + 65536 - s0) % 65536 = 0 ∨ 256 < (seq + 65536 - s0) % 65536) →
          exec (.polienTelegramRx t) s = .next (s.settled (u.satf .pol 0 (0x11C + 0x20 * k) 0 16))) ∧
        (good → ∀ s0 : Nat, (b.pol k).s = some s0 → (seq + 65536 - s0) % 65536 ≠ 0 → (seq + 65536 - s0) % 65536 ≤ 256 → (b.pol k).st = .running →
          k < b.safe.conns.length →
          exec (.polienTelegramRx t) s = .next (s.settled (u.updPol k fun p => { p with s := some seq, rxNext := some (sliceB bs 6 c.lenRx) })))) ∧
      (∀ cause : Nat, ((b.pol k).st = .running ∨ (b.pol k).st = .starting) → b.polFail k cause =
        ((((b.updPol k fun p => { p with st := .failsafe, cause := cause, failAt := b.now }).satf .pol 0 (0x118 + 0x20 * k) 0 16).irq .pol 0 1).record 0x0C03 (w32 k)
          (w32 cause) 0)) ∧
      ((b.pol k).st = .failsafe → (b.pol k).failAt + c.wdMs * ms ≤ b.now → exec (.polienFailsafeEnd t k) s =
        .next (s.settled (b.updPol k fun p => { p with
          st := if b.polServes c && !b.safe.lockout then .starting else .closed, rxNow := [], rxNext := none })))

/-- SAFE.CMD (R427, R430, R449): a remote reset of a function that allows it waits for its cycle; CONFIRM, in COMMISSION with the EDIT switch on and the CRC that
stands, confirms the configuration and begins its functions anew. -/
def Obligations.SafetyCommandsAct : Prop :=
  ∀ (s : State) (t slot tag : Nat) (x : Session), s.MayCommand slot x .service .safe 0 →
    let b := s.counted t x .safe 0 Off.SAFE_CMD
    let done := fun (u : State) => s.settled (u.complete .safe 0 Off.SAFE_CMD_STAT .ok tag)
    (∀ (fn : Nat) (c : FnCfg), fn < 32 → s.md.mode ≠ .standby → b.fnCfg fn = some c → (fnFlags c).testBit 3 = true →
      exec (.safeReset t slot tag fn) s = .next (done (b.updFn fn fun f => { f with request := true }))) ∧
    (s.md.mode = .commission → s.safe.edit = true → b.rdp .safe 0 Off.SAFE_CONFIRM_CRC = s.safe.cfg.crc → s.safe.confirmed = false →
      exec (.safeConfirm t slot tag) s = .next (done { b with safe := { b.safe with
        confirmed := true, sdo := [], outPol := []
        fns := (List.range 32).map fun n => if (b.safe.cfg.fns.getD n none).isSome then { st := .safe } else {} } }))

/-- The role token (R453–R456): an absent loop starts the take interval of 10 ms, of 1 ms after RELEASE; the module then sources the loop and holds the token
once its sense shows 16 mA, or gives up after 5 ms and tries again; an interrupted loop gates the holder's outputs; a fault releases the token. All of this
while no agreed handover is past its instant. -/
def Obligations.RoleTokenActs : Prop :=
  ∀ (s : State) (t : Nat),
    let b := s.begin t
    b.variant.pair = true → (∀ h : Handover, b.pair.ho = some h → h.at_ ≤ b.now → h.agree = false) →
      let gain := fun (u : State) => ((u.updPair fun p => { p with
        token := true, loop := true, absentFrom := none, sourcing := none, held := true, open_ := false, brk := none, tryAt := none
        relAt := if p.released then p.relAt else p.absentFrom }).irq .pair 0 2).trigger .tokenGained
      let wait := fun (u : State) => u.updPair fun p => { p with sourcing := some u.now }
      (b.pair.loop = true → b.pair.token = false →
        exec (.pl2LoopAbsent t) s = .next (s.settled (b.updPair fun p => { p with loop := false, absentFrom := some b.now }))) ∧
      (∀ u : Nat, b.md.mode = .standby → b.pair.token = false → b.pair.loop = false → b.pair.absentFrom = some u → b.pair.tryAt = none →
        b.pair.sourcing = none → b.pair.brk = none → u + (if b.pair.released then ms else 10 * ms) ≤ b.now →
        exec (.tokenTakeInterval t true) s = .next (s.settled (gain b)) ∧ exec (.tokenTakeInterval t false) s = .next (s.settled (wait b))) ∧
      (∀ u : Nat, b.pair.sourcing = some u → u + 5 * ms ≤ b.now →
        let c := b.updPair fun p => { p with sourcing := none, open_ := true, tryAt := some (b.now +
          (if b.pair.open_ || b.pair.held || (!b.pair.posB && !b.pair.peerToken) then sec else sec + 500 * ms)) }
        exec (.pl2OpenTimeout t) s = .next (s.settled (c.recordGen 0x0D .pair 0 Off.PAIR_STAT c.pairStat))) ∧
      (∀ u : Nat, b.md.mode = .standby → b.pair.token = false → b.pair.loop = false → b.pair.tryAt = some u → u ≤ b.now → b.pair.brk = none →
        let c := b.updPair fun p => { p with tryAt := none }
        exec (.pl2Retry t true) s = .next (s.settled (gain c)) ∧ exec (.pl2Retry t false) s = .next (s.settled (wait c))) ∧
      (b.pair.token = true → exec (.pl2LoopInterruption t) s = .next (s.settled ((b.updPair fun p => { p with
        token := false, loop := false, absentFrom := some b.now, sourcing := some b.now, brk := some b.now }).irq .pair 0 2))) ∧
      (b.pair.token = false →
        (∀ u : Nat, b.pair.sourcing = some u → b.pair.brk = none → exec (.pl2LoopPresent t true) s = .next (s.settled (gain b))) ∧
        (let c := b.updPair fun p => { p with
           loop := true, absentFrom := none, released := false, sourcing := none, tryAt := none, open_ := false, held := false, brk := none, byHandover := false }
         (b.pair.brk = none → exec (.pl2LoopPresent t false) s = .next (s.settled c)) ∧
         (b.pair.brk.isSome = true → b.md.mode.drives = true → exec (.pl2LoopPresent t false) s = .next (s.settled (c.trigger .toStandby))))) ∧
      (b.pair.token = true →
        let lost := fun k : Nat => ((b.updPair fun p => { p with token := false, loop := false, absentFrom := some b.now, relCause := k, sourcing := none }).irq
          .pair 0 2).trigger (.tokenLost k)
        exec (.roleWatchdogExpiry t) s = .next (s.settled (lost 4)) ∧
        (b.md.pstate.cmp = true → exec (.cmpHeartbeatTimeout t) s = .next (s.settled (lost 5))))

/-- The PL1 link (R458, R459, R467): its start begins a session with the bound partner, or records why it is refused; 2 ms without a valid frame end it, a
proposed handover too, and the writes that wait for an acknowledgement go on; frames unacknowledged for 200 µs are sent again; a HEARTBEAT goes out each
250 µs. -/
def Obligations.Pl1LinkActs : Prop :=
  ∀ (s : State) (t : Nat),
    let b := s.begin t
    (∀ (id : List Word) (sigOk : Bool), b.variant.pair = true → b.md.pstate.cmp = true →
      let c := b.pl1Chg true
      let bound := (List.range 4).map fun k => c.rdp .pair 0 (Off.PAIR_PEER_ID0 + 4 * k)
      (id = bound → sigOk = true →
        let d := c.updPair fun p => { p with session := true, rxSeq := 0, txSeq := 0, unacked := [], resentAt := none, qualFrom := c.now, peer := none, acks := [] }
        exec (.pl1LinkStart t id sigOk) s = .next (s.settled (d.pl1Send (.hello d.ownHello)))) ∧
      (id ≠ bound ∨ sigOk = false → exec (.pl1LinkStart t id sigOk) s = .next (s.settled
        ((c.updPair fun p => { p with session := false }).record 0x0D03 (id.getD 0 0) (bound.getD 0 0) (if id == bound then 2 else 1))))) ∧
    (b.pair.pl1Up = true → (∀ u : Nat, b.pair.lastRx = some u → u + 2 * ms ≤ b.now) →
      exec (.pl1LinkDown t) s = .next (s.settled (((((b.pl1Chg false).updPair fun p => { p with
        session := false, unacked := [], acks := [], peer := none, arrived := [] }).setPeerQual false).dropHandover).ackAllApplied.runAllHeld))) ∧
    (∀ (q u : Nat) (f : Pl1Out) (rest : List (Nat × Pl1Out × Nat)), b.pair.unacked = (q, f, u) :: rest → max u (b.pair.resentAt.getD 0) + 200 * us ≤ b.now →
      exec (.pl1Retransmit t) s = .next (s.settled { b with
        out := b.out ++ b.pair.unacked.map fun x => .pl1 x.1 b.pair.rxSeq x.2.1
        pair := { b.pair with resentAt := some b.now } })) ∧
    (b.pair.session = true → (∀ u : Nat, b.pair.hbAt = some u → u + 250 * us ≤ b.now) →
      exec (.pl1HeartbeatTx t) s = .next (s.settled ((b.updPair fun p => { p with hbAt := some b.now }).pl1Send
        (.heartbeat (b.slv.origin.map (b.now - ·)) b.pair.token b.md.mode.code))))

/-- Frames that the STANDBY takes from the ACTIVE (R107, R109, R446, R459–R463): next in SEQ order within the session each has its effect; any other frame
leaves no more than the time at which it came. The comparison's outcome on the STANDBY (R461, R471): counted and recorded by its kind; a persistent mismatch
begins qualification anew; VERDICT answers, with a request for the state where the digests differ. -/
def Obligations.StandbyTakesFramesAndCompares : Prop :=
  (∀ (s : State) (t : Nat) (h : Pl1Hdr),
    let b := s.begin t
    let acc := ((b.updPair fun p => { p with lastRx := some b.now }).mirrorTime (b.pair.unacked.filter fun x => pl1Acked h.ack x.1)).updPair fun p =>
      { p with rxSeq := h.seq, unacked := p.unacked.filter fun x => !pl1Acked h.ack x.1 }
    let done := fun u : State => s.settled u.ackAllApplied
    (b.pair.session = true → b.md.pstate.cmp = true → h.seq = pl1Next b.pair.rxSeq → b.md.mode = .standby →
      (∀ (e : Eng) (slcs : List (Nat × Word64 × Qual × Nat)),
        let at_ := acc.inputsAt e
        let c := slcs.foldl (fun s (x : Nat × Word64 × Qual × Nat) => (s.loadInput x.1 x.2.1 (s.slc x.1).raw x.2.2.1 0).updSlc x.1
          fun y => { y with at_ := if x.2.2.2 ≤ at_ then some (at_ - x.2.2.2) else none }) acc
        exec (.inputs t h e slcs []) s = .next (done (c.updPair fun p => { p with arrived := (p.arrived.erase e) ++ [e] }))) ∧
      (∀ (st ver useq : Nat) (time : Time64) (es : List PtEntry) (x : Stn), acc.stn? st = some x →
        let took := fun (u : State) (f : Stn → Stn) => done ((u.updStn st fun x => f { x with ver := ver, useq := useq }).updPair fun p =>
          { p with arrived := (p.arrived.erase (.ingest st)) ++ [.ingest st] })
        exec (.dataset t h st ver time es true useq) s = .next (took (acc.newVersion st (applyEntries acc.now time x.pts es)) fun x =>
          { x with st := .up, dtls := x.dtls.map fun d => { d with helloOk := true } }) ∧
        exec (.dataset t h st ver time es false useq) s = .next (took
          (acc.newVersion st (x.pts.map fun p => { p with qual := .bad, reason := .stationDown, at_ := acc.now })) fun x =>
          { x with st := if x.st == .up then .down else x.st, dtls := none })) ∧
      (∀ w : HostWrite,
        let x : Session := { slot := 8 + w.slot % 8, id := 0, port := .e3, ready := true, cred := 0, want := w.priv, priv := w.priv, rx := 0, tx := 0
                             last := acc.now, lastLo := w.lastLo, stage := w.stage, sdSel := w.sdSel }
        let c := ({ acc with host := { acc.host with sessions := acc.host.sessions ++ [x] } } : State).asPeer x.slot fun s => s.applyWords x.slot w.addr w.vals
        c.md.mode ≠ .safeHold → exec (.hostin t h w) s = .next (done
          (({ c with host := { c.host with sessions := c.host.sessions.filter fun x => x.slot < 8 } } : State).pl1Send (.wack h.seq)))) ∧
      (∀ (n m : Nat) (st : Nat), acc.pair.token = false →
        exec (.reserve t h .events n m true) s = .next (done
          ({ acc with evt := { acc.evt with nextBlock := max acc.evt.nextBlock m, granted := acc.evt.granted ++ [⟨n, m⟩] } } : State).resumeNumbering) ∧
        exec (.reserve t h .events n m false) s = .next (done { acc with evt := { acc.evt with nextBlock := max acc.evt.nextBlock m, peer := ⟨n, m⟩ } }) ∧
        (∀ (g : Nat) (hello : Bool) (key : List Byte), exec (.reserve t h (.secrets st g hello key) n m false) s = .next (done (acc.updStn st fun x =>
          { x with kgen := g, nextOk := x.nextOk && g == x.kgen, dtls := some { gen := g, keyedAt := acc.now, records := 0, helloOk := hello, secret := key } }))) ∧
        exec (.reserve t h (.downSeq st) n m false) s = .next (done (acc.updStn st fun x => { x with dnext := m, dseq := ⟨m, m⟩ }))) ∧
      (∀ (e : Eng) (digest : Word64) (glitch explained : Bool) (masks : Nat), acc.pair.ran.contains e = true →
        let c := acc.updPair fun p => { p with masks := masks, whole := some acc.now, ran := p.ran.erase e }
        let own := Config.outDigest (acc.engState e)
        exec (.commit t h e digest glitch explained none [] masks) s = .next (done (c.compared e (outcome (own == digest) glitch explained) own digest))) ∧
      (∀ (n cycle consec : Nat) (hashes : List (List Byte)) (shifted : List Byte) (stale prevOk glitch : Bool),
        (acc.slot n).lastCyc = none → (acc.slot n).cyc = none →
        exec (.iterhash t h n cycle hashes none shifted consec stale prevOk glitch) s =
          .next (done (acc.updSlot n fun z => { z with nextNum := cycle + 1, consec := consec, stale := stale, prevOk := prevOk }))) ∧
      (∀ (n : Nat) (x y : List Word64), exec (.result t h n x y) s =
        .next (done (acc.updSlot n fun z => { z with res := z.res.map fun r => { r with x := x, y := y, hash := solHash r.tags x } }))) ∧
      (∀ (k : Nat) (ks : List Nat) (bs : List Byte), acc.variant.safety = true → exec (.polien t h (k :: ks) bs) s =
        .next (done { acc with safe := { acc.safe with inbox := acc.safe.inbox ++ [(k :: ks, bs)] } })) ∧
      (∀ (n : Nat) (l : Loop), exec (.state t h (.loop n l)) s = .next (done (acc.updLoop n fun _ => l))) ∧
      (∀ (n : Nat) (k : Task), exec (.state t h (.task n k)) s = .next (done (acc.updTask n fun _ => k))) ∧
      (∀ a : Accts, exec (.state t h (.metering a)) s = .next (done { acc with mtr := { acc.mtr with w := a, c := a, jrn := [], recNext := a.recNo } })) ∧
      (∀ (at_ up : Nat) (drill : Bool), acc.pair.qualified = true → acc.now < at_ → exec (.handover t h at_ false drill up) s =
        .next (done ((acc.updPair fun p => { p with ho := some { at_ := at_, agree := true, drill := drill, up := up } }).pl1Send
          (.handover at_ true drill up))))) ∧
    (b.pair.session = true → h.seq ≠ pl1Next b.pair.rxSeq → b.pair.pl1Up = true → ∀ f : State → State, b.pl1Do h f = b.updPair fun p => { p with lastRx := some b.now })) ∧
  (∀ (s : State) (e : Eng) (own peer : Word64),
    (∀ glitch explained same : Bool,
      (outcome same glitch explained = .match_ ↔ same = true ∧ glitch = false) ∧
      (outcome same glitch explained = .persistent ↔ same = false ∧ explained = false)) ∧
    s.compared e .match_ own peer =
      (s.modp .pair 0 Off.PAIR_CMP_EPOCHS).pl1Send (.verdict e .match_ false s.pair.qualified) ∧
    s.compared e .explained own peer =
      ((s.satp .pair 0 Off.PAIR_MM_EXPL).wrp .pair 0 Off.PAIR_MM_LAST (mmWord e 1)).pl1Send (.verdict e .explained true s.pair.qualified) ∧
    (let d := (((s.satf .pair 0 Off.PAIR_MISMATCH 16 16).wrp .pair 0 Off.PAIR_MM_LAST (mmWord e 3)).irq .pair 0 5).record 0x0D02 (mmWord e 3) (lo32 own)
       (lo32 peer)
     let c := d.updPair fun p => { p with qualFrom := d.now }
     s.compared e .persistent own peer = c.refreshQual.pl1Send (.verdict e .persistent true c.refreshQual.pair.qualified)))

/-- Frames that both modules or the ACTIVE take (R109, R454, R457, R459, R461, R467, R472, R518): the partner's identity and position, its role and mode, a
comparison's outcome, the acknowledgement of a mirrored write, a release, the agreement to a handover. -/
def Obligations.PartnerFramesAct : Prop :=
  ∀ (s : State) (t : Nat) (h : Pl1Hdr),
    let b := s.begin t
    let acc := ((b.updPair fun p => { p with lastRx := some b.now }).mirrorTime (b.pair.unacked.filter fun x => pl1Acked h.ack x.1)).updPair fun p =>
      { p with rxSeq := h.seq, unacked := p.unacked.filter fun x => !pl1Acked h.ack x.1 }
    let done := fun u : State => s.settled u.ackAllApplied
    b.pair.session = true → b.md.pstate.cmp = true → h.seq = pl1Next b.pair.rxSeq →
      (∀ x : Peer,
        let c := acc.updPair fun p => { p with peer := some x, peerMode := x.mode, conflict := x.posB == acc.pair.posB }
        (b.isActive = false → x.posB ≠ acc.pair.posB → exec (.hello t h x) s = .next (done c)) ∧
        (b.isActive = false → x.posB = acc.pair.posB → acc.pair.conflict = false → b.md.mode ≠ .boot →
          exec (.hello t h x) s = .next (done (c.recordGen 0x0D .pair 0 Off.PAIR_STAT c.pairStat))) ∧
        (b.isActive = true → x.posB ≠ acc.pair.posB → x.mode = Mode.standby.code → exec (.hello t h x) s =
          .next (done (({ c with evt := { c.evt with nextBlock := c.evt.nextBlock + evtBlock } } : State).pl1Send
            (.reserve .events c.evt.nextBlock (c.evt.nextBlock + evtBlock) true))))) ∧
      (∀ (timer : Option Nat) (token : Bool) (mode : Nat),
        let c := (match timer with
          | some u => if b.md.mode = Mode.standby then
              { acc with slv := { acc.slv with origin := some (acc.now - u) }, lp := { acc.lp with frame0 := acc.now - u } } else acc
          | none => acc).updPair fun p => { p with peerToken := token, peerMode := mode }
        (acc.pair.ho = none → exec (.heartbeat t h timer token mode) s = .next (done c)) ∧
        (∀ ho : Handover, acc.pair.ho = some ho → token = true → ho.agree = true → ho.at_ ≤ acc.now → acc.pair.token = false →
          exec (.heartbeat t h timer token mode) s = .next (done ((c.updPair fun p => { p with ho := none }).pairDoneOpt ho.cmd .ok)))) ∧
      (∀ (e : Eng) (v : Verdict) (own peer : Word64) (qual : Bool), acc.isActive = true →
        let c := (acc.countVerdict e v own peer).setPeerQual qual
        exec (.verdict t h e v own peer false qual) s = .next (done c) ∧
        ((∀ n : Nat, e ≠ .slot n) → exec (.verdict t h e v own peer true qual) s = .next (done (c.pl1Send (.state (c.engState e)))))) ∧
      (∀ (seq slot rq : Nat), acc.pair.acks.find? (fun a => decide (a.1 = seq)) = some (seq, slot, rq) → exec (.wack t h seq) s =
        .next (done (({ acc with pair := { acc.pair with acks := acc.pair.acks.filter fun a => a.1 ≠ seq } } : State).runHeldOf slot true))) ∧
      (∀ cause : Nat, acc.pair.token = false → exec (.release t h cause) s =
        .next (done (acc.updPair fun p => { p with released := true, relCause := cause, relAt := some acc.now }))) ∧
      (∀ (at_ up : Nat) (drill : Bool) (ho : Handover), acc.pair.ho = some ho → ho.at_ = at_ → exec (.handover t h at_ true drill up) s =
        .next (done (acc.updPair fun p => { p with ho := some { ho with agree := true } })))

/-- Handover and swap drills (R462, R467, R469): at the agreed instant the ACTIVE stops sourcing and goes to STANDBY, its partner takes the token; QUALIFIED
follows its conditions; a drill falls due, waits an hour, or is MISSED after 24 h; its hold ends with the result. -/
def Obligations.HandoversAndDrillsAct : Prop :=
  ∀ (s : State) (t : Nat),
    let b := s.begin t
    (∀ (h : Handover) (est : Bool), b.pair.ho = some h → h.at_ ≤ b.now → h.agree = true → h.drill = false →
      (b.pair.token = true → b.mayHandOver = true →
        let c := (b.updPair fun p => { p with token := false, loop := false, absentFrom := some b.now, relCause := 6, sourcing := none }).irq .pair 0 2
        let d := (c.satp .pair 0 Off.PAIR_HANDOVERS).updPair fun p => { p with hoFrame := some (h.at_ + 300 * us) }
        exec (.handoverInstant t est) s = .next (s.settled (((d.record 0x0D04 1 0 (w32 h.up)).updPair fun p => { p with ho := some h }).trigger .toStandby))) ∧
      (b.pair.token = false → b.md.mode = .standby →
        let c := b.updPair fun p => { p with relCause := 6, byHandover := true }
        (est = true → exec (.handoverInstant t est) s = .next (s.settled c.gainToken)) ∧
        (est = false → exec (.handoverInstant t est) s = .next (s.settled (c.updPair fun p => { p with sourcing := some c.now }))))) ∧
    (b.variant.pair = true →
      (b.pair.qualified = b.qualOk → exec (.qualifyTimer t) s = .next (s.settled b)) ∧
      (b.pair.qualified ≠ b.qualOk →
        exec (.qualifyTimer t) s = .next (s.settled ((b.updPair fun p => { p with qualified := b.qualOk }).irq .pair 0 4)))) ∧
    (∀ due : Nat, b.pair.drillDue = some due → b.isActive = true → due ≤ b.taiS → (∀ u : Nat, b.pair.drillNext = some u → u ≤ b.now) →
      (b.handoverOk = true → b.drillWaits = false →
        ∃ u : State, exec (.drillDue t) s = .next (s.settled u) ∧
          u.pair.ho = some { at_ := hoInstant b.framePhase b.now, agree := false, drill := true, up := (upStations b).length, cmd := none }) ∧
      ((b.handoverOk = false ∨ b.drillWaits = true) → b.taiS < due + 86400 →
        exec (.drillDue t) s = .next (s.settled (b.updPair fun p => { p with drillNext := some (b.now + 3600 * sec) }))) ∧
      ((b.handoverOk = false ∨ b.drillWaits = true) → due + 86400 ≤ b.taiS →
        exec (.drillDue t) s = .next (s.settled (b.drillResult 3 0 (upStations b).length).planDrill))) ∧
    (∀ (d : Drill) (cause : Nat), b.pair.drill = some d → d.start + ((b.rdp .pair 0 Off.PAIR_DRILL_CFG).fld 20 12) * sec ≤ b.now → d.mine = false → cause ≤ 3 →
      exec (.drillHoldEnd t cause) s = .next (s.settled
        (((b.updPair fun p => { p with drill := none }).drillResult (if cause = 0 then 1 else 2) cause d.up).pairDoneOpt d.cmd .ok)))

/-- PAIR.CMD (R467, R469, R472): BIND copies the partner's identity and records it; HANDOVER and DRILL_NOW propose an instant at least 20 ms ahead and 0.7 ms after a
frame start, and stay under way. -/
def Obligations.PairCommandsAct : Prop :=
  ∀ (s : State) (t slot tag : Nat) (x : Session), s.pairBusy = false →
    let a := Page.reg .pair 0 Off.PAIR_CMD
    let b := s.counted t x .pair 0 Off.PAIR_CMD
    let q := fun k : Nat => b.setQueue a [⟨cmdWord k tag 0, slot, x.priv, max s.now t, []⟩]
    (∀ y : Peer, s.MayCommand slot x .config .pair 0 → s.md.mode = .commission → s.pair.pl1Up = true → s.pair.peer = some y →
      let c := (List.range 4).foldl (fun s k => s.wrp .pair 0 (Off.PAIR_PEER_ID0 + 4 * k) (y.id.getD k 0)) (q 1)
      exec (.pairBind t slot tag) s = .next (s.settled
        (((c.recordGen 0x0D .pair 0 Off.PAIR_PEER_ID0 (y.id.getD 0 0)).complete .pair 0 Off.PAIR_CMD_STAT .ok tag).setQueue a []))) ∧
    (s.MayCommand slot x .operate .pair 0 → s.md.mode.drives = true →
      (∀ k : Nat, (q k).handoverOk = true →
        let drill := k == 3
        let h : Handover := { at_ := hoInstant (q k).framePhase (max s.now t), agree := false, drill := drill, up := (upStations (q k)).length
                              cmd := some ⟨cmdWord k tag 0, slot, x.priv, max s.now t, []⟩ }
        let u := (((q k).updPair fun p => { p with ho := some h }).pl1Send (.handover h.at_ false drill h.up)).setQueue a []
        (k = 2 → exec (.pairHandover t slot tag) s = .next (s.settled u)) ∧
        (k = 3 → b.drillWaits = false → exec (.drillNow t slot tag) s = .next (s.settled u))) ∧
      ((q 2).handoverOk = false →
        exec (.pairHandover t slot tag) s = .next (s.settled (((q 2).complete .pair 0 Off.PAIR_CMD_STAT .state tag).setQueue a [])))) ∧
    (∀ phase now : Nat, phase < ms →
      now + 20 * ms ≤ hoInstant phase now ∧ hoInstant phase now < now + 21 * ms ∧ hoInstant phase now % ms = (700 * us + phase) % ms)

/-- Clearing registers (R161, R233, R267, R292, R294, R327–R331, R356, R380, R401, R448, R450, R471, R526 and their like): a write of 1 zeroes the page's
K-class counters, those of the selected blocks in LOOP.CLR, and records the clearing. -/
def Obligations.ClearingCommandsAct : Prop :=
  ∀ (s : State) (t slot i : Nat) (x : Session) (v : Word) (d : RegDef),
    let may := fun (p : Page) (i o : Nat) => s.MayWrite slot x p i o d
    let z := fun (p : Page) (i o : Nat) (offs : List Nat) =>
      s.settled ((offs.foldl (fun u k => u.wrp p i k 0) (s.counted t x p i o)).recordClr (Page.reg p i o) v)
    (v.bit 0 = true →
      (may .rst 0 Off.RST_COUNTS_CLR → exec (.rstCountsClr t slot v) s = .next (z .rst 0 Off.RST_COUNTS_CLR [Off.RST_COUNTS])) ∧
      (may .mem 0 Off.MEM_CLR → exec (.memClr t slot v) s = .next (z .mem 0 Off.MEM_CLR [Off.MEM_CE_MAIN, Off.MEM_CE_SRAM, Off.MEM_UE_MAIN, Off.MEM_UE_SRAM])) ∧
      (may .dpx 0 Off.DPX_CLR → exec (.dpxClr t slot v) s = .next (s.settled
        (([Off.DPX_RX_MSG, Off.DPX_TX_MSG, Off.DPX_RX_DROP, Off.DPX_RETX, Off.DPX_HS_FAIL, Off.DPX_CMD_DROP, Off.DPX_INGEST_PEAK].foldl
          (fun u k => u.wrp .dpx 0 k 0) ((s.counted t x .dpx 0 Off.DPX_CLR).countIngest 0)).recordClr (Page.reg .dpx 0 Off.DPX_CLR) v))) ∧
      (may .mtr 0 Off.MTR_CLR → exec (.mtrClr t slot v) s = .next (z .mtr 0 Off.MTR_CLR [Off.MTR_UNSAVED_MS, Off.MTR_SAVES, Off.MTR_SAVE_FAIL])) ∧
      (may .pq 0 Off.PQ_CLR → exec (.pqClr t slot v) s = .next (z .pq 0 Off.PQ_CLR
        (Off.PQ_EVT_LOST :: (List.range 24).map fun k => 0x110 + 0x20 * (k / 3) + 4 * (k % 3)))) ∧
      (may .heat 0 Off.HEAT_CLR → exec (.heatClr t slot v) s = .next (z .heat 0 Off.HEAT_CLR [])) ∧
      (may .pulse 0 Off.PULSE_CLR → exec (.pulseClr t slot v) s = .next (z .pulse 0 Off.PULSE_CLR ((List.range 16).map fun k => 0x114 + 0x20 * k))) ∧
      (may .prg 0 Off.PRG_CLR → exec (.prgClr t slot v) s = .next (z .prg 0 Off.PRG_CLR
        (Off.PRG_WR_DROP :: (List.range 16).flatMap fun n => [taskOff n 0x0C, taskOff n 0x10, taskOff n 0x1C]))) ∧
      (may .time 0 Off.TIME_CLR → exec (.timeClr t slot v) s = .next (z .time 0 Off.TIME_CLR [Off.TIME_REFUSALS, Off.TIME_MASTER_CHG, Off.TIME_OUTLIERS])) ∧
      (may .safe 0 Off.SAFE_CLR → exec (.safeClr t slot v) s = .next (z .safe 0 Off.SAFE_CLR
        (Off.SAFE_TRIPS :: Off.SAFE_LAST_TRIP :: (List.range 96).map fun k => 0x110 + 0x20 * (k / 3) + 4 * (k % 3)))) ∧
      (may .pol 0 Off.POL_CLR → exec (.polClr t slot v) s = .next (z .pol 0 Off.POL_CLR ((List.range 128).map fun k => 0x118 + 0x20 * (k / 2) + 4 * (k % 2)))) ∧
      (may .pair 0 Off.PAIR_CLR → exec (.pairClr t slot v) s = .next (z .pair 0 Off.PAIR_CLR
        [Off.PAIR_CMP_EPOCHS, Off.PAIR_MISMATCH, Off.PAIR_MM_EXPL, Off.PAIR_MM_LAST, Off.PAIR_TAKE_LAST, Off.PAIR_HANDOVERS])) ∧
      (may .sec 0 Off.SEC_CLR → exec (.secClr t slot v) s = .next (z .sec 0 Off.SEC_CLR [Off.SEC_KU_LAST, Off.SEC_KU_REJ])) ∧
      (may .disp 0 Off.DISP_CLR → exec (.dispClr t slot v) s = .next (z .disp 0 Off.DISP_CLR [Off.DISP_HELD])) ∧
      (may .pwr 0 Off.PWR_CLR → exec (.pwrClr t slot v) s = .next (z .pwr 0 Off.PWR_CLR [Off.PWR_IN_LOSSES])) ∧
      (may .slot i Off.SLOT_CLR → exec (.slotClr t slot i v) s = .next (z .slot i Off.SLOT_CLR
        [Off.SLOT_OVERRUNS, Off.SLOT_SKIM_REJ, Off.SLOT_DEADLINES, Off.SLOT_SHIFTS, Off.SLOT_STALES])) ∧
      (may .slc i Off.SLC_CLR → exec (.slcClr t slot i v) s = .next (z .slc i Off.SLC_CLR (Off.SLC_FENCES :: (grpSlices i).map fun n => slcOff n 0x3C))) ∧
      (may .adc i Off.ADC_CLR → exec (.adcClr t slot i v) s = .next (z .adc i Off.ADC_CLR [Off.ADC_CAL_DONE, Off.ADC_CAL_FAIL])) ∧
      (may .can i Off.CAN_CLR → exec (.canClr t slot i v) s = .next (z .can i Off.CAN_CLR
        [Off.CAN_RX_OK, Off.CAN_RX_NOMATCH, Off.CAN_RX_OVF, Off.CAN_TX_OK, Off.CAN_SLOT_LOST, Off.CAN_EVT_DROP, Off.CAN_BUSOFFS, Off.CAN_DLC_ERR])) ∧
      (may .eth i Off.ETH_CLR → exec (.ethClr t slot i v) s = .next (z .eth i Off.ETH_CLR ((List.range 8).map fun k => Off.ETH_RX_OK + 4 * k))) ∧
      (may .evt 0 Off.EVT_CNT_CLR →
        let c := ((s.counted t x .evt 0 Off.EVT_CNT_CLR).wrp .evt 0 Off.EVT_FRZ_LOST 0).wrp .evt 0 Off.EVT_UNNUM 0
        exec (.evtCntClr t slot v) s = .next (s.settled (({ c with evt := { c.evt with frzFrom := 0, unnumFrom := 0 } } : State).recordClr
          (Page.reg .evt 0 Off.EVT_CNT_CLR) v)))) ∧
    (may .loop i Off.LOOP_CLR → exec (.loopClr t slot i v) s = .next (z .loop i Off.LOOP_CLR
      ((bitsOf (v.fld 0 8) 8).flatMap fun j => [loopOff (8 * i + j) 0x28, loopOff (8 * i + j) 0x30]))) ∧
    (v.bit 0 = false →
      (may .rst 0 Off.RST_COUNTS_CLR → exec (.rstCountsClr t slot v) s = .next (s.settled (s.counted t x .rst 0 Off.RST_COUNTS_CLR))) ∧
      (may .pair 0 Off.PAIR_CLR → exec (.pairClr t slot v) s = .next (s.settled (s.counted t x .pair 0 Off.PAIR_CLR))))

/-- Single registers with an effect of their own (R403, R412, R506, R511, R521, R522, R559): the reading position and the freeze of the log, the flags and the
countdown of the backup domain, the health confirmation, the limits of field power. -/
def Obligations.SingleRegisterWritesAct : Prop :=
  ∀ (s : State) (t slot : Nat) (x : Session) (v : Word) (d : RegDef),
    (s.MayWrite slot x .evt 0 Off.EVT_RD_SEQ d →
      let b := s.counted t x .evt 0 Off.EVT_RD_SEQ
      let i := b.evt.log.findIdx fun r => v.toNat ≤ r.seq
      (i < b.evt.log.length → exec (.evtRdSeqWrite t slot v) s = .next (s.settled (b.updSess x.slot fun x => { x with rdIdx := i }))) ∧
      (b.evt.log.length ≤ i → exec (.evtRdSeqWrite t slot v) s = .next (s.settled (((s.begin t).touch slot).refuse .evt 0 .notFound)))) ∧
    (s.MayWrite slot x .evt 0 Off.PAGE_CTRL d →
      let b := s.counted t x .evt 0 Off.PAGE_CTRL
      (s.evt.freeze = none → b.freezeMode = true →
        let c := { b with evt := { b.evt with freeze := some (x.slot, b.now), frozen := [], frzFrom := (b.rdp .evt 0 Off.EVT_FRZ_LOST).toNat } }
        exec (.evtFreezeWrite t slot true) s = .next (s.settled (c.putf .evt 0 Off.PAGE_CTRL 2 1 1))) ∧
      (∀ u : Nat, s.evt.freeze = some (x.slot, u) → exec (.evtFreezeWrite t slot false) s = .next (s.settled b.endFreeze)) ∧
      (∀ k u : Nat, s.evt.freeze = some (k, u) → k ≠ x.slot → b.freezeMode = true →
        exec (.evtFreezeWrite t slot true) s = .next (s.settled (((s.begin t).touch slot).refuse .evt 0 .locked)))) ∧
    (s.MayWrite slot x .rtc 0 Off.RTC_FLAGS d →
      let b := s.counted t x .rtc 0 Off.RTC_FLAGS
      let dev := (lookupA (Page.reg .rtc 0 Off.RTC_FLAGS) b.edge).getD 0
      (2400 ≤ s.rtc.vbk → exec (.vbkLowClear t slot v) s = .next (s.settled (b.wrp .rtc 0 Off.RTC_FLAGS (b.rdp .rtc 0 Off.RTC_FLAGS &&& ~~~(v &&& 62 &&& ~~~dev))))) ∧
      (s.rtc.vbk < 2400 → exec (.vbkLowClear t slot v) s = .next (s.settled (b.wrp .rtc 0 Off.RTC_FLAGS (b.rdp .rtc 0 Off.RTC_FLAGS &&& ~~~(v &&& 60 &&& ~~~dev)))))) ∧
    (s.MayWrite slot x .rtc 0 Off.RTC_CD_LOAD d →
      let b := s.counted t x .rtc 0 Off.RTC_CD_LOAD
      (v.fld 0 24 = 0 → exec (.rtcCdLoad t slot v) s = .next (s.settled { b with rtc := { b.rtc with cd := none } })) ∧
      (v.fld 0 24 ≠ 0 → exec (.rtcCdLoad t slot v) s = .next (s.settled { b with rtc := { b.rtc with cd := some ⟨max s.now t, v.fld 0 24⟩ } }))) ∧
    (s.MayWrite slot x .upd 0 Off.UPD_HEALTH d → s.upd.trial = 1 →
      (v = s.upd.run.pkg → (∀ k ∈ List.range 8, partOf s.upd.run (k + 1) 0 = none) →
        let c := (s.counted t x .upd 0 Off.UPD_HEALTH).updUpd fun u => { u with trial := 2, from_ := none }
        exec (.updHealthWrite t slot v) s = .next (s.settled ((c.irq .upd 0 3).recordGen 0xF .upd 0 Off.UPD_TRIAL (w32 (2 + 4 * s.upd.starts))))) ∧
      (v ≠ s.upd.run.pkg → exec (.updHealthWrite t slot v) s = .next (s.settled (((s.begin t).touch slot).refuse .upd 0 .range)))) ∧
    (s.MayWrite slot x .pwr 0 Off.PWR_FIELD_LIM d → (s.md.mode = .commission ∨ s.md.mode = .maintenance) →
      (fieldLimOk s.variant v = true →
        exec (.pwrFieldLimWrite t slot v) s = .next (s.settled ((s.counted t x .pwr 0 Off.PWR_FIELD_LIM).wrp .pwr 0 Off.PWR_FIELD_LIM v))) ∧
      (fieldLimOk s.variant v = false →
        exec (.pwrFieldLimWrite t slot v) s = .next (s.settled (((s.begin t).touch slot).refuse .pwr 0 .range))))
end

