-- ==== Sys2Proof/Laws/State.lean ====
section
/-!
SUPPORT. What each named update of the state leaves as it was: one lemma for each field, true by unfolding. The proofs about commands rewrite with these.
-/
namespace Sys2Proof.Machine

section
variable (s : State) (a : Nat) (v : Word)
@[simp] theorem State.wr_pending : (s.wr a v).pending = s.pending := rfl
@[simp] theorem State.wr_variant : (s.wr a v).variant = s.variant := rfl
@[simp] theorem State.wr_now : (s.wr a v).now = s.now := rfl
@[simp] theorem State.wr_free : (s.wr a v).free = s.free := rfl
@[simp] theorem State.wr_shadow : (s.wr a v).shadow = s.shadow := rfl
@[simp] theorem State.wr_cmdq : (s.wr a v).cmdq = s.cmdq := rfl
@[simp] theorem State.wr_out : (s.wr a v).out = s.out := rfl
@[simp] theorem State.wr_trig : (s.wr a v).trig = s.trig := rfl
@[simp] theorem State.wr_opNs : (s.wr a v).opNs = s.opNs := rfl
@[simp] theorem State.wr_edge : (s.wr a v).edge = s.edge := rfl
@[simp] theorem State.wr_host : (s.wr a v).host = s.host := rfl
@[simp] theorem State.wr_md : (s.wr a v).md = s.md := rfl
@[simp] theorem State.wr_ord : (s.wr a v).ord = s.ord := rfl
@[simp] theorem State.wr_evt : (s.wr a v).evt = s.evt := rfl
@[simp] theorem State.wr_mem : (s.wr a v).mem = s.mem := rfl
@[simp] theorem State.wr_net : (s.wr a v).net = s.net := rfl
@[simp] theorem State.wr_lp : (s.wr a v).lp = s.lp := rfl
@[simp] theorem State.wr_slv : (s.wr a v).slv = s.slv := rfl
@[simp] theorem State.wr_pair : (s.wr a v).pair = s.pair := rfl
@[simp] theorem State.wr_time : (s.wr a v).time = s.time := rfl
@[simp] theorem State.wr_rtc : (s.wr a v).rtc = s.rtc := rfl
@[simp] theorem State.wr_eth : (s.wr a v).eth = s.eth := rfl
@[simp] theorem State.wr_fld : (s.wr a v).fld = s.fld := rfl
@[simp] theorem State.wr_prg : (s.wr a v).prg = s.prg := rfl
@[simp] theorem State.wr_can : (s.wr a v).can = s.can := rfl
@[simp] theorem State.wr_safe : (s.wr a v).safe = s.safe := rfl
@[simp] theorem State.wr_keys : (s.wr a v).keys = s.keys := rfl
@[simp] theorem State.wr_mtr : (s.wr a v).mtr = s.mtr := rfl
@[simp] theorem State.wr_prof : (s.wr a v).prof = s.prof := rfl
@[simp] theorem State.wr_upd : (s.wr a v).upd = s.upd := rfl
@[simp] theorem State.wr_panel : (s.wr a v).panel = s.panel := rfl
@[simp] theorem State.wr_pwr : (s.wr a v).pwr = s.pwr := rfl
end

section
variable (s : State) (p : Page) (i o : Nat) (v : Word)
@[simp] theorem State.wrp_pending : (s.wrp p i o v).pending = s.pending := rfl
@[simp] theorem State.wrp_variant : (s.wrp p i o v).variant = s.variant := rfl
@[simp] theorem State.wrp_now : (s.wrp p i o v).now = s.now := rfl
@[simp] theorem State.wrp_free : (s.wrp p i o v).free = s.free := rfl
@[simp] theorem State.wrp_shadow : (s.wrp p i o v).shadow = s.shadow := rfl
@[simp] theorem State.wrp_cmdq : (s.wrp p i o v).cmdq = s.cmdq := rfl
@[simp] theorem State.wrp_out : (s.wrp p i o v).out = s.out := rfl
@[simp] theorem State.wrp_trig : (s.wrp p i o v).trig = s.trig := rfl
@[simp] theorem State.wrp_opNs : (s.wrp p i o v).opNs = s.opNs := rfl
@[simp] theorem State.wrp_edge : (s.wrp p i o v).edge = s.edge := rfl
@[simp] theorem State.wrp_host : (s.wrp p i o v).host = s.host := rfl
@[simp] theorem State.wrp_md : (s.wrp p i o v).md = s.md := rfl
@[simp] theorem State.wrp_ord : (s.wrp p i o v).ord = s.ord := rfl
@[simp] theorem State.wrp_evt : (s.wrp p i o v).evt = s.evt := rfl
@[simp] theorem State.wrp_mem : (s.wrp p i o v).mem = s.mem := rfl
@[simp] theorem State.wrp_net : (s.wrp p i o v).net = s.net := rfl
@[simp] theorem State.wrp_lp : (s.wrp p i o v).lp = s.lp := rfl
@[simp] theorem State.wrp_slv : (s.wrp p i o v).slv = s.slv := rfl
@[simp] theorem State.wrp_pair : (s.wrp p i o v).pair = s.pair := rfl
@[simp] theorem State.wrp_time : (s.wrp p i o v).time = s.time := rfl
@[simp] theorem State.wrp_rtc : (s.wrp p i o v).rtc = s.rtc := rfl
@[simp] theorem State.wrp_eth : (s.wrp p i o v).eth = s.eth := rfl
@[simp] theorem State.wrp_fld : (s.wrp p i o v).fld = s.fld := rfl
@[simp] theorem State.wrp_prg : (s.wrp p i o v).prg = s.prg := rfl
@[simp] theorem State.wrp_can : (s.wrp p i o v).can = s.can := rfl
@[simp] theorem State.wrp_safe : (s.wrp p i o v).safe = s.safe := rfl
@[simp] theorem State.wrp_keys : (s.wrp p i o v).keys = s.keys := rfl
@[simp] theorem State.wrp_mtr : (s.wrp p i o v).mtr = s.mtr := rfl
@[simp] theorem State.wrp_prof : (s.wrp p i o v).prof = s.prof := rfl
@[simp] theorem State.wrp_upd : (s.wrp p i o v).upd = s.upd := rfl
@[simp] theorem State.wrp_panel : (s.wrp p i o v).panel = s.panel := rfl
@[simp] theorem State.wrp_pwr : (s.wrp p i o v).pwr = s.pwr := rfl
end

section
variable (s : State) (o : Out)
@[simp] theorem State.emit_pending : (s.emit o).pending = s.pending := rfl
@[simp] theorem State.emit_variant : (s.emit o).variant = s.variant := rfl
@[simp] theorem State.emit_now : (s.emit o).now = s.now := rfl
@[simp] theorem State.emit_free : (s.emit o).free = s.free := rfl
@[simp] theorem State.emit_regs : (s.emit o).regs = s.regs := rfl
@[simp] theorem State.emit_shadow : (s.emit o).shadow = s.shadow := rfl
@[simp] theorem State.emit_cmdq : (s.emit o).cmdq = s.cmdq := rfl
@[simp] theorem State.emit_trig : (s.emit o).trig = s.trig := rfl
@[simp] theorem State.emit_opNs : (s.emit o).opNs = s.opNs := rfl
@[simp] theorem State.emit_edge : (s.emit o).edge = s.edge := rfl
@[simp] theorem State.emit_host : (s.emit o).host = s.host := rfl
@[simp] theorem State.emit_md : (s.emit o).md = s.md := rfl
@[simp] theorem State.emit_ord : (s.emit o).ord = s.ord := rfl
@[simp] theorem State.emit_evt : (s.emit o).evt = s.evt := rfl
@[simp] theorem State.emit_mem : (s.emit o).mem = s.mem := rfl
@[simp] theorem State.emit_net : (s.emit o).net = s.net := rfl
@[simp] theorem State.emit_lp : (s.emit o).lp = s.lp := rfl
@[simp] theorem State.emit_slv : (s.emit o).slv = s.slv := rfl
@[simp] theorem State.emit_pair : (s.emit o).pair = s.pair := rfl
@[simp] theorem State.emit_time : (s.emit o).time = s.time := rfl
@[simp] theorem State.emit_rtc : (s.emit o).rtc = s.rtc := rfl
@[simp] theorem State.emit_eth : (s.emit o).eth = s.eth := rfl
@[simp] theorem State.emit_fld : (s.emit o).fld = s.fld := rfl
@[simp] theorem State.emit_prg : (s.emit o).prg = s.prg := rfl
@[simp] theorem State.emit_can : (s.emit o).can = s.can := rfl
@[simp] theorem State.emit_safe : (s.emit o).safe = s.safe := rfl
@[simp] theorem State.emit_keys : (s.emit o).keys = s.keys := rfl
@[simp] theorem State.emit_mtr : (s.emit o).mtr = s.mtr := rfl
@[simp] theorem State.emit_prof : (s.emit o).prof = s.prof := rfl
@[simp] theorem State.emit_upd : (s.emit o).upd = s.upd := rfl
@[simp] theorem State.emit_panel : (s.emit o).panel = s.panel := rfl
@[simp] theorem State.emit_pwr : (s.emit o).pwr = s.pwr := rfl
end

section
variable (s : State) (k : Trigger)
@[simp] theorem State.trigger_pending : (s.trigger k).pending = s.pending := rfl
@[simp] theorem State.trigger_variant : (s.trigger k).variant = s.variant := rfl
@[simp] theorem State.trigger_now : (s.trigger k).now = s.now := rfl
@[simp] theorem State.trigger_free : (s.trigger k).free = s.free := rfl
@[simp] theorem State.trigger_regs : (s.trigger k).regs = s.regs := rfl
@[simp] theorem State.trigger_shadow : (s.trigger k).shadow = s.shadow := rfl
@[simp] theorem State.trigger_cmdq : (s.trigger k).cmdq = s.cmdq := rfl
@[simp] theorem State.trigger_out : (s.trigger k).out = s.out := rfl
@[simp] theorem State.trigger_opNs : (s.trigger k).opNs = s.opNs := rfl
@[simp] theorem State.trigger_edge : (s.trigger k).edge = s.edge := rfl
@[simp] theorem State.trigger_host : (s.trigger k).host = s.host := rfl
@[simp] theorem State.trigger_md : (s.trigger k).md = s.md := rfl
@[simp] theorem State.trigger_ord : (s.trigger k).ord = s.ord := rfl
@[simp] theorem State.trigger_evt : (s.trigger k).evt = s.evt := rfl
@[simp] theorem State.trigger_mem : (s.trigger k).mem = s.mem := rfl
@[simp] theorem State.trigger_net : (s.trigger k).net = s.net := rfl
@[simp] theorem State.trigger_lp : (s.trigger k).lp = s.lp := rfl
@[simp] theorem State.trigger_slv : (s.trigger k).slv = s.slv := rfl
@[simp] theorem State.trigger_pair : (s.trigger k).pair = s.pair := rfl
@[simp] theorem State.trigger_time : (s.trigger k).time = s.time := rfl
@[simp] theorem State.trigger_rtc : (s.trigger k).rtc = s.rtc := rfl
@[simp] theorem State.trigger_eth : (s.trigger k).eth = s.eth := rfl
@[simp] theorem State.trigger_fld : (s.trigger k).fld = s.fld := rfl
@[simp] theorem State.trigger_prg : (s.trigger k).prg = s.prg := rfl
@[simp] theorem State.trigger_can : (s.trigger k).can = s.can := rfl
@[simp] theorem State.trigger_safe : (s.trigger k).safe = s.safe := rfl
@[simp] theorem State.trigger_keys : (s.trigger k).keys = s.keys := rfl
@[simp] theorem State.trigger_mtr : (s.trigger k).mtr = s.mtr := rfl
@[simp] theorem State.trigger_prof : (s.trigger k).prof = s.prof := rfl
@[simp] theorem State.trigger_upd : (s.trigger k).upd = s.upd := rfl
@[simp] theorem State.trigger_panel : (s.trigger k).panel = s.panel := rfl
@[simp] theorem State.trigger_pwr : (s.trigger k).pwr = s.pwr := rfl
end

section
variable (s : State) (a : Nat) (q : List QCmd)
@[simp] theorem State.setQueue_pending : (s.setQueue a q).pending = s.pending := rfl
@[simp] theorem State.setQueue_variant : (s.setQueue a q).variant = s.variant := rfl
@[simp] theorem State.setQueue_now : (s.setQueue a q).now = s.now := rfl
@[simp] theorem State.setQueue_free : (s.setQueue a q).free = s.free := rfl
@[simp] theorem State.setQueue_regs : (s.setQueue a q).regs = s.regs := rfl
@[simp] theorem State.setQueue_shadow : (s.setQueue a q).shadow = s.shadow := rfl
@[simp] theorem State.setQueue_out : (s.setQueue a q).out = s.out := rfl
@[simp] theorem State.setQueue_trig : (s.setQueue a q).trig = s.trig := rfl
@[simp] theorem State.setQueue_opNs : (s.setQueue a q).opNs = s.opNs := rfl
@[simp] theorem State.setQueue_edge : (s.setQueue a q).edge = s.edge := rfl
@[simp] theorem State.setQueue_host : (s.setQueue a q).host = s.host := rfl
@[simp] theorem State.setQueue_md : (s.setQueue a q).md = s.md := rfl
@[simp] theorem State.setQueue_ord : (s.setQueue a q).ord = s.ord := rfl
@[simp] theorem State.setQueue_evt : (s.setQueue a q).evt = s.evt := rfl
@[simp] theorem State.setQueue_mem : (s.setQueue a q).mem = s.mem := rfl
@[simp] theorem State.setQueue_net : (s.setQueue a q).net = s.net := rfl
@[simp] theorem State.setQueue_lp : (s.setQueue a q).lp = s.lp := rfl
@[simp] theorem State.setQueue_slv : (s.setQueue a q).slv = s.slv := rfl
@[simp] theorem State.setQueue_pair : (s.setQueue a q).pair = s.pair := rfl
@[simp] theorem State.setQueue_time : (s.setQueue a q).time = s.time := rfl
@[simp] theorem State.setQueue_rtc : (s.setQueue a q).rtc = s.rtc := rfl
@[simp] theorem State.setQueue_eth : (s.setQueue a q).eth = s.eth := rfl
@[simp] theorem State.setQueue_fld : (s.setQueue a q).fld = s.fld := rfl
@[simp] theorem State.setQueue_prg : (s.setQueue a q).prg = s.prg := rfl
@[simp] theorem State.setQueue_can : (s.setQueue a q).can = s.can := rfl
@[simp] theorem State.setQueue_safe : (s.setQueue a q).safe = s.safe := rfl
@[simp] theorem State.setQueue_keys : (s.setQueue a q).keys = s.keys := rfl
@[simp] theorem State.setQueue_mtr : (s.setQueue a q).mtr = s.mtr := rfl
@[simp] theorem State.setQueue_prof : (s.setQueue a q).prof = s.prof := rfl
@[simp] theorem State.setQueue_upd : (s.setQueue a q).upd = s.upd := rfl
@[simp] theorem State.setQueue_panel : (s.setQueue a q).panel = s.panel := rfl
@[simp] theorem State.setQueue_pwr : (s.setQueue a q).pwr = s.pwr := rfl
end

section
variable (s : State) (n : Nat) (f : Session → Session)
@[simp] theorem State.updSess_pending : (s.updSess n f).pending = s.pending := rfl
@[simp] theorem State.updSess_variant : (s.updSess n f).variant = s.variant := rfl
@[simp] theorem State.updSess_now : (s.updSess n f).now = s.now := rfl
@[simp] theorem State.updSess_free : (s.updSess n f).free = s.free := rfl
@[simp] theorem State.updSess_regs : (s.updSess n f).regs = s.regs := rfl
@[simp] theorem State.updSess_shadow : (s.updSess n f).shadow = s.shadow := rfl
@[simp] theorem State.updSess_cmdq : (s.updSess n f).cmdq = s.cmdq := rfl
@[simp] theorem State.updSess_out : (s.updSess n f).out = s.out := rfl
@[simp] theorem State.updSess_trig : (s.updSess n f).trig = s.trig := rfl
@[simp] theorem State.updSess_opNs : (s.updSess n f).opNs = s.opNs := rfl
@[simp] theorem State.updSess_edge : (s.updSess n f).edge = s.edge := rfl
@[simp] theorem State.updSess_md : (s.updSess n f).md = s.md := rfl
@[simp] theorem State.updSess_ord : (s.updSess n f).ord = s.ord := rfl
@[simp] theorem State.updSess_evt : (s.updSess n f).evt = s.evt := rfl
@[simp] theorem State.updSess_mem : (s.updSess n f).mem = s.mem := rfl
@[simp] theorem State.updSess_net : (s.updSess n f).net = s.net := rfl
@[simp] theorem State.updSess_lp : (s.updSess n f).lp = s.lp := rfl
@[simp] theorem State.updSess_slv : (s.updSess n f).slv = s.slv := rfl
@[simp] theorem State.updSess_pair : (s.updSess n f).pair = s.pair := rfl
@[simp] theorem State.updSess_time : (s.updSess n f).time = s.time := rfl
@[simp] theorem State.updSess_rtc : (s.updSess n f).rtc = s.rtc := rfl
@[simp] theorem State.updSess_eth : (s.updSess n f).eth = s.eth := rfl
@[simp] theorem State.updSess_fld : (s.updSess n f).fld = s.fld := rfl
@[simp] theorem State.updSess_prg : (s.updSess n f).prg = s.prg := rfl
@[simp] theorem State.updSess_can : (s.updSess n f).can = s.can := rfl
@[simp] theorem State.updSess_safe : (s.updSess n f).safe = s.safe := rfl
@[simp] theorem State.updSess_keys : (s.updSess n f).keys = s.keys := rfl
@[simp] theorem State.updSess_mtr : (s.updSess n f).mtr = s.mtr := rfl
@[simp] theorem State.updSess_prof : (s.updSess n f).prof = s.prof := rfl
@[simp] theorem State.updSess_upd : (s.updSess n f).upd = s.upd := rfl
@[simp] theorem State.updSess_panel : (s.updSess n f).panel = s.panel := rfl
@[simp] theorem State.updSess_pwr : (s.updSess n f).pwr = s.pwr := rfl
end

section
variable (s : State) (f : ModeState → ModeState)
@[simp] theorem State.updMd_pending : (s.updMd f).pending = s.pending := rfl
@[simp] theorem State.updMd_variant : (s.updMd f).variant = s.variant := rfl
@[simp] theorem State.updMd_now : (s.updMd f).now = s.now := rfl
@[simp] theorem State.updMd_free : (s.updMd f).free = s.free := rfl
@[simp] theorem State.updMd_regs : (s.updMd f).regs = s.regs := rfl
@[simp] theorem State.updMd_shadow : (s.updMd f).shadow = s.shadow := rfl
@[simp] theorem State.updMd_cmdq : (s.updMd f).cmdq = s.cmdq := rfl
@[simp] theorem State.updMd_out : (s.updMd f).out = s.out := rfl
@[simp] theorem State.updMd_trig : (s.updMd f).trig = s.trig := rfl
@[simp] theorem State.updMd_opNs : (s.updMd f).opNs = s.opNs := rfl
@[simp] theorem State.updMd_edge : (s.updMd f).edge = s.edge := rfl
@[simp] theorem State.updMd_host : (s.updMd f).host = s.host := rfl
@[simp] theorem State.updMd_ord : (s.updMd f).ord = s.ord := rfl
@[simp] theorem State.updMd_evt : (s.updMd f).evt = s.evt := rfl
@[simp] theorem State.updMd_mem : (s.updMd f).mem = s.mem := rfl
@[simp] theorem State.updMd_net : (s.updMd f).net = s.net := rfl
@[simp] theorem State.updMd_lp : (s.updMd f).lp = s.lp := rfl
@[simp] theorem State.updMd_slv : (s.updMd f).slv = s.slv := rfl
@[simp] theorem State.updMd_pair : (s.updMd f).pair = s.pair := rfl
@[simp] theorem State.updMd_time : (s.updMd f).time = s.time := rfl
@[simp] theorem State.updMd_rtc : (s.updMd f).rtc = s.rtc := rfl
@[simp] theorem State.updMd_eth : (s.updMd f).eth = s.eth := rfl
@[simp] theorem State.updMd_fld : (s.updMd f).fld = s.fld := rfl
@[simp] theorem State.updMd_prg : (s.updMd f).prg = s.prg := rfl
@[simp] theorem State.updMd_can : (s.updMd f).can = s.can := rfl
@[simp] theorem State.updMd_safe : (s.updMd f).safe = s.safe := rfl
@[simp] theorem State.updMd_keys : (s.updMd f).keys = s.keys := rfl
@[simp] theorem State.updMd_mtr : (s.updMd f).mtr = s.mtr := rfl
@[simp] theorem State.updMd_prof : (s.updMd f).prof = s.prof := rfl
@[simp] theorem State.updMd_upd : (s.updMd f).upd = s.upd := rfl
@[simp] theorem State.updMd_panel : (s.updMd f).panel = s.panel := rfl
@[simp] theorem State.updMd_pwr : (s.updMd f).pwr = s.pwr := rfl
end

section
variable (s : State) (n : Nat) (f : EthPort → EthPort)
@[simp] theorem State.updPort_pending : (s.updPort n f).pending = s.pending := rfl
@[simp] theorem State.updPort_variant : (s.updPort n f).variant = s.variant := rfl
@[simp] theorem State.updPort_now : (s.updPort n f).now = s.now := rfl
@[simp] theorem State.updPort_free : (s.updPort n f).free = s.free := rfl
@[simp] theorem State.updPort_regs : (s.updPort n f).regs = s.regs := rfl
@[simp] theorem State.updPort_shadow : (s.updPort n f).shadow = s.shadow := rfl
@[simp] theorem State.updPort_cmdq : (s.updPort n f).cmdq = s.cmdq := rfl
@[simp] theorem State.updPort_out : (s.updPort n f).out = s.out := rfl
@[simp] theorem State.updPort_trig : (s.updPort n f).trig = s.trig := rfl
@[simp] theorem State.updPort_opNs : (s.updPort n f).opNs = s.opNs := rfl
@[simp] theorem State.updPort_edge : (s.updPort n f).edge = s.edge := rfl
@[simp] theorem State.updPort_host : (s.updPort n f).host = s.host := rfl
@[simp] theorem State.updPort_md : (s.updPort n f).md = s.md := rfl
@[simp] theorem State.updPort_ord : (s.updPort n f).ord = s.ord := rfl
@[simp] theorem State.updPort_evt : (s.updPort n f).evt = s.evt := rfl
@[simp] theorem State.updPort_mem : (s.updPort n f).mem = s.mem := rfl
@[simp] theorem State.updPort_net : (s.updPort n f).net = s.net := rfl
@[simp] theorem State.updPort_lp : (s.updPort n f).lp = s.lp := rfl
@[simp] theorem State.updPort_slv : (s.updPort n f).slv = s.slv := rfl
@[simp] theorem State.updPort_pair : (s.updPort n f).pair = s.pair := rfl
@[simp] theorem State.updPort_time : (s.updPort n f).time = s.time := rfl
@[simp] theorem State.updPort_rtc : (s.updPort n f).rtc = s.rtc := rfl
@[simp] theorem State.updPort_fld : (s.updPort n f).fld = s.fld := rfl
@[simp] theorem State.updPort_prg : (s.updPort n f).prg = s.prg := rfl
@[simp] theorem State.updPort_can : (s.updPort n f).can = s.can := rfl
@[simp] theorem State.updPort_safe : (s.updPort n f).safe = s.safe := rfl
@[simp] theorem State.updPort_keys : (s.updPort n f).keys = s.keys := rfl
@[simp] theorem State.updPort_mtr : (s.updPort n f).mtr = s.mtr := rfl
@[simp] theorem State.updPort_prof : (s.updPort n f).prof = s.prof := rfl
@[simp] theorem State.updPort_upd : (s.updPort n f).upd = s.upd := rfl
@[simp] theorem State.updPort_panel : (s.updPort n f).panel = s.panel := rfl
@[simp] theorem State.updPort_pwr : (s.updPort n f).pwr = s.pwr := rfl
end

section
variable (s : State) (n : Nat) (f : Loop → Loop)
@[simp] theorem State.updLoop_pending : (s.updLoop n f).pending = s.pending := rfl
@[simp] theorem State.updLoop_variant : (s.updLoop n f).variant = s.variant := rfl
@[simp] theorem State.updLoop_now : (s.updLoop n f).now = s.now := rfl
@[simp] theorem State.updLoop_free : (s.updLoop n f).free = s.free := rfl
@[simp] theorem State.updLoop_regs : (s.updLoop n f).regs = s.regs := rfl
@[simp] theorem State.updLoop_shadow : (s.updLoop n f).shadow = s.shadow := rfl
@[simp] theorem State.updLoop_cmdq : (s.updLoop n f).cmdq = s.cmdq := rfl
@[simp] theorem State.updLoop_out : (s.updLoop n f).out = s.out := rfl
@[simp] theorem State.updLoop_trig : (s.updLoop n f).trig = s.trig := rfl
@[simp] theorem State.updLoop_opNs : (s.updLoop n f).opNs = s.opNs := rfl
@[simp] theorem State.updLoop_edge : (s.updLoop n f).edge = s.edge := rfl
@[simp] theorem State.updLoop_host : (s.updLoop n f).host = s.host := rfl
@[simp] theorem State.updLoop_md : (s.updLoop n f).md = s.md := rfl
@[simp] theorem State.updLoop_ord : (s.updLoop n f).ord = s.ord := rfl
@[simp] theorem State.updLoop_evt : (s.updLoop n f).evt = s.evt := rfl
@[simp] theorem State.updLoop_mem : (s.updLoop n f).mem = s.mem := rfl
@[simp] theorem State.updLoop_net : (s.updLoop n f).net = s.net := rfl
@[simp] theorem State.updLoop_slv : (s.updLoop n f).slv = s.slv := rfl
@[simp] theorem State.updLoop_pair : (s.updLoop n f).pair = s.pair := rfl
@[simp] theorem State.updLoop_time : (s.updLoop n f).time = s.time := rfl
@[simp] theorem State.updLoop_rtc : (s.updLoop n f).rtc = s.rtc := rfl
@[simp] theorem State.updLoop_eth : (s.updLoop n f).eth = s.eth := rfl
@[simp] theorem State.updLoop_fld : (s.updLoop n f).fld = s.fld := rfl
@[simp] theorem State.updLoop_prg : (s.updLoop n f).prg = s.prg := rfl
@[simp] theorem State.updLoop_can : (s.updLoop n f).can = s.can := rfl
@[simp] theorem State.updLoop_safe : (s.updLoop n f).safe = s.safe := rfl
@[simp] theorem State.updLoop_keys : (s.updLoop n f).keys = s.keys := rfl
@[simp] theorem State.updLoop_mtr : (s.updLoop n f).mtr = s.mtr := rfl
@[simp] theorem State.updLoop_prof : (s.updLoop n f).prof = s.prof := rfl
@[simp] theorem State.updLoop_upd : (s.updLoop n f).upd = s.upd := rfl
@[simp] theorem State.updLoop_panel : (s.updLoop n f).panel = s.panel := rfl
@[simp] theorem State.updLoop_pwr : (s.updLoop n f).pwr = s.pwr := rfl
end

section
variable (s : State) (n : Nat) (f : ElPoint → ElPoint)
@[simp] theorem State.updEl_pending : (s.updEl n f).pending = s.pending := rfl
@[simp] theorem State.updEl_variant : (s.updEl n f).variant = s.variant := rfl
@[simp] theorem State.updEl_now : (s.updEl n f).now = s.now := rfl
@[simp] theorem State.updEl_free : (s.updEl n f).free = s.free := rfl
@[simp] theorem State.updEl_regs : (s.updEl n f).regs = s.regs := rfl
@[simp] theorem State.updEl_shadow : (s.updEl n f).shadow = s.shadow := rfl
@[simp] theorem State.updEl_cmdq : (s.updEl n f).cmdq = s.cmdq := rfl
@[simp] theorem State.updEl_out : (s.updEl n f).out = s.out := rfl
@[simp] theorem State.updEl_trig : (s.updEl n f).trig = s.trig := rfl
@[simp] theorem State.updEl_opNs : (s.updEl n f).opNs = s.opNs := rfl
@[simp] theorem State.updEl_edge : (s.updEl n f).edge = s.edge := rfl
@[simp] theorem State.updEl_host : (s.updEl n f).host = s.host := rfl
@[simp] theorem State.updEl_md : (s.updEl n f).md = s.md := rfl
@[simp] theorem State.updEl_ord : (s.updEl n f).ord = s.ord := rfl
@[simp] theorem State.updEl_evt : (s.updEl n f).evt = s.evt := rfl
@[simp] theorem State.updEl_mem : (s.updEl n f).mem = s.mem := rfl
@[simp] theorem State.updEl_net : (s.updEl n f).net = s.net := rfl
@[simp] theorem State.updEl_lp : (s.updEl n f).lp = s.lp := rfl
@[simp] theorem State.updEl_slv : (s.updEl n f).slv = s.slv := rfl
@[simp] theorem State.updEl_pair : (s.updEl n f).pair = s.pair := rfl
@[simp] theorem State.updEl_time : (s.updEl n f).time = s.time := rfl
@[simp] theorem State.updEl_rtc : (s.updEl n f).rtc = s.rtc := rfl
@[simp] theorem State.updEl_eth : (s.updEl n f).eth = s.eth := rfl
@[simp] theorem State.updEl_fld : (s.updEl n f).fld = s.fld := rfl
@[simp] theorem State.updEl_prg : (s.updEl n f).prg = s.prg := rfl
@[simp] theorem State.updEl_can : (s.updEl n f).can = s.can := rfl
@[simp] theorem State.updEl_safe : (s.updEl n f).safe = s.safe := rfl
@[simp] theorem State.updEl_keys : (s.updEl n f).keys = s.keys := rfl
@[simp] theorem State.updEl_prof : (s.updEl n f).prof = s.prof := rfl
@[simp] theorem State.updEl_upd : (s.updEl n f).upd = s.upd := rfl
@[simp] theorem State.updEl_panel : (s.updEl n f).panel = s.panel := rfl
@[simp] theorem State.updEl_pwr : (s.updEl n f).pwr = s.pwr := rfl
end

section
variable (s : State) (n : Nat) (f : Grp → Grp)
@[simp] theorem State.updGrp_pending : (s.updGrp n f).pending = s.pending := rfl
@[simp] theorem State.updGrp_variant : (s.updGrp n f).variant = s.variant := rfl
@[simp] theorem State.updGrp_now : (s.updGrp n f).now = s.now := rfl
@[simp] theorem State.updGrp_free : (s.updGrp n f).free = s.free := rfl
@[simp] theorem State.updGrp_regs : (s.updGrp n f).regs = s.regs := rfl
@[simp] theorem State.updGrp_shadow : (s.updGrp n f).shadow = s.shadow := rfl
@[simp] theorem State.updGrp_cmdq : (s.updGrp n f).cmdq = s.cmdq := rfl
@[simp] theorem State.updGrp_out : (s.updGrp n f).out = s.out := rfl
@[simp] theorem State.updGrp_trig : (s.updGrp n f).trig = s.trig := rfl
@[simp] theorem State.updGrp_opNs : (s.updGrp n f).opNs = s.opNs := rfl
@[simp] theorem State.updGrp_edge : (s.updGrp n f).edge = s.edge := rfl
@[simp] theorem State.updGrp_host : (s.updGrp n f).host = s.host := rfl
@[simp] theorem State.updGrp_md : (s.updGrp n f).md = s.md := rfl
@[simp] theorem State.updGrp_ord : (s.updGrp n f).ord = s.ord := rfl
@[simp] theorem State.updGrp_evt : (s.updGrp n f).evt = s.evt := rfl
@[simp] theorem State.updGrp_mem : (s.updGrp n f).mem = s.mem := rfl
@[simp] theorem State.updGrp_net : (s.updGrp n f).net = s.net := rfl
@[simp] theorem State.updGrp_lp : (s.updGrp n f).lp = s.lp := rfl
@[simp] theorem State.updGrp_slv : (s.updGrp n f).slv = s.slv := rfl
@[simp] theorem State.updGrp_pair : (s.updGrp n f).pair = s.pair := rfl
@[simp] theorem State.updGrp_time : (s.updGrp n f).time = s.time := rfl
@[simp] theorem State.updGrp_rtc : (s.updGrp n f).rtc = s.rtc := rfl
@[simp] theorem State.updGrp_eth : (s.updGrp n f).eth = s.eth := rfl
@[simp] theorem State.updGrp_prg : (s.updGrp n f).prg = s.prg := rfl
@[simp] theorem State.updGrp_can : (s.updGrp n f).can = s.can := rfl
@[simp] theorem State.updGrp_safe : (s.updGrp n f).safe = s.safe := rfl
@[simp] theorem State.updGrp_keys : (s.updGrp n f).keys = s.keys := rfl
@[simp] theorem State.updGrp_mtr : (s.updGrp n f).mtr = s.mtr := rfl
@[simp] theorem State.updGrp_prof : (s.updGrp n f).prof = s.prof := rfl
@[simp] theorem State.updGrp_upd : (s.updGrp n f).upd = s.upd := rfl
@[simp] theorem State.updGrp_panel : (s.updGrp n f).panel = s.panel := rfl
@[simp] theorem State.updGrp_pwr : (s.updGrp n f).pwr = s.pwr := rfl
end

section
variable (s : State) (n : Nat) (f : Stn → Stn)
@[simp] theorem State.updStn_pending : (s.updStn n f).pending = s.pending := rfl
@[simp] theorem State.updStn_variant : (s.updStn n f).variant = s.variant := rfl
@[simp] theorem State.updStn_now : (s.updStn n f).now = s.now := rfl
@[simp] theorem State.updStn_free : (s.updStn n f).free = s.free := rfl
@[simp] theorem State.updStn_regs : (s.updStn n f).regs = s.regs := rfl
@[simp] theorem State.updStn_shadow : (s.updStn n f).shadow = s.shadow := rfl
@[simp] theorem State.updStn_cmdq : (s.updStn n f).cmdq = s.cmdq := rfl
@[simp] theorem State.updStn_out : (s.updStn n f).out = s.out := rfl
@[simp] theorem State.updStn_trig : (s.updStn n f).trig = s.trig := rfl
@[simp] theorem State.updStn_opNs : (s.updStn n f).opNs = s.opNs := rfl
@[simp] theorem State.updStn_edge : (s.updStn n f).edge = s.edge := rfl
@[simp] theorem State.updStn_host : (s.updStn n f).host = s.host := rfl
@[simp] theorem State.updStn_md : (s.updStn n f).md = s.md := rfl
@[simp] theorem State.updStn_ord : (s.updStn n f).ord = s.ord := rfl
@[simp] theorem State.updStn_evt : (s.updStn n f).evt = s.evt := rfl
@[simp] theorem State.updStn_mem : (s.updStn n f).mem = s.mem := rfl
@[simp] theorem State.updStn_lp : (s.updStn n f).lp = s.lp := rfl
@[simp] theorem State.updStn_slv : (s.updStn n f).slv = s.slv := rfl
@[simp] theorem State.updStn_pair : (s.updStn n f).pair = s.pair := rfl
@[simp] theorem State.updStn_time : (s.updStn n f).time = s.time := rfl
@[simp] theorem State.updStn_rtc : (s.updStn n f).rtc = s.rtc := rfl
@[simp] theorem State.updStn_eth : (s.updStn n f).eth = s.eth := rfl
@[simp] theorem State.updStn_fld : (s.updStn n f).fld = s.fld := rfl
@[simp] theorem State.updStn_prg : (s.updStn n f).prg = s.prg := rfl
@[simp] theorem State.updStn_can : (s.updStn n f).can = s.can := rfl
@[simp] theorem State.updStn_safe : (s.updStn n f).safe = s.safe := rfl
@[simp] theorem State.updStn_keys : (s.updStn n f).keys = s.keys := rfl
@[simp] theorem State.updStn_mtr : (s.updStn n f).mtr = s.mtr := rfl
@[simp] theorem State.updStn_prof : (s.updStn n f).prof = s.prof := rfl
@[simp] theorem State.updStn_upd : (s.updStn n f).upd = s.upd := rfl
@[simp] theorem State.updStn_panel : (s.updStn n f).panel = s.panel := rfl
@[simp] theorem State.updStn_pwr : (s.updStn n f).pwr = s.pwr := rfl
end

section
variable (s : State) (f : PairState → PairState)
@[simp] theorem State.updPair_pending : (s.updPair f).pending = s.pending := rfl
@[simp] theorem State.updPair_variant : (s.updPair f).variant = s.variant := rfl
@[simp] theorem State.updPair_now : (s.updPair f).now = s.now := rfl
@[simp] theorem State.updPair_free : (s.updPair f).free = s.free := rfl
@[simp] theorem State.updPair_regs : (s.updPair f).regs = s.regs := rfl
@[simp] theorem State.updPair_shadow : (s.updPair f).shadow = s.shadow := rfl
@[simp] theorem State.updPair_cmdq : (s.updPair f).cmdq = s.cmdq := rfl
@[simp] theorem State.updPair_out : (s.updPair f).out = s.out := rfl
@[simp] theorem State.updPair_trig : (s.updPair f).trig = s.trig := rfl
@[simp] theorem State.updPair_opNs : (s.updPair f).opNs = s.opNs := rfl
@[simp] theorem State.updPair_edge : (s.updPair f).edge = s.edge := rfl
@[simp] theorem State.updPair_host : (s.updPair f).host = s.host := rfl
@[simp] theorem State.updPair_md : (s.updPair f).md = s.md := rfl
@[simp] theorem State.updPair_ord : (s.updPair f).ord = s.ord := rfl
@[simp] theorem State.updPair_evt : (s.updPair f).evt = s.evt := rfl
@[simp] theorem State.updPair_mem : (s.updPair f).mem = s.mem := rfl
@[simp] theorem State.updPair_net : (s.updPair f).net = s.net := rfl
@[simp] theorem State.updPair_lp : (s.updPair f).lp = s.lp := rfl
@[simp] theorem State.updPair_slv : (s.updPair f).slv = s.slv := rfl
@[simp] theorem State.updPair_time : (s.updPair f).time = s.time := rfl
@[simp] theorem State.updPair_rtc : (s.updPair f).rtc = s.rtc := rfl
@[simp] theorem State.updPair_eth : (s.updPair f).eth = s.eth := rfl
@[simp] theorem State.updPair_fld : (s.updPair f).fld = s.fld := rfl
@[simp] theorem State.updPair_prg : (s.updPair f).prg = s.prg := rfl
@[simp] theorem State.updPair_can : (s.updPair f).can = s.can := rfl
@[simp] theorem State.updPair_safe : (s.updPair f).safe = s.safe := rfl
@[simp] theorem State.updPair_keys : (s.updPair f).keys = s.keys := rfl
@[simp] theorem State.updPair_mtr : (s.updPair f).mtr = s.mtr := rfl
@[simp] theorem State.updPair_prof : (s.updPair f).prof = s.prof := rfl
@[simp] theorem State.updPair_upd : (s.updPair f).upd = s.upd := rfl
@[simp] theorem State.updPair_panel : (s.updPair f).panel = s.panel := rfl
@[simp] theorem State.updPair_pwr : (s.updPair f).pwr = s.pwr := rfl
end

section
variable (s : State) (f : PanelState → PanelState)
@[simp] theorem State.updPanel_pending : (s.updPanel f).pending = s.pending := rfl
@[simp] theorem State.updPanel_variant : (s.updPanel f).variant = s.variant := rfl
@[simp] theorem State.updPanel_now : (s.updPanel f).now = s.now := rfl
@[simp] theorem State.updPanel_free : (s.updPanel f).free = s.free := rfl
@[simp] theorem State.updPanel_regs : (s.updPanel f).regs = s.regs := rfl
@[simp] theorem State.updPanel_shadow : (s.updPanel f).shadow = s.shadow := rfl
@[simp] theorem State.updPanel_cmdq : (s.updPanel f).cmdq = s.cmdq := rfl
@[simp] theorem State.updPanel_out : (s.updPanel f).out = s.out := rfl
@[simp] theorem State.updPanel_trig : (s.updPanel f).trig = s.trig := rfl
@[simp] theorem State.updPanel_opNs : (s.updPanel f).opNs = s.opNs := rfl
@[simp] theorem State.updPanel_edge : (s.updPanel f).edge = s.edge := rfl
@[simp] theorem State.updPanel_host : (s.updPanel f).host = s.host := rfl
@[simp] theorem State.updPanel_md : (s.updPanel f).md = s.md := rfl
@[simp] theorem State.updPanel_ord : (s.updPanel f).ord = s.ord := rfl
@[simp] theorem State.updPanel_evt : (s.updPanel f).evt = s.evt := rfl
@[simp] theorem State.updPanel_mem : (s.updPanel f).mem = s.mem := rfl
@[simp] theorem State.updPanel_net : (s.updPanel f).net = s.net := rfl
@[simp] theorem State.updPanel_lp : (s.updPanel f).lp = s.lp := rfl
@[simp] theorem State.updPanel_slv : (s.updPanel f).slv = s.slv := rfl
@[simp] theorem State.updPanel_pair : (s.updPanel f).pair = s.pair := rfl
@[simp] theorem State.updPanel_time : (s.updPanel f).time = s.time := rfl
@[simp] theorem State.updPanel_rtc : (s.updPanel f).rtc = s.rtc := rfl
@[simp] theorem State.updPanel_eth : (s.updPanel f).eth = s.eth := rfl
@[simp] theorem State.updPanel_fld : (s.updPanel f).fld = s.fld := rfl
@[simp] theorem State.updPanel_prg : (s.updPanel f).prg = s.prg := rfl
@[simp] theorem State.updPanel_can : (s.updPanel f).can = s.can := rfl
@[simp] theorem State.updPanel_safe : (s.updPanel f).safe = s.safe := rfl
@[simp] theorem State.updPanel_keys : (s.updPanel f).keys = s.keys := rfl
@[simp] theorem State.updPanel_mtr : (s.updPanel f).mtr = s.mtr := rfl
@[simp] theorem State.updPanel_prof : (s.updPanel f).prof = s.prof := rfl
@[simp] theorem State.updPanel_upd : (s.updPanel f).upd = s.upd := rfl
@[simp] theorem State.updPanel_pwr : (s.updPanel f).pwr = s.pwr := rfl
end

section
variable (s : State) (f : PwrState → PwrState)
@[simp] theorem State.updPwr_pending : (s.updPwr f).pending = s.pending := rfl
@[simp] theorem State.updPwr_variant : (s.updPwr f).variant = s.variant := rfl
@[simp] theorem State.updPwr_now : (s.updPwr f).now = s.now := rfl
@[simp] theorem State.updPwr_free : (s.updPwr f).free = s.free := rfl
@[simp] theorem State.updPwr_regs : (s.updPwr f).regs = s.regs := rfl
@[simp] theorem State.updPwr_shadow : (s.updPwr f).shadow = s.shadow := rfl
@[simp] theorem State.updPwr_cmdq : (s.updPwr f).cmdq = s.cmdq := rfl
@[simp] theorem State.updPwr_out : (s.updPwr f).out = s.out := rfl
@[simp] theorem State.updPwr_trig : (s.updPwr f).trig = s.trig := rfl
@[simp] theorem State.updPwr_opNs : (s.updPwr f).opNs = s.opNs := rfl
@[simp] theorem State.updPwr_edge : (s.updPwr f).edge = s.edge := rfl
@[simp] theorem State.updPwr_host : (s.updPwr f).host = s.host := rfl
@[simp] theorem State.updPwr_md : (s.updPwr f).md = s.md := rfl
@[simp] theorem State.updPwr_ord : (s.updPwr f).ord = s.ord := rfl
@[simp] theorem State.updPwr_evt : (s.updPwr f).evt = s.evt := rfl
@[simp] theorem State.updPwr_mem : (s.updPwr f).mem = s.mem := rfl
@[simp] theorem State.updPwr_net : (s.updPwr f).net = s.net := rfl
@[simp] theorem State.updPwr_lp : (s.updPwr f).lp = s.lp := rfl
@[simp] theorem State.updPwr_slv : (s.updPwr f).slv = s.slv := rfl
@[simp] theorem State.updPwr_pair : (s.updPwr f).pair = s.pair := rfl
@[simp] theorem State.updPwr_time : (s.updPwr f).time = s.time := rfl
@[simp] theorem State.updPwr_rtc : (s.updPwr f).rtc = s.rtc := rfl
@[simp] theorem State.updPwr_eth : (s.updPwr f).eth = s.eth := rfl
@[simp] theorem State.updPwr_fld : (s.updPwr f).fld = s.fld := rfl
@[simp] theorem State.updPwr_prg : (s.updPwr f).prg = s.prg := rfl
@[simp] theorem State.updPwr_can : (s.updPwr f).can = s.can := rfl
@[simp] theorem State.updPwr_safe : (s.updPwr f).safe = s.safe := rfl
@[simp] theorem State.updPwr_keys : (s.updPwr f).keys = s.keys := rfl
@[simp] theorem State.updPwr_mtr : (s.updPwr f).mtr = s.mtr := rfl
@[simp] theorem State.updPwr_prof : (s.updPwr f).prof = s.prof := rfl
@[simp] theorem State.updPwr_upd : (s.updPwr f).upd = s.upd := rfl
@[simp] theorem State.updPwr_panel : (s.updPwr f).panel = s.panel := rfl
end

section
variable (s : State) (n : Nat) (f : Task → Task)
@[simp] theorem State.updTask_pending : (s.updTask n f).pending = s.pending := rfl
@[simp] theorem State.updTask_variant : (s.updTask n f).variant = s.variant := rfl
@[simp] theorem State.updTask_now : (s.updTask n f).now = s.now := rfl
@[simp] theorem State.updTask_free : (s.updTask n f).free = s.free := rfl
@[simp] theorem State.updTask_regs : (s.updTask n f).regs = s.regs := rfl
@[simp] theorem State.updTask_shadow : (s.updTask n f).shadow = s.shadow := rfl
@[simp] theorem State.updTask_cmdq : (s.updTask n f).cmdq = s.cmdq := rfl
@[simp] theorem State.updTask_out : (s.updTask n f).out = s.out := rfl
@[simp] theorem State.updTask_trig : (s.updTask n f).trig = s.trig := rfl
@[simp] theorem State.updTask_opNs : (s.updTask n f).opNs = s.opNs := rfl
@[simp] theorem State.updTask_edge : (s.updTask n f).edge = s.edge := rfl
@[simp] theorem State.updTask_host : (s.updTask n f).host = s.host := rfl
@[simp] theorem State.updTask_md : (s.updTask n f).md = s.md := rfl
@[simp] theorem State.updTask_ord : (s.updTask n f).ord = s.ord := rfl
@[simp] theorem State.updTask_evt : (s.updTask n f).evt = s.evt := rfl
@[simp] theorem State.updTask_mem : (s.updTask n f).mem = s.mem := rfl
@[simp] theorem State.updTask_net : (s.updTask n f).net = s.net := rfl
@[simp] theorem State.updTask_lp : (s.updTask n f).lp = s.lp := rfl
@[simp] theorem State.updTask_slv : (s.updTask n f).slv = s.slv := rfl
@[simp] theorem State.updTask_pair : (s.updTask n f).pair = s.pair := rfl
@[simp] theorem State.updTask_time : (s.updTask n f).time = s.time := rfl
@[simp] theorem State.updTask_rtc : (s.updTask n f).rtc = s.rtc := rfl
@[simp] theorem State.updTask_eth : (s.updTask n f).eth = s.eth := rfl
@[simp] theorem State.updTask_fld : (s.updTask n f).fld = s.fld := rfl
@[simp] theorem State.updTask_can : (s.updTask n f).can = s.can := rfl
@[simp] theorem State.updTask_safe : (s.updTask n f).safe = s.safe := rfl
@[simp] theorem State.updTask_keys : (s.updTask n f).keys = s.keys := rfl
@[simp] theorem State.updTask_mtr : (s.updTask n f).mtr = s.mtr := rfl
@[simp] theorem State.updTask_prof : (s.updTask n f).prof = s.prof := rfl
@[simp] theorem State.updTask_upd : (s.updTask n f).upd = s.upd := rfl
@[simp] theorem State.updTask_panel : (s.updTask n f).panel = s.panel := rfl
@[simp] theorem State.updTask_pwr : (s.updTask n f).pwr = s.pwr := rfl
end

section
variable (s : State) (n : Nat) (f : Fn → Fn)
@[simp] theorem State.updFn_pending : (s.updFn n f).pending = s.pending := rfl
@[simp] theorem State.updFn_variant : (s.updFn n f).variant = s.variant := rfl
@[simp] theorem State.updFn_now : (s.updFn n f).now = s.now := rfl
@[simp] theorem State.updFn_free : (s.updFn n f).free = s.free := rfl
@[simp] theorem State.updFn_regs : (s.updFn n f).regs = s.regs := rfl
@[simp] theorem State.updFn_shadow : (s.updFn n f).shadow = s.shadow := rfl
@[simp] theorem State.updFn_cmdq : (s.updFn n f).cmdq = s.cmdq := rfl
@[simp] theorem State.updFn_out : (s.updFn n f).out = s.out := rfl
@[simp] theorem State.updFn_trig : (s.updFn n f).trig = s.trig := rfl
@[simp] theorem State.updFn_opNs : (s.updFn n f).opNs = s.opNs := rfl
@[simp] theorem State.updFn_edge : (s.updFn n f).edge = s.edge := rfl
@[simp] theorem State.updFn_host : (s.updFn n f).host = s.host := rfl
@[simp] theorem State.updFn_md : (s.updFn n f).md = s.md := rfl
@[simp] theorem State.updFn_ord : (s.updFn n f).ord = s.ord := rfl
@[simp] theorem State.updFn_evt : (s.updFn n f).evt = s.evt := rfl
@[simp] theorem State.updFn_mem : (s.updFn n f).mem = s.mem := rfl
@[simp] theorem State.updFn_net : (s.updFn n f).net = s.net := rfl
@[simp] theorem State.updFn_lp : (s.updFn n f).lp = s.lp := rfl
@[simp] theorem State.updFn_slv : (s.updFn n f).slv = s.slv := rfl
@[simp] theorem State.updFn_pair : (s.updFn n f).pair = s.pair := rfl
@[simp] theorem State.updFn_time : (s.updFn n f).time = s.time := rfl
@[simp] theorem State.updFn_rtc : (s.updFn n f).rtc = s.rtc := rfl
@[simp] theorem State.updFn_eth : (s.updFn n f).eth = s.eth := rfl
@[simp] theorem State.updFn_fld : (s.updFn n f).fld = s.fld := rfl
@[simp] theorem State.updFn_prg : (s.updFn n f).prg = s.prg := rfl
@[simp] theorem State.updFn_can : (s.updFn n f).can = s.can := rfl
@[simp] theorem State.updFn_keys : (s.updFn n f).keys = s.keys := rfl
@[simp] theorem State.updFn_mtr : (s.updFn n f).mtr = s.mtr := rfl
@[simp] theorem State.updFn_prof : (s.updFn n f).prof = s.prof := rfl
@[simp] theorem State.updFn_upd : (s.updFn n f).upd = s.upd := rfl
@[simp] theorem State.updFn_panel : (s.updFn n f).panel = s.panel := rfl
@[simp] theorem State.updFn_pwr : (s.updFn n f).pwr = s.pwr := rfl
end

section
variable (s : State) (n : Nat) (f : Pol → Pol)
@[simp] theorem State.updPol_pending : (s.updPol n f).pending = s.pending := rfl
@[simp] theorem State.updPol_variant : (s.updPol n f).variant = s.variant := rfl
@[simp] theorem State.updPol_now : (s.updPol n f).now = s.now := rfl
@[simp] theorem State.updPol_free : (s.updPol n f).free = s.free := rfl
@[simp] theorem State.updPol_regs : (s.updPol n f).regs = s.regs := rfl
@[simp] theorem State.updPol_shadow : (s.updPol n f).shadow = s.shadow := rfl
@[simp] theorem State.updPol_cmdq : (s.updPol n f).cmdq = s.cmdq := rfl
@[simp] theorem State.updPol_out : (s.updPol n f).out = s.out := rfl
@[simp] theorem State.updPol_trig : (s.updPol n f).trig = s.trig := rfl
@[simp] theorem State.updPol_opNs : (s.updPol n f).opNs = s.opNs := rfl
@[simp] theorem State.updPol_edge : (s.updPol n f).edge = s.edge := rfl
@[simp] theorem State.updPol_host : (s.updPol n f).host = s.host := rfl
@[simp] theorem State.updPol_md : (s.updPol n f).md = s.md := rfl
@[simp] theorem State.updPol_ord : (s.updPol n f).ord = s.ord := rfl
@[simp] theorem State.updPol_evt : (s.updPol n f).evt = s.evt := rfl
@[simp] theorem State.updPol_mem : (s.updPol n f).mem = s.mem := rfl
@[simp] theorem State.updPol_net : (s.updPol n f).net = s.net := rfl
@[simp] theorem State.updPol_lp : (s.updPol n f).lp = s.lp := rfl
@[simp] theorem State.updPol_slv : (s.updPol n f).slv = s.slv := rfl
@[simp] theorem State.updPol_pair : (s.updPol n f).pair = s.pair := rfl
@[simp] theorem State.updPol_time : (s.updPol n f).time = s.time := rfl
@[simp] theorem State.updPol_rtc : (s.updPol n f).rtc = s.rtc := rfl
@[simp] theorem State.updPol_eth : (s.updPol n f).eth = s.eth := rfl
@[simp] theorem State.updPol_fld : (s.updPol n f).fld = s.fld := rfl
@[simp] theorem State.updPol_prg : (s.updPol n f).prg = s.prg := rfl
@[simp] theorem State.updPol_can : (s.updPol n f).can = s.can := rfl
@[simp] theorem State.updPol_keys : (s.updPol n f).keys = s.keys := rfl
@[simp] theorem State.updPol_mtr : (s.updPol n f).mtr = s.mtr := rfl
@[simp] theorem State.updPol_prof : (s.updPol n f).prof = s.prof := rfl
@[simp] theorem State.updPol_upd : (s.updPol n f).upd = s.upd := rfl
@[simp] theorem State.updPol_panel : (s.updPol n f).panel = s.panel := rfl
@[simp] theorem State.updPol_pwr : (s.updPol n f).pwr = s.pwr := rfl
end

section
variable (s : State) (n : Nat) (f : Slot → Slot)
@[simp] theorem State.updSlot_pending : (s.updSlot n f).pending = s.pending := rfl
@[simp] theorem State.updSlot_variant : (s.updSlot n f).variant = s.variant := rfl
@[simp] theorem State.updSlot_now : (s.updSlot n f).now = s.now := rfl
@[simp] theorem State.updSlot_free : (s.updSlot n f).free = s.free := rfl
@[simp] theorem State.updSlot_regs : (s.updSlot n f).regs = s.regs := rfl
@[simp] theorem State.updSlot_shadow : (s.updSlot n f).shadow = s.shadow := rfl
@[simp] theorem State.updSlot_cmdq : (s.updSlot n f).cmdq = s.cmdq := rfl
@[simp] theorem State.updSlot_out : (s.updSlot n f).out = s.out := rfl
@[simp] theorem State.updSlot_trig : (s.updSlot n f).trig = s.trig := rfl
@[simp] theorem State.updSlot_opNs : (s.updSlot n f).opNs = s.opNs := rfl
@[simp] theorem State.updSlot_edge : (s.updSlot n f).edge = s.edge := rfl
@[simp] theorem State.updSlot_host : (s.updSlot n f).host = s.host := rfl
@[simp] theorem State.updSlot_md : (s.updSlot n f).md = s.md := rfl
@[simp] theorem State.updSlot_ord : (s.updSlot n f).ord = s.ord := rfl
@[simp] theorem State.updSlot_evt : (s.updSlot n f).evt = s.evt := rfl
@[simp] theorem State.updSlot_mem : (s.updSlot n f).mem = s.mem := rfl
@[simp] theorem State.updSlot_net : (s.updSlot n f).net = s.net := rfl
@[simp] theorem State.updSlot_lp : (s.updSlot n f).lp = s.lp := rfl
@[simp] theorem State.updSlot_pair : (s.updSlot n f).pair = s.pair := rfl
@[simp] theorem State.updSlot_time : (s.updSlot n f).time = s.time := rfl
@[simp] theorem State.updSlot_rtc : (s.updSlot n f).rtc = s.rtc := rfl
@[simp] theorem State.updSlot_eth : (s.updSlot n f).eth = s.eth := rfl
@[simp] theorem State.updSlot_fld : (s.updSlot n f).fld = s.fld := rfl
@[simp] theorem State.updSlot_prg : (s.updSlot n f).prg = s.prg := rfl
@[simp] theorem State.updSlot_can : (s.updSlot n f).can = s.can := rfl
@[simp] theorem State.updSlot_safe : (s.updSlot n f).safe = s.safe := rfl
@[simp] theorem State.updSlot_keys : (s.updSlot n f).keys = s.keys := rfl
@[simp] theorem State.updSlot_mtr : (s.updSlot n f).mtr = s.mtr := rfl
@[simp] theorem State.updSlot_prof : (s.updSlot n f).prof = s.prof := rfl
@[simp] theorem State.updSlot_upd : (s.updSlot n f).upd = s.upd := rfl
@[simp] theorem State.updSlot_panel : (s.updSlot n f).panel = s.panel := rfl
@[simp] theorem State.updSlot_pwr : (s.updSlot n f).pwr = s.pwr := rfl
end

section
variable (s : State) (n : Nat) (f : Lane → Lane)
@[simp] theorem State.updLane_pending : (s.updLane n f).pending = s.pending := rfl
@[simp] theorem State.updLane_variant : (s.updLane n f).variant = s.variant := rfl
@[simp] theorem State.updLane_now : (s.updLane n f).now = s.now := rfl
@[simp] theorem State.updLane_free : (s.updLane n f).free = s.free := rfl
@[simp] theorem State.updLane_regs : (s.updLane n f).regs = s.regs := rfl
@[simp] theorem State.updLane_shadow : (s.updLane n f).shadow = s.shadow := rfl
@[simp] theorem State.updLane_cmdq : (s.updLane n f).cmdq = s.cmdq := rfl
@[simp] theorem State.updLane_out : (s.updLane n f).out = s.out := rfl
@[simp] theorem State.updLane_trig : (s.updLane n f).trig = s.trig := rfl
@[simp] theorem State.updLane_opNs : (s.updLane n f).opNs = s.opNs := rfl
@[simp] theorem State.updLane_edge : (s.updLane n f).edge = s.edge := rfl
@[simp] theorem State.updLane_host : (s.updLane n f).host = s.host := rfl
@[simp] theorem State.updLane_md : (s.updLane n f).md = s.md := rfl
@[simp] theorem State.updLane_ord : (s.updLane n f).ord = s.ord := rfl
@[simp] theorem State.updLane_evt : (s.updLane n f).evt = s.evt := rfl
@[simp] theorem State.updLane_mem : (s.updLane n f).mem = s.mem := rfl
@[simp] theorem State.updLane_net : (s.updLane n f).net = s.net := rfl
@[simp] theorem State.updLane_lp : (s.updLane n f).lp = s.lp := rfl
@[simp] theorem State.updLane_pair : (s.updLane n f).pair = s.pair := rfl
@[simp] theorem State.updLane_time : (s.updLane n f).time = s.time := rfl
@[simp] theorem State.updLane_rtc : (s.updLane n f).rtc = s.rtc := rfl
@[simp] theorem State.updLane_eth : (s.updLane n f).eth = s.eth := rfl
@[simp] theorem State.updLane_fld : (s.updLane n f).fld = s.fld := rfl
@[simp] theorem State.updLane_prg : (s.updLane n f).prg = s.prg := rfl
@[simp] theorem State.updLane_can : (s.updLane n f).can = s.can := rfl
@[simp] theorem State.updLane_safe : (s.updLane n f).safe = s.safe := rfl
@[simp] theorem State.updLane_keys : (s.updLane n f).keys = s.keys := rfl
@[simp] theorem State.updLane_mtr : (s.updLane n f).mtr = s.mtr := rfl
@[simp] theorem State.updLane_prof : (s.updLane n f).prof = s.prof := rfl
@[simp] theorem State.updLane_upd : (s.updLane n f).upd = s.upd := rfl
@[simp] theorem State.updLane_panel : (s.updLane n f).panel = s.panel := rfl
@[simp] theorem State.updLane_pwr : (s.updLane n f).pwr = s.pwr := rfl
end

section
variable (s : State) (f : UpdState → UpdState)
@[simp] theorem State.updUpd_pending : (s.updUpd f).pending = s.pending := rfl
@[simp] theorem State.updUpd_variant : (s.updUpd f).variant = s.variant := rfl
@[simp] theorem State.updUpd_now : (s.updUpd f).now = s.now := rfl
@[simp] theorem State.updUpd_free : (s.updUpd f).free = s.free := rfl
@[simp] theorem State.updUpd_regs : (s.updUpd f).regs = s.regs := rfl
@[simp] theorem State.updUpd_shadow : (s.updUpd f).shadow = s.shadow := rfl
@[simp] theorem State.updUpd_cmdq : (s.updUpd f).cmdq = s.cmdq := rfl
@[simp] theorem State.updUpd_out : (s.updUpd f).out = s.out := rfl
@[simp] theorem State.updUpd_trig : (s.updUpd f).trig = s.trig := rfl
@[simp] theorem State.updUpd_opNs : (s.updUpd f).opNs = s.opNs := rfl
@[simp] theorem State.updUpd_edge : (s.updUpd f).edge = s.edge := rfl
@[simp] theorem State.updUpd_host : (s.updUpd f).host = s.host := rfl
@[simp] theorem State.updUpd_md : (s.updUpd f).md = s.md := rfl
@[simp] theorem State.updUpd_ord : (s.updUpd f).ord = s.ord := rfl
@[simp] theorem State.updUpd_evt : (s.updUpd f).evt = s.evt := rfl
@[simp] theorem State.updUpd_mem : (s.updUpd f).mem = s.mem := rfl
@[simp] theorem State.updUpd_net : (s.updUpd f).net = s.net := rfl
@[simp] theorem State.updUpd_lp : (s.updUpd f).lp = s.lp := rfl
@[simp] theorem State.updUpd_slv : (s.updUpd f).slv = s.slv := rfl
@[simp] theorem State.updUpd_pair : (s.updUpd f).pair = s.pair := rfl
@[simp] theorem State.updUpd_time : (s.updUpd f).time = s.time := rfl
@[simp] theorem State.updUpd_rtc : (s.updUpd f).rtc = s.rtc := rfl
@[simp] theorem State.updUpd_eth : (s.updUpd f).eth = s.eth := rfl
@[simp] theorem State.updUpd_fld : (s.updUpd f).fld = s.fld := rfl
@[simp] theorem State.updUpd_prg : (s.updUpd f).prg = s.prg := rfl
@[simp] theorem State.updUpd_can : (s.updUpd f).can = s.can := rfl
@[simp] theorem State.updUpd_safe : (s.updUpd f).safe = s.safe := rfl
@[simp] theorem State.updUpd_keys : (s.updUpd f).keys = s.keys := rfl
@[simp] theorem State.updUpd_mtr : (s.updUpd f).mtr = s.mtr := rfl
@[simp] theorem State.updUpd_prof : (s.updUpd f).prof = s.prof := rfl
@[simp] theorem State.updUpd_panel : (s.updUpd f).panel = s.panel := rfl
@[simp] theorem State.updUpd_pwr : (s.updUpd f).pwr = s.pwr := rfl
end

section
variable (s : State) (t : Nat)
@[simp] theorem State.begin_pending : (s.begin t).pending = s.pending := rfl
@[simp] theorem State.begin_variant : (s.begin t).variant = s.variant := rfl
@[simp] theorem State.begin_free : (s.begin t).free = s.free := rfl
@[simp] theorem State.begin_regs : (s.begin t).regs = s.regs := rfl
@[simp] theorem State.begin_shadow : (s.begin t).shadow = s.shadow := rfl
@[simp] theorem State.begin_cmdq : (s.begin t).cmdq = s.cmdq := rfl
@[simp] theorem State.begin_host : (s.begin t).host = s.host := rfl
@[simp] theorem State.begin_md : (s.begin t).md = s.md := rfl
@[simp] theorem State.begin_ord : (s.begin t).ord = s.ord := rfl
@[simp] theorem State.begin_evt : (s.begin t).evt = s.evt := rfl
@[simp] theorem State.begin_mem : (s.begin t).mem = s.mem := rfl
@[simp] theorem State.begin_net : (s.begin t).net = s.net := rfl
@[simp] theorem State.begin_lp : (s.begin t).lp = { s.lp with loops := s.passFrames t } := rfl
@[simp] theorem State.begin_slv : (s.begin t).slv = s.slv := rfl
@[simp] theorem State.begin_pair : (s.begin t).pair = s.pair := rfl
@[simp] theorem State.begin_time : (s.begin t).time = s.time := rfl
@[simp] theorem State.begin_rtc : (s.begin t).rtc = s.rtc := rfl
@[simp] theorem State.begin_eth : (s.begin t).eth = s.eth := rfl
@[simp] theorem State.begin_fld : (s.begin t).fld = s.fld := rfl
@[simp] theorem State.begin_prg : (s.begin t).prg = s.prg := rfl
@[simp] theorem State.begin_can : (s.begin t).can = s.can := rfl
@[simp] theorem State.begin_safe : (s.begin t).safe = s.safe := rfl
@[simp] theorem State.begin_keys : (s.begin t).keys = s.keys := rfl
@[simp] theorem State.begin_mtr : (s.begin t).mtr = s.mtr := rfl
@[simp] theorem State.begin_prof : (s.begin t).prof = s.prof := rfl
@[simp] theorem State.begin_upd : (s.begin t).upd = s.upd := rfl
@[simp] theorem State.begin_panel : (s.begin t).panel = s.panel := rfl
@[simp] theorem State.begin_pwr : (s.begin t).pwr = s.pwr := rfl
end

section
variable (s : State) 
@[simp] theorem State.zeroSlots_pending : (s.zeroSlots).pending = s.pending := rfl
@[simp] theorem State.zeroSlots_variant : (s.zeroSlots).variant = s.variant := rfl
@[simp] theorem State.zeroSlots_now : (s.zeroSlots).now = s.now := rfl
@[simp] theorem State.zeroSlots_free : (s.zeroSlots).free = s.free := rfl
@[simp] theorem State.zeroSlots_regs : (s.zeroSlots).regs = s.regs := rfl
@[simp] theorem State.zeroSlots_shadow : (s.zeroSlots).shadow = s.shadow := rfl
@[simp] theorem State.zeroSlots_cmdq : (s.zeroSlots).cmdq = s.cmdq := rfl
@[simp] theorem State.zeroSlots_out : (s.zeroSlots).out = s.out := rfl
@[simp] theorem State.zeroSlots_trig : (s.zeroSlots).trig = s.trig := rfl
@[simp] theorem State.zeroSlots_opNs : (s.zeroSlots).opNs = s.opNs := rfl
@[simp] theorem State.zeroSlots_edge : (s.zeroSlots).edge = s.edge := rfl
@[simp] theorem State.zeroSlots_host : (s.zeroSlots).host = s.host := rfl
@[simp] theorem State.zeroSlots_md : (s.zeroSlots).md = s.md := rfl
@[simp] theorem State.zeroSlots_ord : (s.zeroSlots).ord = s.ord := rfl
@[simp] theorem State.zeroSlots_evt : (s.zeroSlots).evt = s.evt := rfl
@[simp] theorem State.zeroSlots_mem : (s.zeroSlots).mem = s.mem := rfl
@[simp] theorem State.zeroSlots_net : (s.zeroSlots).net = s.net := rfl
@[simp] theorem State.zeroSlots_lp : (s.zeroSlots).lp = s.lp := rfl
@[simp] theorem State.zeroSlots_slv : (s.zeroSlots).slv = s.slv := rfl
@[simp] theorem State.zeroSlots_pair : (s.zeroSlots).pair = s.pair := rfl
@[simp] theorem State.zeroSlots_time : (s.zeroSlots).time = s.time := rfl
@[simp] theorem State.zeroSlots_rtc : (s.zeroSlots).rtc = s.rtc := rfl
@[simp] theorem State.zeroSlots_eth : (s.zeroSlots).eth = s.eth := rfl
@[simp] theorem State.zeroSlots_fld : (s.zeroSlots).fld = s.fld := rfl
@[simp] theorem State.zeroSlots_prg : (s.zeroSlots).prg = s.prg := rfl
@[simp] theorem State.zeroSlots_can : (s.zeroSlots).can = s.can := rfl
@[simp] theorem State.zeroSlots_safe : (s.zeroSlots).safe = s.safe := rfl
@[simp] theorem State.zeroSlots_mtr : (s.zeroSlots).mtr = s.mtr := rfl
@[simp] theorem State.zeroSlots_prof : (s.zeroSlots).prof = s.prof := rfl
@[simp] theorem State.zeroSlots_upd : (s.zeroSlots).upd = s.upd := rfl
@[simp] theorem State.zeroSlots_panel : (s.zeroSlots).panel = s.panel := rfl
@[simp] theorem State.zeroSlots_pwr : (s.zeroSlots).pwr = s.pwr := rfl
end

section
variable (s : State) (n : Nat) (b : Bool)
@[simp] theorem State.setActive_pending : (s.setActive n b).pending = s.pending := rfl
@[simp] theorem State.setActive_variant : (s.setActive n b).variant = s.variant := rfl
@[simp] theorem State.setActive_now : (s.setActive n b).now = s.now := rfl
@[simp] theorem State.setActive_free : (s.setActive n b).free = s.free := rfl
@[simp] theorem State.setActive_regs : (s.setActive n b).regs = s.regs := rfl
@[simp] theorem State.setActive_shadow : (s.setActive n b).shadow = s.shadow := rfl
@[simp] theorem State.setActive_cmdq : (s.setActive n b).cmdq = s.cmdq := rfl
@[simp] theorem State.setActive_out : (s.setActive n b).out = s.out := rfl
@[simp] theorem State.setActive_trig : (s.setActive n b).trig = s.trig := rfl
@[simp] theorem State.setActive_opNs : (s.setActive n b).opNs = s.opNs := rfl
@[simp] theorem State.setActive_edge : (s.setActive n b).edge = s.edge := rfl
@[simp] theorem State.setActive_host : (s.setActive n b).host = s.host := rfl
@[simp] theorem State.setActive_md : (s.setActive n b).md = s.md := rfl
@[simp] theorem State.setActive_ord : (s.setActive n b).ord = s.ord := rfl
@[simp] theorem State.setActive_evt : (s.setActive n b).evt = s.evt := rfl
@[simp] theorem State.setActive_mem : (s.setActive n b).mem = s.mem := rfl
@[simp] theorem State.setActive_net : (s.setActive n b).net = s.net := rfl
@[simp] theorem State.setActive_lp : (s.setActive n b).lp = s.lp := rfl
@[simp] theorem State.setActive_slv : (s.setActive n b).slv = s.slv := rfl
@[simp] theorem State.setActive_pair : (s.setActive n b).pair = s.pair := rfl
@[simp] theorem State.setActive_time : (s.setActive n b).time = s.time := rfl
@[simp] theorem State.setActive_rtc : (s.setActive n b).rtc = s.rtc := rfl
@[simp] theorem State.setActive_eth : (s.setActive n b).eth = s.eth := rfl
@[simp] theorem State.setActive_fld : (s.setActive n b).fld = s.fld := rfl
@[simp] theorem State.setActive_prg : (s.setActive n b).prg = s.prg := rfl
@[simp] theorem State.setActive_can : (s.setActive n b).can = s.can := rfl
@[simp] theorem State.setActive_safe : (s.setActive n b).safe = s.safe := rfl
@[simp] theorem State.setActive_mtr : (s.setActive n b).mtr = s.mtr := rfl
@[simp] theorem State.setActive_prof : (s.setActive n b).prof = s.prof := rfl
@[simp] theorem State.setActive_upd : (s.setActive n b).upd = s.upd := rfl
@[simp] theorem State.setActive_panel : (s.setActive n b).panel = s.panel := rfl
@[simp] theorem State.setActive_pwr : (s.setActive n b).pwr = s.pwr := rfl
end

/-! What the update itself leaves. -/

@[simp] theorem State.updMd_md (s : State) (f : ModeState → ModeState) : (s.updMd f).md = f s.md := rfl
@[simp] theorem State.updPair_pair (s : State) (f : PairState → PairState) : (s.updPair f).pair = f s.pair := rfl
@[simp] theorem State.updPanel_panel (s : State) (f : PanelState → PanelState) : (s.updPanel f).panel = f s.panel := rfl
@[simp] theorem State.updPwr_pwr (s : State) (f : PwrState → PwrState) : (s.updPwr f).pwr = f s.pwr := rfl
@[simp] theorem State.updUpd_upd (s : State) (f : UpdState → UpdState) : (s.updUpd f).upd = f s.upd := rfl
@[simp] theorem State.emit_out (s : State) (o : Out) : (s.emit o).out = s.out ++ [o] := rfl
@[simp] theorem State.trigger_trig (s : State) (k : Trigger) : (s.trigger k).trig = s.trig ++ [k] := rfl
@[simp] theorem State.begin_now (s : State) (t : Nat) : (s.begin t).now = max s.now t := rfl
@[simp] theorem State.begin_out (s : State) (t : Nat) : (s.begin t).out = [] := rfl
@[simp] theorem State.begin_trig (s : State) (t : Nat) : (s.begin t).trig = [] := rfl

section
variable (s : State) (n : Nat) (f : Slc → Slc)
@[simp] theorem State.updSlc_pending : (s.updSlc n f).pending = s.pending := by unfold State.updSlc; split <;> rfl
@[simp] theorem State.updSlc_variant : (s.updSlc n f).variant = s.variant := by unfold State.updSlc; split <;> rfl
@[simp] theorem State.updSlc_now : (s.updSlc n f).now = s.now := by unfold State.updSlc; split <;> rfl
@[simp] theorem State.updSlc_free : (s.updSlc n f).free = s.free := by unfold State.updSlc; split <;> rfl
@[simp] theorem State.updSlc_regs : (s.updSlc n f).regs = s.regs := by unfold State.updSlc; split <;> rfl
@[simp] theorem State.updSlc_shadow : (s.updSlc n f).shadow = s.shadow := by unfold State.updSlc; split <;> rfl
@[simp] theorem State.updSlc_cmdq : (s.updSlc n f).cmdq = s.cmdq := by unfold State.updSlc; split <;> rfl
@[simp] theorem State.updSlc_out : (s.updSlc n f).out = s.out := by unfold State.updSlc; split <;> rfl
@[simp] theorem State.updSlc_trig : (s.updSlc n f).trig = s.trig := by unfold State.updSlc; split <;> rfl
@[simp] theorem State.updSlc_opNs : (s.updSlc n f).opNs = s.opNs := by unfold State.updSlc; split <;> rfl
@[simp] theorem State.updSlc_edge : (s.updSlc n f).edge = s.edge := by unfold State.updSlc; split <;> rfl
@[simp] theorem State.updSlc_host : (s.updSlc n f).host = s.host := by unfold State.updSlc; split <;> rfl
@[simp] theorem State.updSlc_md : (s.updSlc n f).md = s.md := by unfold State.updSlc; split <;> rfl
@[simp] theorem State.updSlc_ord : (s.updSlc n f).ord = s.ord := by unfold State.updSlc; split <;> rfl
@[simp] theorem State.updSlc_evt : (s.updSlc n f).evt = s.evt := by unfold State.updSlc; split <;> rfl
@[simp] theorem State.updSlc_mem : (s.updSlc n f).mem = s.mem := by unfold State.updSlc; split <;> rfl
@[simp] theorem State.updSlc_net : (s.updSlc n f).net = s.net := by unfold State.updSlc; split <;> rfl
@[simp] theorem State.updSlc_lp : (s.updSlc n f).lp = s.lp := by unfold State.updSlc; split <;> rfl
@[simp] theorem State.updSlc_slv : (s.updSlc n f).slv = s.slv := by unfold State.updSlc; split <;> rfl
@[simp] theorem State.updSlc_pair : (s.updSlc n f).pair = s.pair := by unfold State.updSlc; split <;> rfl
@[simp] theorem State.updSlc_time : (s.updSlc n f).time = s.time := by unfold State.updSlc; split <;> rfl
@[simp] theorem State.updSlc_rtc : (s.updSlc n f).rtc = s.rtc := by unfold State.updSlc; split <;> rfl
@[simp] theorem State.updSlc_eth : (s.updSlc n f).eth = s.eth := by unfold State.updSlc; split <;> rfl
@[simp] theorem State.updSlc_prg : (s.updSlc n f).prg = s.prg := by unfold State.updSlc; split <;> rfl
@[simp] theorem State.updSlc_can : (s.updSlc n f).can = s.can := by unfold State.updSlc; split <;> rfl
@[simp] theorem State.updSlc_safe : (s.updSlc n f).safe = s.safe := by unfold State.updSlc; split <;> rfl
@[simp] theorem State.updSlc_keys : (s.updSlc n f).keys = s.keys := by unfold State.updSlc; split <;> rfl
@[simp] theorem State.updSlc_mtr : (s.updSlc n f).mtr = s.mtr := by unfold State.updSlc; split <;> rfl
@[simp] theorem State.updSlc_prof : (s.updSlc n f).prof = s.prof := by unfold State.updSlc; split <;> rfl
@[simp] theorem State.updSlc_upd : (s.updSlc n f).upd = s.upd := by unfold State.updSlc; split <;> rfl
@[simp] theorem State.updSlc_panel : (s.updSlc n f).panel = s.panel := by unfold State.updSlc; split <;> rfl
@[simp] theorem State.updSlc_pwr : (s.updSlc n f).pwr = s.pwr := by unfold State.updSlc; split <;> rfl
end

section
variable (s : State) (n : Nat) (f : Seg → Seg)
@[simp] theorem State.updSeg_pending : (s.updSeg n f).pending = s.pending := by unfold State.updSeg; split <;> rfl
@[simp] theorem State.updSeg_variant : (s.updSeg n f).variant = s.variant := by unfold State.updSeg; split <;> rfl
@[simp] theorem State.updSeg_now : (s.updSeg n f).now = s.now := by unfold State.updSeg; split <;> rfl
@[simp] theorem State.updSeg_free : (s.updSeg n f).free = s.free := by unfold State.updSeg; split <;> rfl
@[simp] theorem State.updSeg_regs : (s.updSeg n f).regs = s.regs := by unfold State.updSeg; split <;> rfl
@[simp] theorem State.updSeg_shadow : (s.updSeg n f).shadow = s.shadow := by unfold State.updSeg; split <;> rfl
@[simp] theorem State.updSeg_cmdq : (s.updSeg n f).cmdq = s.cmdq := by unfold State.updSeg; split <;> rfl
@[simp] theorem State.updSeg_out : (s.updSeg n f).out = s.out := by unfold State.updSeg; split <;> rfl
@[simp] theorem State.updSeg_trig : (s.updSeg n f).trig = s.trig := by unfold State.updSeg; split <;> rfl
@[simp] theorem State.updSeg_opNs : (s.updSeg n f).opNs = s.opNs := by unfold State.updSeg; split <;> rfl
@[simp] theorem State.updSeg_edge : (s.updSeg n f).edge = s.edge := by unfold State.updSeg; split <;> rfl
@[simp] theorem State.updSeg_host : (s.updSeg n f).host = s.host := by unfold State.updSeg; split <;> rfl
@[simp] theorem State.updSeg_md : (s.updSeg n f).md = s.md := by unfold State.updSeg; split <;> rfl
@[simp] theorem State.updSeg_ord : (s.updSeg n f).ord = s.ord := by unfold State.updSeg; split <;> rfl
@[simp] theorem State.updSeg_evt : (s.updSeg n f).evt = s.evt := by unfold State.updSeg; split <;> rfl
@[simp] theorem State.updSeg_mem : (s.updSeg n f).mem = s.mem := by unfold State.updSeg; split <;> rfl
@[simp] theorem State.updSeg_net : (s.updSeg n f).net = s.net := by unfold State.updSeg; split <;> rfl
@[simp] theorem State.updSeg_lp : (s.updSeg n f).lp = s.lp := by unfold State.updSeg; split <;> rfl
@[simp] theorem State.updSeg_slv : (s.updSeg n f).slv = s.slv := by unfold State.updSeg; split <;> rfl
@[simp] theorem State.updSeg_pair : (s.updSeg n f).pair = s.pair := by unfold State.updSeg; split <;> rfl
@[simp] theorem State.updSeg_time : (s.updSeg n f).time = s.time := by unfold State.updSeg; split <;> rfl
@[simp] theorem State.updSeg_rtc : (s.updSeg n f).rtc = s.rtc := by unfold State.updSeg; split <;> rfl
@[simp] theorem State.updSeg_eth : (s.updSeg n f).eth = s.eth := by unfold State.updSeg; split <;> rfl
@[simp] theorem State.updSeg_fld : (s.updSeg n f).fld = s.fld := by unfold State.updSeg; split <;> rfl
@[simp] theorem State.updSeg_prg : (s.updSeg n f).prg = s.prg := by unfold State.updSeg; split <;> rfl
@[simp] theorem State.updSeg_safe : (s.updSeg n f).safe = s.safe := by unfold State.updSeg; split <;> rfl
@[simp] theorem State.updSeg_keys : (s.updSeg n f).keys = s.keys := by unfold State.updSeg; split <;> rfl
@[simp] theorem State.updSeg_mtr : (s.updSeg n f).mtr = s.mtr := by unfold State.updSeg; split <;> rfl
@[simp] theorem State.updSeg_prof : (s.updSeg n f).prof = s.prof := by unfold State.updSeg; split <;> rfl
@[simp] theorem State.updSeg_upd : (s.updSeg n f).upd = s.upd := by unfold State.updSeg; split <;> rfl
@[simp] theorem State.updSeg_panel : (s.updSeg n f).panel = s.panel := by unfold State.updSeg; split <;> rfl
@[simp] theorem State.updSeg_pwr : (s.updSeg n f).pwr = s.pwr := by unfold State.updSeg; split <;> rfl
end

section
variable (s : State) (f : Accts → Accts)
@[simp] theorem State.mapAccts_pending : (s.mapAccts f).pending = s.pending := rfl
@[simp] theorem State.mapAccts_variant : (s.mapAccts f).variant = s.variant := rfl
@[simp] theorem State.mapAccts_now : (s.mapAccts f).now = s.now := rfl
@[simp] theorem State.mapAccts_free : (s.mapAccts f).free = s.free := rfl
@[simp] theorem State.mapAccts_regs : (s.mapAccts f).regs = s.regs := rfl
@[simp] theorem State.mapAccts_shadow : (s.mapAccts f).shadow = s.shadow := rfl
@[simp] theorem State.mapAccts_cmdq : (s.mapAccts f).cmdq = s.cmdq := rfl
@[simp] theorem State.mapAccts_out : (s.mapAccts f).out = s.out := rfl
@[simp] theorem State.mapAccts_trig : (s.mapAccts f).trig = s.trig := rfl
@[simp] theorem State.mapAccts_opNs : (s.mapAccts f).opNs = s.opNs := rfl
@[simp] theorem State.mapAccts_edge : (s.mapAccts f).edge = s.edge := rfl
@[simp] theorem State.mapAccts_host : (s.mapAccts f).host = s.host := rfl
@[simp] theorem State.mapAccts_md : (s.mapAccts f).md = s.md := rfl
@[simp] theorem State.mapAccts_ord : (s.mapAccts f).ord = s.ord := rfl
@[simp] theorem State.mapAccts_evt : (s.mapAccts f).evt = s.evt := rfl
@[simp] theorem State.mapAccts_mem : (s.mapAccts f).mem = s.mem := rfl
@[simp] theorem State.mapAccts_net : (s.mapAccts f).net = s.net := rfl
@[simp] theorem State.mapAccts_lp : (s.mapAccts f).lp = s.lp := rfl
@[simp] theorem State.mapAccts_slv : (s.mapAccts f).slv = s.slv := rfl
@[simp] theorem State.mapAccts_pair : (s.mapAccts f).pair = s.pair := rfl
@[simp] theorem State.mapAccts_time : (s.mapAccts f).time = s.time := rfl
@[simp] theorem State.mapAccts_rtc : (s.mapAccts f).rtc = s.rtc := rfl
@[simp] theorem State.mapAccts_eth : (s.mapAccts f).eth = s.eth := rfl
@[simp] theorem State.mapAccts_fld : (s.mapAccts f).fld = s.fld := rfl
@[simp] theorem State.mapAccts_prg : (s.mapAccts f).prg = s.prg := rfl
@[simp] theorem State.mapAccts_can : (s.mapAccts f).can = s.can := rfl
@[simp] theorem State.mapAccts_safe : (s.mapAccts f).safe = s.safe := rfl
@[simp] theorem State.mapAccts_keys : (s.mapAccts f).keys = s.keys := rfl
@[simp] theorem State.mapAccts_prof : (s.mapAccts f).prof = s.prof := rfl
@[simp] theorem State.mapAccts_upd : (s.mapAccts f).upd = s.upd := rfl
@[simp] theorem State.mapAccts_panel : (s.mapAccts f).panel = s.panel := rfl
@[simp] theorem State.mapAccts_pwr : (s.mapAccts f).pwr = s.pwr := rfl
end

end Sys2Proof.Machine
end

