-- ==== Sys2Proof/Laws/Regs.lean ====
section
/-!
SUPPORT. Registers: what is written is read back, other registers stay (R28, R29).
-/
namespace Sys2Proof.Machine

theorem lookupA_insertA {α : Type} (k j : Nat) (v : α) (m : List (Nat × α)) :
    lookupA j (insertA k v m) = if j = k then some v else lookupA j m := by
  induction m with
  | nil => simp [insertA, lookupA, eq_comm]
  | cons p m ih =>
    obtain ⟨a, w⟩ := p
    simp only [insertA]
    split
    · simp only [lookupA, eq_comm]
    · split
      · rename_i h1 h2; subst h2; simp only [lookupA]; by_cases h : j = k
        · simp [h]
        · simp [h, Ne.symm h]
      · rename_i h1 h2
        simp only [lookupA, ih]
        by_cases h : a = j
        · subst h; simp [Ne.symm h2]
        · simp [h]

theorem lookupA_none {α : Type} (k : Nat) (m : List (Nat × α)) (h : ∀ p ∈ m, k < p.1) : lookupA k m = none := by
  induction m with
  | nil => rfl
  | cons p m ih =>
    obtain ⟨a, w⟩ := p
    have := h (a, w) (by simp)
    simp only [lookupA]
    rw [if_neg (by simp at this; omega)]
    exact ih fun q hq => h q (by simp [hq])

theorem lookupA_eraseA {α : Type} (k j : Nat) (m : List (Nat × α)) (hm : Rising m) :
    lookupA j (eraseA k m) = if j = k then none else lookupA j m := by
  induction m with
  | nil => simp [eraseA, lookupA]
  | cons p m ih =>
    obtain ⟨a, w⟩ := p
    simp only [eraseA]
    by_cases h : a = k
    · subst h
      rw [if_pos rfl]
      by_cases hj : j = a
      · subst hj; rw [if_pos rfl]; exact lookupA_none _ _ hm.1
      · simp [lookupA, hj, Ne.symm hj]
    · rw [if_neg h]
      simp only [lookupA, ih hm.2]
      by_cases hj : a = j
      · subst hj; simp [h]
      · simp [hj]

theorem mem_insertA {α : Type} {k : Nat} {v : α} {m : List (Nat × α)} {p : Nat × α} (h : p ∈ insertA k v m) : p = (k, v) ∨ p ∈ m := by
  induction m with
  | nil => simpa [insertA] using h
  | cons q m ih =>
    obtain ⟨a, w⟩ := q
    simp only [insertA] at h
    split at h
    · simpa using h
    · split at h
      · rename_i h2; simp at h; rcases h with h | h <;> simp [h]
      · simp at h; rcases h with h | h
        · simp [h]
        · rcases ih h with h | h <;> simp [h]

theorem mem_eraseA {α : Type} {k : Nat} {m : List (Nat × α)} {p : Nat × α} (h : p ∈ eraseA k m) : p ∈ m := by
  induction m with
  | nil => simpa [eraseA] using h
  | cons q m ih =>
    obtain ⟨a, w⟩ := q
    simp only [eraseA] at h
    split at h
    · simp [h]
    · simp at h; rcases h with h | h
      · simp [h]
      · simp [ih h]

theorem insertA_rising {α : Type} (k : Nat) (v : α) (m : List (Nat × α)) (h : Rising m) : Rising (insertA k v m) := by
  induction m with
  | nil => simp [insertA, Rising]
  | cons q m ih =>
    obtain ⟨a, w⟩ := q
    simp only [insertA]
    split
    · rename_i h1
      refine ⟨fun p hp => ?_, h⟩
      rcases List.mem_cons.mp hp with rfl | hp
      · exact h1
      · exact Nat.lt_trans h1 (h.1 p hp)
    · split
      · rename_i h1 h2; subst h2; exact ⟨h.1, h.2⟩
      · rename_i h1 h2
        refine ⟨fun p hp => ?_, ih h.2⟩
        rcases mem_insertA hp with rfl | hp
        · show a < k; omega
        · exact h.1 p hp

theorem eraseA_rising {α : Type} (k : Nat) (m : List (Nat × α)) (h : Rising m) : Rising (eraseA k m) := by
  induction m with
  | nil => simp [eraseA, Rising]
  | cons q m ih =>
    obtain ⟨a, w⟩ := q
    simp only [eraseA]
    split
    · exact h.2
    · exact ⟨fun p hp => h.1 p (mem_eraseA hp), ih h.2⟩

/-- A stored register reads back what was written; every other register reads as before. -/
theorem State.rd_wr (s : State) (a b : Nat) (v : Word) (h : Rising s.regs) :
    (s.wr a v).rd b = if b = a then v else s.rd b := by
  simp only [State.rd, State.wr, regGet, regPut]
  by_cases hv : v = regReset a
  · rw [if_pos hv, lookupA_eraseA _ _ _ h]
    by_cases hb : b = a
    · subst hb; simp [hv]
    · simp [hb]
  · rw [if_neg hv, lookupA_insertA]
    by_cases hb : b = a
    · subst hb; simp
    · simp [hb]

theorem lookupA_eraseA_ne {α : Type} (k j : Nat) (m : List (Nat × α)) (h : j ≠ k) : lookupA j (eraseA k m) = lookupA j m := by
  induction m with
  | nil => rfl
  | cons p m ih =>
    obtain ⟨a, w⟩ := p
    simp only [eraseA]
    split
    · rename_i ha; subst ha; simp [lookupA, Ne.symm h]
    · simp only [lookupA, ih]

/-- Another register reads as before. -/
theorem State.rd_wr_ne (s : State) (a b : Nat) (v : Word) (h : b ≠ a) : (s.wr a v).rd b = s.rd b := by
  simp only [State.rd, State.wr, regGet, regPut]
  split
  · rw [lookupA_eraseA_ne _ _ _ h]
  · rw [lookupA_insertA, if_neg h]

/-- The register file stays sorted. -/
theorem State.wr_rising (s : State) (a : Nat) (v : Word) (h : Rising s.regs) : Rising (s.wr a v).regs := by
  simp only [State.wr, regPut]
  split
  · exact eraseA_rising _ _ h
  · exact insertA_rising _ _ _ h

end Sys2Proof.Machine
end

