-- ==== Sys2Proof/Laws/Write.lean ====
section
/-!
SUPPORT. What a register write of a session does, in one lemma for each way it can go (R27–R36, R48).
-/
namespace Sys2Proof

/-- Pages begin at multiples of 4 KB (R27). -/
theorem page_base0 (p : Page) : p.base0 % 0x1000 = 0 := by cases p <;> rfl

theorem pageOfAddr_start (p : Page) (i : Nat) (hi : i < p.count) : pageOfAddr (p.reg i 0) = some p := by
  have all : ∀ j : Fin p.count, pageOfAddr (p.reg j 0) = some p := by cases p <;> decide +kernel
  exact all ⟨i, hi⟩

/-- The address of a register decodes to its page, instance and offset (R27). -/
theorem decodeAddr_reg (p : Page) (i o : Nat) (hi : i < p.count) (ho : o < 0x1000) : decodeAddr (p.reg i o) = some ⟨p, i, o⟩ := by
  have key : pageOfAddr (p.reg i o) = some p := by
    rw [← pageOfAddr_start p i hi]
    have h0 := page_base0 p
    have ha : p.reg i o = p.base0 + 0x1000 * i + o := rfl
    have hb : p.reg i 0 = p.base0 + 0x1000 * i := rfl
    unfold pageOfAddr
    congr 1
    funext q
    have hq := page_base0 q
    exact congr (congrArg _ (decide_eq_decide.mpr (by omega))) (decide_eq_decide.mpr (by omega))
  have h0 := page_base0 p
  have h1 : (p.base0 + 0x1000 * i + o - p.base0) / 0x1000 = i := by omega
  have h2 : (p.base0 + 0x1000 * i + o - p.base0) % 0x1000 = o := by omega
  rw [decodeAddr, key]
  simp only [Option.map_some, Page.reg, Page.base, h1, h2]

namespace Machine

theorem State.begin_sess (s : State) (t k : Nat) : (s.begin t).sess? k = s.sess? k := rfl

theorem State.sess_slot {s : State} {k : Nat} {x : Session} (h : s.sess? k = some x) : x.slot = k := by
  have := List.find?_some h
  simpa using this

/-- A register whose writes the partner runs as well stands on a page of that kind. -/
theorem mirrored_page {p : Page} {o : Nat} {v : Word} (h : mirroredPage p = false) : mirrored p o v = false := by
  cases p <;> simp_all [mirroredPage, mirrored]

/-- A page of which no write is mirrored. -/
theorem State.alone_value {s : State} {p : Page} (h : (s.isActive && s.pair.session && mirroredPage p) = false) (o : Nat) (v : Word) :
    (s.isActive && s.pair.session && mirrored p o v) = false := by
  cases k : mirroredPage p with
  | false => simp [mirrored_page k]
  | true => rw [k, Bool.and_true] at h; rw [h, Bool.false_and]

/-- A write that nothing of its session stands before, and that is not mirrored, acts at once (R53, R108, R109). -/
theorem State.atOnce_direct {s : State} {t slot : Nat} {x : Session} {p : Page} {i o : Nat} (h : s.Direct x) (hi : i < p.count) (ho : o < 0x1000) (v : Word)
    (ha : (s.isActive && s.pair.session && mirrored p o v) = false) :
    ((s.begin t).touch slot).atOnce x (p.reg i o) v = true := by
  have hb : ((s.begin t).touch slot).blocked x = false := h.free
  have hm : ((s.begin t).touch slot).mirrorOf x (bareWrite (p.reg i o) v) = none := by
    by_cases k : (s.isActive && s.pair.session) = true
    · have hp : mirrored p o v = false := by simpa [k] using ha
      unfold State.mirrorOf
      split
      · rfl
      · simp only [bareWrite, decodeAddr_reg p i o hi ho]
        cases p.defAt o <;> simp [hp]
    · have k' : (((s.begin t).touch slot).isActive && ((s.begin t).touch slot).pair.session) = false := by
        have : (s.isActive && s.pair.session) = false := by simpa using k
        exact this
      simp [State.mirrorOf, k']
  simp [State.atOnce, h.first, hb, hm]

/-- A write that meets no refusal has the effect of its register. -/
theorem State.hostWrite_ok {s u : State} {slot a : Nat} {x : Session} {v : Word} {r : RegAddr} {d : RegDef} (hx : s.sess? slot = some x)
    (hr : x.ready = true) (hc : s.md.pstate.cmp = true) (hl : (s.touch slot).locate a = .reg r d) (hw : (s.touch slot).writeErr x r d = .ok)
    (ha : (s.touch slot).atOnce x a v = true)
    (he : (((s.touch slot).accepted r.page r.inst).notePend x.slot r.page r.inst r.off).effect x r d v = (.ok, u)) :
    s.hostWrite slot a v = u := by
  simp [State.hostWrite, hx, hr, hc, ha, State.writeReg, hl, hw, he]

theorem State.counted_cmdq (s : State) (t : Nat) (x : Session) (p : Page) (i o : Nat) : (s.counted t x p i o).cmdq = s.cmdq := by
  simp only [State.counted, State.notePend]
  split <;> rfl

theorem State.counted_waiting (s : State) (t : Nat) (x : Session) (p q : Page) (i j o : Nat) : (s.counted t x p i o).waiting q j = s.waiting q j := by
  simp only [State.waiting, State.queue, State.counted_cmdq]

theorem State.counted_rd (s : State) (t : Nat) (x : Session) (p : Page) (i o a : Nat) (h : a ≠ p.reg i Off.PAGE_WSEQ) :
    (s.counted t x p i o).rd a = s.rd a := by
  have h1 : ∀ u : State, ∀ k, (u.notePend k p i o).rd a = u.rd a := by
    intro u k
    simp only [State.notePend]
    split <;> rfl
  rw [State.counted, h1, State.accepted, State.putf, State.wrp, State.rd_wr_ne _ _ _ _ h]
  rfl

theorem State.counted_reset (s : State) (t : Nat) (x : Session) (p : Page) (i o : Nat) : (s.counted t x p i o).resetPending p i = s.resetPending p i := by
  simp only [State.resetPending, State.rdp]
  rw [State.counted_rd]
  simp [Page.reg, Off.PAGE_CTRL, Off.PAGE_WSEQ]

theorem cmd_def_check (p : Page) : (match cmdOff p with
    | none => true
    | some o => match p.defAt o with
      | none => false
      | some d => !(d.acc == .ro) && !(d.acc == .rwl) && 0x40 ≤ o && o < 0x100 && o % 4 == 0 && p != .eth && p != .rst) = true := by
  cases p <;> decide +kernel

/-- What the definition of a command register says. -/
theorem cmd_def (p : Page) (o : Nat) (ho : cmdOff p = some o) :
    ∃ d, p.defAt o = some d ∧ (d.acc == .ro) = false ∧ (d.acc == .rwl) = false ∧ 0x40 ≤ o ∧ o < 0x100 ∧ o % 4 = 0 ∧ p ≠ .eth ∧ p ≠ .rst := by
  have h := cmd_def_check p
  rw [ho] at h
  cases hd : p.defAt o with
  | none => simp [hd] at h
  | some d =>
    simp only [hd, Bool.and_eq_true, Bool.not_eq_true', decide_eq_true_eq, bne_iff_ne, beq_iff_eq] at h
    obtain ⟨⟨⟨⟨⟨⟨h1, h2⟩, h3⟩, h4⟩, h5⟩, h6⟩, h7⟩ := h
    exact ⟨d, rfl, h1, h2, h3, h4, h5, h6, h7⟩

theorem Priv.ge_trans {a b c : Priv} (h : a.ge b = true) (k : b.ge c = true) : a.ge c = true := by
  simp only [Priv.ge, decide_eq_true_eq] at *; omega

/-- A command whose page is free, and that is not mirrored, is taken with the arguments that stand there. -/
theorem State.hostWrite_order {s : State} {t slot : Nat} {x : Session} {need : Priv} {p : Page} {i o : Nat} (v : Word) (h : s.MayOrder slot x need p i)
    (hn : need.ge (lowestPriv p) = true) (ho : cmdOff p = some o) (hf : p = .force → commMaint s.md.mode = true)
    (ha : (s.isActive && s.pair.session && mirrored p o v) = false) :
    (s.begin t).hostWrite slot (p.reg i o) v =
      (s.counted t x p i o).takeCmd p i ⟨v, slot, x.priv, max s.now t, (s.counted t x p i o).cmdArgs p⟩ := by
  obtain ⟨d, hd, h1, h2, h3, h4, h5, h6, h7⟩ := cmd_def p o ho
  have hs : x.slot = slot := State.sess_slot h.here
  have hc : isCmd p o = true := by simp [isCmd, ho]
  have hl : (((s.begin t).touch slot)).locate (p.reg i o) = .reg ⟨p, i, o⟩ d := by
    have ha : p.reg i o % 4 = 0 := by have := page_base0 p; simp only [Page.reg, Page.base]; omega
    have hv : ((s.begin t).touch slot).variant = s.variant := rfl
    simp [State.locate, decodeAddr_reg p i o h.inst (by omega), hv, h.present, ha, hd]
  have hp : x.priv.ge (lowestPriv p) = true := Priv.ge_trans h.priv hn
  have hw : ((s.begin t).touch slot).writeErr x ⟨p, i, o⟩ d = .ok := by
    have hm : ((s.begin t).touch slot).md = s.md := rfl
    have hro : ((s.begin t).touch slot).readOnly x ⟨p, i, o⟩ d = false := by
      have e1 : (p == Page.eth) = false := by cases p <;> first | rfl | exact absurd rfl h6
      have e2 : ¬ (0x100 ≤ o) := by omega
      have e3 : ¬ (0x400 ≤ o) := by omega
      simp [State.readOnly, h1, e1, e2, e3]
    simp only [State.writeErr, hro, h2, hm, needPriv, hc, if_true, hp]
    by_cases hq : p = .force
    · simp [hf hq]
    · have e : (p == Page.force) = false := by cases p <;> first | rfl | exact absurd rfl hq
      simp [e]
  refine State.hostWrite_ok h.here h.ready h.cmp hl hw (State.atOnce_direct h.toDirect h.inst (by omega) v ha) ?_
  have ho4 : ¬ (o < 0x40) := by omega
  have e : ((((s.begin t).touch slot).accepted p i).notePend slot p i o) = s.counted t x p i o := by rw [State.counted, hs]
  have hr : (p == Page.rst) = false := by cases p <;> first | rfl | exact absurd rfl h7
  have hnow : (s.counted t x p i o).now = max s.now t := by
    simp only [State.counted, State.notePend]; split <;> rfl
  simp only [hs, e, State.effect, ho4, if_false, hc, if_true, State.cmdWrite, hr, State.counted_waiting, h.idle, hnow]
  simp [queueMax]

/-- A command that may act at once is taken with the arguments that stand there. -/
theorem State.hostWrite_cmd {s : State} {t slot : Nat} {x : Session} {need : Priv} {p : Page} {i o : Nat} (v : Word) (h : s.MayCommand slot x need p i)
    (hn : need.ge (lowestPriv p) = true) (ho : cmdOff p = some o) (hf : p = .force → commMaint s.md.mode = true) :
    (s.begin t).hostWrite slot (p.reg i o) v =
      (s.counted t x p i o).takeCmd p i ⟨v, slot, x.priv, max s.now t, (s.counted t x p i o).cmdArgs p⟩ :=
  State.hostWrite_order v h.toMayOrder hn ho hf (State.alone_value h.alone o v)

end Machine
end Sys2Proof
end

