-- ==== Sys2Proof/Laws/Ops.lean ====
section
/-!
SUPPORT. The shared operations: what a command leaves once it settles, the fields of command words, what raising an event, storing a record and completing a
command can change, folds that change nothing.
-/
namespace Sys2Proof.Machine

/-- A meaning whose effect is `u` answers `u` settled. -/
theorem next_settled {s u v : State} (h : u = v) :
    (Host.Outcome.next { u.settle with pending := s.pending } : Host.Outcome State Fault Refusal) = .next (s.settled v) := by
  rw [h]; rfl

/-! Command words (OP-1) -/

theorem cmdWord_op (op tag extra : Nat) (h : op < 16) (he : extra % 16 = 0) : (cmdWord op tag extra).fld 0 4 = op := by
  simp only [cmdWord, Word.fld, w32, BitVec.toNat_ofNat, Nat.shiftRight_eq_div_pow]; omega

theorem cmdWord_tag (op tag extra : Nat) (h : op + extra % 65536 < 256) : (cmdWord op tag extra).fld 8 8 = tag % 256 := by
  simp only [cmdWord, Word.fld, w32, BitVec.toNat_ofNat, Nat.shiftRight_eq_div_pow]; omega

theorem cmdWord_extra (op tag k w : Nat) (h : op < 16) (hk : k < 65536) : (cmdWord op tag (65536 * k)).fld 16 w = k % 2 ^ w := by
  have : (op + 256 * (tag % 256) + 65536 * k) % 4294967296 / 65536 = k := by omega
  unfold cmdWord Word.fld w32
  rw [BitVec.toNat_ofNat, Nat.shiftRight_eq_div_pow]
  exact congrArg (· % 2 ^ w) this

/-- A status takes eight bits of the tag. -/
theorem State.complete_mod (s : State) (p : Page) (i o : Nat) (e : Err) (tag b : Nat) : s.complete p i o e (tag % 256) b = s.complete p i o e tag b := by
  simp [State.complete, statWord]

/-! What settlement goes by: the modes, the triggers, the units out of service -/

/-- Modes, triggers and units out of service of `u` are those of `s`. -/
structure State.SameModes (s u : State) : Prop where
  md   : u.md = s.md
  trig : u.trig = s.trig
  deg  : u.degNow = s.degNow

theorem State.SameModes.refl (s : State) : s.SameModes s := ⟨rfl, rfl, rfl⟩

theorem State.SameModes.trans {a b c : State} (h : a.SameModes b) (k : b.SameModes c) : a.SameModes c :=
  ⟨k.md.trans h.md, k.trig.trans h.trig, k.deg.trans h.deg⟩

theorem State.irq_same (s : State) (p : Page) (i b : Nat) : s.SameModes (s.irq p i b) := by
  simp only [State.irq, State.riseIf]; split
  · split <;> exact ⟨rfl, rfl, rfl⟩
  · exact ⟨rfl, rfl, rfl⟩

theorem State.storeAt_same (s : State) (r : Snag) : s.SameModes (s.storeAt r) := by
  simp only [State.storeAt]; refine State.SameModes.trans ?_ (State.irq_same _ _ _ _); exact ⟨rfl, rfl, rfl⟩

theorem State.takeSeq_same {s u : State} {n : Nat} (h : s.takeSeq = some (n, u)) : s.SameModes u := by
  simp only [State.takeSeq] at h
  split at h; simp at h
  split at h
  · simp at h; rw [← h.2]; exact ⟨rfl, rfl, rfl⟩
  · split at h
    · simp at h; rw [← h.2]; simp only [State.pl1Send]; split <;> exact ⟨rfl, rfl, rfl⟩
    · simp at h

theorem State.fillLog_same (s : State) (r : Snag) : s.SameModes (s.fillLog r) := by
  simp only [State.fillLog]; split
  · exact .refl s
  · rename_i n u h
    refine (State.takeSeq_same h).trans (State.SameModes.trans ?_ (State.irq_same _ _ _ _))
    have k := State.storeAt_same u
    exact ⟨(k _).md, (k _).trig, (k _).deg⟩

/-- Releasing a record changes no mode, raises no trigger and puts no unit out of service. -/
theorem State.release_same (s : State) (r : Snag) : s.SameModes (s.release r) := by
  simp only [State.release]; split
  · split <;> exact ⟨rfl, rfl, rfl⟩
  · have h0 : s.SameModes (if (s.evt.freeze.isNone && !s.evt.full && decide (s.evt.log.length ≥ evtSlots)) = true then s.fillLog r else s) := by
      split
      · exact State.fillLog_same s r
      · exact .refl s
    generalize (if (s.evt.freeze.isNone && !s.evt.full && decide (s.evt.log.length ≥ evtSlots)) = true then s.fillLog r else s) = v at *
    split
    · exact h0.trans ⟨rfl, rfl, rfl⟩
    · rename_i n u h
      refine h0.trans ((State.takeSeq_same h).trans ?_)
      split
      · split <;> exact ⟨rfl, rfl, rfl⟩
      · split
        · exact ⟨rfl, rfl, rfl⟩
        · exact State.storeAt_same _ _

/-- So does recording one. -/
theorem State.record_same (s : State) (code : Nat) (p1 p2 p3 : Word) : s.SameModes (s.record code p1 p2 p3) := State.release_same _ _

/-- Raising an event of a page leaves all but registers, frames sent and the sessions' subscriptions. -/
theorem State.irq_fields (s : State) (p : Page) (i b : Nat) : (s.irq p i b).keys = s.keys ∧ (s.irq p i b).md = s.md ∧ (s.irq p i b).slv = s.slv ∧
    (s.irq p i b).fld = s.fld ∧ (s.irq p i b).can = s.can ∧ (s.irq p i b).eth = s.eth ∧ (s.irq p i b).now = s.now ∧ (s.irq p i b).pair = s.pair ∧
    (s.irq p i b).time = s.time ∧ (s.irq p i b).rtc = s.rtc ∧ (s.irq p i b).variant = s.variant ∧ (s.irq p i b).lp = s.lp ∧ (s.irq p i b).prg = s.prg := by
  simp only [State.irq, State.riseIf]; split
  · split <;> exact ⟨rfl, rfl, rfl, rfl, rfl, rfl, rfl, rfl, rfl, rfl, rfl, rfl, rfl⟩
  · exact ⟨rfl, rfl, rfl, rfl, rfl, rfl, rfl, rfl, rfl, rfl, rfl, rfl, rfl⟩

/-- Without a trigger nothing is settled. -/
theorem settleTriggers_none (k : Nat) (s : State) (h : s.trig = []) : settleTriggers k s = s := by
  cases k with
  | zero => simp [settleTriggers]; rw [← h]
  | succ k => simp [settleTriggers, h, nextTrigger]

/-! Lists -/

theorem eraseA_absent {α : Type} (k : Nat) (m : List (Nat × α)) (h : lookupA k m = none) : eraseA k m = m := by
  induction m with
  | nil => rfl
  | cons p m ih =>
    obtain ⟨a, w⟩ := p
    simp only [lookupA] at h
    split at h
    · simp at h
    · simp only [eraseA]; rw [if_neg (by rename_i hn; intro e; exact hn e), ih h]

theorem foldl_id {α β : Type} (f : α → β → α) (l : List β) (a : α) (h : ∀ x ∈ l, f a x = a) : l.foldl f a = a := by
  induction l with
  | nil => rfl
  | cons x xs ih => simp only [List.foldl_cons, h x (by simp)]; exact ih fun y hy => h y (by simp [hy])

end Sys2Proof.Machine
end

