-- ==== Sys2Proof/Laws/Host.lean ====
section
/-!
SUPPORT. Host access: what an accepted write counts, what any register write of a session does, how a request that waits for nothing runs.
-/
namespace Sys2Proof.Machine

/-- An accepted write counts in registers, in the session and in ORD's writes under way; all else stands as it was. -/
theorem State.counted_fields (s : State) (t : Nat) (x : Session) (p : Page) (i o : Nat) :
    (s.counted t x p i o).variant = s.variant ∧ (s.counted t x p i o).now = max s.now t ∧ (s.counted t x p i o).md = s.md ∧ (s.counted t x p i o).upd = s.upd ∧
    (s.counted t x p i o).keys = s.keys ∧ (s.counted t x p i o).pwr = s.pwr ∧ (s.counted t x p i o).slv = s.slv ∧ (s.counted t x p i o).evt = s.evt ∧
    (s.counted t x p i o).prg = s.prg ∧ (s.counted t x p i o).lp = (s.begin t).lp ∧ (s.counted t x p i o).can = s.can ∧ (s.counted t x p i o).fld = s.fld ∧
    (s.counted t x p i o).safe = s.safe ∧ (s.counted t x p i o).mtr = s.mtr ∧ (s.counted t x p i o).net = s.net ∧ (s.counted t x p i o).pair = s.pair ∧
    (s.counted t x p i o).prof = s.prof ∧ (s.counted t x p i o).panel = s.panel ∧ (s.counted t x p i o).time = s.time ∧ (s.counted t x p i o).rtc = s.rtc ∧
    (s.counted t x p i o).eth = s.eth ∧ (s.counted t x p i o).mem = s.mem ∧ (s.counted t x p i o).free = s.free := by
  simp only [State.counted, State.notePend]
  split <;> exact ⟨rfl, rfl, rfl, rfl, rfl, rfl, rfl, rfl, rfl, rfl, rfl, rfl, rfl, rfl, rfl, rfl, rfl, rfl, rfl, rfl, rfl, rfl, rfl⟩

/-- The session of a slot after an update of its fields. -/
theorem State.updSess_sess (s : State) (k : Nat) (f : Session → Session) (hf : ∀ x, (f x).slot = x.slot) : (s.updSess k f).sess? k = (s.sess? k).map f := by
  simp only [State.sess?, State.updSess, List.find?_map]
  have : (fun y : Session => y.slot == k) ∘ (fun x : Session => if x.slot == k then f x else x) = fun y => y.slot == k := by
    funext y; simp only [Function.comp]; split <;> simp_all
  rw [this]
  cases h : s.host.sessions.find? fun y => y.slot == k with
  | none => rfl
  | some x => have := List.find?_some h; simp at this; simp [this]

/-- After an accepted write the session stands as it was, last heard now. -/
theorem State.counted_sess (s : State) (t : Nat) (x : Session) (p : Page) (i o : Nat) {slot : Nat} (h : s.sess? slot = some x) :
    (s.counted t x p i o).sess? slot = some { x with last := max s.now t } := by
  have hs := State.sess_slot h
  have e : (s.counted t x p i o).host = ((s.begin t).touch slot).host := by
    simp only [State.counted, State.notePend, hs]; split <;> rfl
  have h' : (s.begin t).sess? slot = some x := h
  have k := State.updSess_sess (s.begin t) slot (fun y => { y with last := (s.begin t).now }) fun _ => rfl
  rw [h'] at k
  simp only [State.sess?, e]
  exact k

/-- A command that may be written finds no page reset pending. -/
theorem State.MayCommand.noReset {s : State} {slot : Nat} {x : Session} {need : Priv} {p : Page} {i : Nat} (h : s.MayCommand slot x need p i) (t o : Nat) :
    (s.counted t x p i o).resetPending p i = false := by
  rw [State.counted_reset]; exact h.reset

/-- A write that nothing refuses has its register's effect; a refusal of the effect itself leaves only PAGE_ERR (R34, R48). -/
theorem State.hostWrite_may {s : State} {t slot : Nat} {x : Session} {p : Page} {i o : Nat} {d : RegDef} (v : Word) (h : s.MayWrite slot x p i o d) :
    (s.begin t).hostWrite slot (p.reg i o) v = match (s.counted t x p i o).effect x ⟨p, i, o⟩ d v with
      | (.ok, u) => u
      | (e, _) => ((s.begin t).touch slot).refuse p i e := by
  have hs : x.slot = slot := State.sess_slot h.here
  have hl : (((s.begin t).touch slot)).locate (p.reg i o) = .reg ⟨p, i, o⟩ d := by
    have ha : p.reg i o % 4 = 0 := by have := page_base0 p; have := h.word; simp only [Page.reg, Page.base]; omega
    have hv : ((s.begin t).touch slot).variant = s.variant := rfl
    simp [State.locate, decodeAddr_reg p i o h.inst h.word.2, hv, h.present, ha, h.def_]
  have hw : ((s.begin t).touch slot).writeErr x ⟨p, i, o⟩ d = .ok := h.served
  have hx : (s.begin t).sess? slot = some x := h.here
  have hc : s.md.pstate.cmp = true := h.cmp
  have e : ((((s.begin t).touch slot).accepted p i).notePend slot p i o) = s.counted t x p i o := by rw [State.counted, hs]
  have ha := State.atOnce_direct (t := t) (slot := slot) (o := o) h.toDirect h.inst h.word.2 v (State.alone_value h.alone o v)
  simp [State.hostWrite, hx, h.ready, hc, ha, State.writeReg, hl, hw, hs, e]
  cases hh : (s.counted t x p i o).effect x ⟨p, i, o⟩ d v with
  | mk e u => cases e <;> rfl

/-- A response leaves a session that holds no request without one. -/
theorem State.answer_held (u : State) (k seq : Nat) (r : Resp) (h : ∀ z, u.sess? k = some z → z.held = []) :
    ∀ z, (u.answer k seq r).sess? k = some z → z.held = [] := by
  intro z hz
  simp only [State.answer, State.sendResp] at hz
  split at hz
  · exact h z hz
  rw [State.updSess_sess _ _ _ (by intro x; rfl)] at hz
  cases hu : u.sess? k with
  | none => rw [hu] at hz; simp at hz; rw [State.updSess_sess _ _ _ (by intro x; rfl), hu] at hz; simp at hz
  | some w =>
    rw [hu] at hz; simp at hz
    have : ∀ (v : State) o, (v.emit o).sess? k = v.sess? k := fun _ _ => rfl
    rw [this, State.updSess_sess _ _ _ (by intro x; rfl), State.updSess_sess _ _ _ (by intro x; rfl), hu] at hz
    simp at hz; rw [← hz]; exact h w hu

/-- A session that holds no request has none executed. -/
theorem runHeld_done (k n : Nat) (u : State) (h : ∀ z, u.sess? k = some z → z.held = []) : runHeld k false n u = u := by
  cases n with
  | zero => rfl
  | succ n =>
    simp only [runHeld]
    split
    · rfl
    · rename_i x hx; rw [h x hx]

end Sys2Proof.Machine
end

