-- ==== Sys2Proof/Laws/Pair.lean ====
section
/-! SUPPORT. Laws of the PL1 link and of the numbered units: what taking a frame in order and changing one slot can do. -/

namespace Sys2Proof.Machine

/-- A unit of a list that is changed by number holds what the change gives. -/
theorem modAt_getD {α : Type} (l : List α) (n : Nat) (f : α → α) (d : α) (h : n < l.length) : (modAt l n f).getD n d = f (l.getD n d) := by
  induction l generalizing n with
  | nil => simp at h
  | cons x xs ih => cases n with
    | zero => rfl
    | succ n => simpa [modAt] using ih n (by simpa using h)

/-- A slot that is changed by number holds what the change gives. -/
theorem State.updSlot_slot (b : State) (n : Nat) (f : Slot → Slot) (h : n < b.slv.slots.length) : (b.updSlot n f).slot n = f (b.slot n) :=
  modAt_getD _ _ _ _ h

/-- Measuring the time of mirrored frames touches neither the modes nor the pair's state (R471). -/
theorem State.mirrorTime_fields (s : State) (l : List (Nat × Pl1Out × Nat)) :
    (s.mirrorTime l).md = s.md ∧ (s.mirrorTime l).pair = s.pair ∧ (s.mirrorTime l).variant = s.variant ∧ (s.mirrorTime l).now = s.now := by
  induction l generalizing s with
  | nil => exact ⟨rfl, rfl, rfl, rfl⟩
  | cons x xs ih =>
    simp only [State.mirrorTime, List.foldl_cons] at *
    split
    · obtain ⟨a, b, c, d⟩ := ih (s.wrp .pair 0 Off.PAIR_MIRROR_US (w32 (min 65535 ((s.now - x.2.2) / us) + 65536 * max (min 65535 ((s.now - x.2.2) / us)) ((s.rdp .pair 0 Off.PAIR_MIRROR_US).fld 16 16))))
      exact ⟨a, b, c, d⟩
    · exact ih s

/-- A frame of PL1 in its order is taken, and acknowledges the frames up to its ACK. -/
theorem State.pl1Rx_next (b : State) (h : Pl1Hdr) (h1 : b.pair.session = true) (h2 : b.md.pstate.cmp = true) (h3 : h.seq = pl1Next b.pair.rxSeq) :
    b.pl1Rx h = some (((b.updPair fun p => { p with lastRx := some b.now }).mirrorTime (b.pair.unacked.filter fun x => pl1Acked h.ack x.1)).updPair fun p =>
      { p with rxSeq := h.seq, unacked := p.unacked.filter fun x => !pl1Acked h.ack x.1 }) := by
  simp [State.pl1Rx, h1, h2, h3, State.updPair]

end Sys2Proof.Machine
end

