-- ==== Sys2Proof/Laws/Slot.lean ====
section
/-! SUPPORT. Laws of the command queue of a slot (OP-3, R234): what starting a cycle and granting the lanes leave of it, and where a command that waits stands. -/

namespace Sys2Proof.Machine

/-- The queued commands of `u`, and which of each slot's have begun and not ended, are those of `s`. -/
structure State.SameCmds (s u : State) : Prop where
  cmdq  : u.cmdq = s.cmdq
  begun : u.slv.slots.map (·.begun.map isOpen) = s.slv.slots.map (·.begun.map isOpen)

theorem State.SameCmds.refl (s : State) : s.SameCmds s := ⟨rfl, rfl⟩

theorem State.SameCmds.trans {a b c : State} (h : a.SameCmds b) (k : b.SameCmds c) : a.SameCmds c := ⟨k.cmdq.trans h.cmdq, k.begun.trans h.begun⟩

theorem map_modAt {α β : Type} (g : α → β) (f : α → α) (h : ∀ x, g (f x) = g x) (l : List α) (n : Nat) : (modAt l n f).map g = l.map g := by
  induction l generalizing n with
  | nil => rfl
  | cons x xs ih => cases n with
    | zero => simp [modAt, h]
    | succ n => simp [modAt, ih]

/-- A state that differs in one slot, whose begun commands stand as before. -/
theorem State.SameCmds.of_slot {s u : State} {n : Nat} {f : Slot → Slot} (h : u.cmdq = s.cmdq) (k : u.slv.slots = modAt s.slv.slots n f)
    (hf : ∀ x, (f x).begun.map isOpen = x.begun.map isOpen) : s.SameCmds u := ⟨h, by rw [k]; exact map_modAt _ f hf _ _⟩

theorem State.updSlot_cmds (s : State) (n : Nat) (f : Slot → Slot) (h : ∀ x, (f x).begun.map isOpen = x.begun.map isOpen) : s.SameCmds (s.updSlot n f) :=
  .of_slot rfl rfl h

theorem State.irq_cmds (s : State) (p : Page) (i b : Nat) : s.SameCmds (s.irq p i b) := by
  simp only [State.irq, State.riseIf]; split
  · split <;> exact ⟨rfl, rfl⟩
  · exact .refl s

theorem State.storeAt_cmds (s : State) (r : Snag) : s.SameCmds (s.storeAt r) := by
  simp only [State.storeAt]; refine State.SameCmds.trans ?_ (State.irq_cmds _ _ _ _); exact ⟨rfl, rfl⟩

theorem State.takeSeq_cmds {s u : State} {n : Nat} (h : s.takeSeq = some (n, u)) : s.SameCmds u := by
  simp only [State.takeSeq] at h
  split at h; simp at h
  split at h
  · simp at h; rw [← h.2]; exact ⟨rfl, rfl⟩
  · split at h
    · simp at h; rw [← h.2]; simp only [State.pl1Send]; split <;> exact ⟨rfl, rfl⟩
    · simp at h

theorem State.fillLog_cmds (s : State) (r : Snag) : s.SameCmds (s.fillLog r) := by
  simp only [State.fillLog]; split
  · exact .refl s
  · rename_i n u h
    refine (State.takeSeq_cmds h).trans (State.SameCmds.trans ?_ (State.irq_cmds _ _ _ _))
    have k := State.storeAt_cmds u
    exact ⟨(k _).cmdq, (k _).begun⟩

/-- Storing a record leaves the queues alone. -/
theorem State.record_cmds (s : State) (code : Nat) (p1 p2 p3 : Word) (g : Bool) : s.SameCmds (s.record code p1 p2 p3 g) := by
  simp only [State.record]
  generalize s.mkRec code p1 p2 p3 g = r
  simp only [State.release]; split
  · split <;> exact ⟨rfl, rfl⟩
  · have h0 : s.SameCmds (if (s.evt.freeze.isNone && !s.evt.full && decide (s.evt.log.length ≥ evtSlots)) = true then s.fillLog r else s) := by
      split
      · exact State.fillLog_cmds s r
      · exact .refl s
    generalize (if (s.evt.freeze.isNone && !s.evt.full && decide (s.evt.log.length ≥ evtSlots)) = true then s.fillLog r else s) = v at *
    split
    · exact h0.trans ⟨rfl, rfl⟩
    · rename_i n u h
      refine h0.trans ((State.takeSeq_cmds h).trans ?_)
      split
      · split <;> exact ⟨rfl, rfl⟩
      · split
        · exact ⟨rfl, rfl⟩
        · exact State.storeAt_cmds _ _

theorem State.SameCmds.foldl {β : Type} (f : State → β → State) (h : ∀ (s : State) b, s.SameCmds (f s b)) (l : List β) (s : State) : s.SameCmds (l.foldl f s) := by
  induction l generalizing s with
  | nil => exact .refl s
  | cons x xs ih => exact (h s x).trans (ih _)

theorem State.lanePower_cmds (s : State) : s.SameCmds s.lanePower := by
  simp only [State.lanePower]; split <;> exact ⟨rfl, rfl⟩

/-- Granting the lanes leaves the queues alone. -/
theorem State.grant_cmds (s : State) : s.SameCmds s.grant := by
  simp only [State.grant]
  split
  · exact .refl s
  · split
    · refine State.SameCmds.trans ?_ (State.lanePower_cmds _)
      exact .of_slot rfl rfl fun _ => rfl
    · split
      · refine State.SameCmds.trans ?_ (State.lanePower_cmds _); exact ⟨rfl, rfl⟩
      · split
        · refine State.SameCmds.trans ?_ (State.lanePower_cmds _)
          exact .of_slot rfl rfl fun x => by split <;> rfl
        · exact State.lanePower_cmds s

theorem State.preempt_cmds (s : State) (k : Nat) : s.SameCmds (s.preempt k) := by
  simp only [State.preempt]
  split
  · split
    · split
      · exact .of_slot rfl rfl fun _ => rfl
      · exact .refl s
    · exact .refl s
  · exact .of_slot rfl rfl fun x => by split <;> rfl
  · exact ⟨rfl, rfl⟩
  · exact .refl s

theorem State.returnLanes_cmds (s : State) : s.SameCmds s.returnLanes := by
  simp only [State.returnLanes]
  refine State.SameCmds.foldl _ (fun u k => ?_) _ _
  have a : u.SameCmds (u.updLane k fun _ => {}) := ⟨rfl, rfl⟩
  have b := State.irq_cmds (u.updLane k fun _ => {}) .slv 0 2
  have c := State.record_cmds ((u.updLane k fun _ => {}).irq .slv 0 2) 0x0406 (w32 k) (w32 (u.lane k).back) (u.updLane k fun _ => {}).lanesWord false
  have d := a.trans (b.trans c)
  exact ⟨d.cmdq, d.begun⟩

theorem State.refuse_cmds (s : State) (p : Page) (i : Nat) (e : Err) : s.SameCmds (s.refuse p i e) := by
  simp only [State.refuse]; refine State.SameCmds.trans ?_ (State.irq_cmds _ _ _ _); exact ⟨rfl, rfl⟩

theorem State.skimRejects_cmds (s : State) (n : Nat) (es : List Err) : s.SameCmds (s.skimRejects n es) := by
  simp only [State.skimRejects]
  split
  · exact .refl s
  · refine State.SameCmds.trans ?_ (State.irq_cmds _ _ _ _)
    have a := State.SameCmds.foldl (fun s e => s.refuse .slot n e) (fun s e => State.refuse_cmds s .slot n e) es (s.satp .slot n Off.SLOT_SKIM_REJ es.length)
    exact ⟨a.cmdq, a.begun⟩

theorem State.rejects_cmds (s : State) (n : Nat) (es : List Err) (b : Bool) :
    s.SameCmds (if b = true then (s.skimRejects n es).skimRejects n [.struct] else s.skimRejects n es) := by
  split
  · exact (State.skimRejects_cmds _ n _).trans (State.skimRejects_cmds _ n _)
  · exact State.skimRejects_cmds _ n _

/-- Starting a cycle leaves the queues alone. -/
theorem State.startCycle_cmds (s : State) (n num : Nat) (trial : Bool) : s.SameCmds (s.startCycle n num trial) := by
  simp only [State.startCycle]
  split
  · refine (State.returnLanes_cmds s).trans ?_
    refine State.SameCmds.trans ?_ ((State.preempt_cmds _ _).trans (State.grant_cmds _))
    refine State.SameCmds.trans ?_ (State.updSlot_cmds _ _ _ fun x => ?_)
    · rename_i c x _ _
      cases c.kind
      · exact ⟨(State.rejects_cmds _ n _ _).cmdq, (State.rejects_cmds _ n _ _).begun⟩
      · exact State.rejects_cmds _ n _ _
    · simp only [List.map_map]
      refine List.map_congr_left fun b _ => ?_
      simp only [Function.comp]
      split
      · rename_i h; simp at h; rw [h.1]; rfl
      · rfl
  · exact .refl s

/-- Which commands of a slot's queue have begun goes by its entry. -/
theorem State.SameCmds.slot {s u : State} (h : s.SameCmds u) (n : Nat) : (u.slot n).begun.map isOpen = (s.slot n).begun.map isOpen := by
  have e : ∀ (l : List Slot) (n : Nat), ((l.map (·.begun.map isOpen)).getD n []) = (l.getD n {}).begun.map isOpen := by
    intro l
    induction l with
    | nil => intro n; rfl
    | cons x xs ih => intro n; cases n with
      | zero => rfl
      | succ n => simpa using ih n
  simp only [State.slot]
  rw [← e, ← e, h.begun]

/-- A queue holds what it is given. -/
theorem State.queue_setQueue (s : State) (a : Nat) (c : QCmd) : (s.setQueue a [c]).queue a = [c] := by
  simp [State.queue, State.setQueue, lookupA_insertA]

/-- A slot's command that begins and does not end at once stands at the head of the queue (OP-3, R234). -/
theorem State.slotCmd_waits {b v : State} {n : Nat} {c : QCmd} (hq : b.queue (slotQ n) = []) (hb : (b.slot n).begun = []) (hn : n < b.slv.slots.length)
    (hbuild : (b.slot n).build = .none) (hcyc : (b.slot n).cyc = none)
    (he : ((b.setQueue (slotQ n) [c]).updSlot n fun y => { y with begun := [.waiting] }).execSlotCmd n c = (none, v))
    (hv : ((b.setQueue (slotQ n) [c]).updSlot n fun y => { y with begun := [.waiting] }).SameCmds v) :
    b.slotCmd n c = v := by
  have hs : (b.setQueue (slotQ n) [c]).slot n = b.slot n := rfl
  have hqv : v.queue (slotQ n) = [c] := by
    have := b.queue_setQueue (slotQ n) c
    simp only [State.queue] at *; rw [hv.cmdq]; exact this
  have ho : (v.slot n).begun.map isOpen = [true] := by
    rw [hv.slot n, State.updSlot_slot _ _ _ (by exact hn)]; rfl
  have hl : (v.slot n).begun.length = 1 := by simpa using congrArg List.length ho
  simp only [State.slotCmd, hbuild, hcyc, hq]
  have e1 : beginSlot n 5 (b.setQueue (slotQ n) [c]) = v := by
    rw [beginSlot]
    simp only [State.queue_setQueue, hs, hb]
    simp only [List.length_nil, List.getElem?_cons_zero, List.zip_nil_right, List.any_nil, Bool.false_eq_true, if_false, List.nil_append, he]
    rw [beginSlot]
    simp [hqv, hl]
  have e2 : reportSlot n 5 v = v := by
    rw [reportSlot, hqv]
    split
    · rename_i h2; rw [h2] at ho; simp [isOpen] at ho
    · rfl
  simp only [bne_self_eq_false, Bool.or_self, Bool.false_eq_true, if_false, List.nil_append, State.runSlot, queueMax]
  rw [e1, e2]

end Sys2Proof.Machine
end

