-- ==== Sys2Proof/WellFormed.lean ====
section
/-!
DEFINITION. Which commands are well formed: operands within the fields that carry them (numbers of sessions, stations, slots, loops, groups, segments, tags, lengths).
-/
namespace Sys2Proof

/-- A memory location fits its fields (R118, R130): regions 1 and 2 are of a CMP engine, region 5 of the loop engine or metering in SRAM, region 6 in SRAM, regions 2 to
4 in main memory. -/
def MemErr.ok (e : MemErr) : Bool :=
  1 ≤ e.region && e.region ≤ 7 && e.index < 2 ^ 29 && e.station < 4096 && e.points.all (· < 2048) &&
  (match e.region, e.eng with
    | 1, some g | 2, some g => g.onCmp
    | 5, some (.loop _) | 5, some .metering => e.sram
    | 1, none | 2, none | 5, _ => false
    | 6, _ => e.sram
    | _, _ => true) && !(e.sram && (e.region = 2 || e.region = 3 || e.region = 4))

/-- What stands at a location: wrong symbols at distinct positions of a codeword, or wrong bits of a word (R111, R116). -/
def MemFind.ok : MemFind → Bool
  | .clean => true
  | .wrong ps e => e.ok && !ps.isEmpty && ps.eraseDups.length = ps.length && ps.all (· < if e.sram then 72 else 36)

/-- An error lies in SRAM, or in main memory. -/
def MemFind.isIn (sram : Bool) : MemFind → Bool
  | .clean => true
  | .wrong _ e => e.sram == sram

/-- What the check of an epoch of engine `g` finds (R89): the engine's own locations, journals and committed state, and point data. -/
def chkOk (g : Eng) (chk : List MemFind) : Bool :=
  chk.all fun f => f.ok && (match f with
    | .clean => true
    | .wrong _ e => e.region < 7 && (!(e.region = 1 || e.region = 2 || e.region = 5) || e.eng == some g))

/-- The operands of a command fit their fields. -/
def Instr.wellFormed : Instr → Bool
  | .sessionInit _ _ _ key nonce cred want => key.length == 32 && nonce.length == 16 && cred < 2 ^ 32 && want < 256
  | .sessionProof _ _ _ _ mac => mac.length == 32
  | .sessionClose _ _ slot _ _ _ => slot < 8
  | .sessionIdleTimeout _ slot => slot < 8
  | .proofLockoutExpiry _ => true
  | .request _ _ _ _ seq rq => seq < 2 ^ 32 && rq.reqId < 2 ^ 32 && rq.op < 256 && rq.flags < 256 && rq.addr < 2 ^ 32 && rq.count < 65536 && rq.len < 65536
  | .read _ slot seq req addr f => f.ok && slot < 8 && seq < 2 ^ 32 && req < 2 ^ 32 && addr < 2 ^ 32
  | .write _ slot seq req addr _ _ => slot < 8 && seq < 2 ^ 32 && req < 2 ^ 32 && addr < 2 ^ 32
  | .readBlock _ slot seq req addr count f => f.ok && slot < 8 && seq < 2 ^ 32 && req < 2 ^ 32 && addr < 2 ^ 32 && count < 65536
  | .writeBlock _ slot seq req addr data => slot < 8 && seq < 2 ^ 32 && req < 2 ^ 32 && addr < 2 ^ 32 && data.length < 65536
  | .barrier _ slot seq req => slot < 8 && seq < 2 ^ 32 && req < 2 ^ 32
  | .ping _ slot seq req => slot < 8 && seq < 2 ^ 32 && req < 2 ^ 32
  | .notify _ slot seq req _ interval => slot < 8 && seq < 2 ^ 32 && req < 2 ^ 32 && interval < 65536
  | .notifySend _ slot => slot < 8
  | .notifyRepeat _ slot => slot < 8
  | .notifyAck _ _ _ _ seq num => seq < 2 ^ 32 && num < 65536
  | .registerWrite _ slot addr _ => slot < 8 && addr < 2 ^ 32
  | .pageIrqClear _ slot page inst _ => slot < 8 && inst < page.count
  | .pageLockWrite _ slot page inst _ => slot < 8 && inst < page.count
  | .pageReset _ slot page inst _ => slot < 8 && inst < page.count
  | .pageResetTakeEffect _ page inst => inst < page.count
  | .modeCmdCommission _ slot tag => slot < 8 && tag < 256
  | .modeCmdRun _ slot tag => slot < 8 && tag < 256
  | .modeCmdSafeHold _ slot tag => slot < 8 && tag < 256
  | .modeCmdMaintenance _ slot tag => slot < 8 && tag < 256
  | .modeCmdDormant _ slot tag => slot < 8 && tag < 256
  | .modeTransitionComplete _ => true
  | .unrecoverableFault _ _ code => code < 65536
  | .shIdleExpiry _ => true
  | .wakeFromP2 _ src => src < 4
  | .wakeFromDormant _ src => src < 4
  | .bootComplete _ b => b.pins < 4
  | .powerOnReset _ => true
  | .brownOutReset _ => true
  | .watchdogReset _ => true
  | .rstSoft _ slot key => slot < 8 && key < 256
  | .rstCountsClr _ slot _ => slot < 8
  | .profSwitch _ slot tag target => slot < 8 && tag < 256 && target < 4
  | .profVerifyDone _ => true
  | .profCancel _ slot tag => slot < 8 && tag < 256
  | .profileSwitchBoundary _ => true
  | .ordBarrier _ slot tag => slot < 8 && tag < 256
  | .barrierComplete _ slot => slot < 8
  | .recoverableFault _ _ cause => cause < 16
  | .makingGoodDone _ _ => true
  | .sandingBurst _ f0 f1 => f0.ok && MemFind.isIn false f0 && f1.ok && MemFind.isIn false f1
  | .sramScrub _ fs => fs.all fun f => f.1 < 2 ^ 29 && f.2.ok && MemFind.isIn true f.2
  | .telemetrySample _ _ => true
  | .memClr _ slot _ => slot < 8
  | .dtlsClientHello _ _ _ _ _ st gen => st < 4096 && gen < 2 ^ 32
  | .dtlsHandshakeDone _ st gen => st < 4096 && gen < 2 ^ 32
  | .dtlsKeyUpdate _ st => st < 4096
  | .dtlsSessionFail _ st => st < 4096
  | .dpxHello _ st _ _ => st < 4096
  | .dpxSetMessage _ st _ f => st < 4096 && f.entries.length ≤ 72
  | .dpxSetApply _ st chk => st < 4096 && chkOk (.ingest st) chk
  | .dpxAckRx _ st _ _ => st < 4096
  | .dpxSafeRx _ st _ telegram => st < 4096 && telegram.length ≤ 1184
  | .dpxRetransmit _ st seq => st < 4096 && seq < 2 ^ 32
  | .stationHbTimeout _ st => st < 4096
  | .netEnable _ slot tag st => slot < 8 && tag < 256 && st < 4096
  | .netDisable _ slot tag st => slot < 8 && tag < 256 && st < 4096
  | .netResync _ slot tag st => slot < 8 && tag < 256 && st < 4096
  | .netNextGen _ slot tag st => slot < 8 && tag < 256 && st < 4096
  | .netKexport _ slot tag st => slot < 8 && tag < 256 && st < 4096
  | .dpxClr _ slot _ => slot < 8
  | .pntBaseWrite _ slot _ => slot < 8
  | .pntFreeze _ slot _ => slot < 8
  | .slotCycleBoundary _ n => n < 8
  | .forecastUpdate _ => true
  | .solverIterateComplete _ n chk => n < 8 && chkOk (.slot n) chk
  | .slotDeadline _ n _ chk => n < 8 && chkOk (.slot n) chk
  | .screedBuildDone _ n => n < 8
  | .laneFault _ lane => lane < 8
  | .laneRetest _ lane => lane < 8
  | .laneSelfTestDone _ _ => true
  | .slvLaneTest _ slot tag lane => slot < 8 && tag < 256 && lane < 8
  | .slvLaneRelease _ slot tag lane => slot < 8 && tag < 256 && lane < 8
  | .slotScreedBuild _ slot tag n => slot < 8 && tag < 256 && n < 8
  | .slotTrial _ slot tag n => slot < 8 && tag < 256 && n < 8
  | .slotColdNext _ slot tag n => slot < 8 && tag < 256 && n < 8
  | .slotCapture _ slot tag n => slot < 8 && tag < 256 && n < 8
  | .slotClr _ slot n _ => slot < 8 && n < 8
  | .commitSeries _ slot tag len => slot < 8 && tag < 256 && len < 4096
  | .commitSkim _ slot tag len => slot < 8 && tag < 256 && len < 4096
  | .clearStage _ slot tag => slot < 8 && tag < 256
  | .loopSample _ n _ chk => n < 48 && chkOk (.loop n) chk
  | .loopNop _ slot tag n => slot < 8 && tag < 256 && n < 48
  | .loopSetMode _ slot tag n mode => slot < 8 && tag < 256 && n < 48 && mode < 8
  | .loopTestStart _ slot tag n => slot < 8 && tag < 256 && n < 48
  | .loopTestStop _ slot tag n => slot < 8 && tag < 256 && n < 48
  | .loopTuneHiWrite _ slot n k _ => slot < 8 && n < 48 && k < 23
  | .loopClr _ slot p _ => slot < 8 && p < 6
  | .lcapArm _ slot tag k => slot < 8 && tag < 256 && k < 4
  | .lcapStop _ slot tag k => slot < 8 && tag < 256 && k < 4
  | .conversionEnd _ g _ _ _ => g < 4
  | .calibrationSlot _ g _ _ => g < 4
  | .refSettleCheck _ g _ => g < 4
  | .refSettleTimeout _ g => g < 4
  | .cntGate _ n => 1 ≤ n && n ≤ 48
  | .modFrame _ n _ _ => 1 ≤ n && n ≤ 48
  | .outputOvercurrent _ n => 1 ≤ n && n ≤ 48
  | .readbackMismatch _ n _ => 1 ≤ n && n ≤ 48
  | .testPulse _ _ => true
  | .groupFence _ g cause => g < 4 && 1 ≤ cause && cause ≤ 6
  | .groupRetest _ g _ => g < 4
  | .slcFence _ slot tag g => slot < 8 && tag < 256 && g < 4
  | .slcUnfence _ slot tag g => slot < 8 && tag < 256 && g < 4
  | .slcUserCalWrite _ slot n _ _ => slot < 8 && 1 ≤ n && n ≤ 48
  | .slcClr _ slot g _ => slot < 8 && g < 4
  | .adcSetRef _ slot tag g ref => slot < 8 && tag < 256 && g < 4 && ref < 4
  | .adcClr _ slot g _ => slot < 8 && g < 4
  | .meterWindowEnd _ p _ chans => p < 8 && chans.length == 6
  | .pqHalfCycle _ p _ => p < 8
  | .meterIntervalStep _ bad chk => bad < 3 && chkOk .metering chk
  | .billingRecordSign _ => true
  | .mtrSaveNow _ slot tag => slot < 8 && tag < 256
  | .mtrMaxdemReset _ slot tag => slot < 8 && tag < 256
  | .mtrCorrWrite _ slot p ch _ => slot < 8 && p < 8 && ch < 6
  | .mtrRecSelWrite _ slot _ => slot < 8
  | .mtrClr _ slot _ => slot < 8
  | .pqClr _ slot _ => slot < 8
  | .heatClr _ slot _ => slot < 8
  | .pulseClr _ slot _ => slot < 8
  | .taskRelease _ n _ chk => n < 16 && chkOk (.task n) chk
  | .prgAlmAck _ slot _ => slot < 8
  | .prgHinHiWrite _ slot k _ => slot < 8 && k < 16
  | .prgClr _ slot _ => slot < 8
  | .forceApply _ slot tag => slot < 8 && tag < 256
  | .forceRemove _ slot tag => slot < 8 && tag < 256
  | .forceRemoveAll _ slot tag => slot < 8 && tag < 256
  | .forcedRelease _ => true
  | .canFrameRx _ i f => i < 6 && f.id < 2 ^ 29 && f.data.length ≤ 64
  | .canFrameDecode _ i => i < 6
  | .canSignalTimeout _ i sig => i < 6 && sig < 512
  | .canBaseCycle _ i => i < 6
  | .canTtLoad _ i _ => i < 6
  | .canTtSlot _ i _ _ => i < 6
  | .canArbWindow _ i _ _ => i < 6
  | .canBusOff _ i => i < 6
  | .canBusoffHoldExpiry _ i => i < 6
  | .canRecoveryDone _ i => i < 6
  | .canDetectDwell _ i => i < 6
  | .canDetectTimeout _ i => i < 6
  | .canTransceiverFault _ i => i < 6
  | .canRetest _ i => i < 6
  | .canDetect _ slot tag i => slot < 8 && tag < 256 && i < 6
  | .canFence _ slot tag i => slot < 8 && tag < 256 && i < 6
  | .canUnfence _ slot tag i => slot < 8 && tag < 256 && i < 6
  | .canClr _ slot i _ => slot < 8 && i < 6
  | .ethFrameRx _ i f => i < 4 && f.mac < 2 ^ 48
  | .ethLinkChange _ i _ _ => i < 4
  | .prpLegSilent _ leg => leg < 2
  | .prpLegReturn _ leg => leg < 2
  | .prpSupervisionTx _ => true
  | .ptpAnnounce _ dom m => dom < 256 && m.leg < 2
  | .ptpAnnounceTimeout _ => true
  | .ptpSyncSample _ leg _ _ _ _ => leg < 2
  | .timeHoldExpiry _ => true
  | .timeSetTime _ slot tag => slot < 8 && tag < 256
  | .timeAcceptStep _ slot tag => slot < 8 && tag < 256
  | .timeClr _ slot _ => slot < 8
  | .ethClr _ slot i _ => slot < 8 && i < 4
  | .rtcSyncAdjust _ _ => true
  | .rtcTrim _ _ => true
  | .vbkMeasure _ _ => true
  | .bkpExhausted _ => true
  | .vbkLowClear _ slot _ => slot < 8
  | .rtcCdLoad _ slot _ => slot < 8
  | .countdownExpiry _ => true
  | .alarmFire _ => true
  | .calendarEnd _ => true
  | .pwrReqPulseEnd _ => true
  | .rtcSetCal _ slot tag => slot < 8 && tag < 256
  | .rtcArmAlm _ slot tag => slot < 8 && tag < 256
  | .rtcDisarmAlm _ slot tag => slot < 8 && tag < 256
  | .rtcStampClr _ slot tag => slot < 8 && tag < 256
  | .rtcPwrreqRel _ slot tag => slot < 8 && tag < 256
  | .safetyCycle _ _ _ => true
  | .sealSwitchChange _ addrA _ addrB _ => addrA < 256 && addrB < 256
  | .sdoOffPulse _ _ => true
  | .polienTelegramRx _ => true
  | .polienFailsafeEnd _ k => k < 64
  | .safeReset _ slot tag fn => slot < 8 && tag < 256 && fn < 32
  | .safeConfirm _ slot tag => slot < 8 && tag < 256
  | .safeClr _ slot _ => slot < 8
  | .polClr _ slot _ => slot < 8
  | .pl2LoopAbsent _ => true
  | .tokenTakeInterval _ _ => true
  | .pl2OpenTimeout _ => true
  | .pl2Retry _ _ => true
  | .pl2LoopInterruption _ => true
  | .cmpHeartbeatTimeout _ => true
  | .roleWatchdogExpiry _ => true
  | .pl1LinkStart _ id _ => id.length == 4
  | .pl1LinkDown _ => true
  | .pl1Retransmit _ => true
  | .pl1HeartbeatTx _ => true
  | .hello _ _ _ => true
  | .heartbeat _ _ _ _ mode => mode < 16
  | .inputs _ _ _ _ _ => true
  | .dataset _ _ st _ _ _ _ useq => st < 4096 && useq < 2 ^ 32
  | .hostin _ _ _ => true
  | .reserve _ _ _ _ _ _ => true
  | .commit _ _ _ _ _ _ _ _ _ => true
  | .iterhash _ _ n _ _ _ _ _ _ _ _ => n < 8
  | .result _ _ n _ _ => n < 8
  | .polien _ _ _ _ => true
  | .state _ _ _ => true
  | .verdict _ _ _ _ _ _ _ _ => true
  | .wack _ _ seq => seq < 2 ^ 32
  | .release _ _ cause => cause < 8
  | .handover _ _ _ _ _ _ => true
  | .handoverInstant _ _ => true
  | .qualifyTimer _ => true
  | .drillDue _ => true
  | .drillHoldEnd _ cause => cause < 8
  | .pairBind _ slot tag => slot < 8 && tag < 256
  | .pairHandover _ slot tag => slot < 8 && tag < 256
  | .drillNow _ slot tag => slot < 8 && tag < 256
  | .pairClr _ slot _ => slot < 8
  | .tamper _ src => src < 256
  | .submit _ slot tag => slot < 8 && tag < 256
  | .attest _ slot tag => slot < 8 && tag < 256
  | .reprovDone _ slot tag => slot < 8 && tag < 256
  | .secClearStage _ slot tag => slot < 8 && tag < 256
  | .secClr _ slot _ => slot < 8
  | .updOpen _ slot tag => slot < 8 && tag < 256
  | .updResume _ slot tag => slot < 8 && tag < 256
  | .updWrite _ slot tag len => slot < 8 && tag < 256 && len < 4096
  | .updFinish _ slot tag => slot < 8 && tag < 256
  | .updArm _ slot tag => slot < 8 && tag < 256
  | .updDisarm _ slot tag => slot < 8 && tag < 256
  | .updDiscard _ slot tag => slot < 8 && tag < 256
  | .updHealthWrite _ slot _ => slot < 8
  | .healthWindowExpiry _ => true
  | .evtRdSeqWrite _ slot _ => slot < 8
  | .evtFreezeWrite _ slot _ => slot < 8
  | .evtFreezeTimeout _ => true
  | .evtClear _ slot tag => slot < 8 && tag < 256
  | .evtCntClr _ slot _ => slot < 8
  | .dispUpdate _ slot tag _ => slot < 8 && tag < 256
  | .dispBand _ slot tag => slot < 8 && tag < 256
  | .panelWaveformEnd _ => true
  | .panelFrame _ => true
  | .panelTempRead _ _ => true
  | .panelBandTimer _ => true
  | .dispClr _ slot _ => slot < 8
  | .supplyInputChange _ _ _ => true
  | .supplyVoltageAlarm _ _ _ _ => true
  | .lastGasp _ phase _ _ _ => phase ≤ 4
  | .supplyReturn _ _ _ _ => true
  | .baseplateTemp _ _ => true
  | .holdupMeasure _ _ => true
  | .holdupMeasureEnd _ _ => true
  | .holdupTest _ slot tag => slot < 8 && tag < 256
  | .pwrFieldLimWrite _ slot _ => slot < 8
  | .pwrClr _ slot _ => slot < 8
  | .discreteInputSample _ g levels ovc => g < 4 && levels < 4096 && ovc < 4096
  | .canBusError _ i _ _ _ _ => i < 6
  | .pl2LoopPresent _ _ => true
  | .tamperSourceChange _ src _ => src < 256

end Sys2Proof
end

