-- ==== Sys2Proof/Tests/Slice0.lean ====
section
/-!
SUPPORT. Tests: ill-formed commands that `WellFormed` refuses, worked examples of the manual, and for each statement a small state and operands that meet the
hypotheses of its clauses. Nothing here takes more than one step.
-/
namespace Sys2Proof.Tests
open Sys2Proof Sys2Proof.Machine
-- One test is checked at a time, so that a check of the whole package stays within its memory.
set_option Elab.async false

/-! Small states: one ready session at SERVICE in slot 0. -/

/-- The session of the small states. -/
def sess : Session :=
  { slot := 0, id := 1, port := .e3, ready := true, cred := 1, want := .service, priv := .service, rx := 0, tx := 0, last := 0 }

/-- The controller after reset, in mode `m`, with that session. -/
def st (m : Mode) : State :=
  { State.reset with md := { State.reset.md with mode := m }, host := { State.reset.host with sessions := [sess] } }

/-- What `MayOrder` asks of session `x`, as a Bool. -/
def canOrder (x : Session) (s : State) (need : Priv) (p : Page) (i : Nat) : Bool :=
  s.sess? 0 == some x && x.ready && x.held.isEmpty && s.md.pstate.cmp && x.priv.ge need && !s.blocked x && decide (i < p.count) && p.present s.variant i &&
    !s.resetPending p i && s.waiting p i == 0

theorem can_order {x : Session} {s : State} {need : Priv} {p : Page} {i : Nat} (h : canOrder x s need p i = true) : s.MayOrder 0 x need p i := by
  simp only [canOrder, Bool.and_eq_true, beq_iff_eq, decide_eq_true_eq, Bool.not_eq_true', List.isEmpty_iff] at h
  obtain ⟨⟨⟨⟨⟨⟨⟨⟨⟨h1, h2⟩, h3⟩, h4⟩, h5⟩, h6⟩, h7⟩, h8⟩, h9⟩, h10⟩ := h
  exact { here := h1, ready := h2, first := h3, cmp := h4, priv := h5, free := h6, inst := h7, present := h8, reset := h9, idle := h10 }

/-- This module mirrors no write of a page to a partner, as a Bool. -/
def alone (s : State) (p : Page) : Bool := !(s.isActive && s.pair.session && mirroredPage p)

theorem can_may {x : Session} {s : State} {need : Priv} {p : Page} {i : Nat} (h : (canOrder x s need p i && alone s p) = true) : s.MayCommand 0 x need p i := by
  simp only [alone, Bool.and_eq_true (canOrder x s need p i), Bool.not_eq_true'] at h
  exact { can_order h.1 with alone := h.2 }

/-- What `MayWrite` asks, as a Bool. -/
def canWrite (s : State) (p : Page) (i o : Nat) : Bool :=
  s.sess? 0 == some sess && s.md.pstate.cmp && !s.blocked sess && decide (i < p.count) && p.present s.variant i && decide (o % 4 = 0 ∧ o < 0x1000) && alone s p &&
    match p.defAt o with | some d => s.writeErr sess ⟨p, i, o⟩ d == .ok | none => false

theorem can_write {s : State} {p : Page} {i o : Nat} (h : canWrite s p i o = true) : ∃ d, s.MayWrite 0 sess p i o d := by
  unfold canWrite at h
  split at h
  · rename_i d hd
    rw [Bool.and_eq_true] at h
    obtain ⟨h, h8⟩ := h
    rw [Bool.and_eq_true] at h
    obtain ⟨h, h7⟩ := h
    simp only [Bool.and_eq_true, beq_iff_eq, decide_eq_true_eq, Bool.not_eq_true'] at h
    obtain ⟨⟨⟨⟨⟨h1, h2⟩, h3⟩, h4⟩, h5⟩, h6⟩ := h
    exact ⟨d, { here := h1, ready := rfl, cmp := h2, inst := h4, present := h5, word := h6, def_ := hd, first := rfl, free := h3, served := by simpa using h8
                alone := by simpa only [alone, Bool.not_eq_true'] using h7 }⟩
  · simp at h

/-! Ill-formed commands, one for each check of `WellFormed`. -/

/-- A REQUEST whose fields fit. -/
def rq : Request := ⟨1, 1, 0, 0, 1, [], 12⟩
/-- A frame that the checks of R39 and R41 pass, of kind `kind` with a payload of `len` bytes. -/
def fr (kind len : Nat) : FrameIn := { size := 36 + len, kind := kind, len := len }
/-- A frame on the bus. -/
def frame : CanFrame := ⟨1, false, false, false, false, false, []⟩
/-- A fragment of a set. -/
def frag : SetFrag := ⟨1, 0, {}, 0, 1, []⟩
/-- A master as an announce gives it. -/
def master : Master := { leg := 0, id := 7, prio1 := 128, cls := 6, acc := 0x20, var := 0, prio2 := 128, steps := 1, utc := 37, last := 0, count := 1 }

/-- Host access and modes. -/
def illFormed1 : List Instr :=
  [.sessionInit 0 .e3 (fr 1 53) [] (List.replicate 16 0) 1 1, .sessionInit 0 .e3 (fr 1 53) (List.replicate 32 0) [] 1 1,
   .sessionInit 0 .e3 (fr 1 53) (List.replicate 32 0) (List.replicate 16 0) (2 ^ 32) 1, .sessionInit 0 .e3 (fr 1 53) (List.replicate 32 0) (List.replicate 16 0) 1 256,
   .sessionProof 0 .e3 (fr 3 36) 1 [], .sessionIdleTimeout 0 8, .request 0 .e3 (fr 0x10 12) 1 (2 ^ 32) rq, .request 0 .e3 (fr 0x10 12) 1 0 { rq with reqId := 2 ^ 32 },
   .request 0 .e3 (fr 0x10 12) 1 0 { rq with op := 256 }, .request 0 .e3 (fr 0x10 12) 1 0 { rq with flags := 256 }, .request 0 .e3 (fr 0x10 12) 1 0 { rq with addr := 2 ^ 32 },
   .request 0 .e3 (fr 0x10 12) 1 0 { rq with count := 65536 }, .request 0 .e3 (fr 0x10 12) 1 0 { rq with len := 65536 }, .ping 0 0 0 (2 ^ 32),
   .read 0 0 0 0 (2 ^ 32) .clean, .readBlock 0 0 0 0 0 65536 .clean, .notify 0 0 0 0 1 65536,
   .notifyAck 0 .e3 (fr 0x13 4) 1 0 65536, .pageIrqClear 0 0 .sys 1 0, .modeCmdRun 0 0 256, .unrecoverableFault 0 false 65536, .wakeFromP2 0 4,
   .bootComplete 0 { pins := 4 }, .rstSoft 0 0 256, .profSwitch 0 0 0 4, .recoverableFault 0 (.loop 0) 16]

/-- Stations, solver, loops, field, metering. -/
def illFormed2 : List Instr :=
  [.dtlsSessionFail 0 4096, .dtlsClientHello 0 true true 9 true 1 (2 ^ 32), .dpxSetMessage 0 1 ⟨0x5044, 1, 2, 1, 0, 0, 0, 16⟩ { frag with entries := List.replicate 73 ⟨0, 5, 0, 0, 0⟩ },
   .dpxSafeRx 0 1 ⟨0x5044, 1, 6, 1, 0, 0, 0, 16⟩ (List.replicate 1185 0), .slotCycleBoundary 0 8, .laneFault 0 8, .commitSeries 0 0 0 4096,
   .loopSample 0 48 false [], .loopSetMode 0 0 0 0 8, .loopTuneHiWrite 0 0 0 23 0, .loopClr 0 0 6 1, .lcapArm 0 0 0 4, .conversionEnd 0 4 0 false false, .cntGate 0 0,
   .cntGate 0 49, .groupFence 0 0 0, .groupFence 0 0 7, .adcSetRef 0 0 0 0 4, .discreteInputSample 0 0 4096 0, .discreteInputSample 0 0 0 4096,
   .pqHalfCycle 0 8 (List.replicate 6 (.good, [])), .meterWindowEnd 0 0 0 [], .meterIntervalStep 0 3 [], .mtrCorrWrite 0 0 0 6 0]

/-- Programs, networks, safety, pairs, power. -/
def illFormed3 : List Instr :=
  [.taskRelease 0 16 0 [], .prgHinHiWrite 0 0 16 0, .canRetest 0 6, .canFrameRx 0 0 { frame with id := 2 ^ 29 },
   .canFrameRx 0 0 { frame with data := List.replicate 65 0 }, .canSignalTimeout 0 0 512, .ethLinkChange 0 4 true true,
   .ethFrameRx 0 0 ⟨.other, true, false, 2 ^ 48, none⟩, .prpLegSilent 0 2, .ptpAnnounce 0 256 master, .ptpAnnounce 0 0 { master with leg := 2 },
   .sealSwitchChange 0 256 false 0 false, .sealSwitchChange 0 0 false 256 false, .polienFailsafeEnd 0 64, .safeReset 0 0 0 32, .pl1LinkStart 0 [] true,
   .heartbeat 0 ⟨1, 0⟩ none true 16, .dataset 0 ⟨1, 0⟩ 4096 1 {} [] true 0, .dataset 0 ⟨1, 0⟩ 1 1 {} [] true (2 ^ 32), .release 0 ⟨1, 0⟩ 8, .tamper 0 256, .lastGasp 0 5 0 true true]

theorem wellFormed_refuses1 : illFormed1.all (fun c => !c.wellFormed) = true := by decide +kernel
theorem wellFormed_refuses2 : illFormed2.all (fun c => !c.wellFormed) = true := by decide +kernel
theorem wellFormed_refuses3 : illFormed3.all (fun c => !c.wellFormed) = true := by decide +kernel

/-- An error at a word of SRAM that no part of the system owns. -/
def sramErr : MemErr := { index := 5, sram := true, region := 7 }

/-- What may stand in memory: the fields of a location, distinct positions within a word, main memory or SRAM, the engine's own locations. -/
def illFormed4 : List Instr :=
  [.read 0 0 0 0 0 (.wrong [] sramErr), .read 0 0 0 0 0 (.wrong [3, 3] sramErr), .read 0 0 0 0 0 (.wrong [72] sramErr),
   .read 0 0 0 0 0 (.wrong [36] { sramErr with sram := false }), .read 0 0 0 0 0 (.wrong [1] { sramErr with region := 8 }),
   .read 0 0 0 0 0 (.wrong [1] { sramErr with region := 0 }), .read 0 0 0 0 0 (.wrong [1] { sramErr with index := 2 ^ 29 }),
   .read 0 0 0 0 0 (.wrong [1] { sramErr with station := 4096 }), .read 0 0 0 0 0 (.wrong [1] { sramErr with points := [2048] }),
   .read 0 0 0 0 0 (.wrong [1] { sramErr with region := 1, eng := some (.loop 0) }), .read 0 0 0 0 0 (.wrong [1] { sramErr with region := 1 }),
   .read 0 0 0 0 0 (.wrong [1] { sramErr with region := 5, eng := some (.slot 0) }), .read 0 0 0 0 0 (.wrong [1] { sramErr with region := 3 }),
   .readBlock 0 0 0 0 0 1 (.wrong [1] { sramErr with sram := false, region := 6 }), .sandingBurst 0 (.wrong [1] sramErr) .clean,
   .sandingBurst 0 .clean (.wrong [1] sramErr), .sramScrub 0 [(0, .wrong [1] { sramErr with sram := false })], .sramScrub 0 [(2 ^ 29, .clean)],
   .loopSample 0 47 false [.wrong [1] sramErr], .loopSample 0 47 false [.wrong [1] { sramErr with region := 5, eng := some (.loop 0) }],
   .taskRelease 0 15 0 [.wrong [] sramErr], .meterIntervalStep 0 0 [.wrong [1] sramErr], .dpxSetApply 0 1 [.wrong [1] sramErr],
   .solverIterateComplete 0 7 [.wrong [1] sramErr], .slotDeadline 0 7 false [.wrong [1] sramErr]]

theorem wellFormed_refuses_mem : illFormed4.all (fun c => !c.wellFormed) = true := by decide +kernel

theorem wellFormed_refuses4 (ws : List Word) (h : 65536 ≤ ws.length) : (.writeBlock 0 0 0 0 0 ws : Instr).wellFormed = false := by
  have : ¬ ws.length < 65536 := by omega
  show (decide (0 < 8) && decide (0 < 2 ^ 32) && decide (0 < 2 ^ 32) && decide (0 < 2 ^ 32) && decide (ws.length < 65536)) = false
  rw [decide_eq_false this, Bool.and_false]

/-- Commands at the highest operands that fit. -/
theorem wellFormed_accepts :
    [(.loopTuneHiWrite 0 7 47 22 0 : Instr), .profSwitch 0 7 255 3, .read 0 7 0 0 0 (.wrong [0, 71] { sramErr with region := 5, eng := some (.loop 47) }), .loopSample 0 47 true [.wrong [0] { sramErr with region := 5, eng := some (.loop 47) }], .canFrameRx 0 5 { frame with id := 2 ^ 29 - 1 }, .cntGate 0 48,
     .request 0 .usb (fr 0x10 12) 1 (2 ^ 32 - 1) rq, .pageIrqClear 0 7 .slot 7 0].all Instr.wellFormed = true := by decide +kernel

/-! Worked examples and tables of the manual. -/

/-- R2: SYS.CAP of a full DXN-7448 is 0x0003_FF83, as the example of the READ shows (chapter 2). -/
theorem test_cap : Variant.cap .dxn7448 = 0x3FF83 := by decide

/-- The example of R9: point 0417:0232 has the index 854,248. -/
theorem test_point_index : ptIndex 417 232 = 854248 ∧ ptStation 854248 = 417 ∧ ptLocal 854248 = 232 := by decide

/-- *LOOPn pages*: the block of LP05 starts at 0x0002_0880. -/
theorem test_loop_block : Page.reg .loop (loopPage 5) (loopOff 5 0) = 0x20880 := by decide

/-- R439: CRC-32C of "123456789"; the snag record's CRC-32 of the same bytes. -/
theorem test_crcs : Hash.crc32c (Hash.ascii "123456789") = 0xE3069283 ∧ Hash.crc32 (Hash.ascii "123456789") = 0xCBF43926 := by decide +kernel

/-- Chapter 2's READ of SYS.CAP: the request executes and answers with one word, 0x0003_FF83. -/
theorem test_read_cap : (match (st .run).locate 0x40 with | .reg r d => some ((st .run).view sess r d) | _ => none) = some 0x3FF83 := by decide +kernel

/-- A binary64 sum and quotient by hand: 0.1 + 0.2 rounds to 0.30000000000000004; 1 ÷ 3. -/
theorem test_f64 : F64.add 0x3FB999999999999A 0x3FC999999999999A = 0x3FD3333333333334 ∧ F64.div 0x3FF0000000000000 0x4008000000000000 = 0x3FD5555555555555 := by
  decide +kernel

/-- R409 and the calendar: 2000-01-01 was a Saturday, and the reset value of the calendar stands at it. -/
theorem test_calendar : calWords 946684800000000000 = (dateWord 2000 1 1 6, 0, 0) ∧ calWords calEnd = (dateWord 2399 12 31 5, timeWord 23 59 59, 0) := by decide +kernel

/-! Witnesses: the whole machine. -/

theorem witness_EveryStepKeepsConsistency : State.reset.Consistent ∧ ∃ u, step { State.reset with pending := [.timeHoldExpiry 5] } = .next u :=
  ⟨⟨rfl, by decide +kernel, by decide +kernel, by decide +kernel⟩, _, rfl⟩

theorem witness_RegistersReadBack : Rising (st .run).regs ∧ Page.reg .sys 0 Off.SYS_CFG ≠ Page.reg .mode 0 Off.MODE_SH_IDLE_S :=
  ⟨trivial, by decide⟩

theorem witness_TriggersActByRank :
    nextTrigger [.unit, .safeHold .host 0, .reset .tamper] = some (.reset .tamper, [.unit, .safeHold .host 0]) ∧
    nextTrigger ({ State.reset with trig := [.unit] } : State).trig = some (.unit, []) := by decide

/-- The panel shows what it is to show: nothing follows. -/
def calm : State := { State.reset with panel := { State.reset.panel with seen := some State.reset.bandNow } }

theorem witness_CalmEffectsStand : calm.Calm ∧ calm.out = [] := by
  refine ⟨⟨rfl, by decide +kernel, by decide +kernel, by decide +kernel, by decide +kernel, rfl, ?_, fun _ => by decide +kernel, rfl,
    fun _ => by decide +kernel, rfl, rfl, ?_, by decide +kernel, by decide +kernel⟩, rfl⟩
  · intro k; cases k <;> rfl
  · intro p; cases p <;> decide +kernel

theorem witness_SafeHoldShowsItsFirstCause :
    shShown [(.host, 4), (.tamper, 2), (.bootCheck, 1)] = some (.bootCheck, 1) ∧ (st .safeHold).md.mode = .safeHold ∧ ShCause.host ≠ .cmpFault := by decide

theorem witness_SafeHoldOverridesOwnersAndMasks :
    ({ st .run with md := { (st .run).md with pstate := .p0 }, pair := { (st .run).pair with brk := some 0 } } : State).gated = true ∧
    (st .safeHold).md.mode = .safeHold ∧ (∀ n : Nat, Target.slice 1 = .slice n → isSdo ((st .safeHold).slc n).cfg.func = false) := by
  refine ⟨by decide +kernel, rfl, ?_⟩
  intro n h; cases h; decide +kernel

theorem witness_RecordsTakeTheirNumbers :
    let s : State := { st .run with pair := { (st .run).pair with decided := true, token := true } }
    s.pair.decided = true ∧ s.pair.token = true ∧ s.evt.freeze = none ∧ s.evt.full = false ∧ s.evt.log.length < evtSlots ∧
    s.evt.block.stop ≤ s.evt.block.next ∧ ({ s with evt := { s.evt with full := true } } : State).evt.full = true := by decide +kernel

/-! Witnesses: time base, backup domain, Ethernet. -/

/-- A clock that follows master 7 on leg 0, in time state `k`, the base valid. -/
def clock (k : TState) : State :=
  { st .run with time := { (st .run).time with st := k, valid := true, sel := some (0, 7), servoAt := some 0, cfg := 0x8300002 } }

theorem witness_CalendarStopsAtItsEnd :
    let s : State := { st .run with rtc := { (st .run).rtc with ofs := calEnd } }
    ((s.begin 0).rtc.atEnd = false ∧ calEnd ≤ (s.begin 0).now + (s.begin 0).rtc.ofs) ∧
    (({ s with rtc := { s.rtc with atEnd := true } } : State).begin 0).rtc.atEnd = true := by decide +kernel

theorem witness_JumpHoldEndsWithoutStep :
    let b := (clock .jumpHold).begin 5
    b.ptpRuns = true ∧ b.time.sel = some (0, 7) ∧ b.time.st = .jumpHold ∧
    (Int.natAbs 0 ≤ b.jumpNs ∧ b.qualN ≤ ({ b with time := { b.time with run := b.qualN - 1 } } : State).time.run + 1) ∧
    (Int.natAbs b.jumpNs ≤ b.jumpNs ∧ b.time.run + 1 < b.qualN) ∧ b.jumpNs < Int.natAbs (b.jumpNs + 1) := by decide +kernel

theorem witness_SetReferenceRestartsTheCheck :
    (st .commission).MayCommand 0 sess .config .adc 3 ∧ commMaint (st .commission).md.mode = true ∧ ((st .commission).grp 3).refUsed = 0 ∧
    ((st .commission).grp 3).refUsed ≠ 2 ∧ 3 < ((st .commission).counted 0 sess .adc 3 Off.ADC_CMD).fld.grps.length :=
  ⟨can_may (by decide +kernel), rfl, rfl, by decide +kernel, by decide +kernel⟩

/-- Time free, TIME.SET_NS at its largest value, a calendar to set and an alarm to arm. -/
def setClock : State :=
  ((((st .commission).wrp .time 0 Off.TIME_SET_NS 999999999).wrp .rtc 0 Off.RTC_SET_DATE (dateWord 2026 7 1 3)).wrp .rtc 0 Off.RTC_ALM_DATE
    (dateWord 2030 1 1 2)).wrp .rtc 0 Off.RTC_ALM_TIME 0

theorem witness_TimeAndCalendarCommandsAct :
    (setClock.MayCommand 0 sess .service .time 0 ∧ setClock.time.st = .free ∧ (setClock.rdp .time 0 Off.TIME_SET_NS).toNat ≤ 999999999) ∧
    (let s := { clock .jumpHold with time := { (clock .jumpHold).time with recent := List.replicate 15 0 } }
     s.MayCommand 0 sess .service .time 0 ∧ s.time.st = .jumpHold ∧ s.jumpN ≤ s.time.recent.length) ∧
    (setClock.MayCommand 0 sess .service .rtc 0 ∧ commMaint setClock.md.mode = true ∧
      (dateOk (setClock.rdp .rtc 0 Off.RTC_SET_DATE) (setClock.rdp .rtc 0 Off.RTC_SET_TIME)).isSome = true) ∧
    (setClock.MayCommand 0 sess .operate .rtc 0 ∧
      (∃ ns, dateOk (setClock.rdp .rtc 0 Off.RTC_ALM_DATE) (setClock.rdp .rtc 0 Off.RTC_ALM_TIME) = some ns ∧ setClock.calNs < ns)) ∧
    ({ st .run with rtc := { (st .run).rtc with pwrReq := some 0 } } : State).rtc.pwrReq.isSome = true :=
  ⟨⟨can_may (by decide +kernel), rfl, by decide +kernel⟩, ⟨can_may (by decide +kernel), rfl, by decide +kernel⟩,
    ⟨can_may (by decide +kernel), rfl, by decide +kernel⟩, ⟨can_may (by decide +kernel), _, rfl, by decide +kernel⟩, rfl⟩

theorem witness_TimeBaseEventsAct :
    (let b := (clock .holdover).begin (2048 * 60 * sec)
     b.time.valid = true ∧ b.time.st = .holdover ∧ b.time.servoAt = some 0 ∧ 0 + (b.rdp .time 0 Off.TIME_HOLD_MIN).fld 0 11 * 60 * sec < b.now) ∧
    (let b := ({ clock .free with time := { (clock .free).time with masters := [master] } } : State).begin sec
     b.ptpRuns = true ∧ master.leg < 2 ∧ b.time.masters = [{ master with last := 0, count := 1 }] ∧ b.now ≤ 0 + 4 * b.announceNs ∧
       b.now < b.now + 3 * b.announceNs) ∧
    (let b := (clock .locked).begin 5
     (∀ m ∈ b.time.masters, m.last + 3 * b.announceNs ≤ b.now) ∧ b.time.sel.isSome = true ∧ b.time.st = .locked) ∧
    (let b := ({ clock .qualifying with time := { (clock .qualifying).time with samples := List.replicate ((clock .locked).qualN - 1) 3 } } : State).begin 5
     b.ptpRuns = true ∧ b.time.st = .qualifying ∧ b.qualN = b.time.samples.length + 1 ∧ agree (3 :: b.time.samples) = true) ∧
    (let b := (clock .locked).begin 5
     b.ptpRuns = true ∧ b.time.st = .locked ∧ Int.natAbs b.jumpNs ≤ b.jumpNs) ∧
    (let b := ({ clock .locked with time := { (clock .locked).time with refused := List.replicate ((clock .locked).jumpN - 1) 90000000 } } : State).begin 5
     b.time.st = .locked ∧ b.jumpNs < Int.natAbs (b.jumpNs + 1) ∧ b.jumpN = b.time.refused.length + 1) := by decide +kernel

theorem witness_BackupDomainEventsAct :
    (let b := (clock .locked).begin 5
     b.time.valid = true ∧ b.rtc.atEnd = false ∧ b.rtc.syncAt = none ∧ 2 * ms < (b.now + b.time.ofs - min calEnd 0 + 3 * ms : Int).natAbs ∧
       b.time.st = .locked ∧ (-512 : Int) ≤ -512 ∧ (511 : Int) ≤ 511) ∧
    ({ st .boot with md := { (st .boot).md with pstate := .p4 } } : State).md.pstate = .p4 ∧
    (let b := ({ st .run with rtc := { (st .run).rtc with cd := some ⟨0, 1⟩ } } : State).begin sec
     b.rtc.cd = some ⟨0, 1⟩ ∧ 0 + 1 * sec / 64 ≤ b.now ∧ (b.rdp .mode 0 Off.MODE_WAKE_SRC).bit 1 = false ∧ (b.rdp .rtc 0 Off.RTC_PWRREQ_CFG).bit 0 = false) ∧
    (let b := (({ setClock with rtc := { setClock.rtc with lost := false, ofs := calEnd - 5 } } : State).wrp .rtc 0 Off.RTC_ALM_CTRL 1).begin 0
     (∃ a, b.alarmNs = some a ∧ a ≤ b.calNs) ∧ b.rtc.lost = false ∧ b.rtc.atEnd = false) ∧
    (let b := ({ st .run with rtc := { (st .run).rtc with pwrReq := some 0 } } : State).begin (256 * sec)
     b.rtc.pwrReq = some 0 ∧ (b.rdp .rtc 0 Off.RTC_PWRREQ_CFG).bit 2 = false ∧ 0 + (b.rdp .rtc 0 Off.RTC_PWRREQ_CFG).fld 16 8 * sec ≤ b.now) :=
  ⟨by decide +kernel, rfl, by decide +kernel, ⟨⟨_, rfl, by decide +kernel⟩, rfl, rfl⟩, by decide +kernel⟩

/-- The first two ports with link, as given. -/
def ports (p q : EthPort) : State := { st .run with eth := { (st .run).eth with ports := [p, q, { link := true }, {}], supAt := some 0 } }

theorem witness_EthernetEventsAct :
    (let s := ports {} {}
     let b := ({ s with eth := { s.eth with ips := [0, 0, 5] } } : State).begin 5
     b.md.pstate.cmp = true ∧ (b.port 2).link = true ∧ b.ownsAddr 2 5 = true ∧ (b.port 3).link = false) ∧
    ((ports {} {}).begin (2 * sec)).eth.supAt = some 0 ∧
    (let b := (ports { link := true, lastRx := some 0 } { link := true, lastRx := some 1 }).begin (6 * sec)
     (b.port 0).down = false ∧ (b.port 0).lastRx = some 0 ∧ (b.port (1 - 0)).lastRx = some 1 ∧ b.now < 1 + 6 * sec ∧ 0 + 6 * sec ≤ b.now) ∧
    (let b := (ports { link := true, fd1000 := true, down := true, runFrom := some 0, runLast := 9 } {}).begin (10 * sec)
     (b.port 0).down = true ∧ (b.port 0).link = true ∧ (b.port 0).fd1000 = true ∧ (b.port 0).runFrom = some 0 ∧ 0 + 10 * sec ≤ b.now ∧
       9 ≤ (b.port 0).runLast) := by decide +kernel

/-! Witnesses: updates, keys and the log, the supply, the panel. -/

/-- The staging area in a given state, UPD.ARG at `arg`. -/
def staged (k : Stage) (own : Option Nat) (len arg : Nat) (bs : List (Nat × List Byte)) : State :=
  let s := (st .maintenance).wrp .upd 0 Off.UPD_ARG (w32 arg)
  { s with upd := { s.upd with stage := k, owner := own, len := len, blocks := bs } }

/-- The first 1376 bytes of a package with one part of 16 bytes at offset 2048. -/
def manifest : List Byte :=
  [0x50, 0x4B, 1, 1, 1, 0, 0, 0, 0, 0, 0, 0, 0x10, 0x08, 0, 0, 1, 0, 0, 0, 1] ++ List.replicate 11 0 ++
  [1, 0, 0, 0, 1, 0, 0, 0, 1, 0, 0, 0, 0, 8, 0, 0, 16, 0, 0, 0] ++ List.replicate 1324 0

theorem witness_UpdateCommandsAct :
    (let s := staged .empty none 0 134217728 []
     s.MayCommand 0 sess .service .upd 0 ∧ updModeOk s.md.mode = true ∧ s.upd.stage ≠ .armed ∧ s.upd.owner = none ∧
       1376 ≤ ((s.counted 0 sess .upd 0 Off.UPD_CMD).rdp .upd 0 Off.UPD_ARG).toNat ∧
       ((s.counted 0 sess .upd 0 Off.UPD_CMD).rdp .upd 0 Off.UPD_ARG).toNat ≤ 134217728) ∧
    (let s := staged .receiving (some 0) 1376 1376 []
     s.MayCommand 0 sess .service .upd 0 ∧ s.upd.stage = .receiving ∧
       ((s.counted 0 sess .upd 0 Off.UPD_CMD).rdp .upd 0 Off.UPD_ARG).toNat = s.upd.len) ∧
    (let s := staged .receiving (some 0) 2049 2048 []
     s.MayCommand 0 sess .service .upd 0 ∧ s.upd.owner = some 0 ∧ ((s.counted 0 sess .upd 0 Off.UPD_CMD).rdp .upd 0 Off.UPD_ARG).toNat % 2048 = 0 ∧
       ((s.counted 0 sess .upd 0 Off.UPD_CMD).rdp .upd 0 Off.UPD_ARG).toNat < s.upd.len ∧ 1 = min 2048 (s.upd.len - 2048)) ∧
    (let s := staged .receiving (some 0) 2064 0 [(0, manifest ++ List.replicate 672 0), (1, List.replicate 16 0)]
     s.MayCommand 0 sess .service .upd 0 ∧ firstMissing s.upd = none ∧ manifestOk ((stagedBytes s.upd).take 1376) s.upd.len = true) ∧
    (let s := staged .complete none 1376 0 []
     s.MayCommand 0 sess .service .upd 0 ∧ s.upd.stage = .complete ∧ s.upd.trial ≠ 1) ∧
    (let s := staged .armed none 1376 0 []
     s.MayCommand 0 sess .service .upd 0 ∧ s.upd.stage = .armed) :=
  ⟨⟨can_may (by decide +kernel), by decide +kernel⟩, ⟨can_may (by decide +kernel), by decide +kernel⟩, ⟨can_may (by decide +kernel), by decide +kernel⟩,
    ⟨can_may (by decide +kernel), by decide +kernel⟩, ⟨can_may (by decide +kernel), by decide +kernel⟩, ⟨can_may (by decide +kernel), rfl⟩⟩


/-- The words, from word `k` on, of a signature with the private scalar 1, whose public key is the base point. -/
def sigWords (k : Nat) (msg : List Byte) : List (Nat × Word) :=
  (List.range 16).map fun i => (k + i, BitVec.ofNat 32 (leAt (P256.sign 1 msg) (4 * i) 4))

/-- Session words of an anchor update for anchor 1, before its signature. -/
def anchorWords : Session :=
  { sess with kuStage := [(0, 0x0401554B), (1, Config.deviceId 0), (2, Config.deviceId 1), (3, Config.deviceId 2), (4, Config.deviceId 3), (5, 1), (6, 1)] }

/-- The same, signed. -/
def anchorSess : Session := { sess with kuStage := anchorWords.kuStage ++ sigWords 37 ((kuMsg anchorWords).take 148) }

/-- Keys: anchor 0 and 4 present, a root key in slot 5, a credential in slot 0, PROVISIONED. -/
def keyed (m : Mode) : State :=
  let s := (st m).wrp .dpx 0 Off.DPX_ROOT_SLOT 5
  { s with keys := { s.keys with
      lcs := 1, pufOk := true, anchors := [some (P256.xy P256.base), none, none, none, some (P256.xy P256.base)]
      slots := [some ⟨useCred, 4, 0, 1, 1, List.replicate 32 0⟩, none, none, none, none, some ⟨useRoot, 0, 0, 0, 1, List.replicate 32 0⟩] } }

/-- The device identity in the message is a constant without a body (log entry 38, DESIGN CHOICE), so the check of the signature made over it stands as a premise. -/
theorem witness_KeyUpdate (h : P256.verify (P256.xy P256.base) ((kuMsg anchorSess).take 148) ((kuMsg anchorSess).drop 148) = true) :
    (keyed .commission).MayCommand 0 sess .service .sec 0 ∧ svcMode (keyed .commission).md.mode = true ∧
    (keyed .commission).kuCheck (kuMsg anchorSess) = .ok ∧ ∃ u, (keyed .commission).kuCommit (kuMsg anchorSess) = (.ok, u) := by
  refine ⟨can_may (by decide +kernel), rfl, ?_, _, rfl⟩
  have h1 : kuForm (kuMsg anchorSess) = true := by decide +kernel
  have h2 : sliceB (kuMsg anchorSess) 4 16 = deviceId := rfl
  have h3 : (keyed .commission).kuKey (kuMsg anchorSess) = some (P256.xy P256.base) := rfl
  have h4 : ¬ kuCounter (kuMsg anchorSess) ≤ ((keyed .commission).rdp .sec 0 Off.SEC_KU_COUNTER).toNat := by decide +kernel
  have h5 : (keyed .commission).kuState (kuMsg anchorSess) = true := by decide +kernel
  have h6 : (keyed .commission).kuRange (kuMsg anchorSess) = .ok := by decide +kernel
  have h7 : ¬ (kuOp (kuMsg anchorSess) = 1 ∧ (kuUnwrap (kuMsg anchorSess)).isNone = true) := fun k => absurd k.1 (by decide +kernel)
  simp only [State.kuCheck, h1, h2, h3, h, h4, h5, h6, h7, Bool.not_true, Bool.false_eq_true, if_false, ne_eq, not_true]

/-- Session words of a clear of a log that has no number yet, before its signature. -/
def clearWords : Session :=
  { sess with auth := [(0, 0x0001434C), (1, Config.deviceId 0), (2, Config.deviceId 1), (3, Config.deviceId 2), (4, Config.deviceId 3), (5, 0)] }

/-- The same, signed. -/
def clearSess : Session := { sess with auth := clearWords.auth ++ sigWords 8 ((authBytes clearWords).take 32) }

/-- As `witness_KeyUpdate`: the check of the signature over the device identity stands as a premise. -/
theorem witness_LogClear (h : (keyed .commission).verifies 4 ((authBytes clearSess).take 32) ((authBytes clearSess).drop 32) = true) :
    (keyed .commission).MayCommand 0 sess .service .evt 0 ∧ (keyed .commission).clearErr clearSess = .ok ∧
    ∃ k u, ({ keyed .commission with pair := { (keyed .commission).pair with decided := true, token := true } } : State).takeSeq = some (k, u) := by
  refine ⟨can_may (by decide +kernel), ?_, _, _, rfl⟩
  have h1 : ¬ (leAt (authBytes clearSess) 0 2 ≠ 0x434C ∨ leAt (authBytes clearSess) 2 1 ≠ 1 ∨ leAt (authBytes clearSess) 3 1 ≠ 0 ∨
    leAt (authBytes clearSess) 24 8 ≠ 0) := by decide +kernel
  have h2 : sliceB (authBytes clearSess) 4 16 = deviceId := rfl
  have h3 : leAt (authBytes clearSess) 20 4 = (keyed .commission).lastSeq := by decide +kernel
  have h4 : (keyed .commission).evt.freeze = none := rfl
  simp only [State.clearErr, h1, h2, h, h3, h4, Bool.not_true, Bool.false_eq_true, if_false, ne_eq, not_true, or_self]

theorem witness_KeyAndLogCommandsAct :
    (keyed .maintenance).MayCommand 0 sess .service .sec 0 ∧ (keyed .maintenance).tamperActive = false ∧
    ((keyed .maintenance).keyOf ((keyed .maintenance).rdp .dpx 0 Off.DPX_ROOT_SLOT).toNat useRoot).isSome = true ∧
    ∃ k ∈ (keyed .maintenance).keys.slots, ∃ y, k = some y ∧ y.usage = useCred :=
  ⟨can_may (by decide +kernel), by decide +kernel, by decide +kernel, _, List.mem_cons_self .., _, rfl, rfl⟩

theorem witness_TamperHealthAndFreezeEventsAct :
    (let b := (st .run).begin 0
     127 &&& b.tamperMask ≠ 0 ∧ b.md.pstate ≠ .p4 ∧ 0 &&& b.tamperMask = 0) ∧
    (let b := ({ st .run with upd := { (st .run).upd with trial := 1, from_ := some 0, run := { health := 5 } }, opNs := 300 * sec } : State).begin 0
     b.upd.trial = 1 ∧ b.upd.from_ = some 0 ∧ 0 + b.upd.run.health * 60 * sec ≤ b.opNs) ∧
    (let b := ({ st .run with evt := { (st .run).evt with freeze := some (0, 0) } } : State).begin (256 * sec)
     b.evt.freeze = some (0, 0) ∧ 0 + (b.rdp .evt 0 Off.EVT_CFG).fld 8 8 * sec ≤ b.now) := by decide +kernel

/-- Supply state `p` in mode `m` of the ACTIVE or not. -/
def supply (m : Mode) (p : PwrState) : State := { st m with pwr := p }

theorem witness_SupplyEventsAct :
    (let b := (supply .run { inA := true, inB := true }).begin 0
     b.aon = true ∧ b.md.pstate.ctl = true ∧ b.md.mode ≠ .dormant ∧ b.pwr.inA = true ∧ b.pwr.inB = true ∧ (0 : Int) < 1050 ∧ b.pwr.high = false ∧ b.pwr.gasp = none ∧
       b.pwr.test = none ∧ b.pwr.lastTest = none) ∧
    (let b := (supply .dormant {}).begin 0
     b.aon = true ∧ b.pwr.inA = false ∧ b.pwr.inB = false ∧ b.md.mode = .dormant) ∧
    (let b := (supply .standby {}).begin 0
     b.aon = true ∧ b.pwr.inA = false ∧ b.pwr.inB = false ∧ b.md.mode ≠ .dormant ∧ b.isActive = false) ∧
    ({ supply .boot {} with md := { (st .boot).md with pstate := .p4 } } : State).aon = false ∧
    (supply .run { test := some (.own, 0) }).pwr.test = some (.own, 0) := by decide +kernel

/-- A waveform of the whole panel. -/
def wave (done : Nat) : Wave := { num := 1, full := true, rect := bandRect, tband := 1, corr := 0, done := done, start := 0, target := {} }
/-- Panel state `p`. -/
def panel (p : PanelState) : State := { st .run with panel := p }

theorem witness_PanelEventsAndItsCommandsAct :
    (let b := (panel { run := some (wave 0) }).begin (waveTotal (wave 0) * panelFrameNs)
     b.panel.run = some (wave 0) ∧ (wave 0).start + waveTotal (wave 0) * panelFrameNs ≤ b.now ∧ (wave 0).done < waveTotal (wave 0) ∧
       (wave 0).start + (wave 0).done * panelFrameNs ≤ b.now ∧ b.md.pstate.ctl = true) ∧
    (let b := (panel { evtFrom := some 0 }).begin (256 * sec)
     b.md.pstate.ctl = true ∧ b.panel.evtFrom = some 0 ∧ 0 + (b.rdp .disp 0 Off.DISP_CFG).fld 0 8 * sec ≤ b.now) ∧
    (let s := (panel {}).wrp .disp 0 Off.DISP_CFG 0x101
     s.MayCommand 0 sess .operate .disp 0 ∧ ((s.counted 0 sess .disp 0 Off.DISP_CMD).rdp .disp 0 Off.DISP_CFG).bit 8 = true ∧
       rectOk (rectOf ((s.counted 0 sess .disp 0 Off.DISP_CMD).rdp .disp 0 Off.DISP_RECT)) = true) ∧
    ((panel {}).MayCommand 0 sess .operate .pwr 0 ∧ (panel {}).pwr.test = none ∧ (panel {}).pwr.charging = false) :=
  ⟨by decide +kernel, by decide +kernel, ⟨can_may (by decide +kernel), by decide +kernel⟩, can_may (by decide +kernel), rfl, rfl⟩

/-- State `s` with metering inside an epoch. -/
def metering (s : State) : State := { s with mtr := { s.mtr with running := true } }

/-- IN_SERVICE with a valid profile and the token, in mode `m`. -/
def inService (m : Mode) : State :=
  let s := keyed m
  { s with keys := { s.keys with lcs := 2 }, prof := { s.prof with valid := true }, pair := { s.pair with decided := true, token := true, loop := true } }

/-! Witnesses: host access. -/

/-- The session not yet ready, asking for SERVICE under credential 1; and under one that no slot holds. -/
def opening (cred : Nat) (m : Mode) : State :=
  { keyed m with host := { (keyed m).host with sessions := [{ sess with ready := false, cred := cred, priv := .none }] } }

theorem witness_SessionFramesAct :
    ((fr 1 53).ok .e3 1 = true ∧ (fr 3 36).ok .e3 3 = true ∧ (fr 5 4).ok .usb 5 = true ∧ ({ fr 1 53 with version := 2 } : FrameIn).ok .e3 1 = false ∧
      ({ fr 3 36 with cobs := false } : FrameIn).ok .usb 3 = false ∧ ({ fr 3 1437 with size := 1473 } : FrameIn).ok .usb 3 = false) ∧
    (let b := (keyed .run).begin 0
     b.md.pstate.cmp = true ∧ b.keys.lcs ≠ 3 ∧ b.host.lockUntil = none ∧ b.freeSlot = some 1) ∧
    (let b := (opening 1 .run).begin 0
     (∃ x, b.sessOf .e3 1 = some x ∧ x.ready = false ∧ ((b.touch x.slot).credential .e3 x.cred).isSome = true)) ∧
    (let b := (opening 9 .run).begin 0
     (∃ x, b.sessOf .e3 1 = some x ∧ x.ready = false ∧ (b.touch x.slot).credential .e3 x.cred = none)) ∧
    (let b := (st .run).begin (60 * sec)
     b.sessOf .e3 1 = some sess ∧ sess.ready = true ∧ b.sess? 0 = some sess ∧ sess.last + 60 * sec ≤ b.now) ∧
    (let b := ({ st .run with host := { (st .run).host with lockUntil := some 60 } } : State).begin 60
     b.host.lockUntil = some 60 ∧ 60 ≤ b.now) :=
  ⟨by decide, by decide +kernel, ⟨_, rfl, rfl, by decide +kernel⟩, ⟨_, rfl, rfl, by decide +kernel⟩, by decide +kernel, by decide +kernel⟩

theorem may_ask (m : Mode) (h : m.drives = false) : (st m).MayAsk 0 sess := ⟨rfl, rfl, rfl, rfl, rfl, by cases m <;> first | rfl | cases h⟩

/-- What an operation of `sess` at instant 0 executes on. -/
abbrev asks (m : Mode) (rq : Request) : State := (st m).asked 0 0 1 rq

theorem witness_OperationsAnswer :
    (st .commission).MayAsk 0 sess ∧
    (∃ r d, (st .commission).locate (Page.reg .sys 0 Off.SYS_CAP) = .reg r d ∧ r.page ≠ .pq) ∧
    (let a := Page.reg .time 0 Off.TIME_SET_NS
     let r := (asks .commission (writeRq 5 a 3 none)).writeReg sess a 3 none
     r.1 = .ok ∧ ∀ z, r.2.sess? 0 = some z → z.held = []) ∧
    (let a := Page.reg .time 0 Off.TIME_SET_NS
     let r := (asks .commission (writeRq 5 a 3 (some 7))).writeReg sess a 3 (some 7)
     r.1 = .ok ∧ ∀ z, r.2.sess? 0 = some z → z.held = []) ∧
    (let a := Page.reg .sys 0 Off.SYS_CAP
     let r := (asks .commission (readBlockRq 5 a 1)).blockRead sess a 1
     r.1 = .ok ∧ r.2.1 = a ∧ ∀ z, r.2.2.2.sess? 0 = some z → z.held = []) ∧
    (let a := Page.reg .time 0 Off.TIME_SET_S
     let r := (asks .commission (writeBlockRq 5 a [1, 2])).blockWriteAll sess a [1, 2]
     r.1 = .ok ∧ r.2.1 = a ∧ ∀ z, r.2.2.sess? 0 = some z → z.held = []) ∧
    (∃ d, Page.ord.defAt Off.ORD_BARRIER = some d ∧ (asks .commission (plainRq 5 5)).writeErr sess ⟨.ord, 0, Off.ORD_BARRIER⟩ d = .ok ∧
      (asks .commission (plainRq 5 5)).barrierMet 0 = true) ∧ (1#64).toNat % 2 ^ 60 ≠ 0 ∧
    (((st .commission).begin 0).touch 0).decoded (.wrong [3, 4] sramErr) = .failed ∧
    (((st .commission).begin 0).touch 0).decoded (.wrong [71] sramErr) = .corrected [71] := by
  refine ⟨may_ask _ rfl, ⟨_, _, rfl, by decide⟩, ⟨by decide +kernel, ?_⟩, ⟨by decide +kernel, ?_⟩, ⟨by decide +kernel, by decide +kernel, ?_⟩,
    ⟨by decide +kernel, by decide +kernel, ?_⟩, ⟨_, rfl, by decide +kernel, by decide +kernel⟩, by decide, by decide +kernel, by decide +kernel⟩ <;>
  · intro z h; cases h; rfl

/-- The session with a subscription. -/
def subscribed (u : Subscription) : State := { st .run with host := { (st .run).host with sessions := [{ sess with sub := some u }] } }

theorem witness_RequestsAndNotificationsAct :
    (let b := (st .run).begin 0
     b.md.pstate.cmp = true ∧ b.sessOf .e3 1 = some sess ∧ sess.ready = true ∧ unanswered sess < 16 ∧ (fr 0x10 12).okRequest .e3 rq = true ∧
       (fr 0x13 4).ok .e3 0x13 = true) ∧
    (let u : Subscription := { mask := 1, interval := 1, risen := 1 }
     ∃ x, ((subscribed u).begin 0).sess? 0 = some x ∧ x.sub = some u ∧ u.risen ≠ 0 ∧ u.outst = none ∧ u.sentAt = none) ∧
    (let u : Subscription := { mask := 1, interval := 1000, outst := some ⟨1, 1, 1000, 0⟩ }
     ∃ x, ((subscribed u).begin sec).sess? 0 = some x ∧ ((subscribed u).begin sec).sessOf .e3 1 = some x ∧ x.ready = true ∧ x.sub = some u ∧
       u.outst = some ⟨1, 1, 1000, 0⟩ ∧ 0 + 1000 * ms ≤ ((subscribed u).begin sec).now) :=
  ⟨by decide +kernel, ⟨_, rfl, rfl, by decide, rfl, rfl⟩, ⟨_, rfl, rfl, rfl, rfl, rfl, by decide +kernel⟩⟩

/-- The controller in mode RUN with session `x` alone. -/
def withSess (x : Session) : State := { st .run with host := { (st .run).host with sessions := [x] } }

/-- Slice 0's session writes TIME.SET_NS. -/
theorem writes_time {s : State} {x : Session} (h : s.sess? 0 = some x) (h2 : x.ready = true) (h3 : s.md.pstate.cmp = true) :
    ∃ d, s.Writes 0 x .time 0 Off.TIME_SET_NS d :=
  ⟨_, { here := h, ready := h2, cmp := h3, inst := by decide, present := by cases s.variant <;> rfl, word := by decide, def_ := rfl }⟩

theorem witness_RegisterWritesActOrAreRefused :
    (let s := st .commission
     ∃ d, s.Writes 0 sess .time 0 Off.TIME_SET_NS d ∧ s.Direct sess ∧ (s.isActive && s.pair.session && mirrored .time Off.TIME_SET_NS 5) = false ∧
      s.writeErr sess ⟨.time, 0, Off.TIME_SET_NS⟩ d = .ok ∧
      ∃ u, (s.counted 0 sess .time 0 Off.TIME_SET_NS).effect sess ⟨.time, 0, Off.TIME_SET_NS⟩ d 5 = (.ok, u)) ∧
    (let x := { sess with priv := .view }
     let s := withSess x
     ∃ d, s.Writes 0 x .time 0 Off.TIME_SET_NS d ∧ s.Direct x ∧ (s.isActive && s.pair.session && mirrored .time Off.TIME_SET_NS 5) = false ∧
       s.writeErr x ⟨.time, 0, Off.TIME_SET_NS⟩ d ≠ .ok) ∧
    (let x := { sess with barrier := some ⟨1, 0, none⟩ }
     let s := withSess x
     (∃ d, s.Writes 0 x .time 0 Off.TIME_SET_NS d) ∧ s.blocked x = true) ∧
    (let s : State := { inService .run with pair := { (inService .run).pair with session := true } }
     let o := Off.PRG_HIN0_LO + 4
     let rq := bareWrite (Page.reg .prg 0 o) 5
     let b := (s.begin 0).touch 0
     let y := { sess with held := [(noSeq, rq)] }
     ∃ d w, s.Writes 0 sess .prg 0 o d ∧ s.Direct sess ∧ (b.updSess 0 fun y => { y with held := y.held ++ [(noSeq, rq)] }).sess? 0 = some y ∧
       (b.mirrorOf sess rq).isSome = true ∧ (b.updSess 0 fun y => { y with held := y.held ++ [(noSeq, rq)] }).mirrorOf y rq = some w) := by
  refine ⟨?_, ?_, ⟨writes_time rfl rfl rfl, rfl⟩, ?_⟩
  · obtain ⟨d, h⟩ := writes_time (s := st .commission) (x := sess) rfl rfl rfl
    have e : Page.defAt .time Off.TIME_SET_NS = some d := h.def_
    cases e
    exact ⟨_, h, ⟨rfl, rfl⟩, rfl, by decide +kernel, _, rfl⟩
  · obtain ⟨d, h⟩ := writes_time (s := withSess { sess with priv := .view }) (x := { sess with priv := .view }) rfl rfl rfl
    have e : Page.defAt .time Off.TIME_SET_NS = some d := h.def_
    cases e
    exact ⟨_, h, ⟨rfl, rfl⟩, rfl, by decide +kernel⟩
  · exact ⟨_, ⟨0, .service, Page.reg .prg 0 (Off.PRG_HIN0_LO + 4), [5], [], [], 0⟩,
      { here := rfl, ready := rfl, cmp := rfl, inst := by decide, present := by decide +kernel, word := by decide, def_ := rfl }, ⟨rfl, by decide +kernel⟩,
      by decide +kernel, by decide +kernel, by decide +kernel⟩

theorem witness_PageHeaderWritesAct :
    (∃ d, (st .run).MayWrite 0 sess .slot 7 Off.PAGE_IRQ d) ∧
    (∃ d, (st .run).MayWrite 0 sess .sdata 0 Off.PAGE_IRQ d ∧ ((st .run).counted 0 sess .sdata 0 Off.PAGE_IRQ).rdp .sdata 0 Off.PAGE_IRQ = 0 ∧
      (0 : Word) &&& ~~~(2 : Word) = 0 ∧ sess.sdIrq = 0) ∧
    (∃ d, (st .run).MayWrite 0 sess .can 5 Off.PAGE_LOCK d ∧ sess.priv.ge .config = true ∧ ((st .run).rdp .can 5 Off.PAGE_LOCK).bit 0 = true ∧
      (0x5A5A0000 : Word).bit 0 = false ∧ (0x5A5A0000 : Word).fld 16 16 = 0x5A5A) ∧
    (let s := (st .run).wrp .can 5 Off.PAGE_LOCK (w32 (256 * 0))
     ∃ d, s.MayWrite 0 sess .can 5 Off.PAGE_LOCK d ∧ s.rdp .can 5 Off.PAGE_LOCK = w32 (256 * 0) ∧ (w32 (256 * 0)).bit 0 = false ∧ (1 : Word).bit 0 = true) ∧
    (∃ d, (st .maintenance).MayWrite 0 sess .time 0 Off.PAGE_CTRL d ∧ Page.resetDenied .time = false ∧ enginePage .time = false ∧
      (st .maintenance).pageBusy .time 0 = false) ∧
    (∃ d, (st .maintenance).MayWrite 0 sess .loop 5 Off.PAGE_CTRL d ∧ Page.resetDenied .loop = false ∧ enginePage .loop = true) ∧
    (let b := ((st .run).wrp .loop 5 Off.PAGE_CTRL 2).begin 0
     enginePage .loop = true ∧ b.resetPending .loop 5 = true ∧ b.ord.mg = []) := by
  refine ⟨can_write (by decide +kernel), ?_, ?_, ?_, ?_, ?_, by decide +kernel⟩
  · obtain ⟨d, h⟩ := can_write (s := st .run) (p := .sdata) (i := 0) (o := Off.PAGE_IRQ) (by decide +kernel)
    exact ⟨d, h, by decide +kernel, by decide, rfl⟩
  · obtain ⟨d, h⟩ := can_write (s := st .run) (p := .can) (i := 5) (o := Off.PAGE_LOCK) (by decide +kernel)
    exact ⟨d, h, by decide +kernel, by decide +kernel, by decide +kernel, by decide +kernel⟩
  · obtain ⟨d, h⟩ := can_write (s := (st .run).wrp .can 5 Off.PAGE_LOCK (w32 (256 * 0))) (p := .can) (i := 5) (o := Off.PAGE_LOCK) (by decide +kernel)
    exact ⟨d, h, by decide +kernel, by decide +kernel, by decide +kernel⟩
  · obtain ⟨d, h⟩ := can_write (s := st .maintenance) (p := .time) (i := 0) (o := Off.PAGE_CTRL) (by decide +kernel)
    exact ⟨d, h, by decide +kernel⟩
  · obtain ⟨d, h⟩ := can_write (s := st .maintenance) (p := .loop) (i := 5) (o := Off.PAGE_CTRL) (by decide +kernel)
    exact ⟨d, h, by decide +kernel⟩

theorem witness_OrderAndMemoryEventsAct :
    (∃ d, (st .run).MayWrite 0 sess .ord 0 Off.ORD_BARRIER d ∧ sess.barrier = none ∧ ((st .run).counted 0 sess .ord 0 Off.ORD_BARRIER).barrierMet 0 = true) ∧
    (let k : Barrier := ⟨255, 0, none⟩
     let s : State := { st .run with host := { (st .run).host with sessions := [{ sess with barrier := some k }] } }
     ∃ x, s.sess? 0 = some x ∧ x.barrier = some k ∧ k.viaSeq = none ∧ (s.begin 0).barrierMet 0 = true) ∧
    (let b := ({ st .run with ord := { (st .run).ord with mg := [⟨.ingest 4095, 3, 0⟩] } } : State).begin 0
     b.ord.mg.find? (fun m => m.eng == Eng.ingest 4095) = some ⟨.ingest 4095, 3, 0⟩ ∧ b.ord.redo.countP (· == 4095) = 0 ∧ b.inMg (.loop 47) = false) ∧
    (let b := ((st .run).wrp .mem 0 Off.MEM_CFG 0x10001).begin 0
     b.sanding = true ∧ b.now ≤ b.mem.sweepFrom + b.sandPeriod ∧ b.mem.sandPos + 64 < mainBytes) ∧
    ((st .run).begin 0).md.pstate.ctl = true ∧ ((st .run).begin 0).mem.poison = [] := by
  refine ⟨?_, ⟨_, rfl, rfl, rfl, by decide +kernel⟩, by decide +kernel, by decide +kernel, rfl, rfl⟩
  obtain ⟨d, h⟩ := can_write (s := st .run) (p := .ord) (i := 0) (o := Off.ORD_BARRIER) (by decide +kernel)
  exact ⟨d, h, rfl, by decide +kernel⟩

/-! Witnesses: modes, resets, profiles. -/

/-- A command of operation `k` as the queue holds it. -/
def cmd (k : Nat) : QCmd := ⟨cmdWord k 0 0, 0, .service, 0, []⟩

theorem witness_ModeCommandsAct :
    (let s := st .safeHold
     s.MayOrder 0 sess .operate .mode 0 ∧ s.md.crossing = none ∧ (s.setQueue modeCmdAddr [cmd 2]).inEpoch = []) ∧
    (let s := metering (inService .commission)
     let q := (s.counted 0 sess .mode 0 Off.MODE_CMD).setQueue modeCmdAddr [cmd 4]
     s.MayOrder 0 sess .operate .mode 0 ∧ s.md.crossing = none ∧ q.runAllowed = true ∧ q.runLands = some .run ∧ q.inEpoch ≠ []) ∧
    (let s := metering (inService .run)
     s.MayOrder 0 sess .operate .mode 0 ∧ s.md.crossing = none ∧ s.md.mode = .run ∧ sess.priv.ge .service = true ∧
       ((s.counted 0 sess .mode 0 Off.MODE_CMD).setQueue modeCmdAddr [cmd 7]).inEpoch ≠ []) ∧
    (let s := (st .maintenance).wrp .mode 0 Off.MODE_WAKE_SRC 1
     s.MayOrder 0 sess .operate .mode 0 ∧ s.md.crossing = none ∧ (s.rdp .mode 0 Off.MODE_WAKE_SRC).fld 0 3 ≠ 0 ∧ s.upd.trial ≠ 1) ∧
    (let s := inService .standby
     s.MayOrder 0 sess .operate .mode 0 ∧ s.md.crossing = none ∧ s.md.mode ≠ .boot ∧ s.md.mode ≠ .dormant ∧ s.md.mode ≠ .safeHold ∧
       (s.isActive && s.pair.session) = false) ∧
    (∃ d, (st .run).MayWrite 0 sess .rst 0 Off.RST_CMD d) :=
  ⟨⟨can_order (by decide +kernel), rfl, by decide +kernel⟩, ⟨can_order (by decide +kernel), rfl, by decide +kernel⟩,
    ⟨can_order (by decide +kernel), rfl, by decide +kernel⟩, ⟨can_order (by decide +kernel), rfl, by decide +kernel⟩,
    ⟨can_order (by decide +kernel), rfl, by decide +kernel⟩, can_write (by decide +kernel)⟩

/-- State `s` with the command of operation `k` crossing from COMMISSION, no engine left. -/
def crossing (s : State) (k : Nat) : State :=
  ({ s with md := { s.md with crossing := some ⟨cmd k, .commission, [], 0⟩ } } : State).setQueue modeCmdAddr [cmd k]

theorem witness_ModeAndResetEventsAct :
    (let b := (crossing (st .run) 4).begin 0
     ∃ c, b.md.crossing = some c ∧ b.allCrossed c = true ∧ c.cmd.word.fld 0 4 ≠ 0 ∧ (b.queue modeCmdAddr).tail = []) ∧
    (let b := (crossing (st .commission) 0).begin 0
     ∃ c, b.md.crossing = some c ∧ b.allCrossed c = true ∧ c.cmd.word.fld 0 4 = 0 ∧ b.bandDrawn = true) ∧
    (let b := (({ State.reset with md := { (st .safeHold).md with idleFrom := some 0 } } : State).wrp .mode 0 Off.MODE_SH_IDLE_S 60).begin (60 * sec)
     b.md.idleFrom = some 0 ∧ b.md.mode = .safeHold ∧ b.md.pstate.cmp = true ∧ (b.rdp .mode 0 Off.MODE_SH_IDLE_S).toNat ≠ 0 ∧ b.host.sessions = [] ∧
       0 + (b.rdp .mode 0 Off.MODE_SH_IDLE_S).toNat * sec ≤ b.now) ∧
    (let b := (({ st .safeHold with md := { (st .safeHold).md with pstate := .p2, wakes := 2 } } : State).wrp .mode 0 Off.MODE_WAKE_SRC 2).begin 0
     b.md.pstate = .p2 ∧ b.wakeArmed 1 = true) ∧
    (let b := (({ st .dormant with md := { (st .dormant).md with pstate := .p3, wakes := 4 } } : State).wrp .mode 0 Off.MODE_WAKE_SRC 4).begin 0
     b.md.mode = .dormant ∧ b.md.pstate = .p3 ∧ b.wakeArmed 2 = true) ∧ (st .run).md.pstate.ctl = true :=
  ⟨⟨_, rfl, by decide +kernel⟩, ⟨_, rfl, by decide +kernel⟩, by decide +kernel, by decide +kernel, by decide +kernel, rfl⟩

theorem witness_BootCompletes :
    let s : State := { State.reset with pair := { State.reset.pair with loop := true, absentFrom := none } }
    s.md.mode = .boot ∧ s.md.pstate ≠ .p4 ∧ ((s.begin 0).updPair fun p => { p with posB := false }).mayTake = false ∧ s.pair.loop = true ∧
    (let c := (((((s.begin 0).updPair fun p => { p with posB := false }).startRecord {}).startUnits {}).updPair fun p => { p with decided := true })
     ({} : BootIn).checksOk = true ∧ c.resumeNumbering.bootCauses {} = []) ∧
    (let r : State := { s with keys := { s.keys with lcs := 3 } }
     let c := (((((r.begin 0).updPair fun p => { p with posB := false }).startRecord {}).startUnits {}).updPair fun p => { p with decided := true })
     c.resumeNumbering.bootCauses {} ≠ [] ∧ (c.resumeNumbering.bootCauses {}).any (·.1 == ShCause.cmpFault) = false) := by decide +kernel

/-- A pending switch to profile 3, verified or not, and what it builds. -/
def switching (v : Bool) (n : Option NextSlots) : State :=
  let s := st .run
  { s with prof := { s.prof with switch := some ⟨cmd 1, 3, v, false⟩, target := if v then some {} else none }, slv := { s.slv with next := n, origin := some 0 } }

theorem witness_ProfileSwitchActs :
    ((st .run).MayCommand 0 sess .config .prof 0 ∧ (st .run).prof.switch = none) ∧
    ((switching false none).MayCommand 0 sess .config .prof 0 ∧ ∃ w, (switching false none).prof.switch = some w) ∧
    (let b := (switching false none).begin 0
     ∃ w, b.prof.switch = some w ∧ w.verified = false ∧ b.validProf w.target = none) ∧
    (let n : NextSlots := ⟨[], {}, [], [], false⟩
     let b := (switching true (some n)).begin (60 * sec)
     ∃ w p, b.prof.switch = some w ∧ b.prof.target = some p ∧ b.slv.next = some n ∧ b.slv.origin = some 0 ∧ w.verified = true ∧ n.todo = [] ∧
       n.failed = false ∧ b.md.mode.tasksRun = true ∧ 0 < b.now ∧ (b.now - 0) % b.switchPeriod = 0) :=
  ⟨⟨can_may (by decide +kernel), rfl⟩, ⟨can_may (by decide +kernel), _, rfl⟩, ⟨_, rfl, rfl, by decide +kernel⟩,
    ⟨_, _, rfl, rfl, rfl, rfl, rfl, rfl, rfl, rfl, by decide +kernel⟩⟩

/-- The least profile: a program of one block. -/
def small : Profile :=
  { prg := some ⟨1, 1, 0, ⟨true, 0, 10, 0⟩ :: List.replicate 15 ⟨false, 0, 10, 0⟩, [⟨1, 1, 0, [.const 0, .const 0], 0, 0, 0⟩], [1], P256.sign 1 [1]⟩ }

/-- A part that carries profile 3. -/
def profPart : Part := ⟨0x10, 3, 1, 0, []⟩

/-- The running set with profile 3; anchor 2 is the public key of the private scalar 1. -/
def withProf : State :=
  let s := switching false none
  { s with keys := { s.keys with anchors := [none, none, some (P256.xy P256.base)] }, prof := { s.prof with stored := [none, none, none, some small] }, upd := { s.upd with run := { parts := [profPart] } } }

/-- The layout of a part and the nonce of a signature are constants without a body (log entries 57 and 71, DESIGN CHOICE), so the checks of the two signatures stand as
premises. -/
theorem witness_ValidProfile (h : withProf.partSigned profPart = true) (h0 : withProf.prgSigned small = true) :
    (withProf.begin 0).validProf 3 = some small := by
  have h1 : profileOk withProf.beside small = true := by decide +kernel
  have h2 : withProf.prof.stored.getD 3 none = some small := rfl
  have h3 : partOf withProf.upd.run 0x10 3 = some profPart := rfl
  have h4 : withProf.validProf 3 = some small := by simp only [State.validProf, h2, h3, h, h0, h1, Bool.and_self, if_true]
  exact h4

/-! Witnesses: stations. -/

/-- The network image with station 1 and its points. -/
def image : NetImage :=
  { id := 1, crc := 0, netid := 9, zones := 1
    stations := [{ num := 1, kind := 1, subtype := 0, zone := 0, hbMs := 1000, enabled := true, kgen := 1, points := [⟨0, 5, false⟩, ⟨1, 5, true⟩] }] }

/-- Station 1 in a state, with its session or none. -/
def stn (k : StnState) (d : Option Dtls) : Stn := { num := 1, enabled := true, st := k, kgen := 1, dtls := d }

/-- The ACTIVE in mode `m` that serves station 1. -/
def serving (m : Mode) (x : Stn) : State := let s := inService m; { s with net := { s.net with img := some image, stns := [x] } }

/-- A DPX session whose HELLO exchange is done, or not. -/
def dtls (ok : Bool) : Dtls := { gen := 1, keyedAt := 0, records := 0, helloOk := ok }

theorem witness_StationSessionsActAndEnd :
    (let b := (serving .run (stn .down none)).begin 0
     b.servesDpx = true ∧ b.net.hs.length < 32 ∧ b.stn? 1 = some (stn .down none) ∧ b.net.img = some image ∧ (stn .down none).enabled = true) ∧
    (let b := (serving .run { stn .disabled none with enabled := false }).begin 0
     b.servesDpx = true ∧ b.stn? 1 = some { stn .disabled none with enabled := false }) ∧
    (let s := serving .run (stn .down none)
     let b := ({ s with net := { s.net with hs := [(1, 1)] } } : State).begin 0
     b.servesDpx = true ∧ b.md.crossing = none ∧ (1, (stn .down none).kgen) ∈ b.net.hs ∧ b.stn? 1 = some (stn .down none) ∧ (stn .down none).enabled = true ∧
       (stn .down none).nextOk = false) ∧
    (let x := stn .up (some (dtls true))
     let b := (serving .run x).begin (24 * 3600 * sec)
     b.servesDpx = true ∧ b.md.crossing = none ∧ b.stn? 1 = some x ∧ (dtls true).keyedAt + 24 * 3600 * sec ≤ b.now ∧ b.stnCfg 1 = image.stations.head? ∧
       x.st = .up ∧ x.lastRx + b.hbMiss * 1000 * ms ≤ b.now) ∧
    (let d := fun n m : Nat => { dtls true with records := n, rx := m }
     let b := fun n m : Nat => (serving .run (stn .up (some (d n m)))).begin 0
     ((b (2 ^ 23) 0).servesDpx = true ∧ (b (2 ^ 23) 0).stn? 1 = some (stn .up (some (d (2 ^ 23) 0))) ∧ 2 ^ 23 ≤ (d (2 ^ 23) 0).records) ∧
     ((b 0 (2 ^ 23)).servesDpx = true ∧ (b 0 (2 ^ 23)).stn? 1 = some (stn .up (some (d 0 (2 ^ 23)))) ∧ 2 ^ 23 ≤ (d 0 (2 ^ 23)).rx)) ∧
    (let m := fun k => ({ seq := some 5, flags := 0, frag := ⟨0, 0, {}, 0, 1, []⟩, tries := k } : DownMsg)
     let x := fun k => { stn .up (some (dtls true)) with cmdQ := [m k] }
     let b := fun k => (serving .run (x k)).begin sec
     ((b 15).servesDpx = true ∧ (b 15).md.crossing = none ∧ (b 15).stn? 1 = some (x 15) ∧ (x 15).cmdQ.find? (·.seq == some 5) = some (m 15) ∧ (m 15).sentAt + (b 15).retxMs * ms ≤ (b 15).now ∧
       (b 15).retxMax ≤ (m 15).tries) ∧ (m 0).tries < (b 0).retxMax) ∧
    (serving .run (stn .joining none)).stn? 1 = some (stn .joining none) := by decide +kernel

/-- Header of a message of a type, with its SEQ. -/
def hdr (typ seq : Nat) : DpxHdr := ⟨0x5044, 1, typ, 1, 0, seq, 0, 16⟩

theorem witness_StationMessagesAct :
    (let x := stn .down (some (dtls false))
     let b := (serving .run x).begin 0
     b.servesDpx = true ∧ b.stn? 1 = some x ∧ x.dtls = some (dtls false) ∧ b.stnCfg 1 = image.stations.head? ∧ hdrOk (hdr 1 0) 1 1 = true ∧
       (dtls false).helloOk = false ∧ b.md.crossing = none) ∧
    (let x := { stn .up (some (dtls true)) with useq := 2 ^ 32 - 1 }
     let b := (serving .run x).begin 0
     b.servesDpx = true ∧ b.stn? 1 = some x ∧ x.dtls = some (dtls true) ∧ hdrOk (hdr 2 14) 1 2 = true ∧ ((hdr 2 14).seq + 2 ^ 32 - x.useq) % 2 ^ 32 ≤ 15 ∧
       hdrOk (hdr 3 (2 ^ 32 - 65)) 1 3 = true ∧ 15 < ((hdr 3 (2 ^ 32 - 65)).seq + 2 ^ 32 - x.useq) % 2 ^ 32 ∧
       (x.useq + 2 ^ 32 - (hdr 3 (2 ^ 32 - 65)).seq) % 2 ^ 32 ≤ 64 ∧ hdrOk (hdr 6 0) 1 6 = true ∧ b.pair.session = false) ∧
    (let r : RxSet := ⟨true, ⟨1, 0, {}, 0, 1, []⟩, 1, [], 0⟩
     let x := { stn .up (some (dtls true)) with ready := [(r, 0)] }
     let b := (serving .run x).begin (5 * ms)
     b.stn? 1 = some x ∧ x.ready = [(r, 0)] ∧ x.st = .up ∧ b.md.crossing = none ∧ b.inMg (.ingest 1) = false ∧ r.snapshot = true) ∧
    (let r : RxSet := ⟨false, ⟨2, 1, {}, 0, 1, []⟩, 1, [⟨0, 5, 0, 0, 0⟩], 0⟩
     let x := { stn .up (some (dtls true)) with ready := [(r, 0)], lastSet := some 1 }
     x.lastSet = some r.frag.baseId ∧ r.entries ≠ [] ∧ r.snapshot = false ∧ ({ x with lastSet := some 0 } : Stn).lastSet ≠ some r.frag.baseId) ∧
    (let s := serving .run (stn .up (some (dtls true)))
     (({ s with ord := { s.ord with mg := [⟨.ingest 1, 3, 0⟩] } } : State).begin 0).inMg (.ingest 1) = true) ∧
    (let k : DownMsg := { seq := some (2 ^ 32 - 1), flags := 0, frag := ⟨0, 0, {}, 0, 1, []⟩ }
     let x := { stn .up (some (dtls true)) with cmdQ := [k] }
     ((serving .run x).begin 0).stn? 1 = some x ∧ hdrOk (hdr 5 0) 1 5 = true ∧ x.cmdQ = [k] ∧ k.seq = some (2 ^ 32 - 1)) := by decide +kernel

/-- Station 1 served in COMMISSION, a key-export slot with its key. -/
def exporting : State :=
  let s := (serving .commission (stn .down none)).wrp .net 0 Off.NET_KEX_SLOT 1
  { s with keys := { s.keys with slots := setAt s.keys.slots 1 (some ⟨useKek, 0, 0, 0, 1, List.replicate 32 0⟩) } }

theorem witness_NetworkCommandsAct :
    ((serving .maintenance { stn .disabled none with enabled := false }).MayCommand 0 sess .service .net 0 ∧
      (serving .maintenance { stn .disabled none with enabled := false }).stn? 1 = some { stn .disabled none with enabled := false }) ∧
    ((serving .commission (stn .down none)).MayCommand 0 sess .service .net 0 ∧
      (serving .commission (stn .down none)).md.crossing = none ∧ (serving .commission (stn .down none)).stn? 1 = some (stn .down none)) ∧
    ((serving .run (stn .up none)).MayCommand 0 sess .service .net 0 ∧ (serving .run (stn .up none)).stn? 1 = some (stn .up none)) ∧
    (exporting.MayCommand 0 sess .service .net 0 ∧ (exporting.rdp .net 0 Off.NET_KEX_SLOT).fld 0 6 = 1 ∧ exporting.occupied 1 = true ∧
      (exporting.keyOf 1 useKek).isSome = true ∧ (exporting.stationPsk 1 2).isSome = true) ∧
    (∃ d, (st .run).MayWrite 0 sess .pnt 0 Off.PNT_BASE d ∧ (0x7FFDFF : Word).toNat < 2 ^ 23 ∧ ptLocal (0x7FFDFF : Word).toNat ≤ 1535) ∧
    (∃ d, (serving .run (stn .up none)).MayWrite 0 sess .pnt 0 Off.PAGE_CTRL d ∧ (serving .run (stn .up none)).net.pntFrz = none ∧
      (((serving .run (stn .up none)).wrp .pnt 0 Off.PNT_BASE 2048).stn? ((serving .run (stn .up none)).wrp .pnt 0 Off.PNT_BASE 2048).pntStation).isSome = true) := by
  refine ⟨⟨can_may (by decide +kernel), by decide +kernel⟩, ⟨can_may (by decide +kernel), by decide +kernel⟩,
    ⟨can_may (by decide +kernel), by decide +kernel⟩, ⟨can_may (by decide +kernel), by decide +kernel⟩, ?_, ?_⟩
  · obtain ⟨d, h⟩ := can_write (s := st .run) (p := .pnt) (i := 0) (o := Off.PNT_BASE) (by decide +kernel)
    exact ⟨d, h, by decide⟩
  · obtain ⟨d, h⟩ := can_write (s := serving .run (stn .up none)) (p := .pnt) (i := 0) (o := Off.PAGE_CTRL) (by decide +kernel)
    exact ⟨d, h, by decide +kernel⟩

/-! Witnesses: solver slots. -/

/-- The least dispatch slot: one iteration, a period and a deadline of a second. -/
def slotCfg (shift : Bool) : SlotCfg :=
  { kind := .dispatch, shift := shift, iter := 1, periodMs := 1000, deadlineUs := 1000000, staleMax := 1, warmShare := 0, params := [], outputs := []
    hyd := none, cold := [] }

/-- A result with nothing in it. -/
def result : Result := { cycle := 1, iterW := 0, a := 0, b := 0, merit := 0, hash := [], tUs := 0, tags := [], rows := [], x := [], y := [], gridT := 0 }

/-- Slot 7 in a state, in RUN, the cycles beginning at 0. -/
def slot7 (x : Slot) : State :=
  let s := inService .run
  { s with slv := { s.slv with origin := some 0, slots := setAt s.slv.slots 7 { x with cfg := some (slotCfg false), screed := some default, started := true } } }

/-- As `slot7`, of a deadline class that shifts. -/
def slot7s (x : Slot) : State :=
  let s := slot7 x
  { s with slv := { s.slv with slots := setAt s.slv.slots 7 { s.slot 7 with cfg := some (slotCfg true) } } }

/-- A cycle on lane 0 with `n` iterates done. -/
def cyc (n : Nat) (best : Option (Nat × Word64)) : Cycle := { num := 1, boundary := 0, lanes := 1, done := n, best := best }

theorem witness_SlotCyclesRun :
    (let b := (slot7 { cyc := some (cyc 0 none) }).begin sec
     b.md.crossing = none ∧ (b.slot 7).cfg = some (slotCfg false) ∧ b.slv.origin = some 0 ∧ b.md.mode.tasksRun = true ∧ 0 < b.now ∧
       (b.now - 0) % ((slotCfg false).periodMs * ms) = 0 ∧ (b.slot 7).lastB ≠ some b.now ∧ (b.slot 7).cyc = some (cyc 0 none) ∧ 7 < b.slv.slots.length) ∧
    (let b := (slot7 {}).begin sec
     b.md.mode ≠ .standby ∧ (b.slot 7).cyc = none ∧ (b.slot 7).screed.isSome = true ∧ (b.slot 7).started = true) ∧
    (let b := (slot7 { cyc := some (cyc 0 none) }).begin 0
     ∃ x, (b.slot 7).screed = some x ∧ (cyc 0 none).lanes ≠ 0 ∧
       (iterateAt b.slv.ucode (b.iterIn 7 (slotCfg false) x (cyc 0 none)) (cyc 0 none).done).finite = true ∧
       (iterateAt b.slv.ucode (b.iterIn 7 (slotCfg false) x (cyc 0 none)) (cyc 0 none).done).pivot = false ∧ (cyc 0 none).done ≠ (slotCfg false).iter ∧
       (cyc 0 none).late = false) ∧
    (let b := (slot7 { cyc := some (cyc 1 (some (0, 0))) }).begin sec
     (b.slot 7).cyc = some (cyc 1 (some (0, 0))) ∧ (cyc 1 none).boundary + (slotCfg false).deadlineUs * us ≤ b.now ∧ (slotCfg false).shift = false) ∧
    (let b := (slot7s { cyc := some (cyc 0 none), prevOk := true, res := some result }).begin sec
     (b.slot 7).cfg = some (slotCfg true) ∧ (b.slot 7).cyc = some (cyc 0 none) ∧ (slotCfg true).shift = true ∧ (b.slot 7).prevOk = true ∧
       (b.slot 7).res.isSome = true ∧ b.healthyCount ≠ 0) ∧
    (let b := (slot7 { cyc := some (cyc 0 none) }).begin sec
     (cyc 0 none).best = none ∧ b.healthyCount ≠ 0 ∧ (cyc 0 none).late = false) :=
  ⟨by decide +kernel, by decide +kernel, ⟨_, rfl, by decide +kernel⟩, by decide +kernel, by decide +kernel, by decide +kernel⟩

/-- The order of an iterate's operations is a constant without a body (log entry 31, DESIGN CHOICE): the last iterate of a cycle is a candidate where it is finite and no pivot was regularised. -/
theorem witness_LastIterate :
    let b := (slot7 { cyc := some (cyc 1 (some (0, 0))) }).begin 0
    let i := iterateAt b.slv.ucode (b.iterIn 7 (slotCfg false) default (cyc 1 (some (0, 0)))) 1
    i.finite = true → i.pivot = false → (cyc 1 (some (0, 0))).done = (slotCfg false).iter ∧ 0 < (cyc 1 (some (0, 0))).done ∧
      ∃ q, (if betterEq i.m (some (0, 0)) then some (1, i.m) else some (0, 0)) = some q := by
  intro b i _ _
  refine ⟨rfl, by decide, ?_⟩
  split <;> exact ⟨_, rfl⟩

/-- Lane 7 in a state, who holds the lanes. -/
def lane7 (x : Lane) (h : Option Claim) : State :=
  let s := st .run
  { s with slv := { s.slv with lanes := setAt s.slv.lanes 7 x, holder := h, origin := some 0 } }

theorem witness_SolverEventsAct :
    (let b := (lane7 {} none).begin 0
     7 < b.variant.lanes ∧ (b.lane 7).fenced = false ∧ b.slv.holder = none) ∧
    (let b := ((lane7 { fenced := true } none).wrp .slv 0 Off.SLV_CFG 1).begin sec
     (b.lane 7).fenced = true ∧ (b.lane 7).held = false ∧ (b.lane 7).queued = false ∧ (b.lane 7).back = 0 ∧ (b.lane 7).since + b.retestNs ≤ b.now) ∧
    (let b := (lane7 { fenced := true } (some (.test 7))).begin 0
     b.slv.holder = some (.test 7) ∧ (b.lane 7).cmd = none ∧ (b.lane 7).held = false) ∧
    (let b := (lane7 {} none).begin gridNs
     b.slv.origin = some 0 ∧ b.md.mode.tasksRun = true ∧ 0 < b.now ∧ (b.now - 0) % gridNs = 0) := by decide +kernel

/-- The separators of a screed are a constant without a body (log entry 31, DESIGN CHOICE): a build ends within the limits where they are. -/
theorem witness_ScreedBuild :
    let s := slot7 { build := .running }
    let b := ({ s with slv := { s.slv with holder := some (.build 7) } } : State).begin 0
    b.slv.holder = some (.build 7) ∧ (b.slot 7).build = .running ∧ (b.slot 7).cfg = some (slotCfg false) ∧ (b.slot 7).buildCmd = none ∧
    ((b.makeScreed 7 (slotCfg false) b.slv.disp).fig.nnz = 0 → tooLarge (b.makeScreed 7 (slotCfg false) b.slv.disp) (b.nnzOthers 7) = false) := by
  refine ⟨by decide +kernel, by decide +kernel, by decide +kernel, by decide +kernel, ?_⟩
  intro h
  simp only [tooLarge, h]
  decide +kernel

/-- The session with SDATA words, in mode `m` on slot 0 with a dispatch problem without limits of scope. -/
def staging (m : Mode) (ws : List (Nat × Word)) : State :=
  let s := st m
  { s with
    host := { s.host with sessions := [{ sess with stage := ws }] }
    slv := { s.slv with slots := setAt s.slv.slots 0 { cfg := some (slotCfg false), screed := some { (default : Screed) with fig := { id := 5 } } } } }

theorem witness_SolverCommandsAct :
    (let s := lane7 { fenced := true } none
     s.MayCommand 0 sess .service .slv 0 ∧ slvModeOk s.md.mode = true ∧ 7 < s.variant.lanes ∧ ((s.counted 0 sess .slv 0 Off.SLV_CMD).lane 7).fenced = true) ∧
    (let s : State := { slot7 {} with md := { (slot7 {}).md with mode := .commission } }
     s.MayCommand 0 sess .config .slot 7 ∧ (s.slot 7).build = .none ∧ (s.slot 7).cyc = none ∧ (s.slot 7).begun = [] ∧ 7 < s.slv.slots.length ∧ s.md.mode = .commission ∧ (s.slot 7).cfg.isSome = true ∧
       (s.slot 7).screed.isSome = true ∧ slvModeOk s.md.mode = true) ∧
    (let ws : List (Nat × Word) := [(0, 1), (3, 0x03840001), (4, 0), (5, 0)]
     let s := staging .run ws
     let x := { sess with stage := ws }
     let bs := stageBytes x 24
     s.MayCommand 0 x .operate .sdata 0 ∧
       s.isDispatch (x.sdSel.fld 0 3) = true ∧ leAt bs 1 1 = 0 ∧ 1 ≤ leAt bs 12 2 ∧ leAt bs 12 2 ≤ 192 ∧ 24 = 16 + 8 * leAt bs 12 2 ∧
       seriesOk s.slv.disp (parseSeries bs) = true) ∧
    (let ws : List (Nat × Word) := [(0, 0x00014B53), (1, 5)]
     let s := staging .commission ws
     let x := { sess with stage := ws }
     let bs := stageBytes x 16
     s.MayCommand 0 x .operate .sdata 0 ∧ x.priv.ge .config = true ∧ s.md.mode = .commission ∧ leAt bs 0 2 = 0x4B53 ∧ leAt bs 2 1 = 1 ∧ leAt bs 3 1 = x.sdSel.fld 0 3 ∧
       leAt bs 8 4 = 0 ∧ 16 = 16 * (leAt bs 12 4 + 1) ∧ 16 ≤ 3840 ∧ ∃ y, (s.slot 0).screed = some y ∧ y.fig.id = w32 (leAt bs 4 4)) :=
  ⟨⟨can_may (by decide +kernel), by decide +kernel⟩, ⟨can_may (by decide +kernel), by decide +kernel⟩, ⟨can_may (by decide +kernel), by decide +kernel⟩,
    ⟨can_may (by decide +kernel), rfl, rfl, by decide +kernel, by decide +kernel, by decide +kernel, by decide +kernel, by decide +kernel, by decide, _, rfl,
      by decide +kernel⟩⟩

/-! Witnesses: loops. -/

/-- The least loop: it reads slice 1 each millisecond. -/
def loopCfg : LoopCfg :=
  { direct := false, spTrack := false, failAct := false, spKind := 0, pvKind := 0, ffKind := 0, trkKind := 0, outKind := 0, initMode := .man, depth := 0
    periodMs := 1, phaseMs := 0, pvRef := 1, spRef := 0, ffRef := 0, trkRef := 0, outRef := 0, missLim := 10, maxAge := 10
    tune := List.replicate 23 0, spLocal := 0 }

/-- Loop 47 in a state. -/
def loop47 (m : Mode) (x : Loop) : State :=
  let s := st m
  { s with lp := { s.lp with loops := setAt s.lp.loops 47 { x with cfg := some loopCfg, tune := List.replicate 23 0 } } }

/-- What the start and the latch of loop 47 have journaled in its frame, its PV of quality `q`. -/
def jr47 (q : Qual) : LoopJr := { frame := 0, pv := { qual := q, age := 0, val := 0 }, ff := none, trk := none, sp := none, inner := none, latched := true }

/-- What a sample of loop 47 that starts now computes on. -/
def samples47 (b : State) : State :=
  ((((b.updLoop 47 fun l => { l with due := none, sampled := some b.frameStart }).reachedAt (.loop 47) b.frameStart).loopWaits).setQueue
    (Page.reg .loop (loopPage 47) Off.LOOP_CMD) [])

/-- Why a sample of loop 47 from journal `j` is missed, if it is. -/
def misses47 (b : State) (j : LoopJr) (late : Bool) : Option Nat :=
  let d := samples47 b
  let l := workOn (d.loop 47)
  let x := latchOf l j
  let e := d.updLoop 47 fun _ => { l with r := if l.fresh then x.y else l.r, fresh := false, sampMode := l.mode }
  let law := e.lawOf loopCfg (e.loop 47) x
  missWhy (e.loop 47) law.1 x law.2.1 late b.handoverFrame

theorem witness_LoopSamplesRun :
    (let b := (loop47 .run { mode := .auto, running := true, jr := some (jr47 .bad) }).begin 0
     b.md.crossing = none ∧ b.loopFrame 47 = true ∧ b.md.mode.loopsRun = true ∧ b.md.mode ≠ .standby ∧ (b.loop 47).running = true ∧ (b.loop 47).next = none ∧
       (b.loop 47).due = none ∧ (b.loop 47).cfg = some loopCfg ∧ (b.loop 47).jr = some (jr47 .bad) ∧ (jr47 .bad).frame = b.frameStart ∧
       (jr47 .bad).latched = true ∧ b.queue (Page.reg .loop (loopPage 47) Off.LOOP_CMD) = [] ∧ b.inMg (.loop 47) = false ∧
       misses47 b (jr47 .bad) false = some 2 ∧ misses47 b (jr47 .bad) true = some 3) ∧
    (let b := (loop47 .run { mode := .man, running := true, jr := some (jr47 .good) }).begin 0
     (b.loop 47).jr = some (jr47 .good) ∧ b.inMg (.loop 47) = false ∧ misses47 b (jr47 .good) false = none) ∧
    (let s := loop47 .run { mode := .man, running := true, jr := some (jr47 .good) }
     (({ s with ord := { s.ord with mg := [⟨.loop 47, 3, 0⟩] } } : State).begin 0).inMg (.loop 47) = true) := by decide +kernel

/-- A running test. -/
def loopTest : LoopTest := { kind := 1, onOut := true, order := 0, hold := 1, len := 0, amp := 0, f0 := 0, f1 := 0, j := 0, reg := 0 }

theorem witness_LoopAndCaptureCommandsAct :
    (let s := loop47 .run { mode := .man }
     s.MayCommand 0 sess .config .loop 5 ∧ setModeOk s.md.mode = true ∧ (s.loop 47).cfg = some loopCfg ∧ (s.loop 47).mode ≠ .off ∧ LoopMode.auto ≠ .off ∧
       LoopMode.ofCode LoopMode.hold.code = some .hold ∧ (s.loop 47).running = false) ∧
    ((loop47 .run { mode := .auto, running := true }).loop 47).running = true ∧
    (let s := (loop47 .maintenance { mode := .man }).wrp .loop 5 (loopOff 47 0x158) 5
     (∃ u, ((s.counted 0 sess .loop 5 Off.LOOP_CMD).setQueue (Page.reg .loop 5 Off.LOOP_CMD) [cmd 2]).testStart 47 = (.ok, u))) ∧
    ((loop47 .run { mode := .man, test := some loopTest }).loop 47).test.isSome = true ∧
    (∃ d, ((loop47 .maintenance {}).wrp .loop 5 Off.PAGE_LOCK 0).MayWrite 0 sess .loop 5 (loopOff 47 (0x44 + 8 * 22)) d ∧
      tuneOk (loopT loopCfg) ((loop47 .maintenance {}).loop 47).tune tKFF 0 = true) ∧
    (let s := (loop47 .standby { mode := .man }).wrp .lcap 0 (Off.LCAP_CFG0 + 4 * 3) 0x4000012F
     let w := (s.counted 0 sess .lcap 0 Off.LCAP_CMD).rdp .lcap 0 (Off.LCAP_CFG0 + 4 * 3)
     s.MayCommand 0 sess .operate .lcap 0 ∧ lcapModeOk s.md.mode = true ∧ (s.lp.caps.getD 3 {}).st = .idle ∧ (s.loop (w.fld 0 6)).mode ≠ .off ∧
       w.fld 8 8 ≠ 0 ∧ w.fld 16 15 ≠ 0 ∧ w.fld 16 15 ≤ 16384) ∧
    (let s := st .run
     let c := fun k => ({ s with lp := { s.lp with caps := setAt s.lp.caps 3 { st := k } } } : State)
     ((c .running).lp.caps.getD 3 {}).st = .running ∧ ((c .armed).lp.caps.getD 3 {}).st = .armed) := by
  refine ⟨⟨can_may (by decide +kernel), by decide +kernel⟩, by decide +kernel, ⟨_, Prod.ext (by decide +kernel) rfl⟩, by decide +kernel, ?_,
    ⟨can_may (by decide +kernel), by decide +kernel⟩, by decide +kernel⟩
  obtain ⟨d, h⟩ := can_write (s := (loop47 .maintenance {}).wrp .loop 5 Off.PAGE_LOCK 0) (p := .loop) (i := 5) (o := loopOff 47 (0x44 + 8 * 22)) (by decide +kernel)
  exact ⟨d, h, by decide +kernel⟩

/-! Witnesses: slices, converters, metering. -/

/-- Group 3 in a state; slice 48 with a configuration. -/
def group3 (m : Mode) (x : Grp) (c : SlcCfg) : State :=
  let s := st m
  { s with fld := { s.fld with grps := setAt s.fld.grps 3 x, slcs := setAt s.fld.slcs 47 { cfg := c } } }

/-- A 0–10 V input of a group that scans. -/
def volts : State := group3 .run { running := true, convOk := true, settled := true } { func := 1 }

/-- The factory constants of a slice are opaque (log entry 14, DESIGN CHOICE): the clause's last hypothesis is that they give a finite value. -/
theorem witness_Conversion :
    let b := volts.begin (2 * convPeriod 3)
    (b.grp 3).running = true ∧ (b.grp 3).cause = none ∧ (b.grp 3).inCal = false ∧ (b.grp 3).pos < (b.scan 3).length ∧
    b.now ≤ (b.grp 3).convFrom + 2 * convPeriod (b.grp 3).cfg.period ∧ (b.grp 3).convOk = true ∧ slotsOf (b.slc ((b.scan 3).getD (b.grp 3).pos 0)).cfg = 1 ∧
    (b.slc ((b.scan 3).getD (b.grp 3).pos 0)).lead = none := by decide +kernel

theorem witness_ConversionsRun :
    (let b := (group3 .run { running := true, inCal := true } {}).begin (2 * convPeriod 3)
     (b.grp 3).running = true ∧ (b.grp 3).cause = none ∧ b.md.mode ≠ .standby ∧ (b.grp 3).inCal = true ∧ b.now ≤ (b.grp 3).convFrom + 2 * convPeriod (b.grp 3).cfg.period) ∧
    (let b := (group3 .run { running := true, lastMeas := some 1000000 } {}).begin 0
     (b.grp 3).settled = false ∧ (b.grp 3).lastMeas = some 1000000 ∧ agree20 1000000 1000020 = true ∧ agree20 1000000 999980 = false) ∧
    (let b := (group3 .run { running := true } {}).begin (settleBound 0)
     (b.grp 3).settled = false ∧ (b.grp 3).lastMeas = none ∧ (b.grp 3).checkFrom + settleBound (b.grp 3).refUsed ≤ b.now) := by decide +kernel

/-- The factory constants are opaque: where they give a finite value the modulator's clause holds on `modulator`. -/
def modulator : State := group3 .run { running := true } { func := 6 }

theorem witness_SliceEventsAct :
    (modulator.begin 0).md.mode ≠ .standby ∧ ((modulator.begin 0).grp 3).running = true ∧ ((modulator.begin 0).grp 3).cause = none ∧ ((modulator.begin 0).slc 48).cfg.func = 6 ∧
    (let s := group3 .run { running := true } {}
     let b := ({ s with fld := { s.fld with slcs := setAt s.fld.slcs 47 { cfg := { func := 9, opt0 := true }, gateN := 2, gateT0 := 0, gateT1 := 1 } } } : State).begin 0
     (b.slc 48).cfg.func = 9 ∧ (b.slc 48).cfg.opt0 = true ∧ (b.grp (grpOf 48)).cause = none ∧ 2 ≤ (b.slc 48).gateN ∧ (b.slc 48).gateT0 < (b.slc 48).gateT1) ∧
    (let b := (group3 .run { running := true } { func := 0xF }).begin 0
     48 ≠ 0 ∧ (b.slc 48).cfg.func = 0xF ∧ Page.present b.variant .slc (grpOf 48) = true) ∧
    (let b := (group3 .run { running := true } { func := 0xD }).begin 0
     (b.slc 48).cfg.func = 0xD ∧ rbWrong 0xD ((b.updSlc 48 fun x => { x with rb := 0x3F800000 }).terminal 48) (F64.ofF32 0x3F800000) = true ∧
       rbWrong 0xD ((b.updSlc 48 fun x => { x with rb := 0 }).terminal 48) (F64.ofF32 0) = false) := by decide +kernel

theorem witness_GroupFencesAct :
    (let b := (group3 .run { running := true } {}).begin 0
     Page.present b.variant .slc 3 = true ∧ (b.grp 3).running = true ∧ (b.grp 3).cause = none) ∧
    (let b := (group3 .run { cause := some 3 } {}).begin (10 * sec)
     (b.grp 3).cause = some 3 ∧ (b.grp 3).fencedAt + 10 * sec ≤ b.now ∧ retestPass ⟨true, true, true, true⟩ = true) ∧
    (let s := (group3 .maintenance { cause := some 5 } {}).setQueue (Page.reg .slc 3 Off.SLC_CMD) [cmd 2]
     ((s.begin 0).grp 3).cause = some 5 ∧ (s.begin 0).queue (Page.reg .slc 3 Off.SLC_CMD) = [cmd 2] ∧ (cmd 2).word.fld 0 4 = 2 ∧
       (cmd 2).priv.ge .service = true ∧ commMaint (s.begin 0).md.mode = true) ∧
    ((group3 .maintenance { cause := some 5 } {}).MayCommand 0 sess .service .slc 3 ∧ commMaint Mode.maintenance = true ∧
      (((group3 .maintenance { cause := some 5 } {}).counted 0 sess .slc 3 Off.SLC_CMD).grp 3).cause = some 5) ∧
    (∃ d, ((st .maintenance).wrp .slc 3 Off.PAGE_LOCK 0).MayWrite 0 sess .slc (grpOf 48) (slcOff 48 0x20) d ∧ F64.fin (F64.ofF32 0x3F800000) = true ∧
      (F64.le (F64.q 9 10) (F64.ofF32 0x3F800000) && F64.le (F64.ofF32 0x3F800000) (F64.q 11 10)) = true) ∧
    (∃ d, ((st .maintenance).wrp .slc 3 Off.PAGE_LOCK 0).MayWrite 0 sess .slc (grpOf 48) (slcOff 48 0x1C) d ∧
      F64.le (F64.mul (F64.ofNat 100) (F64.abs (F64.ofF32 0))) (F64.mul (F64.ofNat 5) (nominalSpan ((st .maintenance).slc 48).cfg)) = true) := by
  refine ⟨by decide +kernel, by decide +kernel, by decide +kernel, ⟨can_may (by decide +kernel), rfl, by decide +kernel⟩, ?_, ?_⟩
  · obtain ⟨d, h⟩ := can_write (s := (st .maintenance).wrp .slc 3 Off.PAGE_LOCK 0) (p := .slc) (i := grpOf 48) (o := slcOff 48 0x20) (by decide +kernel)
    exact ⟨d, h, by decide +kernel, by decide +kernel⟩
  · obtain ⟨d, h⟩ := can_write (s := (st .maintenance).wrp .slc 3 Off.PAGE_LOCK 0) (p := .slc) (i := grpOf 48) (o := slcOff 48 0x1C) (by decide +kernel)
    exact ⟨d, h, by decide +kernel⟩

/-- Electrical point 7 on, one phase, voltage on slice 48 and current on slice 47. -/
def meter (x : MtrState → MtrState) : State :=
  let s := inService .run
  { s with mtr := x { s.mtr with running := true, cfg := { els := List.replicate 8 { on := true, conn := 2, chV := [48, 0, 0], chI := [47, 0, 0] } } } }

/-- The qualities that metering takes of `n` channels of point 7, each given as `q`. -/
def chanQuals (b : State) (n : Nat) (q : Qual) : List Qual := (b.mtrChans 7 n (List.replicate n (q, []))).map (·.1)

/-- State `s` while metering is being made good. -/
def mgMetering (s : State) : State := { s with ord := { s.ord with mg := [⟨.metering, 3, 0⟩] } }

theorem witness_MeteringEventsAct :
    (let b := (meter id).begin 0
     b.mtr.running = true ∧ (b.elCfg 7).on = true ∧ (elements (b.elCfg 7).conn).flatMap (fun e => [e, e + 3]) = [0, 3] ∧ b.inMg .metering = false ∧
       (∀ k ∈ [0, 3], (chanQuals b 6 .good).getD k .bad ≠ .bad) ∧ (chanQuals b 6 .bad).getD 0 .good = .bad) ∧
    (let b := (meter id).begin 0
     elements (b.elCfg 7).conn = [0] ∧ (chanQuals b 3 .bad).getD 0 .good = .bad ∧ (chanQuals b 3 .good).getD 0 .bad ≠ .bad) ∧
    ((mgMetering (meter id)).begin 0).inMg .metering = true ∧
    (let b := (meter id).begin stepNs
     b.mtr.running = true ∧ b.md.pstate.ctl = true ∧ b.mtr.startAt + (b.mtr.steps + 1) * stepNs ≤ b.now ∧ b.md.mode ≠ .standby ∧ b.md.crossing = none ∧
       b.inMg .metering = false) ∧
    (let s := meter fun m => { m with hold := [(List.replicate 256 0, 0)] }
     let b := ({ s with keys := { s.keys with slots := setAt s.keys.slots 0 (some ⟨useSign, 0, 0, 0, 1, []⟩) } } : State).begin 0
     b.mtr.hold = [(List.replicate 256 0, 0)] ∧ b.md.pstate.cmp = true ∧ b.stepsMirrored = true ∧ b.keyOf 0 useSign = some [] ∧
       (s.begin 0).keyOf 0 useSign = none) := by
  decide +kernel

theorem witness_MeteringWritesAct :
    ((st .run).MayCommand 0 sess .config .mtr 0) ∧
    (let u := (st .run).setQueue mtrCmdAddr [cmd 1]
     u.md.mode ≠ .standby ∧ u.queue mtrCmdAddr = [cmd 1]) ∧
    (let u := (st .maintenance).setQueue mtrCmdAddr [cmd 2]
     u.md.mode = .maintenance ∧ u.queue mtrCmdAddr = [cmd 2]) ∧
    (∃ d, ((st .maintenance).wrp .mtr 0 Off.PAGE_LOCK 0).MayWrite 0 sess .mtr 0 (0x2D0 + 0x100 * 7 + 4 * 5) d) ∧
    (∃ d, (st .run).MayWrite 0 sess .mtr 0 Off.MTR_REC_SEL d) :=
  ⟨can_may (by decide +kernel), by decide +kernel, by decide +kernel, can_write (by decide +kernel), can_write (by decide +kernel)⟩

/-! Witnesses: tasks, masks, ShaiqLink. -/

/-- Task 15 in a state, running a program of one write of slice 48. -/
def task15 (m : Mode) (x : Task) : State :=
  let g : PrgImage := ⟨1, 1, 0, List.replicate 16 ⟨true, 0, 10, 0⟩, [⟨1, 0x39, 15, [.const 0], 48, 0, 0⟩, ⟨2, 0x32, 15, [.const 0], 0, 0, 0⟩], [], []⟩
  let s := group3 m { running := true } { func := 0xD }
  { s with slv := { s.slv with origin := some 0 }, prg := { s.prg with tasks := setAt s.prg.tasks 15 { x with running := true, img := some g } } }

/-- FORCE.T_KIND, T_ADDR set. -/
def forcing (s : State) (kind addr : Word) : State := (s.wrp .force 0 Off.FORCE_T_KIND kind).wrp .force 0 Off.FORCE_T_ADDR addr

theorem witness_TasksRunAndMasksAct :
    (let b := (task15 .run {}).begin 0
     b.md.crossing = none ∧ b.md.mode.tasksRun = true ∧ (b.task 15).running = true ∧ (b.taskFrame 15).isSome = true ∧ b.md.mode ≠ .standby ∧
       (b.task 15).exchDue = false ∧ b.inMg (.task 15) = false ∧ (b.task 15).busyTill ≤ b.now ∧ (b.task 15).img.isSome = true) ∧
    (let b := (task15 .run { busyTill := 1 }).begin 0
     (b.taskFrame 15).isSome = true ∧ b.now < (b.task 15).busyTill) ∧
    (let s := task15 .run {}
     (({ s with ord := { s.ord with mg := [⟨.task 15, 3, 0⟩] } } : State).begin 0).inMg (.task 15) = true) ∧
    (∃ d, (task15 .run {}).MayWrite 0 sess .prg 0 Off.PRG_ALM_ACK d ∧ (2 : Word).toNat ≠ max32 ∧
      ((List.range 16).filter fun j => match ((task15 .run {}).task j).img with
        | some g => (blocksOf g j).any fun y => isAlarm y.typ && y.id == (2 : Word).toNat
        | none => false) = [15]) ∧
    (∃ d, (st .run).MayWrite 0 sess .prg 0 (Off.PRG_HIN0_LO + 8 * 15 + 4) d) ∧
    (let s := forcing (task15 .commission {}) 3 48
     let b := s.counted 0 sess .force 0 Off.FORCE_CMD
     s.MayCommand 0 sess .service .force 0 ∧ commMaint s.md.mode = true ∧ s.prg.due = [] ∧ b.prg.masks.length < 256 ∧
       b.maskTarget ((b.rdp .force 0 Off.FORCE_T_KIND).fld 0 4) (b.rdp .force 0 Off.FORCE_T_ADDR) = (.ok, some (.out (.slice 48))) ∧
       b.maskInRange (.out (.slice 48)) (pair64 (b.rdp .force 0 Off.FORCE_T_VAL_LO) (b.rdp .force 0 Off.FORCE_T_VAL_HI)) = true ∧ b.prg.masks = []) ∧
    (let s := forcing (task15 .commission {}) 2 1
     let b := s.counted 0 sess .force 0 Off.FORCE_CMD
     s.MayCommand 0 sess .service .force 0 ∧
       b.maskTarget ((b.rdp .force 0 Off.FORCE_T_KIND).fld 0 4) (b.rdp .force 0 Off.FORCE_T_ADDR) = (.ok, some (.write 1)) ∧
       b.maskInRange (.write 1) (pair64 (b.rdp .force 0 Off.FORCE_T_VAL_LO) (b.rdp .force 0 Off.FORCE_T_VAL_HI)) = true) ∧
    (let s := forcing (task15 .commission {}) 3 48
     let b := ({ s with prg := { s.prg with masks := [⟨.out (.slice 48), 0⟩] } } : State).counted 0 sess .force 0 Off.FORCE_CMD
     b.maskTarget ((b.rdp .force 0 Off.FORCE_T_KIND).fld 0 4) (b.rdp .force 0 Off.FORCE_T_ADDR) = (.ok, some (.out (.slice 48))) ∧
       b.prg.masks.find? (·.kind == .out (.slice 48)) = some ⟨.out (.slice 48), 0⟩ ∧ b.prg.masks = [⟨.out (.slice 48), 0⟩]) ∧
    (let s := forcing (task15 .commission {}) 2 1
     let b := ({ s with prg := { s.prg with masks := [⟨.write 1, 0⟩] } } : State).counted 0 sess .force 0 Off.FORCE_CMD
     b.maskTarget ((b.rdp .force 0 Off.FORCE_T_KIND).fld 0 4) (b.rdp .force 0 Off.FORCE_T_ADDR) = (.ok, some (.write 1)) ∧
       b.prg.masks.find? (·.kind == .write 1) = some ⟨.write 1, 0⟩) ∧
    (let s := task15 .maintenance {}
     let b := (({ s with prg := { s.prg with due := [.slice 48] } } : State).setQueue (Page.reg .force 0 Off.FORCE_CMD) [cmd 1]).begin 0
     b.prg.due = [.slice 48] ∧ ({ b.releaseForced (.slice 48) with prg := { (b.releaseForced (.slice 48)).prg with due := [] } } : State).queue
       (Page.reg .force 0 Off.FORCE_CMD) = [cmd 1]) := by
  refine ⟨by decide +kernel, by decide +kernel, by decide +kernel, ?_, can_write (by decide +kernel), ⟨can_may (by decide +kernel), by decide +kernel⟩,
    ⟨can_may (by decide +kernel), by decide +kernel⟩, by decide +kernel, by decide +kernel, by decide +kernel⟩
  obtain ⟨d, h⟩ := can_write (s := task15 .run {}) (p := .prg) (i := 0) (o := Off.PRG_ALM_ACK) (by decide +kernel)
  exact ⟨d, h, by decide +kernel⟩

/-- A segment of one TT frame, one receive signal and one window. -/
def canCfg (master : Bool) : CanCfg :=
  { cands := [⟨3, 3, 0, 0⟩, ⟨4, 3, 0, 0⟩], dwellMs := 100, master := master, detectMaxS := 1, filters := [], rx := [⟨0x100, false, false, 8, true, false⟩]
    tx := [⟨0x200, false, false, 8, true, false⟩]
    sigs := [{ num := 0, frame := 0, start := 0, len := 8, typ := .uint, scale := 0, offset := 0, timeoutMs := 10, safe := 0, point := some 3 }]
    baseMs := 10, matLen := 1, slots := [⟨0, 0, 1, 0⟩], windows := [(0, 1000)], refEn := false, refId := 0, holdMs := 100, busoffMax := 2, winS := 60 }

/-- Segment C6 in a state. -/
def seg6 (m : Mode) (x : Seg) (master : Bool := false) : State :=
  let s := st m
  { s with can := { s.can with segs := setAt s.can.segs 5 { x with cfg := some (canCfg master) } } }

/-- A connection of the safety configuration over C6, its frames to module 0x300; and one over a station. -/
def pol (can : Bool) : PolCfg :=
  { id := 5, can := can, lenTx := 2, lenRx := 2, segment := 6, periodMs := 20, wdMs := 100, txId := if can then 0x301 else 1, rxId := if can then 0x300 else 1 }

/-- State `s` with connection 63. -/
def withPol (s : State) (c : PolCfg) (x : Pol) : State :=
  { s with safe := { s.safe with cfg := { s.safe.cfg with conns := List.replicate 63 none ++ [some c] }, conns := setAt s.safe.conns 63 x } }

theorem witness_CanScheduleRuns :
    (let s := seg6 .run { st := .active, urgent := [⟨⟨1, false, false, false, false, false, []⟩, 0, 0⟩], bulk := [⟨⟨2, false, false, false, false, false, []⟩, 0, 0⟩] }
     let b := (withPol s (pol true) {}).begin 0
     (b.seg 6).cfg = some (canCfg false) ∧ (b.seg 6).st ≠ .off ∧ b.polOfCan 6 0x100 false = [] ∧ b.polOfCan 6 0x300 false = [63] ∧ (b.seg 6).urgent.length = 1 ∧
       slotOccurs (canCfg false) (b.canCycleAt (canCfg false) (b.now + 5 * us)) ⟨0, 0, 1, 0⟩ = true ∧ (canCfg false).slots[0]? = some ⟨0, 0, 1, 0⟩ ∧ (canCfg false).windows[0]? = some (0, 1000)) ∧
    (let b := (seg6 .run { st := .detecting, bulk := [⟨⟨2, false, false, false, false, false, []⟩, 0, 0⟩] }).begin 0
     (b.seg 6).urgent = [] ∧ (b.seg 6).bulk = [⟨⟨2, false, false, false, false, false, []⟩, 0, 0⟩] ∧ (b.seg 6).nextBase = none ∧ (b.seg 6).st ≠ .active ∧ (b.seg 6).st ≠ .off ∧
       5 < b.can.segs.length ∧ b.canOrigin ≤ b.now ∧ (b.now - b.canOrigin) % baseNs (canCfg false) = 0) ∧
    (let b := (seg6 .run { rxVals := [(0, 7, 0)] }).begin (10 * ms + 1)
     (sigOf (b.seg 6) 0).isSome = true ∧ lookupA 0 (b.seg 6).rxVals = some (7, 0) ∧ 0 + 10 * ms < b.now) ∧
    (let b := (seg6 .run { st := .active, loaded := [(0, [1, 2])] }).begin 0
     lookupA 0 (b.seg 6).loaded = some [1, 2] ∧ slotOccurs (canCfg false) (b.canCycleAt (canCfg false) (b.now - 1)) ⟨0, 0, 1, 0⟩ = true) := by decide +kernel

/-- Segment C6 that sends the reference frame, in a state. -/
def refSeg (x : Seg) : State :=
  let s := st .run
  { s with can := { s.can with segs := setAt s.can.segs 5 { x with cfg := some { canCfg false with refEn := true } } } }

theorem witness_BaseCycle :
    (let b := (refSeg { st := .active }).begin 0
     ((b.seg 6).nextBase.getD (b.seg 6).st) = .active ∧ ((b.seg 6).cfg.map (·.refEn)) = some true ∧ (b.seg 6).nextBase = none ∧ b.canOrigin ≤ b.now ∧
       (b.now - b.canOrigin) % baseNs { canCfg false with refEn := true } = 0) ∧
    (let b := (seg6 .run { st := .detecting, nextBase := some .active, job := some (cmd 3) }).begin 0
     (b.seg 6).nextBase = some .active ∧ (b.seg 6).job = some (cmd 3) ∧ (canCfg false).refEn = false ∧ b.canOrigin ≤ b.now ∧
       (b.now - b.canOrigin) % baseNs (canCfg false) = 0) ∧
    (let b := (seg6 .run { st := .busOff }).begin 0
     (b.seg 6).st = .busOff ∧ slotOccurs (canCfg false) (b.canCycleAt (canCfg false) (b.now - 1)) ⟨0, 0, 1, 0⟩ = true) := by decide +kernel

/-- The bus time of a CAN FD frame is opaque (log entry 24, DESIGN CHOICE): a window as long as that of a telegram, and one microsecond more, sends it. -/
theorem witness_PolienWindow :
    let n := Config.canFdNs false (fdLen 2) 3 3
    let b := (withPol (seg6 .run { st := .active, polQ := [(63, [1, 2])] }) (pol true) {}).begin 0
    (b.seg 6).polQ = [(63, [1, 2])] ∧ (b.polTxId 63).testBit 29 = false ∧
      0 * us + frameNs (b.seg 6) false true (fdLen 2) ≤ (0 + (n + 1)) * us := by
  have h : frameNs (((withPol (seg6 .run { st := .active, polQ := [(63, [1, 2])] }) (pol true) {}).begin 0).seg 6) false true (fdLen 2) =
    Config.canFdNs false (fdLen 2) 3 3 := rfl
  refine ⟨by decide +kernel, by decide +kernel, ?_⟩
  rw [h]
  simp only [us]
  omega

theorem witness_CanFaultsAndCommandsAct :
    (let b := (seg6 .run { st := .busOff, busoffAt := [0] }).begin (100 * ms)
     (b.seg 6).cfg = some (canCfg false) ∧ (b.seg 6).st ≠ .off ∧ (b.seg 6).busoffAt = [0] ∧ (b.seg 6).st = .busOff ∧ 0 + (canCfg false).holdMs * ms ≤ b.now) ∧
    ((seg6 .run { st := .active }).seg 6).st = .active ∧
    (let b := (seg6 .run { st := .busOff, recovering := true }).begin 0
     (b.seg 6).st = .busOff ∧ (b.seg 6).recovering = true) ∧
    (let b := (seg6 .run { st := .detecting, order := [0, 1] }).begin sec
     detecting (b.seg 6) = true ∧ (b.seg 6).candFrom + (canCfg false).dwellMs * ms ≤ b.now ∧ (canCfg false).master = false ∧
       (b.seg 6).detFrom + (canCfg false).detectMaxS * sec ≤ b.now ∧ (b.seg 6).st ≠ .fenced) ∧
    (let b := (seg6 .run { st := .detecting, order := [0, 1] } true).begin sec
     (canCfg true).master = true ∧ detecting (b.seg 6) = true ∧ (b.seg 6).firstTry = true ∧ (b.seg 6).seen = false) ∧
    (6 ≤ (seg6 .run {}).variant.segments ∧ ((seg6 .run {}).seg 6).st ≠ .fenced ∧ ((seg6 .run {}).seg 6).job = none) ∧
    (let b := (seg6 .run { st := .fenced, cause := 1 }).begin (10 * sec)
     (b.seg 6).st = .fenced ∧ (b.seg 6).cause ≠ 4 ∧ (b.seg 6).fencedAt + 10 * sec ≤ b.now ∧ (b.seg 6).retest = false) ∧
    ((seg6 .commission {}).MayCommand 0 sess .config .can 5 ∧ ((seg6 .commission {}).seg 6).job = none ∧ ((seg6 .commission {}).seg 6).st ≠ .fenced ∧
      ((seg6 .commission {}).seg 6).cfg.isSome = true) ∧
    ((seg6 .maintenance {}).MayCommand 0 sess .service .can 5 ∧ sess.priv.ge .service = true ∧ commMaint Mode.maintenance = true) ∧
    ((seg6 .maintenance { st := .fenced, cause := 4 }).MayCommand 0 sess .service .can 5 ∧ ((seg6 .maintenance { st := .fenced, cause := 4 }).seg 6).st = .fenced ∧
      ((seg6 .maintenance { st := .fenced, cause := 4 }).seg 6).cause = 4) :=
  ⟨by decide +kernel, by decide +kernel, by decide +kernel, by decide +kernel, by decide +kernel, by decide +kernel, by decide +kernel,
    ⟨can_may (by decide +kernel), by decide +kernel⟩, ⟨can_may (by decide +kernel), rfl, rfl⟩, ⟨can_may (by decide +kernel), by decide +kernel⟩⟩

/-! Witnesses: the safety domain. -/

theorem witness_SafetyCyclesRun :
    (let b := (st .run).begin 0
     b.safeRuns = true ∧ b.safe.lockout = false ∧ b.cycleDue = true ∧ (b.reached .safety).switchFault = false ∧ b.safe.disAt = none ∧ b.safe.swAddr = 0 ∧ b.safe.edit = false ∧
       255 < 256 ∧ b.safe.swAddr ≠ 255 ∧ (1 : Nat) ≠ 0 ∧ b.safe.fns.length = 32) ∧
    (let b := ({ st .run with safe := { (st .run).safe with disAt := some 0 } } : State).begin (101 * ms)
     b.safeRuns = true ∧ b.safe.lockout = false ∧ b.cycleDue = true ∧ (b.reached .safety).switchFault = true) := by decide +kernel

/-- A function on slices 1 and 2, feedback on slice 3. -/
def fnCfg (flags : Nat) : FnCfg :=
  { typ := 5, flags := flags, discMs := 0, inA := .slice 1, inB := .none, inFb := .slice 3, inRst := .none, outs := [], stopMs := 10, fbMs := 1000, bypassS := 0 }

/-- Function 31 in a state; its input and its feedback as given. -/
def fn31 (ok : Bool) (x : Fn) (inA fb : Bool) (flags : Nat := 1) : State :=
  let s := st .run
  let on := fun (b : Bool) => ({ qual := .good, val := if b then F64.one else 0 } : Slc)
  { s with
    safe := { s.safe with confirmed := ok, cfg := { s.safe.cfg with fns := List.replicate 31 none ++ [some (fnCfg flags)] }, fns := setAt s.safe.fns 31 x }
    fld := { s.fld with slcs := setAt (setAt s.fld.slcs 0 (on inA)) 2 (on fb) } }

/-- What the function's cycle goes by: reset, its new inputs, its fault. -/
def sees (s : State) (flags : Nat := 1) : Bool × Fn × Nat :=
  let r := s.fnPress (fnCfg flags) (s.fnInputs (fnCfg flags) (s.fn 31) [])
  (r.1 || r.2.request, { r.2 with request := false }, s.fnFault (fnCfg flags) { r.2 with request := false })

theorem witness_SafetyFunctionsMove :
    ((fn31 false {} true true).fnCfg 31 = some (fnCfg 1) ∧ (fn31 false {} true true).safe.confirmed = false) ∧
    (fn31 true {} true true).safe.confirmed = true ∧
    (let r := sees (fn31 true { st := .run, on := true, rbFault := true } true false)
     r.2.2 ≠ 0 ∧ r.2.1.st = .run) ∧
    (let r := sees (fn31 true { st := .safe, rbFault := true } true true)
     r.2.2 ≠ 0 ∧ r.2.1.st = .safe) ∧
    (let r := sees (fn31 true { st := .safe } true true)
     r.2.2 = 0 ∧ r.2.1.st = .safe ∧ r.2.1.demand = false ∧ ((fnFlags (fnCfg 1)).testBit 2 && !(fnFlags (fnCfg 1)).testBit 0) = false) ∧
    (let r := sees (fn31 true { st := .safe } true true 4) 4
     r.2.2 = 0 ∧ r.2.1.st = .safe ∧ r.2.1.demand = false ∧ ((fnFlags (fnCfg 4)).testBit 2 && !(fnFlags (fnCfg 4)).testBit 0) = true) ∧
    (let r := sees (fn31 true { st := .locked, request := true } true true)
     r.2.2 = 0 ∧ r.2.1.st = .locked ∧ r.1 = true) ∧
    (let r := sees (fn31 true { st := .ready } false true)
     r.2.2 = 0 ∧ r.2.1.st = .ready ∧ r.2.1.demand = true) ∧
    (let r := sees (fn31 true { st := .ready, request := true } true true)
     r.2.2 = 0 ∧ r.2.1.st = .ready ∧ r.2.1.demand = false ∧ r.1 = true ∧ r.2.1.fb = true) ∧
    (let r := sees (fn31 true { st := .ready, request := true } true false)
     r.2.2 = 0 ∧ r.2.1.st = .ready ∧ r.2.1.demand = false ∧ r.1 = true ∧ (fnCfg 1).inFb ≠ .none ∧ r.2.1.fb = false) ∧
    (let r := sees (fn31 true { st := .run, on := true } true false)
     r.2.2 = 0 ∧ r.2.1.st = .run ∧ r.2.1.demand = false) ∧
    (let r := sees (fn31 true { st := .run, on := true } false false)
     r.2.2 = 0 ∧ r.2.1.st = .run ∧ r.2.1.demand = true ∧ (fnFlags (fnCfg 1)).testBit 5 = false) ∧
    (let r := sees (fn31 true { st := .run, on := true } false false 0x21) 0x21
     r.2.2 = 0 ∧ r.2.1.st = .run ∧ r.2.1.demand = true ∧ (fnFlags (fnCfg 0x21)).testBit 5 = true) ∧
    (let s := (fn31 true { st := .stopping, on := true, stopAt := 0 } false false).begin (10 * ms)
     (sees s).2.2 = 0 ∧ (sees s).2.1.st = .stopping ∧ (sees s).2.1.stopAt + (fnCfg 1).stopMs * ms ≤ s.now) ∧
    (let s := (fn31 true { st := .stopping, on := true, stopAt := 0 } false false).begin (10 * ms - 1)
     (sees s).2.2 = 0 ∧ (sees s).2.1.st = .stopping ∧ s.now < (sees s).2.1.stopAt + (fnCfg 1).stopMs * ms) := by decide +kernel

/-- A telegram toward the controller with a header byte, a payload length and a SEQ, its CHECK right or wrong. -/
def telegram (hdr len seq : Nat) (ok : Bool) : List Byte :=
  let h : List Byte := [BitVec.ofNat 8 hdr, BitVec.ofNat 8 len] ++ natLE 2 seq ++ [0, 0] ++ List.replicate len 0
  h ++ (if ok then polCheck 5 true h else [0, 0, 0, 0])

/-- Connection 63 RUNNING with S = 0xFF00 and one telegram delivered. -/
def received (bs : List Byte) : State :=
  let s := withPol (st .run) (pol true) { st := .running, s := some 0xFF00 }
  { s with safe := { s.safe with inbox := [([63], bs)] } }

theorem witness_PolienActs :
    (let b := (received (telegram 1 2 0 false)).begin 0
     b.polCfg 63 = some (pol true) ∧ b.safeRuns = true ∧ b.safe.lockout = false ∧ b.polVerifies 63 (telegram 1 2 0 false) = false ∧ (b.pol 63).st = .running) ∧
    ((received []).polVerifies 63 (telegram 2 2 0 true) = true ∧ leAt (telegram 2 2 0 true) 0 1 % 16 ≠ 1) ∧
    ((received []).polVerifies 63 (telegram 1 3 0 true) = true ∧ leAt (telegram 1 3 0 true) 1 1 ≠ (pol true).lenRx) ∧
    (let bs := telegram 1 2 0xFF00 true
     (received []).polVerifies 63 bs = true ∧ leAt bs 0 1 % 16 = 1 ∧ leAt bs 1 1 = (pol true).lenRx ∧ (leAt bs 0 1).testBit 4 = false ∧
       (leAt bs 0 1).testBit 5 = false ∧ ((received []).pol 63).s = some 0xFF00 ∧ (leAt bs 2 2 + 65536 - 0xFF00) % 65536 = 0) ∧
    256 < (leAt (telegram 1 2 1 true) 2 2 + 65536 - 0xFF00) % 65536 ∧
    (let bs := telegram 1 2 0 true
     (received []).polVerifies 63 bs = true ∧ (leAt bs 2 2 + 65536 - 0xFF00) % 65536 ≠ 0 ∧ (leAt bs 2 2 + 65536 - 0xFF00) % 65536 ≤ 256 ∧
       63 < (received []).safe.conns.length) ∧
    (let b := (withPol (st .run) (pol true) { st := .failsafe, failAt := 0 }).begin (100 * ms)
     (b.pol 63).st = .failsafe ∧ (b.pol 63).failAt + (pol true).wdMs * ms ≤ b.now) := by decide +kernel

theorem witness_SafetyCommandsAct :
    (let s := fn31 true {} true true 9
     s.MayCommand 0 sess .service .safe 0 ∧ s.md.mode ≠ .standby ∧ (s.counted 0 sess .safe 0 Off.SAFE_CMD).fnCfg 31 = some (fnCfg 9) ∧
       (fnFlags (fnCfg 9)).testBit 3 = true) ∧
    (let s : State := { st .commission with safe := { (st .commission).safe with edit := true } }
     s.MayCommand 0 sess .service .safe 0 ∧ s.md.mode = .commission ∧ s.safe.edit = true ∧
       (s.counted 0 sess .safe 0 Off.SAFE_CMD).rdp .safe 0 Off.SAFE_CONFIRM_CRC = s.safe.cfg.crc ∧ s.safe.confirmed = false) :=
  ⟨⟨can_may (by decide +kernel), by decide +kernel⟩, ⟨can_may (by decide +kernel), by decide +kernel⟩⟩

/-! Witnesses: pairs. -/

/-- Mode `m` with pair state `p`. -/
def paired (m : Mode) (p : PairState) : State := { st m with pair := p }

theorem witness_RoleTokenActs :
    (let b := (paired .standby { loop := true }).begin 0
     b.variant.pair = true ∧ b.pair.loop = true ∧ b.pair.token = false ∧ b.pair.brk = none ∧
       ∀ h : Handover, b.pair.ho = some h → h.at_ ≤ b.now → h.agree = false) ∧
    (let b := (paired .standby { absentFrom := some 0 }).begin (10 * ms)
     b.md.mode = .standby ∧ b.pair.token = false ∧ b.pair.loop = false ∧ b.pair.absentFrom = some 0 ∧ b.pair.tryAt = none ∧ b.pair.sourcing = none ∧
       b.pair.brk = none ∧ 0 + (if b.pair.released then ms else 10 * ms) ≤ b.now) ∧
    (let b := (paired .standby { sourcing := some 0 }).begin (5 * ms)
     b.pair.sourcing = some 0 ∧ 0 + 5 * ms ≤ b.now ∧ b.pair.token = false ∧ b.pair.brk = none) ∧
    (let b := (paired .standby { tryAt := some 7 }).begin 7
     b.md.mode = .standby ∧ b.pair.tryAt = some 7 ∧ 7 ≤ b.now ∧ b.pair.brk = none) ∧
    (let b := (paired .run { token := true, loop := true }).begin 0
     b.pair.token = true ∧ b.md.pstate.cmp = true) ∧
    (let b := (paired .run { brk := some 0 }).begin 0
     b.pair.token = false ∧ b.pair.brk.isSome = true ∧ b.md.mode.drives = true) :=
  ⟨⟨by decide +kernel, by decide +kernel, by decide +kernel, by decide +kernel, fun _ h => nomatch h⟩, by decide +kernel⟩

theorem witness_Pl1LinkActs :
    (let b := (paired .standby {}).begin 0
     b.variant.pair = true ∧ b.md.pstate.cmp = true ∧
       (List.range 4).map (fun k => (b.pl1Chg true).rdp .pair 0 (Off.PAIR_PEER_ID0 + 4 * k)) = [0, 0, 0, 0] ∧ ([1, 0, 0, 0] : List Word) ≠ [0, 0, 0, 0]) ∧
    (let b := (paired .standby { pl1Up := true, lastRx := some 0 }).begin (2 * ms)
     b.pair.pl1Up = true ∧ ∀ u : Nat, b.pair.lastRx = some u → u + 2 * ms ≤ b.now) ∧
    (let b := (paired .run { unacked := [(1, .wack 5, 0)] }).begin (200 * us)
     b.pair.unacked = (1, .wack 5, 0) :: [] ∧ max 0 (b.pair.resentAt.getD 0) + 200 * us ≤ b.now) ∧
    (let b := (paired .run { session := true, hbAt := some 0 }).begin (250 * us)
     b.pair.session = true ∧ ∀ u : Nat, b.pair.hbAt = some u → u + 250 * us ≤ b.now) := by
  refine ⟨by decide +kernel, ⟨rfl, ?_⟩, by decide +kernel, ⟨rfl, ?_⟩⟩ <;>
  · intro u h; cases h; decide +kernel

/-- The state in which an accepted PL1 frame with header `h` acts. -/
def accepts (s : State) (h : Pl1Hdr) : State :=
  let b := s.begin 0
  ((b.updPair fun p => { p with lastRx := some b.now }).mirrorTime (b.pair.unacked.filter fun x => pl1Acked h.ack x.1)).updPair fun p =>
    { p with rxSeq := h.seq, unacked := p.unacked.filter fun x => !pl1Acked h.ack x.1 }

/-- A STANDBY in session, qualified, its shadow of loop 47 run; station 1 mirrored. -/
def shadow : State :=
  let s := serving .standby (stn .up none)
  { s with pair := { s.pair with token := false, session := true, qualified := true, ran := [.loop 47], rxSeq := 8, pl1Up := true } }

/-- An ACTIVE in session whose partner qualifies, with a request mirrored. -/
def active : State :=
  let s := inService .run
  { s with pair := { s.pair with session := true, rxSeq := 8, peerQual := true, acks := [(5, 0, 1)] } }

theorem witness_StandbyTakesFramesAndCompares :
    (let b := shadow.begin 0
     b.pair.session = true ∧ b.md.pstate.cmp = true ∧ (9 : Nat) = pl1Next b.pair.rxSeq ∧ b.md.mode = .standby ∧ b.pair.pl1Up = true ∧ (7 : Nat) ≠ pl1Next b.pair.rxSeq) ∧
    (accepts shadow ⟨9, 0⟩).stn? 1 = some (stn .up none) ∧
    (let w : HostWrite := { slot := 0, priv := .operate, addr := Page.reg .time 0 Off.TIME_SET_NS, vals := [5] }
     let acc := accepts shadow ⟨9, 0⟩
     let x : Session := { slot := 8 + w.slot % 8, id := 0, port := .e3, ready := true, cred := 0, want := w.priv, priv := w.priv, rx := 0, tx := 0
                          last := acc.now, lastLo := w.lastLo, stage := w.stage, sdSel := w.sdSel }
     (({ acc with host := { acc.host with sessions := acc.host.sessions ++ [x] } } : State).asPeer x.slot fun s => s.applyWords x.slot w.addr w.vals).md.mode ≠
       .safeHold) ∧
    (accepts shadow ⟨9, 0⟩).pair.token = false ∧ (accepts shadow ⟨9, 0⟩).pair.ran.contains (.loop 47) = true ∧
    ((accepts shadow ⟨9, 0⟩).slot 0).lastCyc = none ∧ ((accepts shadow ⟨9, 0⟩).slot 0).cyc = none ∧ (accepts shadow ⟨9, 0⟩).variant.safety = true ∧
    (accepts shadow ⟨9, 0⟩).pair.qualified = true ∧ (accepts shadow ⟨9, 0⟩).now < 1 := by decide +kernel

/-- The partner as its HELLO gives it. -/
def peer (posB : Bool) : Peer := { id := [1, 2, 3, 4], posB := posB, mode := Mode.standby.code, pkg := 0, rev := 0, prof := 0, safe := 0, net := 0 }

theorem witness_PartnerFramesAct :
    (let b := shadow.begin 0
     b.isActive = false ∧ (peer true).posB ≠ (accepts shadow ⟨9, 0⟩).pair.posB ∧ (peer false).posB = (accepts shadow ⟨9, 0⟩).pair.posB ∧
       (accepts shadow ⟨9, 0⟩).pair.conflict = false ∧ b.md.mode ≠ .boot) ∧
    (let b := active.begin 0
     b.pair.session = true ∧ b.md.pstate.cmp = true ∧ (9 : Nat) = pl1Next b.pair.rxSeq ∧ b.isActive = true ∧
       (peer true).posB ≠ (accepts active ⟨9, 0⟩).pair.posB ∧ (peer true).mode = Mode.standby.code ∧ (accepts active ⟨9, 0⟩).pair.ho = none ∧
       (accepts active ⟨9, 0⟩).isActive = true ∧
       (accepts active ⟨9, 0⟩).pair.acks.find? (fun a => decide (a.1 = 5)) = some (5, 0, 1)) ∧
    (let ho : Handover := { at_ := 0, agree := true, drill := false, up := 1 }
     let s : State := { shadow with pair := { shadow.pair with ho := some ho } }
     (accepts s ⟨9, 0⟩).pair.ho = some ho ∧ ho.agree = true ∧ ho.at_ ≤ (accepts s ⟨9, 0⟩).now ∧ (accepts s ⟨9, 0⟩).pair.token = false ∧ ho.at_ = 0) := by
  decide +kernel

theorem witness_HandoversAndDrillsAct :
    (let h : Handover := { at_ := 7, agree := true, drill := false, up := 1 }
     let b := fun (k : Mode) (token : Bool) => (paired k { ho := some h, token := token, session := true, peerQual := true }).begin 7
     (b .run true).mayHandOver = true ∧ (b .run true).pair.ho = some h ∧ h.at_ ≤ (b .run true).now ∧ h.agree = true ∧ h.drill = false ∧ (b .run true).pair.token = true ∧
       (b .standby false).pair.token = false ∧ (b .standby false).md.mode = .standby) ∧
    ((paired .run {}).begin 0).pair.qualified = ((paired .run {}).begin 0).qualOk ∧
    ((paired .run { qualified := true }).begin 0).pair.qualified ≠ ((paired .run { qualified := true }).begin 0).qualOk ∧
    (let b := ({ active with pair := { active.pair with drillDue := some 0 } } : State).begin 0
     b.pair.drillDue = some 0 ∧ b.isActive = true ∧ 0 ≤ b.taiS ∧ b.pair.drillNext = none ∧ b.handoverOk = true ∧ b.drillWaits = false) ∧
    (let b := ({ active with pair := { active.pair with drillDue := some 0, peerQual := false } } : State).begin (86400 * sec - 1)
     b.handoverOk = false ∧ b.taiS < 0 + 86400) ∧
    (let b := ({ active with pair := { active.pair with drillDue := some 0, peerQual := false } } : State).begin (86400 * sec)
     b.handoverOk = false ∧ 0 + 86400 ≤ b.taiS) ∧
    (let d : Drill := ⟨0, 1, none, false⟩
     let b := (paired .standby { drill := some d }).begin (4095 * sec)
     b.pair.drill = some d ∧ d.start + ((b.rdp .pair 0 Off.PAIR_DRILL_CFG).fld 20 12) * sec ≤ b.now ∧ d.mine = false ∧ 3 ≤ 3) := by decide +kernel

theorem witness_PairCommandsAct :
    (let s := paired .commission { pl1Up := true, peer := some (peer true) }
     s.pairBusy = false ∧ s.MayCommand 0 sess .config .pair 0 ∧ s.md.mode = .commission ∧ s.pair.pl1Up = true ∧ s.pair.peer = some (peer true)) ∧
    (let s : State := { active with pair := { active.pair with acks := [] } }
     s.pairBusy = false ∧ s.MayCommand 0 sess .operate .pair 0 ∧ s.md.mode.drives = true ∧
       ((s.counted 0 sess .pair 0 Off.PAIR_CMD).setQueue (Page.reg .pair 0 Off.PAIR_CMD) [cmd 3]).handoverOk = true ∧
       (s.counted 0 sess .pair 0 Off.PAIR_CMD).drillWaits = false) ∧
    (((st .run).counted 0 sess .pair 0 Off.PAIR_CMD).setQueue (Page.reg .pair 0 Off.PAIR_CMD) [cmd 2]).handoverOk = false :=
  ⟨⟨by decide +kernel, can_may (by decide +kernel), rfl, rfl, rfl⟩, ⟨by decide +kernel, can_may (by decide +kernel), by decide +kernel⟩, by decide +kernel⟩

/-! Witnesses: clearing registers, single registers. -/

/-- The registers of `ClearingCommandsAct`, at the highest instance of their pages. -/
def clears : List (Page × Nat × Nat) :=
  [(.rst, 0, Off.RST_COUNTS_CLR), (.mem, 0, Off.MEM_CLR), (.dpx, 0, Off.DPX_CLR), (.mtr, 0, Off.MTR_CLR), (.pq, 0, Off.PQ_CLR), (.heat, 0, Off.HEAT_CLR),
   (.pulse, 0, Off.PULSE_CLR), (.prg, 0, Off.PRG_CLR), (.time, 0, Off.TIME_CLR), (.safe, 0, Off.SAFE_CLR), (.pol, 0, Off.POL_CLR), (.pair, 0, Off.PAIR_CLR),
   (.sec, 0, Off.SEC_CLR), (.disp, 0, Off.DISP_CLR), (.pwr, 0, Off.PWR_CLR), (.slot, 7, Off.SLOT_CLR), (.slc, 3, Off.SLC_CLR), (.adc, 3, Off.ADC_CLR),
   (.can, 5, Off.CAN_CLR), (.eth, 3, Off.ETH_CLR), (.evt, 0, Off.EVT_CNT_CLR), (.loop, 5, Off.LOOP_CLR)]

theorem witness_ClearingCommandsAct :
    (∀ x ∈ clears, ∃ d, (st .maintenance).MayWrite 0 sess x.1 x.2.1 x.2.2 d) ∧ (1 : Word).bit 0 = true ∧ (0 : Word).bit 0 = false := by
  refine ⟨?_, by decide, by decide⟩
  have h : clears.all (fun x => canWrite (st .maintenance) x.1 x.2.1 x.2.2) = true := by decide +kernel
  intro x hx
  exact can_write (List.all_eq_true.mp h x hx)

/-- The registers of `SingleRegisterWritesAct`. -/
def singles : List (Page × Nat) :=
  [(.evt, Off.EVT_RD_SEQ), (.evt, Off.PAGE_CTRL), (.rtc, Off.RTC_FLAGS), (.rtc, Off.RTC_CD_LOAD), (.upd, Off.UPD_HEALTH), (.pwr, Off.PWR_FIELD_LIM)]

/-- Small states of the single registers: FREEZE mode, the log frozen by slot `k`. -/
def frozen (k : Option Nat) : State :=
  let s := (st .maintenance).wrp .evt 0 Off.EVT_CFG 0x101
  { s with evt := { s.evt with freeze := k.map fun j => (j, 0) } }

theorem witness_SingleRegisterWritesAct :
    (∀ x ∈ singles, ∃ d, ((st .maintenance).wrp .pwr 0 Off.PAGE_LOCK 0).MayWrite 0 sess x.1 0 x.2 d) ∧
    (let e : EvtState := { log := [⟨1, 0, 0, 5, 0, 0, 0, 0, 0⟩] }
     (e.log.findIdx fun r => (5 : Word).toNat ≤ r.seq) < e.log.length ∧ e.log.length ≤ e.log.findIdx fun r => (6 : Word).toNat ≤ r.seq) ∧
    ((frozen none).evt.freeze = none ∧ ((frozen none).counted 0 sess .evt 0 Off.PAGE_CTRL).freezeMode = true) ∧
    ((frozen (some 0)).evt.freeze = some (sess.slot, 0) ∧ (frozen (some 1)).evt.freeze = some (1, 0) ∧ 1 ≠ sess.slot ∧
      ((frozen (some 1)).counted 0 sess .evt 0 Off.PAGE_CTRL).freezeMode = true) ∧
    (2400 ≤ ({ vbk := 2400 } : RtcState).vbk ∧ ({ vbk := 2399 } : RtcState).vbk < 2400) ∧
    ((0 : Word).fld 0 24 = 0 ∧ (0xFFFFFF : Word).fld 0 24 ≠ 0) ∧
    (let u : UpdState := { trial := 1, run := { pkg := 9 } }
     u.trial = 1 ∧ (9 : Word) = u.run.pkg ∧ (∀ k ∈ List.range 8, partOf u.run (k + 1) 0 = none) ∧ (8 : Word) ≠ u.run.pkg) ∧
    (fieldLimOk .dxn7448 0x05052D2D = true ∧ fieldLimOk .dxn7448 0x04323232 = false) := by
  refine ⟨?_, by decide +kernel, by decide +kernel, by decide +kernel, by decide, by decide, by decide +kernel, by decide +kernel⟩
  have h : singles.all (fun x => canWrite ((st .maintenance).wrp .pwr 0 Off.PAGE_LOCK 0) x.1 0 x.2) = true := by decide +kernel
  intro x hx
  exact can_write (List.all_eq_true.mp h x hx)

end Sys2Proof.Tests
end

section
/-!
SUPPORT. ADC.CMD SET_REF (R275, R277, R291, R294): what an update of a group leaves there, what a switch of the reference does to the settling check, what the
command does.
-/
namespace Sys2Proof.Machine

/-! Updates of one slice group -/

theorem modAt_modAt {α : Type} (l : List α) (n : Nat) (f k : α → α) : modAt (modAt l n f) n k = modAt l n fun y => k (f y) := by
  induction l generalizing n with
  | nil => rfl
  | cons x xs ih => cases n with
    | zero => rfl
    | succ n => exact congrArg (x :: ·) (ih n)

theorem State.updGrp_updGrp (s : State) (g : Nat) (f k : Grp → Grp) : (s.updGrp g f).updGrp g k = s.updGrp g fun y => k (f y) := by
  simp only [State.updGrp, modAt_modAt]

theorem modAt_length {α : Type} (l : List α) (n : Nat) (f : α → α) : (modAt l n f).length = l.length := by
  induction l generalizing n with
  | nil => rfl
  | cons x xs ih => cases n with
    | zero => rfl
    | succ n => exact congrArg (· + 1) (ih n)

@[simp] theorem State.updGrp_grps_length (s : State) (g : Nat) (f : Grp → Grp) : (s.updGrp g f).fld.grps.length = s.fld.grps.length :=
  modAt_length _ _ _

/-- A group of the module that is changed by number holds what the change gives. -/
theorem State.updGrp_grp {s : State} {g : Nat} (f : Grp → Grp) (h : g < s.fld.grps.length) : (s.updGrp g f).grp g = f (s.grp g) :=
  modAt_getD _ _ _ _ h

/-! The settling check -/

/-- The group switches to reference `ref`: its check starts anew, and what the check before found is discarded (R275). -/
def State.switchRef (s : State) (g ref : Nat) : State :=
  s.updGrp g fun y => { y with
    refUsed := ref, settled := false, refFault := false, convOk := false, checkFrom := s.now, lastMeas := none, faultFrom := none }

/-- Naming the reference in use changes nothing (R277). -/
theorem State.setRef_inUse {s : State} {g ref : Nat} (h : (s.grp g).refUsed = ref) : s.setRef g ref = s := by
  simp only [State.setRef, if_pos h]

/-- Naming another reference switches to it; a calibration in progress is given up and the scan ends (R275, R277, R291). -/
theorem State.setRef_other {s : State} {g ref : Nat} (h : (s.grp g).refUsed ≠ ref) :
    s.setRef g ref = if ((s.switchRef g ref).grp g).inCal then (s.switchRef g ref).endScan g else s.switchRef g ref := by
  have start : (s.updGrp g fun x => { x with refUsed := ref }).startCheck g = s.switchRef g ref := by
    simp only [State.startCheck, State.switchRef, State.updGrp_updGrp, State.updGrp_now]
  simp only [State.setRef, if_neg h, start]

/-- The end of a scan leaves the reference and its check alone. -/
theorem State.endScan_check {s : State} {g : Nat} (h : g < s.fld.grps.length) :
    ((s.endScan g).grp g).settled = (s.grp g).settled ∧ ((s.endScan g).grp g).checkFrom = (s.grp g).checkFrom ∧
      ((s.endScan g).grp g).refUsed = (s.grp g).refUsed := by
  simp only [State.endScan, State.beginConv, State.updGrp_updGrp, State.updGrp_grp _ h, and_self]

/-- After a switch the flag is clear, and the check runs from the instant of the switch against the new reference (R275). -/
theorem State.switchRef_check {s : State} {g : Nat} (ref : Nat) (h : g < s.fld.grps.length) :
    ((s.switchRef g ref).grp g).settled = false ∧ ((s.switchRef g ref).grp g).checkFrom = s.now ∧ ((s.switchRef g ref).grp g).refUsed = ref := by
  rw [State.switchRef, State.updGrp_grp _ h]
  exact ⟨rfl, rfl, rfl⟩

/-- So it stands after SET_REF to another reference, also where a scan ended with it (R277, R291). -/
theorem State.setRef_check {s : State} {g ref : Nat} (h : (s.grp g).refUsed ≠ ref) (hg : g < s.fld.grps.length) :
    ((s.setRef g ref).grp g).settled = false ∧ ((s.setRef g ref).grp g).checkFrom = s.now ∧ ((s.setRef g ref).grp g).refUsed = ref := by
  rw [State.setRef_other h]
  split
  · have len : g < (s.switchRef g ref).fld.grps.length := by rwa [State.switchRef, State.updGrp_grps_length]
    obtain ⟨hs, hc, hr⟩ := State.endScan_check len
    rw [hs, hc, hr]
    exact State.switchRef_check ref hg
  · exact State.switchRef_check ref hg

/-! The command -/

/-- The field REF, [5:4], of ADC.CMD (R294). -/
theorem cmdWord_ref (op tag k : Nat) (h : op < 16) : (cmdWord op tag (16 * k)).fld 4 2 = k % 4 := by
  simp only [cmdWord, Word.fld, w32, BitVec.toNat_ofNat, Nat.shiftRight_eq_div_pow]; omega

/-- A SET_REF in a mode that admits it, for a reference the group can take, switches to it and completes with OK (R277, R294). -/
theorem State.execAdcCmd_setRef {s : State} {g tag ref slot since : Nat} {priv : Priv} {args : List Word} (hp : priv.ge .config = true)
    (hm : commMaint s.md.mode = true) (hr : ref < 3) (hx : ref = 1 → (s.slc (12 * g + 12)).cfg.func = 0) :
    s.execAdcCmd g ⟨cmdWord 1 tag (16 * (ref % 4)), slot, priv, since, args⟩ = (s.setRef g ref).complete .adc g Off.ADC_CMD_STAT .ok tag 4 := by
  have hop : (cmdWord 1 tag (16 * (ref % 4))).fld 0 4 = 1 := cmdWord_op 1 tag _ (by omega) (by omega)
  have htag : (cmdWord 1 tag (16 * (ref % 4))).fld 8 8 = tag % 256 := cmdWord_tag 1 tag _ (by omega)
  have href : (cmdWord 1 tag (16 * (ref % 4))).fld 4 2 = ref := by rw [cmdWord_ref 1 tag _ (by omega)]; omega
  have hrange : ¬ ((1 : Nat) ≠ 1 ∨ ref = 3) := by omega
  have hstate : ¬ (ref = 1 ∧ (s.slc (12 * g + 12)).cfg.func ≠ 0) := fun ⟨h1, h2⟩ => h2 (hx h1)
  simp only [State.execAdcCmd, hop, htag, href, hp, hm, if_neg hrange, if_neg hstate, Bool.not_true, Bool.false_eq_true, if_false, State.complete_mod]

/-- What ADC_SET_REF does when its page is free and nothing refuses it (R277, R294). -/
theorem exec_adcSetRef {s : State} {t slot tag g ref : Nat} {x : Session} (h : s.MayCommand slot x .config .adc g) (hm : commMaint s.md.mode = true)
    (hr : ref < 3) (hx : ref = 1 → ((s.counted t x .adc g Off.ADC_CMD).slc (12 * g + 12)).cfg.func = 0) :
    exec (.adcSetRef t slot tag g ref) s =
      .next (s.settled (((s.counted t x .adc g Off.ADC_CMD).setRef g ref).complete .adc g Off.ADC_CMD_STAT .ok tag 4)) := by
  obtain ⟨-, -, hmd, -⟩ := State.counted_fields s t x .adc g Off.ADC_CMD
  refine next_settled ((State.hostWrite_cmd _ h rfl rfl nofun).trans ?_)
  simp only [State.takeCmd, h.noReset, Bool.false_and, Bool.false_eq_true, if_false]
  exact State.execAdcCmd_setRef h.priv (by rwa [hmd]) hr hx

/-- Settles O13: the command acts as `setRef` on what the write counted, which leaves the group alone where the reference is in use and restarts its
check otherwise. -/
theorem setReferenceRestartsTheCheck : Obligations.SetReferenceRestartsTheCheck := by
  intro s t slot tag g ref x h hm hr b done hx
  have act : exec (.adcSetRef t slot tag g ref) s = .next (done (b.setRef g ref)) := exec_adcSetRef h hm hr hx
  refine ⟨fun same => ?_, ?_⟩
  · rw [act, State.setRef_inUse same]
  · intro other hg u v
    have switch : b.setRef g ref = v := State.setRef_other other
    rw [← switch]
    exact ⟨act, State.setRef_check other hg⟩

end Sys2Proof.Machine
end

section
/-!
SUPPORT. A sample of the selected master in JUMP_HOLD (R388, R393, R394): what it leaves on its leg and on the TIME page, what the state makes of it.
-/
namespace Sys2Proof.Machine

/-! What a sample leaves whatever the state -/

/-- Leg `leg` has sent an event message since the last sample where the instant of one differs from the one shown (R388). -/
def State.ptpLegSent (s : State) (leg tx : Nat) : State :=
  if s.rdp .eth leg Off.ETH_TS_TX_NS32 = s.stamp32 tx then s else s.emit (.ptp leg)

/-- A sample of the selected master shows on its leg and on the TIME page and joins the recent ones (R388, R395). -/
def State.ptpShown (s : State) (leg : Nat) (off : Int) (rx tx : Nat) : State :=
  let c := ((((s.ptpLegSent leg tx).wrp .eth leg Off.ETH_PTP_OFS_NS (satI32 off)).wrp .eth leg Off.ETH_TS_RX_NS32 (s.stamp32 rx)).wrp .eth leg
    Off.ETH_TS_TX_NS32 (s.stamp32 tx)).wrp .time 0 Off.TIME_OFFSET_NS (satI32 off)
  { c with time := { c.time with recent := (off :: s.time.recent).take 15 } }

@[simp] theorem State.ptpLegSent_time (s : State) (leg tx : Nat) : (s.ptpLegSent leg tx).time = s.time := by
  unfold State.ptpLegSent
  split
  · rfl
  · exact State.emit_time ..

@[simp] theorem State.ptpLegSent_now (s : State) (leg tx : Nat) : (s.ptpLegSent leg tx).now = s.now := by
  unfold State.ptpLegSent
  split
  · rfl
  · exact State.emit_now ..

/-- The stamps count from the epoch of the time base. -/
@[simp] theorem State.ptpLegSent_stamp32 (s : State) (leg tx t : Nat) : (s.ptpLegSent leg tx).stamp32 t = s.stamp32 t := by
  simp only [State.stamp32, State.ptpLegSent_time]

/-- Of the time base a sample shown changes the recent samples alone. -/
@[simp] theorem State.ptpShown_time (s : State) (leg : Nat) (off : Int) (rx tx : Nat) :
    (s.ptpShown leg off rx tx).time = { s.time with recent := (off :: s.time.recent).take 15 } := by
  simp only [State.ptpShown, State.wrp_time, State.ptpLegSent_time]

@[simp] theorem State.ptpShown_now (s : State) (leg : Nat) (off : Int) (rx tx : Nat) : (s.ptpShown leg off rx tx).now = s.now := by
  simp only [State.ptpShown, State.wrp_now, State.ptpLegSent_now]

/-- In JUMP_HOLD a sample of the selected master is shown and then judged by R393 and R394. -/
theorem State.ptpSample_jumpHold {s : State} {leg : Nat} {id : Word64} (off : Int) (rx tx : Nat) (runs : s.ptpRuns = true) (hleg : leg < 2)
    (sel : s.time.sel = some (leg, id)) (hold : s.time.st = .jumpHold) :
    s.ptpSample leg id off rx tx = (s.ptpShown leg off rx tx).jumpSample off := by
  have taken : (!s.ptpRuns || decide (2 ≤ leg)) = false := by simp [runs, hleg]
  have sent : (if s.rdp .eth leg Off.ETH_TS_TX_NS32 = s.stamp32 tx then s else s.emit (.ptp leg)) = s.ptpLegSent leg tx := rfl
  have selected : (s.time.sel != some (leg, id)) = false := by simp [sel]
  simp only [State.ptpSample, State.ptpShown, taken, sent, selected, hold, State.wrp_time, State.ptpLegSent_time, State.ptpLegSent_stamp32,
    Bool.false_eq_true, if_false]

/-! What JUMP_HOLD makes of it -/

/-- The state returns to LOCKED from JUMP_HOLD: the servo follows the master again and the time base keeps its offset (R394). -/
def State.jumpEnded (s : State) : State :=
  { s with time := { s.time with st := .locked, jump := false, run := 0, refused := [], servoAt := some s.now } }

/-- The return makes no step. -/
@[simp] theorem State.jumpEnded_ofs (s : State) : s.jumpEnded.time.ofs = s.time.ofs := rfl

/-- A sample beyond JUMP_US ends the run (R394). -/
theorem State.jumpSample_beyond {s : State} {off : Int} (far : s.jumpNs < off.natAbs) :
    s.jumpSample off = ({ s with time := { s.time with run := 0 } } : State).satp .time 0 Off.TIME_OUTLIERS := by
  simp only [State.jumpSample, gt_iff_lt, if_pos far]

/-- A sample within JUMP_US adds to a run that stays short of QUAL_N (R394). -/
theorem State.jumpSample_within {s : State} {off : Int} (near : off.natAbs ≤ s.jumpNs) (short : s.time.run + 1 < s.qualN) :
    s.jumpSample off = { s with time := { s.time with run := s.time.run + 1 } } := by
  have short' : s.time.run + 1 < ({ s with time := { s.time with run := s.time.run + 1 } } : State).qualN := short
  simp only [State.jumpSample, gt_iff_lt, if_neg (Nat.not_lt.mpr near), if_pos short']

/-- The sample that completes QUAL_N within JUMP_US ends JUMP_HOLD and is recorded (R394). -/
theorem State.jumpSample_qualifies {s : State} {off : Int} (near : off.natAbs ≤ s.jumpNs) (full : s.qualN ≤ s.time.run + 1) :
    s.jumpSample off = (s.jumpEnded.recordGen 0x0A .time 0 Off.TIME_STAT (w32 TState.locked.code)).refreshValid := by
  have full' : ¬ s.time.run + 1 < ({ s with time := { s.time with run := s.time.run + 1 } } : State).qualN := Nat.not_lt.mpr full
  simp only [State.jumpSample, State.jumpEnded, gt_iff_lt, if_neg (Nat.not_lt.mpr near), if_neg full']

/-- What PTP_SYNC_SAMPLE of the selected master does in JUMP_HOLD (R394). -/
theorem exec_ptpSyncSample_jumpHold {s : State} {t leg : Nat} {id : Word64} (off : Int) (rx tx : Nat) (runs : (s.begin t).ptpRuns = true)
    (hleg : leg < 2) (sel : (s.begin t).time.sel = some (leg, id)) (hold : (s.begin t).time.st = .jumpHold) :
    exec (.ptpSyncSample t leg id off rx tx) s = .next (s.settled (((s.begin t).ptpShown leg off rx tx).jumpSample off)) :=
  next_settled (State.ptpSample_jumpHold off rx tx runs hleg sel hold)

/-- Settles O12: a sample is shown without touching the run or the offset of the time base, and `jumpSample` then has one case for each clause. -/
theorem jumpHoldEndsWithoutStep : Obligations.JumpHoldEndsWithoutStep := by
  intro s t leg rx tx id off b runs hleg sel hold e c d
  have act : exec (.ptpSyncSample t leg id off rx tx) s = .next (s.settled (d.jumpSample off)) :=
    exec_ptpSyncSample_jumpHold off rx tx runs hleg sel hold
  have time : d.time = { b.time with recent := (off :: b.time.recent).take 15 } := State.ptpShown_time b leg off rx tx
  have run : d.time.run = b.time.run := by rw [time]
  have ofs : d.time.ofs = b.time.ofs := by rw [time]
  have now : d.now = b.now := State.ptpShown_now b leg off rx tx
  rw [act, ← run]
  refine ⟨fun near full => ⟨?_, (State.jumpEnded_ofs d).trans ofs⟩, fun near short => ?_, fun far => ?_⟩
  · rw [State.jumpSample_qualifies near full, State.jumpEnded, now]
  · rw [State.jumpSample_within near short]
  · rw [State.jumpSample_beyond far]

end Sys2Proof.Machine
end

section
/-!
SUPPORT. The end of the calendar (R408): what the registers show there, the stop there and the alarm after it.
-/
namespace Sys2Proof.Machine

/-! The registers at the end -/

/-- At a whole second the registers show the date of its day, the time within that day and no fraction (R405, R417). -/
theorem calWords_second (n : Nat) {y m d : Nat} (date : Cal.dateOf (n / Cal.daySec + Cal.epochDay) = (y, m, d)) :
    calWords (n * sec : Nat) = (dateWord y m d (Cal.dow (n / Cal.daySec + Cal.epochDay)),
      timeWord (n % Cal.daySec / 3600) (n % Cal.daySec / 60 % 60) (n % Cal.daySec % 60), 0) := by
  unfold calWords
  extract_lets ns s days
  have whole : s = n := Nat.mul_div_cancel n (by decide)
  have fraction : ns % sec * 32768 / sec = 0 := by rw [show ns % sec = 0 from Nat.mul_mod_left n sec, Nat.zero_mul, Nat.zero_div]
  have read : Cal.dateOf days = (y, m, d) := by rw [← date, ← whole]
  rw [read, fraction, ← whole]
  rfl

/-- The last second is 23:59:59 of 2399-12-31. -/
theorem calWords_calEnd : calWords calEnd = (dateWord 2399 12 31 (Cal.dow (Cal.daysOf 2399 12 31)), timeWord 23 59 59, 0) := by
  have day : ((Cal.daysOf 2399 12 31 - Cal.epochDay) * Cal.daySec + 86399) / Cal.daySec + Cal.epochDay = Cal.daysOf 2399 12 31 := by decide +kernel
  have date : Cal.dateOf (Cal.daysOf 2399 12 31) = (2399, 12, 31) := by decide +kernel
  have time : ((Cal.daysOf 2399 12 31 - Cal.epochDay) * Cal.daySec + 86399) % Cal.daySec = 86399 := Nat.mul_add_mod_of_lt (by decide)
  rw [calEnd, calWords_second _ (day ▸ date), day, time]

/-! The stop -/

/-- A stopped calendar stands at its end. -/
theorem State.calNs_stopped {s : State} (stopped : s.rtc.atEnd = true) : s.calNs = calEnd := by
  simp only [State.calNs, if_pos stopped]

/-- The calendar does not pass its end, stopped or counting (R408). -/
theorem State.calNs_le_calEnd (s : State) : s.calNs ≤ calEnd := by
  by_cases stopped : s.rtc.atEnd = true
  · exact Int.le_of_eq (State.calNs_stopped stopped)
  · simp only [State.calNs, if_neg stopped]
    exact Int.min_le_left ..

/-- The calendar stops: INVALID is set and the flags are recorded (R408). -/
def State.stopCal (s : State) : State :=
  let u := ({ s with rtc := { s.rtc with atEnd := true } } : State).rtcFlag 0 true
  u.recordGen 0x0A .rtc 0 Off.RTC_FLAGS (u.rdp .rtc 0 Off.RTC_FLAGS)

/-- A calendar that counts and has reached its end stops. -/
theorem State.calendarEnd_reached {s : State} (counting : s.rtc.atEnd = false) (reached : calEnd ≤ s.now + s.rtc.ofs) :
    s.calendarEnd = s.stopCal := by
  simp only [State.calendarEnd, counting, ge_iff_le, reached, Bool.not_false, decide_true, Bool.and_self, if_true, State.stopCal]

/-- A stopped calendar never reaches the alarm, armed or not (R408). -/
theorem State.alarmReached_stopped {s : State} (stopped : s.rtc.atEnd = true) : s.alarmReached = s := by
  unfold State.alarmReached
  split
  · simp only [stopped, Bool.not_true, Bool.and_false, Bool.false_and, Bool.false_eq_true, if_false]
  · rfl

/-- Settles O11: a state shows at most the end of the calendar, which the registers show as 2399-12-31 23:59:59; CALENDAR_END there is `stopCal`, and
ALARM_FIRE of a stopped calendar changes nothing. -/
theorem calendarStopsAtItsEnd : Obligations.CalendarStopsAtItsEnd := by
  refine ⟨congrArg (·.1) calWords_calEnd, congrArg (·.2.1) calWords_calEnd, fun s t => ?_⟩
  intro b
  refine ⟨s.calNs_le_calEnd, fun counting reached => ?_, fun stopped => ⟨State.calNs_stopped stopped, ?_⟩⟩
  · exact next_settled (State.calendarEnd_reached counting reached)
  · exact next_settled (State.alarmReached_stopped stopped)

end Sys2Proof.Machine
end

section
/-!
SUPPORT. What a step is (R62): the command at the front of the queue settles its effect, and what settlement leaves is consistent (R61, R67, R85).
-/
namespace Sys2Proof.Machine

/-! One step -/

/-- Every command answers the settlement of some effect. -/
theorem exec_settles (c : Instr) (s : State) : ∃ v : State, exec c s = .next (s.settled v) := by
  cases c <;> exact ⟨_, rfl⟩

theorem step_idle {s : State} (h : s.pending = []) : step s = .next s := by
  simp only [step, h]

theorem step_front {s : State} {c : Instr} {rest : List Instr} (h : s.pending = c :: rest) : step s = exec c { s with pending := rest } := by
  simp only [step, h]

/-! What settlement keeps -/

/-- With no trigger left, none is next. -/
theorem nextTrigger_none_iff (ts : List Trigger) : nextTrigger ts = none ↔ ts = [] := by
  cases ts with
  | nil => simp [nextTrigger]
  | cons t ts =>
    simp only [nextTrigger]
    cases nextTrigger ts with
    | none => simp
    | some p => simp only; split <;> simp

/-- Settling the triggers leaves none (R62). -/
theorem settleTriggers_trig (k : Nat) (s : State) : (settleTriggers k s).trig = [] := by
  induction k generalizing s with
  | zero => rfl
  | succ k ih =>
    simp only [settleTriggers]
    cases h : nextTrigger s.trig with
    | none => exact (nextTrigger_none_iff _).mp h
    | some p => exact ih _

/-- A change of mode raises no trigger and puts no unit out of service. -/
theorem State.setMode_same (s : State) (m : Mode) (r : ModeReason) :
    (s.setMode m r).trig = s.trig ∧ (s.setMode m r).degNow = s.degNow ∧ (s.setMode m r).md.deg = s.md.deg ∧ (s.setMode m r).md.mode = m := by
  by_cases same : (s.md.mode == m) = true
  · rw [State.setMode, if_pos same]
    exact ⟨rfl, rfl, rfl, by simpa using same⟩
  · rw [State.setMode, if_neg same]
    dsimp only
    generalize hu : (s.updMd fun x => { x with mode := m, reason := r, transitions := (x.transitions + 1) % 65536 }) = u
    obtain ⟨md, trig, deg⟩ := (State.irq_same u .mode 0 1).trans
      (State.record_same _ 0x0102 (w32 (s.md.mode.code + 16 * m.code + 256 * r.code)) u.shWord (w32 u.degNow))
    rw [md, trig, deg, ← hu]
    exact ⟨rfl, rfl, rfl, rfl⟩

/-- Counting the frames sent touches no mode, no trigger and no unit. -/
theorem State.countTx_same (s : State) : s.SameModes s.countTx := by
  have count : ∀ (is : List Nat) (t : State), t.SameModes (is.foldl (fun t i => if (s.port i).link then t.modp .eth i Off.ETH_TX_OK else t) t) := by
    intro is
    induction is with
    | nil => exact State.SameModes.refl
    | cons i is ih =>
      intro t
      refine State.SameModes.trans ?_ (ih _)
      dsimp only
      split <;> exact ⟨rfl, rfl, rfl⟩
  have all : ∀ (os : List Out) (t : State),
      t.SameModes (os.foldl (fun t o => (s.txPorts o).foldl (fun t i => if (s.port i).link then t.modp .eth i Off.ETH_TX_OK else t) t) t) := by
    intro os
    induction os with
    | nil => exact State.SameModes.refl
    | cons o os ih => exact fun t => (count _ t).trans (ih _)
  exact all s.out s

/-- MODE.DEG, RUN and DEGRADED once they follow the units out of service (R61, R67, R85). -/
theorem State.refreshDeg_consistent {s : State} (h : s.trig = []) : s.refreshDeg.Consistent := by
  let t := if s.degNow = s.md.deg then s else (s.updMd fun m => { m with deg := s.degNow }).irq .mode 0 3
  have shown : t.trig = [] ∧ t.degNow = s.degNow ∧ t.md.deg = s.degNow ∧ t.md.mode = s.md.mode := by
    by_cases e : s.degNow = s.md.deg
    · rw [show t = s from if_pos e]
      exact ⟨h, rfl, e.symm, rfl⟩
    · rw [show t = _ from if_neg e]
      have k := State.irq_same (s.updMd fun m => { m with deg := s.degNow }) .mode 0 3
      exact ⟨k.trig.trans h, k.deg, congrArg (·.deg) k.md, congrArg (·.mode) k.md⟩
  obtain ⟨ht, hd, hs, -⟩ := shown
  have def_ : s.refreshDeg = if t.md.mode == .run && decide (s.degNow ≠ 0) then t.setMode .degraded .unit
      else if t.md.mode == .degraded && decide (s.degNow = 0) then t.setMode .run .unit else t := rfl
  rw [def_]
  split
  · next k =>
    obtain ⟨a, b, c, d⟩ := t.setMode_same .degraded .unit
    simp only [Bool.and_eq_true, decide_eq_true_eq] at k
    exact ⟨a.trans ht, by rw [c, b, hs, hd], by simp [d], fun _ => by rw [b, hd]; exact k.2⟩
  · split
    · next k =>
      obtain ⟨a, b, c, d⟩ := t.setMode_same .run .unit
      simp only [Bool.and_eq_true, decide_eq_true_eq] at k
      exact ⟨a.trans ht, by rw [c, b, hs, hd], fun _ => by rw [b, hd]; exact k.2, by simp [d]⟩
    · next k l => exact ⟨ht, hs.trans hd.symm, fun hm => by simpa [hm, hd] using k, fun hm => by simpa [hm, hd] using l⟩

/-- Consistency goes by modes, triggers and units alone. -/
theorem State.SameModes.consistent {s u : State} (h : s.SameModes u) (k : s.Consistent) : u.Consistent := by
  obtain ⟨ht, hd, hr, hg⟩ := k
  exact ⟨h.trig.trans ht, by rw [h.md, h.deg, hd], by rw [h.md, h.deg]; exact hr, by rw [h.md, h.deg]; exact hg⟩

/-- The queue has no part in it. -/
theorem State.pending_same (s : State) (q : List Instr) : s.SameModes { s with pending := q } := ⟨rfl, rfl, rfl⟩

/-- Whatever the effect, what settles is consistent. -/
theorem State.settled_consistent (s u : State) : (s.settled u).Consistent := by
  have h : (settleTriggers settleFuel (settleTriggers settleFuel u).follow).refreshDeg.Consistent :=
    State.refreshDeg_consistent (settleTriggers_trig _ _)
  exact (State.pending_same u.settle s.pending).consistent ((State.countTx_same _).consistent h)

/-- Settles O3: a step either idles or answers a settlement, and settlement leaves consistency. -/
theorem everyStepKeepsConsistency : Obligations.EveryStepKeepsConsistency := by
  intro s u hs h
  cases hp : s.pending with
  | nil =>
    rw [step_idle hp] at h
    cases h
    exact hs
  | cons c rest =>
    obtain ⟨v, hv⟩ := exec_settles c { s with pending := rest }
    rw [step_front hp, hv] at h
    cases h
    exact State.settled_consistent _ v

/-- Settles O1. -/
theorem stepRunsTheFrontCommand : Obligations.StepRunsTheFrontCommand :=
  fun _ _ _ => step_front rfl

theorem State.settled_pending (s u : State) : (s.settled u).pending = s.pending := by
  simp only [State.settled]

/-- Settles O2: a settlement is a next state and puts the queue back. -/
theorem everyCommandCompletes : Obligations.EveryCommandCompletes := by
  intro c s
  obtain ⟨v, hv⟩ := exec_settles c s
  exact ⟨s.settled v, hv, State.settled_pending s v⟩

/-! Reset -/

/-- An unlisted register holds its reset value (R80). -/
theorem State.rd_unlisted {s : State} (h : s.regs = []) (a : Nat) : s.rd a = regReset a := by
  simp only [State.rd, regGet, h, lookupA, Option.getD_none]

/-- No slot holds a key after manufacture (R488). -/
theorem State.reset_keyOf (k usage : Nat) : State.reset.keyOf k usage = none := by
  have empty : State.reset.keySlot k = none := by
    show (List.replicate 64 (none : Option KeySlot)).getD k none = none
    rw [List.getD_eq_getElem?_getD, List.getElem?_replicate]
    split <;> rfl
  simp only [State.keyOf, empty]

/-- No anchor is set after manufacture (R488). -/
theorem State.reset_anchor (k : Nat) : State.reset.anchor k = none := by
  show (List.replicate 5 (none : Option (List Byte))).getD k none = none
  rw [List.getD_eq_getElem?_getD, List.getElem?_replicate]
  split <;> rfl

/-- Settles O4. -/
theorem resetLeaves : Obligations.ResetLeaves := by
  refine ⟨⟨rfl, ?_, fun h => absurd h (by decide), fun h => absurd h (by decide)⟩, rfl, State.rd_unlisted rfl, rfl, fun k => State.reset_keyOf k useSign, State.reset_anchor, rfl, rfl, rfl, rfl⟩
  decide +kernel

end Sys2Proof.Machine
end

section
/-!
SUPPORT. Registers (R28, R80), the order of triggers (R62), settlement where nothing follows, SAFE-HOLD (R17, R60, R64, R68, R85), the numbers of records (R518, R519).
-/
namespace Sys2Proof.Machine

/-! Registers -/

/-- A register is listed where it differs from its reset value (R80). -/
theorem lookupA_regPut {m : List (Nat × Word)} (h : Rising m) (a : Nat) (v : Word) :
    lookupA a (regPut m a v) = none ↔ v = regReset a := by
  unfold regPut
  split
  · next e => simp [lookupA_eraseA _ _ _ h, e]
  · next e => simp [lookupA_insertA, e]

/-- Settles O5. -/
theorem registersReadBack : Obligations.RegistersReadBack := by
  intro s p i o b v h
  refine ⟨?_, fun hb => s.rd_wr_ne _ b v hb, s.wr_rising _ v h, lookupA_regPut h _ v⟩
  exact (s.rd_wr _ _ v h).trans (if_pos rfl)

/-! The order of triggers -/

/-- The next trigger is one of those that wait, the others stay, and none of them has a higher rank (R62). -/
theorem nextTrigger_first {ts us : List Trigger} {x : Trigger} (h : nextTrigger ts = some (x, us)) :
    ts.Perm (x :: us) ∧ ∀ y ∈ ts, x.rank ≤ y.rank := by
  induction ts generalizing x us with
  | nil => simp [nextTrigger] at h
  | cons t ts ih =>
    simp only [nextTrigger] at h
    cases hn : nextTrigger ts with
    | none =>
      obtain rfl := (nextTrigger_none_iff ts).mp hn
      simp only [hn, Option.some.injEq, Prod.mk.injEq] at h
      obtain ⟨rfl, rfl⟩ := h
      exact ⟨.refl _, fun y hy => Nat.le_of_eq (congrArg Trigger.rank (List.mem_singleton.mp hy).symm)⟩
    | some p =>
      obtain ⟨u, vs⟩ := p
      obtain ⟨perm, least⟩ := ih hn
      simp only [hn] at h
      split at h
      · next lower =>
        simp only [Option.some.injEq, Prod.mk.injEq] at h
        obtain ⟨rfl, rfl⟩ := h
        refine ⟨(perm.cons t).trans (.swap _ _ _), fun y hy => ?_⟩
        rcases List.mem_cons.mp hy with rfl | hy
        · exact Nat.le_of_lt lower
        · exact least y hy
      · next higher =>
        simp only [Option.some.injEq, Prod.mk.injEq] at h
        obtain ⟨rfl, rfl⟩ := h
        refine ⟨.refl _, fun y hy => ?_⟩
        rcases List.mem_cons.mp hy with rfl | hy
        · exact Nat.le_refl _
        · exact Nat.le_trans (Nat.not_lt.mp higher) (least y hy)

/-- Settles O6. -/
theorem triggersActByRank : Obligations.TriggersActByRank := by
  refine ⟨fun ts us x h => nextTrigger_first h, nextTrigger_none_iff, fun k n p c => ?_, fun k s x us h => ?_⟩
  · simp only [Trigger.rank]
    decide
  · simp only [settleTriggers, h]

/-! Settlement where nothing follows -/

theorem State.setQueue_none {s : State} {a : Nat} (h : lookupA a s.cmdq = none) : s.setQueue a [] = s := by
  simp only [State.setQueue, List.isEmpty_nil, if_true, eraseA_absent _ _ h]

theorem State.queue_none {s : State} {a : Nat} (h : lookupA a s.cmdq = none) : s.queue a = [] := by
  simp only [State.queue, h, Option.getD_none]

theorem State.runPair_none {s : State} (h : lookupA pairCmdAddr s.cmdq = none) : s.runPair = s := by
  rw [State.runPair, State.queue_none h, runPairQueue, State.setQueue_none h]

theorem State.runPwr_none {s : State} (h : lookupA pwrCmdAddr s.cmdq = none) : s.runPwr = s := by
  rw [State.runPwr, State.queue_none h, runPwrQueue, State.setQueue_none h]

/-- Where MODE.DEG, RUN and DEGRADED fit the units, they stay. -/
theorem State.refreshDeg_fits {s : State} (deg : s.md.deg = s.degNow) (run : s.md.mode = .run → s.degNow = 0)
    (less : s.md.mode = .degraded → s.degNow ≠ 0) : s.refreshDeg = s := by
  have r : (s.md.mode == Mode.run && decide (s.degNow ≠ 0)) = false := by
    simpa using run
  have d : (s.md.mode == Mode.degraded && decide (s.degNow = 0)) = false := by
    simpa using less
  simp only [State.refreshDeg, if_pos deg.symm, r, d, Bool.false_eq_true, if_false]

theorem State.sandLate_calm {s : State} (h : (s.sanding && !s.mem.overdue && decide (s.mem.sweepFrom + s.sandPeriod < s.now)) = false) : s.sandLate = s := by
  simp only [State.sandLate, gt_iff_lt, h, Bool.false_eq_true, if_false]

theorem State.refreshSat_calm {s : State} (h : s.net.sat = s.setsWait) : s.refreshSat = s := by
  simp only [State.refreshSat, h, beq_self_eq_true, if_true]

theorem State.refreshCauses_calm {s : State} (h : s.md.mode ≠ .safeHold) : s.refreshCauses = s := by
  simp only [State.refreshCauses, beq_iff_eq, if_neg h]

theorem State.switchBuilds_calm {s : State} (h : s.prof.switch = none) : s.switchBuilds = s := by
  simp only [State.switchBuilds, h]

theorem State.polSync_calm {s : State} (h : ∀ k, s.polCfg k = none) : s.polSync = s := by
  have each : ∀ k ∈ List.range 64, (match s.polCfg k with
      | none => s
      | some c =>
        if (s.pol k).st == .closed && (s.polServes c && !s.safe.lockout) then s.updPol k fun p => { p with st := .starting }
        else if (s.pol k).st == .starting && !(s.polServes c && !s.safe.lockout) then s.updPol k fun p => { p with st := .closed }
        else s) = s := fun k _ => by rw [h k]
  unfold State.polSync
  split
  · rfl
  · exact foldl_id _ _ _ each

theorem State.refreshQual_calm {s : State} (h : s.variant.pair = true → s.pair.qualified = s.qualOk) : s.refreshQual = s := by
  have same : (s.variant.pair && s.pair.qualified != s.qualOk) = false := by
    simpa using h
  simp only [State.refreshQual, same, Bool.false_eq_true, if_false]

theorem State.drillCheck_calm {s : State} (h : s.pair.drill = none) : s.drillCheck = s := by
  simp only [State.drillCheck, h]

theorem State.bandCheck_calm {s : State} (h : s.md.pstate.ctl = true → s.panel.seen = some s.bandNow) : s.bandCheck = s := by
  cases k : s.md.pstate.ctl with
  | false => simp only [State.bandCheck, k, Bool.not_false, if_true]
  | true => simp only [State.bandCheck, k, h k, bne_self_eq_false, Bool.not_true, Bool.false_eq_true, if_false]

theorem State.resetsDue_calm {s : State} (h : ∀ p i, i < p.count → s.resetPending p i = false) : s.resetsDue = s := by
  unfold State.resetsDue
  extract_lets direct s'
  have pages : ∀ x ∈ direct, x.2 < x.1.count := by decide
  have first : s' = s := foldl_id _ _ _ fun x hx => by
    simp only [h x.1 x.2 (pages x hx), Bool.false_and, Bool.false_eq_true, if_false]
  rw [first]
  refine foldl_id _ _ _ fun n hn => ?_
  have slot : n < Page.slot.count := List.mem_range.mp hn
  simp only [h .slot n slot, Bool.false_and, Bool.false_eq_true, if_false]

/-- Nothing follows from a calm state. -/
theorem State.Calm.follow {u : State} (h : u.Calm) : u.follow = u := by
  rw [State.follow, State.refreshDeg_fits h.deg h.run h.less, State.sandLate_calm h.sand, State.refreshSat_calm h.ingest,
    State.refreshCauses_calm h.causes, State.switchBuilds_calm h.switch, State.polSync_calm h.conns, State.refreshQual_calm h.qual,
    State.drillCheck_calm h.drill, State.bandCheck_calm h.band, State.runPair_none h.pairQ, State.runPwr_none h.pwrQ,
    State.resetsDue_calm h.resets]

theorem State.Calm.settle {u : State} (h : u.Calm) : u.settle = u.countTx := by
  rw [State.settle, settleTriggers_none _ _ h.trig, h.follow, settleTriggers_none _ _ h.trig, State.refreshDeg_fits h.deg h.run h.less]

/-- Without a frame sent nothing is counted. -/
theorem State.countTx_silent {u : State} (h : u.out = []) : u.countTx = u := by
  simp only [State.countTx, h, List.foldl_nil]

/-- Settles O7. -/
theorem calmEffectsStand : Obligations.CalmEffectsStand := by
  intro s u h
  have settled : s.settled u = { u.countTx with pending := s.pending } := by rw [State.settled, h.settle]
  exact ⟨settled, fun silent => by rw [settled, State.countTx_silent silent]⟩

/-! SAFE-HOLD -/

/-- An ACTIVE in SAFE-HOLD with a QUALIFIED partner. -/
def activeInSafeHold : State :=
  { State.reset with md := { State.reset.md with mode := .safeHold }, pair := { State.reset.pair with token := true, peerQual := true } }

/-- It gives the token up at a CTL fault (R455). -/
theorem activeInSafeHold_releases : (activeInSafeHold.safeHoldTrigger .ctlFault 0).pair.token = false := by decide +kernel

/-- Refutes O8: an ACTIVE in SAFE-HOLD whose partner is QUALIFIED releases the token at a CTL fault instead of adding the cause (R455); `addCause` leaves
the token alone. -/
theorem not_safeHoldShowsItsFirstCause : ¬ Obligations.SafeHoldShowsItsFirstCause := by
  unfold Obligations.SafeHoldShowsItsFirstCause
  rintro ⟨-, -, h⟩
  have adds := (h activeInSafeHold .ctlFault 0 rfl nofun).1
  have releases := activeInSafeHold_releases
  rw [adds] at releases
  exact absurd releases (by decide +kernel)

/-- Updating a slice leaves the groups alone. -/
theorem State.updSlc_grp (s : State) (n g : Nat) (f : Slc → Slc) : (s.updSlc n f).grp g = s.grp g := by
  unfold State.updSlc
  split <;> rfl

/-- What an update of one slice leaves in each slice's configuration. -/
theorem State.updSlc_cfg (s : State) (n m : Nat) (f : Slc → Slc) (hf : ∀ x, (f x).cfg = x.cfg) : ((s.updSlc n f).slc m).cfg = (s.slc m).cfg := by
  have at_ : ∀ (l : List Slc) (j k : Nat), ((modAt l j f).getD k {}).cfg = (l.getD k {}).cfg := by
    intro l
    induction l with
    | nil => exact fun _ _ => rfl
    | cons x xs ih =>
      intro j k
      cases j <;> cases k
      · exact hf x
      · rfl
      · rfl
      · simpa [modAt] using ih _ _
  unfold State.updSlc
  split
  · rfl
  · unfold State.slc
    split
    · rfl
    · exact at_ s.fld.slcs (n - 1) (m - 1)

/-- Gating comes before everything else (R17, R60). -/
theorem State.driven_gated {s : State} (h : s.gated = true) (o : Target) : s.driven o = (1, F64.zero) := by
  cases o <;> simp only [State.driven, State.drivenSlc, State.drivenCan, State.drivenPt, h, if_true]

/-- What drives an output that is no safety output in SAFE-HOLD: gating, its group's fence, else its safe value (R17, R64). -/
def State.heldValue (s : State) : Target → Nat × F64.F
  | .slice n => if (s.grp (grpOf n)).cause.isSome then (3, toTerminal (s.slc n).cfg.func (F64.ofF32 (s.slc n).cfg.faultVal))
    else (4, toTerminal (s.slc n).cfg.func (F64.ofF32 (s.slc n).cfg.safeVal))
  | .can k n => (4, match sigOf (s.seg k) n with | some d => d.safe | none => F64.zero)
  | .point i => (4, (lookupA i s.net.safeVals).getD F64.zero)

theorem State.driven_safeHold {s : State} {o : Target} (hm : s.md.mode = .safeHold) (ho : ∀ n : Nat, o = .slice n → isSdo (s.slc n).cfg.func = false) :
    s.driven o = if s.gated then (1, F64.zero) else s.heldValue o := by
  cases o with
  | slice n => simp [State.driven, State.drivenSlc, State.heldValue, hm, ho n rfl]
  | can k n => simp only [State.driven, State.drivenCan, State.heldValue, hm, beq_self_eq_true, if_true] <;> rfl
  | point i => simp only [State.driven, State.drivenPt, State.heldValue, hm, beq_self_eq_true, if_true]

theorem State.heldValue_rank (s : State) (o : Target) : (s.heldValue o).1 ≤ 4 := by
  cases o with
  | slice n => simp only [State.heldValue]; split <;> simp
  | can k n => exact Nat.le_refl 4
  | point i => exact Nat.le_refl 4

/-- A state whose masks and whose owner value of one slice are replaced. -/
def State.reowned (s : State) (forced : List (Target × Word64)) (own : Option Word64) (n : Nat) : State :=
  ({ s with prg := { s.prg with forced := forced } } : State).updSlc n fun x => { x with own := own }

theorem State.reowned_cfg (s : State) (forced : List (Target × Word64)) (own : Option Word64) (n m : Nat) :
    ((s.reowned forced own n).slc m).cfg = (s.slc m).cfg := State.updSlc_cfg _ n m _ fun _ => rfl

/-- Neither has a part in what holds an output in SAFE-HOLD. -/
theorem State.reowned_heldValue (s : State) (forced : List (Target × Word64)) (own : Option Word64) (n : Nat) (o : Target) :
    (s.reowned forced own n).heldValue o = s.heldValue o := by
  have grp : ∀ g, (s.reowned forced own n).grp g = s.grp g := fun g => State.updSlc_grp _ n g _
  cases o with
  | slice m => simp only [State.heldValue, State.reowned_cfg, grp]
  | can k m => simp only [State.heldValue, State.seg, State.reowned, State.updSlc_can]
  | point i => simp only [State.heldValue, State.reowned, State.updSlc_net]

theorem State.reowned_gated (s : State) (forced : List (Target × Word64)) (own : Option Word64) (n : Nat) :
    (s.reowned forced own n).gated = s.gated := by
  simp only [State.gated, State.hasToken, State.reowned, State.updSlc_variant, State.updSlc_pair, State.updSlc_md]

/-- Settles O9. -/
theorem safeHoldOverridesOwnersAndMasks : Obligations.SafeHoldOverridesOwnersAndMasks := by
  intro s o
  refine ⟨fun h => State.driven_gated h o, fun hm ho => ⟨?_, fun forced own n => ?_⟩⟩
  · rw [State.driven_safeHold hm ho]
    split
    · exact (by decide : (1 : Nat) ≤ 4)
    · exact s.heldValue_rank o
  · have mode : (s.reowned forced own n).md.mode = .safeHold := by rw [← hm, State.reowned, State.updSlc_md]
    have safety : ∀ m : Nat, o = .slice m → isSdo ((s.reowned forced own n).slc m).cfg.func = false := fun m hmo => by
      rw [State.reowned_cfg, ho m hmo]
    show (s.reowned forced own n).driven o = s.driven o
    rw [State.driven_safeHold mode safety, State.driven_safeHold hm ho, State.reowned_gated, State.reowned_heldValue]

/-! The numbers of records -/

/-- The log's state is no concern of an event of a page. -/
theorem State.irq_evt (s : State) (p : Page) (i b : Nat) : (s.irq p i b).evt = s.evt := by
  simp only [State.irq, State.riseIf]
  split
  · split <;> rfl
  · rfl

theorem State.storeAt_evt (s : State) (r : Snag) : (s.storeAt r).evt = { s.evt with log := s.evt.log ++ [r] } :=
  State.irq_evt _ _ _ _

theorem State.pl1Send_evt (s : State) (f : Pl1Out) : (s.pl1Send f).evt = s.evt := by
  unfold State.pl1Send
  split <;> rfl

/-- The block that the next number comes from: the one in use, once it is used up the one granted next (R518). -/
theorem evtTurn_block (e : EvtState) : (evtTurn e).block = if e.block.next < e.block.stop then e.block else e.granted.headD e.block := by
  unfold evtTurn
  split
  · rfl
  · cases e.granted <;> rfl

/-- Turning to a granted block leaves the log and the series of blocks alone. -/
theorem evtTurn_fields (e : EvtState) :
    (evtTurn e).log = e.log ∧ (evtTurn e).full = e.full ∧ (evtTurn e).freeze = e.freeze ∧ (evtTurn e).nextBlock = e.nextBlock := by
  unfold evtTurn
  split
  · exact ⟨rfl, rfl, rfl, rfl⟩
  · split <;> exact ⟨rfl, rfl, rfl, rfl⟩

/-- The next number of a controller that numbers its own records, and what taking it leaves (R107, R518). -/
theorem State.takeSeq_own {s : State} (own : s.ownNumbers = true) :
    ∃ u : State, s.takeSeq = some (if (evtTurn s.evt).block.next < (evtTurn s.evt).block.stop then (evtTurn s.evt).block.next else s.evt.nextBlock, u) ∧
      u.evt.log = s.evt.log ∧ u.evt.full = s.evt.full ∧ u.evt.freeze = s.evt.freeze ∧
      u.evt.block.next = (if (evtTurn s.evt).block.next < (evtTurn s.evt).block.stop then (evtTurn s.evt).block.next else s.evt.nextBlock) + 1 ∧
      ((evtTurn s.evt).block.stop ≤ (evtTurn s.evt).block.next → u.evt.nextBlock = s.evt.nextBlock + 256) := by
  obtain ⟨hl, hf, hz, hn⟩ := evtTurn_fields s.evt
  have decided : (s.variant.pair && !s.pair.decided) = false := by
    simp only [State.ownNumbers] at own
    cases hp : s.variant.pair <;> simp_all
  by_cases left : (evtTurn s.evt).block.next < (evtTurn s.evt).block.stop
  · simp only [State.takeSeq, decided, left, if_true, Bool.false_eq_true, if_false]
    exact ⟨_, rfl, hl, hf, hz, rfl, fun used => absurd left (Nat.not_lt.mpr used)⟩
  · simp only [State.takeSeq, decided, left, own, if_true, Bool.false_eq_true, if_false]
    refine ⟨_, congrArg some (Prod.ext hn rfl), ?_, ?_, ?_, ?_, fun _ => ?_⟩
    all_goals simp only [State.pl1Send_evt, evtReserve, hl, hf, hz, hn, evtBlock]

/-- Settles O10. -/
theorem recordsTakeTheirNumbers : Obligations.RecordsTakeTheirNumbers := by
  intro s code p1 p2 p3 role live r blk n
  have own : s.ownNumbers = true := by
    simp only [State.ownNumbers]
    cases hp : s.variant.pair with
    | false => rfl
    | true => simp [role hp]
  have block : (evtTurn s.evt).block = blk := evtTurn_block s.evt
  obtain ⟨u, take, log, full, freeze, next, series⟩ := State.takeSeq_own own
  rw [block] at take next series
  refine ⟨fun room short => ?_, fun filled => ?_⟩
  · have stored : r = u.storeAt { s.mkRec code p1 p2 p3 false with seq := n } := by
      simp [r, State.record, State.release, own, live, room, Nat.not_le.mpr short, take, full, freeze, n]
    rw [stored, State.storeAt_evt]
    exact ⟨by rw [log], next, series⟩
  · have counted : r = u.overflowed := by
      simp [r, State.record, State.release, own, live, filled, take, full, freeze]
    rw [counted]
    exact log

end Sys2Proof.Machine
end

section
/-!
SUPPORT. Commands and registers: what a command of a free page does, its word, what raising an event and storing a record leave of the other registers.
-/
namespace Sys2Proof.Machine

/-! Command words without further fields -/

@[simp] theorem cmdWord_plain_op {op : Nat} (tag : Nat) (h : op < 16) : (cmdWord op tag 0).fld 0 4 = op := cmdWord_op op tag 0 h rfl

@[simp] theorem cmdWord_plain_tag {op : Nat} (tag : Nat) (h : op < 16) : (cmdWord op tag 0).fld 8 8 = tag % 256 :=
  cmdWord_tag op tag 0 (by omega)

/-! What an accepted write leaves as it was -/

section
variable (s : State) (t : Nat) (x : Session) (p : Page) (i o : Nat)
@[simp] theorem State.counted_variant : (s.counted t x p i o).variant = s.variant := by simp only [State.counted, State.notePend]; split <;> rfl
@[simp] theorem State.counted_md : (s.counted t x p i o).md = s.md := by simp only [State.counted, State.notePend]; split <;> rfl
@[simp] theorem State.counted_upd : (s.counted t x p i o).upd = s.upd := by simp only [State.counted, State.notePend]; split <;> rfl
@[simp] theorem State.counted_keys : (s.counted t x p i o).keys = s.keys := by simp only [State.counted, State.notePend]; split <;> rfl
@[simp] theorem State.counted_pwr : (s.counted t x p i o).pwr = s.pwr := by simp only [State.counted, State.notePend]; split <;> rfl
@[simp] theorem State.counted_slv : (s.counted t x p i o).slv = s.slv := by simp only [State.counted, State.notePend]; split <;> rfl
@[simp] theorem State.counted_evt : (s.counted t x p i o).evt = s.evt := by simp only [State.counted, State.notePend]; split <;> rfl
@[simp] theorem State.counted_prg : (s.counted t x p i o).prg = s.prg := by simp only [State.counted, State.notePend]; split <;> rfl
@[simp] theorem State.counted_can : (s.counted t x p i o).can = s.can := by simp only [State.counted, State.notePend]; split <;> rfl
@[simp] theorem State.counted_fld : (s.counted t x p i o).fld = s.fld := by simp only [State.counted, State.notePend]; split <;> rfl
@[simp] theorem State.counted_safe : (s.counted t x p i o).safe = s.safe := by simp only [State.counted, State.notePend]; split <;> rfl
@[simp] theorem State.counted_mtr : (s.counted t x p i o).mtr = s.mtr := by simp only [State.counted, State.notePend]; split <;> rfl
@[simp] theorem State.counted_net : (s.counted t x p i o).net = s.net := by simp only [State.counted, State.notePend]; split <;> rfl
@[simp] theorem State.counted_pair : (s.counted t x p i o).pair = s.pair := by simp only [State.counted, State.notePend]; split <;> rfl
@[simp] theorem State.counted_prof : (s.counted t x p i o).prof = s.prof := by simp only [State.counted, State.notePend]; split <;> rfl
@[simp] theorem State.counted_panel : (s.counted t x p i o).panel = s.panel := by simp only [State.counted, State.notePend]; split <;> rfl
@[simp] theorem State.counted_time : (s.counted t x p i o).time = s.time := by simp only [State.counted, State.notePend]; split <;> rfl
@[simp] theorem State.counted_rtc : (s.counted t x p i o).rtc = s.rtc := by simp only [State.counted, State.notePend]; split <;> rfl
@[simp] theorem State.counted_eth : (s.counted t x p i o).eth = s.eth := by simp only [State.counted, State.notePend]; split <;> rfl
@[simp] theorem State.counted_mem : (s.counted t x p i o).mem = s.mem := by simp only [State.counted, State.notePend]; split <;> rfl
@[simp] theorem State.counted_free : (s.counted t x p i o).free = s.free := by simp only [State.counted, State.notePend]; split <;> rfl
@[simp] theorem State.counted_now : (s.counted t x p i o).now = max s.now t := by simp only [State.counted, State.notePend]; split <;> rfl
@[simp] theorem State.counted_pending : (s.counted t x p i o).pending = s.pending := by simp only [State.counted, State.notePend]; split <;> rfl
@[simp] theorem State.counted_edge : (s.counted t x p i o).edge = (s.begin t).edge := by simp only [State.counted, State.notePend]; split <;> rfl
@[simp] theorem State.counted_lp : (s.counted t x p i o).lp = (s.begin t).lp := by simp only [State.counted, State.notePend]; split <;> rfl
end

/-! Commands -/

/-- A command that may act at once: what its page makes of it settles. -/
theorem next_command {s u : State} {t slot : Nat} {x : Session} {need : Priv} {p : Page} {i o : Nat} (v : Word) (h : s.MayCommand slot x need p i)
    (hn : need.ge (lowestPriv p) = true) (ho : cmdOff p = some o) (hf : p = .force → commMaint s.md.mode = true)
    (act : (s.counted t x p i o).takeCmd p i ⟨v, slot, x.priv, max s.now t, (s.counted t x p i o).cmdArgs p⟩ = u) :
    occurs t (fun s => s.hostWrite slot (p.reg i o) v) s = .next (s.settled u) :=
  next_settled ((State.hostWrite_cmd v h hn ho hf).trans act)

/-- A write that may act at once and that its register does not refuse. -/
theorem next_write {s u : State} {t slot : Nat} {x : Session} {p : Page} {i o : Nat} {d : RegDef} (v : Word) (h : s.MayWrite slot x p i o d)
    (act : (s.counted t x p i o).effect x ⟨p, i, o⟩ d v = (.ok, u)) :
    occurs t (fun s => s.hostWrite slot (p.reg i o) v) s = .next (s.settled u) :=
  next_settled ((State.hostWrite_may v h).trans (by rw [act]))

/-- A write that may act at once and that its register refuses (R34, R48). -/
theorem next_refused {s u : State} {t slot : Nat} {x : Session} {p : Page} {i o : Nat} {d : RegDef} {e : Err} (v : Word) (h : s.MayWrite slot x p i o d)
    (act : (s.counted t x p i o).effect x ⟨p, i, o⟩ d v = (e, u)) (he : e ≠ .ok) :
    occurs t (fun s => s.hostWrite slot (p.reg i o) v) s = .next (s.settled (((s.begin t).touch slot).refuse p i e)) := by
  refine next_settled ((State.hostWrite_may v h).trans ?_)
  rw [act]
  cases e with
  | ok => exact absurd rfl he
  | _ => rfl

end Sys2Proof.Machine
end

section
/-!
SUPPORT. TIME.CMD and RTC.CMD (R395, R400, R409, R413, R418).
-/
namespace Sys2Proof.Machine

/-! TIME.CMD -/

/-- A TIME.CMD of a free page executes at once (R400). -/
theorem next_timeCmd {s : State} {t slot tag op : Nat} {x : Session} (h : s.MayCommand slot x .service .time 0) :
    occurs t (fun s => s.hostWrite slot (Page.reg .time 0 Off.TIME_CMD) (cmdWord op tag 0)) s =
      .next (s.settled ((s.counted t x .time 0 Off.TIME_CMD).execTimeCmd ⟨cmdWord op tag 0, slot, x.priv, max s.now t, []⟩)) :=
  next_command _ h rfl rfl nofun (by simp only [State.takeCmd, h.noReset, Bool.false_and, Bool.false_eq_true, if_false, State.cmdArgs])

theorem State.execTimeCmd_setTime {s : State} {tag slot since : Nat} {priv : Priv} {args : List Word} (hp : priv.ge .service = true) :
    s.execTimeCmd ⟨cmdWord 1 tag 0, slot, priv, since, args⟩ = s.setTime.2.complete .time 0 Off.TIME_CMD_STAT s.setTime.1 tag := by
  simp [State.execTimeCmd, hp, State.complete_mod]

theorem State.execTimeCmd_acceptStep {s : State} {tag slot since : Nat} {priv : Priv} {args : List Word} (hp : priv.ge .service = true) :
    s.execTimeCmd ⟨cmdWord 2 tag 0, slot, priv, since, args⟩ = s.acceptStep.2.complete .time 0 Off.TIME_CMD_STAT s.acceptStep.1 tag := by
  simp [State.execTimeCmd, hp, State.complete_mod]

/-- SET_TIME while CMP runs, in FREE, with nanoseconds below a second (R400). -/
theorem State.setTime_free {s : State} (cmp : s.md.pstate.cmp = true) (free : s.time.st = .free) (ns : (s.rdp .time 0 Off.TIME_SET_NS).toNat ≤ 999999999) :
    s.setTime = (.ok, s.hostSet (((if (s.rdp .time 0 Off.TIME_SET_S).toNat < 946684800 then (s.rdp .time 0 Off.TIME_SET_S).toNat + 2 ^ 32
      else (s.rdp .time 0 Off.TIME_SET_S).toNat) * sec + (s.rdp .time 0 Off.TIME_SET_NS).toNat : Nat) : Int) true) := by
  simp only [State.setTime, cmp, free, bne_self_eq_false, gt_iff_lt, Nat.not_lt.mpr ns, Bool.not_true, Bool.false_eq_true, if_false]

/-- ACCEPT_STEP in JUMP_HOLD with JUMP_N samples at hand (R395). -/
theorem State.acceptStep_jumpHold {s : State} (hold : s.time.st = .jumpHold) (enough : s.jumpN ≤ s.time.recent.length) :
    s.acceptStep = (.ok, ((({ s with time := { s.time with st := .locked, jump := false, run := 0, refused := [] } } : State).stepBy 3
      (medianInt (s.time.recent.take s.jumpN))).refreshValid)) := by
  have taken : (s.time.st != .jumpHold || decide (s.time.recent.length < s.jumpN)) = false := by simp [hold, enough]
  simp only [State.acceptStep, taken, Bool.false_eq_true, if_false]

/-! RTC.CMD -/

/-- An RTC.CMD of a free page executes at once (R418). -/
theorem next_rtcCmd {s : State} {t slot tag op : Nat} {x : Session} {need : Priv} (h : s.MayCommand slot x need .rtc 0) (hn : need.ge .operate = true) :
    occurs t (fun s => s.hostWrite slot (Page.reg .rtc 0 Off.RTC_CMD) (cmdWord op tag 0)) s =
      .next (s.settled ((s.counted t x .rtc 0 Off.RTC_CMD).execRtcCmd ⟨cmdWord op tag 0, slot, x.priv, max s.now t, []⟩)) :=
  next_command _ h hn rfl nofun (by simp only [State.takeCmd, h.noReset, Bool.false_and, Bool.false_eq_true, if_false, State.cmdArgs])

section
variable {s : State} {tag slot since : Nat} {priv : Priv} {args : List Word}

theorem State.execRtcCmd_setCal :
    s.execRtcCmd ⟨cmdWord 1 tag 0, slot, priv, since, args⟩ = (s.setCal priv).2.complete .rtc 0 Off.RTC_CMD_STAT (s.setCal priv).1 tag := by
  simp [State.execRtcCmd, State.complete_mod]

theorem State.execRtcCmd_armAlm (hp : priv.ge .operate = true) :
    s.execRtcCmd ⟨cmdWord 2 tag 0, slot, priv, since, args⟩ = s.armAlm.2.complete .rtc 0 Off.RTC_CMD_STAT s.armAlm.1 tag := by
  simp [State.execRtcCmd, hp, State.complete_mod]

theorem State.execRtcCmd_disarm (hp : priv.ge .operate = true) :
    s.execRtcCmd ⟨cmdWord 3 tag 0, slot, priv, since, args⟩ = (s.wrp .rtc 0 Off.RTC_ALM_CTRL 0).complete .rtc 0 Off.RTC_CMD_STAT .ok tag := by
  simp [State.execRtcCmd, hp, State.complete_mod]

theorem State.execRtcCmd_stampClr (hp : priv.ge .operate = true) :
    s.execRtcCmd ⟨cmdWord 4 tag 0, slot, priv, since, args⟩ = (s.rtcFlag 6 false).complete .rtc 0 Off.RTC_CMD_STAT .ok tag := by
  simp [State.execRtcCmd, hp, State.complete_mod]

theorem State.execRtcCmd_release (hp : priv.ge .operate = true) (on : s.rtc.pwrReq.isSome = true) :
    s.execRtcCmd ⟨cmdWord 5 tag 0, slot, priv, since, args⟩ =
      ({ s with rtc := { s.rtc with pwrReq := none } } : State).complete .rtc 0 Off.RTC_CMD_STAT .ok tag := by
  simp [State.execRtcCmd, hp, on, State.complete_mod]

end

/-- SET_CAL of a possible date in FREE (R409). -/
theorem State.setCal_free {s : State} {priv : Priv} {ns : Int} (hp : priv.ge .service = true) (hm : commMaint s.md.mode = true) (free : s.time.st = .free)
    (date : dateOk (s.rdp .rtc 0 Off.RTC_SET_DATE) (s.rdp .rtc 0 Off.RTC_SET_TIME) = some ns) :
    s.setCal priv = (.ok, (s.adjustCal s.calNs ns 1).hostSet ns false) := by
  rw [commMaint] at hm
  simp only [State.setCal, hp, hm, free, date, bne_self_eq_false, Bool.not_true, Bool.false_eq_true, if_false]

/-- ARM_ALM for a time ahead (R413). -/
theorem State.armAlm_ahead {s : State} {ns : Int} (date : dateOk (s.rdp .rtc 0 Off.RTC_ALM_DATE) (s.rdp .rtc 0 Off.RTC_ALM_TIME) = some ns)
    (ahead : s.calNs < ns) : s.armAlm = (.ok, s.wrp .rtc 0 Off.RTC_ALM_CTRL 1) := by
  simp only [State.armAlm, date, if_neg (Int.not_le.mpr ahead)]

/-- Settles O14: each command executes at once on what its write counted. -/
theorem timeAndCalendarCommandsAct : Obligations.TimeAndCalendarCommandsAct := by
  intro s t slot tag x
  refine ⟨fun h => ?_, fun h hm free => ?_, fun h => ?_⟩
  · intro b ns ss
    refine ⟨fun free hns => (next_timeCmd h).trans ?_, fun hold enough => (next_timeCmd h).trans ?_⟩
    · rw [State.execTimeCmd_setTime h.priv, State.setTime_free (by simpa [b] using h.cmp) (by simpa [b] using free) hns]
    · have enough' : b.jumpN ≤ b.time.recent.length := by simpa [b, State.jumpN] using enough
      rw [State.execTimeCmd_acceptStep h.priv, State.acceptStep_jumpHold (by simpa [b] using hold) enough']
      simp only [b, State.jumpN, State.counted_time]
  · intro b ns date
    refine (next_rtcCmd h rfl).trans ?_
    rw [State.execRtcCmd_setCal, State.setCal_free h.priv (by simpa [b] using hm) (by simpa [b] using free) date]
  · intro b done
    refine ⟨fun ns date ahead => (next_rtcCmd h rfl).trans ?_, (next_rtcCmd h rfl).trans ?_, (next_rtcCmd h rfl).trans ?_,
      fun on => (next_rtcCmd h rfl).trans ?_⟩
    · rw [State.execRtcCmd_armAlm h.priv, State.armAlm_ahead date ahead]
    · rw [State.execRtcCmd_disarm h.priv]
    · rw [State.execRtcCmd_stampClr h.priv]
    · rw [State.execRtcCmd_release h.priv (by simpa using on)]

end Sys2Proof.Machine
end

section
/-!
SUPPORT. Events of the time base (R388–R396): validity, master selection, the samples of QUALIFYING and LOCKED.
-/
namespace Sys2Proof.Machine

/-! Validity (R390) -/

/-- HOLD_MIN minutes after the last sample used, the time base is valid no longer (R390). -/
theorem State.refreshValid_expired {s : State} {u : Nat} (valid : s.time.valid = true) (hold : s.time.st = .holdover ∨ s.time.st = .jumpHold)
    (last : s.time.servoAt = some u) (over_ : u + (s.rdp .time 0 Off.TIME_HOLD_MIN).fld 0 11 * 60 * sec < s.now) :
    s.refreshValid = ({ s with time := { s.time with valid := false } } : State).irq .time 0 4 := by
  have invalid : s.timeValid = false := by
    unfold State.timeValid
    rcases hold with h | h <;> simp only [h, last, decide_eq_false (Nat.not_le.mpr over_)]
  simp only [State.refreshValid, invalid, valid, beq_iff_eq, Bool.false_eq_true, if_false]

/-! Masters (R388, R390) -/

/-- Reselection with one live, qualified master selects it. -/
theorem State.reselect_single {s : State} {m : Master} (one : s.time.masters = [m]) (live : s.now < m.last + 3 * s.announceNs) (count : 2 ≤ m.count) :
    s.reselect = s.selectMaster m := by
  have lives : s.liveMasters = [m] := by simp [State.liveMasters, one, live]
  have best : bestMaster [m] = some m := by simp [bestMaster, count, betterMaster]
  have same : ({ s with time := { s.time with masters := [m] } } : State) = s := by rw [← one]
  simp only [State.reselect, lives, best]
  rw [same]

/-- The second announce within four intervals qualifies the only master (R388). -/
theorem State.ptpAnnounce_second {s : State} {m : Master} {u : Nat} (runs : s.ptpRuns = true) (leg : m.leg < 2)
    (known : s.time.masters = [{ m with last := u, count := 1 }]) (soon : s.now ≤ u + 4 * s.announceNs) (live : s.now < s.now + 3 * s.announceNs) :
    s.ptpAnnounce (s.time.cfg.fld 8 8) m =
      ({ s with time := { s.time with masters := [{ m with last := s.now, count := 2 }] } } : State).selectMaster { m with last := s.now, count := 2 } := by
  have enters : s.ptpAnnounce (s.time.cfg.fld 8 8) m =
      ({ s with time := { s.time with masters := [{ m with last := s.now, count := 2 }] } } : State).reselect := by
    simp [State.ptpAnnounce, known, soon, runs, leg, Nat.not_le.mpr leg]
  rw [enters]
  exact State.reselect_single rfl live (Nat.le_refl 2)

/-- Without a live master LOCKED becomes HOLDOVER (R390). -/
theorem State.reselect_lost {s : State} (gone : ∀ m ∈ s.time.masters, m.last + 3 * s.announceNs ≤ s.now) (sel : s.time.sel.isSome = true)
    (locked : s.time.st = .locked) :
    s.reselect = ({ s with time := { s.time with
      masters := [], sel := none, samples := [], refused := [], recent := [], run := 0, st := .holdover } } : State).refreshValid := by
  have none_ : s.liveMasters = [] := by
    simp only [State.liveMasters, List.filter_eq_nil_iff, decide_eq_true_eq]
    exact fun m hm => Nat.not_lt.mpr (gone m hm)
  simp only [State.reselect, none_, bestMaster, List.filter_nil, List.foldl_nil, sel, if_true, State.loseMaster, locked]

/-! Samples of the selected master (R391–R393) -/

/-- A sample of the selected master is shown, then judged by the state of the time base. -/
theorem State.ptpSample_qualifying {s : State} {leg : Nat} {id : Word64} (off : Int) (rx tx : Nat) (runs : s.ptpRuns = true) (hleg : leg < 2)
    (sel : s.time.sel = some (leg, id)) (st : s.time.st = .qualifying) : s.ptpSample leg id off rx tx = (s.ptpShown leg off rx tx).qualSample off := by
  have taken : (!s.ptpRuns || decide (2 ≤ leg)) = false := by simp [runs, hleg]
  have sent : (if s.rdp .eth leg Off.ETH_TS_TX_NS32 = s.stamp32 tx then s else s.emit (.ptp leg)) = s.ptpLegSent leg tx := rfl
  have selected : (s.time.sel != some (leg, id)) = false := by simp [sel]
  simp only [State.ptpSample, State.ptpShown, taken, sent, selected, st, State.wrp_time, State.ptpLegSent_time, State.ptpLegSent_stamp32,
    Bool.false_eq_true, if_false]

theorem State.ptpSample_locked {s : State} {leg : Nat} {id : Word64} (off : Int) (rx tx : Nat) (runs : s.ptpRuns = true) (hleg : leg < 2)
    (sel : s.time.sel = some (leg, id)) (st : s.time.st = .locked) : s.ptpSample leg id off rx tx = (s.ptpShown leg off rx tx).servoSample off := by
  have taken : (!s.ptpRuns || decide (2 ≤ leg)) = false := by simp [runs, hleg]
  have sent : (if s.rdp .eth leg Off.ETH_TS_TX_NS32 = s.stamp32 tx then s else s.emit (.ptp leg)) = s.ptpLegSent leg tx := rfl
  have selected : (s.time.sel != some (leg, id)) = false := by simp [sel]
  simp only [State.ptpSample, State.ptpShown, taken, sent, selected, st, State.wrp_time, State.ptpLegSent_time, State.ptpLegSent_stamp32,
    Bool.false_eq_true, if_false]

/-- A state with other recent samples. -/
def State.withRecent (s : State) (rs : List Int) : State := { s with time := { s.time with recent := rs } }

section
variable {s : State} {rs : List Int} {off : Int}

/-- The sample that completes the agreement steps the time base by the median and locks it (R391). -/
theorem State.qualSample_completes (agreed : agree (off :: s.time.samples) = true) (full : s.qualN = s.time.samples.length + 1) :
    (s.withRecent rs).qualSample off = ((({ s with time := { s.time with
      recent := rs, samples := [], refused := [], run := 0, stepped := true, st := .locked, servoAt := some s.now } } : State).stepBy 2
        (medianInt (off :: s.time.samples))).refreshValid) := by
  have consistent : ¬ (!agree (off :: s.time.samples)) = true := by simp [agreed]
  have enough : ¬ (off :: s.time.samples).length < s.qualN := by simp [full]
  exact (if_neg consistent).trans (if_neg enough)

/-- A sample within JUMP_US disciplines the rate (R392). -/
theorem State.servoSample_within (near : off.natAbs ≤ s.jumpNs) :
    (s.withRecent rs).servoSample off = (({ s with time := { s.time with
      recent := rs, refused := [], st := .locked, jump := false, servoAt := some s.now } } : State).disciplineRate).refreshValid :=
  if_neg (Nat.not_lt.mpr near)

/-- The sample beyond JUMP_US that completes JUMP_N refusals brings JUMP_HOLD about (R393). -/
theorem State.servoSample_jumps (far : s.jumpNs < off.natAbs) (full : s.jumpN = s.time.refused.length + 1) :
    (s.withRecent rs).servoSample off =
      ({ (s.satp .time 0 Off.TIME_OUTLIERS) with time := { s.time with recent := rs, refused := off :: s.time.refused } } : State).enterJumpHold :=
  (if_pos far).trans (if_pos (Nat.le_of_eq full))

end

/-- Settles O15: expiry, announces and their loss each meet one case of the selection; a sample is shown and then judged in its state. -/
theorem timeBaseEventsAct : Obligations.TimeBaseEventsAct := by
  intro s t b
  refine ⟨fun u valid hold last past => next_settled (State.refreshValid_expired valid hold last past),
    fun m u runs leg known soon live => next_settled (State.ptpAnnounce_second runs leg known soon live),
    fun gone sel locked => next_settled (State.reselect_lost gone sel locked), ?_⟩
  intro leg rx tx id off runs hleg sel e c rs
  have shown : b.ptpShown leg off rx tx = c.withRecent rs := rfl
  have sent : e = b.ptpLegSent leg tx := rfl
  have time : c.time = b.time := by simp only [c, State.wrp_time, sent, State.ptpLegSent_time]
  have now : c.now = b.now := by simp only [c, State.wrp_now, sent, State.ptpLegSent_now]
  have samples : c.time.samples = b.time.samples := by rw [time]
  have refused : c.time.refused = b.time.refused := by rw [time]
  rw [← now, ← samples, ← refused]
  refine ⟨fun st full agreed => next_settled ((State.ptpSample_qualifying off rx tx runs hleg sel st).trans ?_),
    fun st near => next_settled ((State.ptpSample_locked off rx tx runs hleg sel st).trans ?_),
    fun st far full => next_settled ((State.ptpSample_locked off rx tx runs hleg sel st).trans ?_)⟩
  · have full' : c.qualN = c.time.samples.length + 1 := by rw [← full, State.qualN, State.qualN, time]
    rw [shown, State.qualSample_completes agreed full']
  · rw [shown, State.servoSample_within near]
  · have full' : c.jumpN = c.time.refused.length + 1 := by rw [← full, State.jumpN, State.jumpN, time]
    rw [shown, State.servoSample_jumps far full']

end Sys2Proof.Machine
end

section
/-!
SUPPORT. What raising an event and storing a record leave of the other registers (R31, R518, R519).
-/
namespace Sys2Proof.Machine

/-- Raising an event changes PAGE_IRQ of its page alone. -/
theorem State.irq_rd (s : State) (p : Page) (i b a : Nat) (h : a ≠ p.reg i Off.PAGE_IRQ) : (s.irq p i b).rd a = s.rd a := by
  simp only [State.irq, State.riseIf]
  split
  · split <;> exact s.rd_wr_ne _ a _ h
  · rfl

/-- Register `a` does not stand on the EVT page. -/
def offLog (a : Nat) : Prop := ∀ o, o < 0x1000 → a ≠ Page.evt.reg 0 o

theorem offLog_reg {p : Page} {o : Nat} (other : p.base0 ≠ Page.evt.base0) (ho : o < 0x1000) : offLog (p.reg 0 o) := by
  intro o' ho'
  have here := page_base0 p
  have there := page_base0 .evt
  simp only [Page.reg, Page.base]
  omega

theorem State.storeAt_rd {a : Nat} (h : offLog a) (s : State) (r : Snag) : (s.storeAt r).rd a = s.rd a :=
  State.irq_rd _ _ _ _ _ (h _ (by decide))

theorem State.pl1Send_rd (s : State) (f : Pl1Out) (a : Nat) : (s.pl1Send f).rd a = s.rd a := by
  unfold State.pl1Send
  split <;> rfl

theorem State.takeSeq_rd {s u : State} {n : Nat} (h : s.takeSeq = some (n, u)) (a : Nat) : u.rd a = s.rd a := by
  simp only [State.takeSeq] at h
  split at h
  · cases h
  · split at h
    · cases h
      rfl
    · split at h
      · cases h
        exact State.pl1Send_rd _ _ a
      · cases h

theorem State.fillLog_rd {a : Nat} (h : offLog a) (s : State) (r : Snag) : (s.fillLog r).rd a = s.rd a := by
  simp only [State.fillLog]
  split
  · rfl
  · next n u take =>
    rw [State.irq_rd _ _ _ _ _ (h _ (by decide)), ← State.takeSeq_rd take a]
    exact State.storeAt_rd h u _

/-- Storing a record changes registers of the EVT page alone. -/
theorem State.release_rd {a : Nat} (h : offLog a) (s : State) (r : Snag) : (s.release r).rd a = s.rd a := by
  have counts : ∀ (u : State) (o n : Nat), o < 0x1000 → (u.satp .evt 0 o n).rd a = u.rd a := fun u o n ho => u.rd_wr_ne _ a _ (h o ho)
  simp only [State.release]
  split
  · split
    · rfl
    · exact counts s _ _ (by decide)
  · have filled : (if (s.evt.freeze.isNone && !s.evt.full && decide (s.evt.log.length ≥ evtSlots)) = true then s.fillLog r else s).rd a = s.rd a := by
      split
      · exact State.fillLog_rd h s r
      · rfl
    generalize (if (s.evt.freeze.isNone && !s.evt.full && decide (s.evt.log.length ≥ evtSlots)) = true then s.fillLog r else s) = v at *
    split
    · exact filled
    · next n u take =>
      rw [← filled, ← State.takeSeq_rd take a]
      split
      · split
        · rfl
        · exact counts u _ _ (by decide)
      · split
        · exact counts u _ _ (by decide)
        · exact State.storeAt_rd h u _

theorem State.record_rd {a : Nat} (h : offLog a) (s : State) (code : Nat) (p1 p2 p3 : Word) (g : Bool) : (s.record code p1 p2 p3 g).rd a = s.rd a :=
  State.release_rd h s _

end Sys2Proof.Machine
end

section
/-!
SUPPORT. Events of the backup domain (R402–R416).
-/
namespace Sys2Proof.Machine

/-- The periodic adjustment of a calendar that has not been adjusted yet and is off by more than 2 ms (R410). -/
theorem State.rtcSync_adjusts {s : State} {cal : Int} (valid : s.time.valid = true) (counting : s.rtc.atEnd = false) (first : s.rtc.syncAt = none)
    (apart : 2 * ms < (s.now + s.time.ofs - min calEnd cal).natAbs) :
    s.rtcSync cal = ({ s with rtc := { s.rtc with ofs := cal - s.now } } : State).adjustCal
      ({ s with rtc := { s.rtc with ofs := cal - s.now } } : State).calNs (s.now + s.time.ofs) 3 := by
  have shows_ : ({ s with rtc := { s.rtc with ofs := cal - s.now } } : State).calNs = min calEnd cal := by
    have sum : (s.now : Int) + (cal - s.now) = cal := by omega
    simp only [State.calNs, counting, Bool.false_eq_true, if_false, sum]
  have due : (s.time.valid && true && decide ((s.now + s.time.ofs -
      ({ s with rtc := { s.rtc with ofs := cal - s.now } } : State).calNs).natAbs > 2 * ms)) = true := by
    rw [shows_]
    simp [valid, apart]
  have ofs : (if s.rtc.atEnd then s.rtc.ofs else cal - s.now) = cal - s.now := by simp [counting]
  unfold State.rtcSync
  rw [ofs, first]
  exact if_pos due

/-- A correction within its range is loaded as measured (R411). -/
theorem State.rtcTrim_locked {s : State} {steps : Int} (locked : s.time.st = .locked) (low : -512 ≤ steps) (high : steps ≤ 511) :
    s.rtcTrim steps = s.wrp .rtc 0 Off.RTC_TRIM ((0 : Word).put 0 10 (steps % 1024).toNat) := by
  have within : clampI (-512) 511 steps = steps := by unfold clampI; omega
  simp only [State.rtcTrim, locked, beq_self_eq_true, if_true, within]

theorem State.vbkMeasure_enough {s : State} {mv : Nat} (h : 2200 ≤ mv) : s.vbkMeasure mv = { s with rtc := { s.rtc with vbk := mv } } :=
  if_neg (Nat.not_lt.mpr h)

theorem State.vbkMeasure_low {s : State} {mv : Nat} (h : mv < 2200) :
    s.vbkMeasure mv = (({ s with rtc := { s.rtc with vbk := mv } } : State).rtcFlag 1 true).irq .rtc 0 4 :=
  if_pos h

theorem State.bkpExhausted_p4 {s : State} (h : s.md.pstate = .p4) :
    s.bkpExhausted = { (((s.wrp .rtc 0 Off.RTC_ALM_CTRL 0).wrp .rtc 0 Off.RTC_ALM_DATE 0).wrp .rtc 0 Off.RTC_ALM_TIME 0) with
      rtc := { s.rtc with lost := true, cd := none, pwrReq := none, stampOn := false }
      keys := { s.keys with slots := List.replicate 64 none } } :=
  if_pos (by simp [h])

/-- Flags and events of the RTC page leave the registers of other pages alone. -/
theorem State.rtcFlag_rd {s : State} {i a : Nat} (h : a ≠ Page.rtc.reg 0 Off.RTC_FLAGS) (b : Bool) : (s.rtcFlag i b).rd a = s.rd a := by
  cases b <;> exact s.rd_wr_ne _ a _ h

/-- A wake source that MODE.WAKE_SRC does not arm does not count. -/
theorem State.noteWake_unarmed {s : State} {b : Nat} (h : (s.rdp .mode 0 Off.MODE_WAKE_SRC).bit b = false) : s.noteWake b = s := by
  simp only [State.noteWake, h, Bool.false_and, Bool.false_eq_true, if_false]

/-- The countdown's end where it neither wakes nor drives PWR_REQ (R412). -/
theorem State.cdExpiry_plain {s : State} {c : Countdown} (runs : s.rtc.cd = some c) (reached : c.at_ + c.n * sec / 64 ≤ s.now)
    (unarmed : (s.rdp .mode 0 Off.MODE_WAKE_SRC).bit 1 = false) (off_ : (s.rdp .rtc 0 Off.RTC_PWRREQ_CFG).bit 0 = false) :
    s.cdExpiry = ((({ s with rtc := { s.rtc with cd := none } } : State).rtcFlag 5 true).irq .rtc 0 3).record 0x0A09 0 0
      (((({ s with rtc := { s.rtc with cd := none } } : State).rtcFlag 5 true).irq .rtc 0 3).rdp .rtc 0 Off.RTC_FLAGS) := by
  have past : ¬ s.now < cdEnd c := Nat.not_lt.mpr reached
  simp only [State.cdExpiry, runs, if_neg past]
  generalize hu : (({ s with rtc := { s.rtc with cd := none } } : State).rtcFlag 5 true).irq .rtc 0 3 = u
  have keeps : ∀ a, offLog a → a ≠ Page.rtc.reg 0 Off.PAGE_IRQ → a ≠ Page.rtc.reg 0 Off.RTC_FLAGS →
      (u.record 0x0A09 0 0 (u.rdp .rtc 0 Off.RTC_FLAGS)).rd a = s.rd a := by
    intro a h1 h2 h3
    rw [State.record_rd h1, ← hu, State.irq_rd _ _ _ _ _ h2, State.rtcFlag_rd h3]
    rfl
  have wake : ((u.record 0x0A09 0 0 (u.rdp .rtc 0 Off.RTC_FLAGS)).rdp .mode 0 Off.MODE_WAKE_SRC).bit 1 = false := by
    rw [State.rdp, keeps _ (offLog_reg (by decide) (by decide)) (by decide) (by decide)]
    exact unarmed
  have drive : ((u.record 0x0A09 0 0 (u.rdp .rtc 0 Off.RTC_FLAGS)).rdp .rtc 0 Off.RTC_PWRREQ_CFG).bit 0 = false := by
    rw [State.rdp, keeps _ (offLog_reg (by decide) (by decide)) (by decide) (by decide)]
    exact off_
  rw [State.noteWake_unarmed wake, drive]
  simp only [Bool.false_eq_true, if_false]

/-- The alarm of a calendar that counts fires when its time has come (R414). -/
theorem State.alarmReached_fires {s : State} {a : Int} (armed : s.alarmNs = some a) (reached : a ≤ s.calNs) (kept : s.rtc.lost = false)
    (counting : s.rtc.atEnd = false) : s.alarmReached = s.fireAlarm false := by
  simp only [State.alarmReached, armed, reached, kept, counting, Bool.not_false, decide_true, Bool.and_self, if_true]

/-- A pulse of PWR_REQ ends after PULSE_S seconds (R415). -/
theorem State.pulseEnd_over {s : State} {u : Nat} (on : s.rtc.pwrReq = some u) (pulse : (s.rdp .rtc 0 Off.RTC_PWRREQ_CFG).bit 2 = false)
    (past : u + (s.rdp .rtc 0 Off.RTC_PWRREQ_CFG).fld 16 8 * sec ≤ s.now) :
    s.pulseEnd = { s with rtc := { s.rtc with pwrReq := none } } := by
  simp only [State.pulseEnd, on, pulse, past, Bool.not_false, decide_true, Bool.and_self, if_true]

/-- Settles O16. -/
theorem backupDomainEventsAct : Obligations.BackupDomainEventsAct := by
  intro s t b
  exact ⟨fun cal valid counting first apart => next_settled (State.rtcSync_adjusts valid counting first apart),
    fun steps locked low high => next_settled (State.rtcTrim_locked locked low high),
    fun mv enough => next_settled (State.vbkMeasure_enough enough),
    fun mv low => next_settled (State.vbkMeasure_low low),
    fun p4 => next_settled (State.bkpExhausted_p4 p4),
    fun c runs reached unarmed off_ => next_settled (State.cdExpiry_plain runs reached unarmed off_),
    fun a armed reached kept counting => next_settled (State.alarmReached_fires armed reached kept counting),
    fun counting reached => next_settled (State.calendarEnd_reached counting reached),
    fun u on pulse past => next_settled (State.pulseEnd_over on pulse past)⟩

end Sys2Proof.Machine
end

section
/-!
SUPPORT. Events of the Ethernet ports (R382–R386).
-/
namespace Sys2Proof.Machine

section
variable {s : State}

/-- A frame accepted counts and shows its port alive, before PRP and the port's role judge it (R382). -/
def State.ethHeard (s : State) (p : Nat) : State := (s.modp .eth p Off.ETH_RX_OK).updPort p fun x => { x with lastRx := some s.now }

/-- On a port that PRP does not serve a good frame goes to the port's role (R382). -/
theorem State.ethRx_plain {p : Nat} {f : EthFrame} (cmp : s.md.pstate.cmp = true) (hp : 2 ≤ p) (link : (s.port p).link = true) (good : f.good = true) :
    s.ethRx p f = (s.ethHeard p).ethRole p f := by
  have plain : ¬ p < 2 := Nat.not_lt.mpr hp
  simp only [State.ethRx, cmp, link, good, plain, Bool.not_true, Bool.or_self, Bool.false_eq_true, if_false]
  rfl

theorem State.ethAnswer_arp {p : Nat} {a : Word} (owns : s.ownsAddr p a = true) : s.ethAnswer p (.arp a) = s.emit (.arp p a) := by
  unfold State.ethAnswer
  exact if_pos owns

/-- The controller answers for an address of its own (R382, R383). -/
theorem State.ethRole_arp {p mac : Nat} {a : Word} (owns : s.ownsAddr p a = true) : s.ethRole p ⟨.arp a, true, false, mac, none⟩ = s.emit (.arp p a) := by
  have other : (EthKind.arp a == .dra) = false := rfl
  have role : s.roleOk p (.arp a) = true := rfl
  have tag : ¬ (false && !(decide (p < 2) && decide (s.ptpProfile = 2))) = true := Bool.false_ne_true
  have dra : ¬ (decide (p < 2) && (EthKind.arp a == .dra)) = true := by simp [other]
  have served : ¬ (!s.roleOk p (.arp a)) = true := by simp [role]
  rw [State.ethRole, if_neg tag, if_neg dra, if_neg served]
  exact State.ethAnswer_arp owns

theorem State.ethHeard_ownsAddr {p : Nat} (hp : 2 ≤ p) (a : Word) : (s.ethHeard p).ownsAddr p a = s.ownsAddr p a := by
  have plain : decide (p < 2) = false := decide_eq_false (Nat.not_lt.mpr hp)
  simp only [State.ownsAddr, plain, Bool.false_and, Bool.or_false]
  rfl

/-- A frame in error counts alone (R382). -/
theorem State.ethRx_bad {p : Nat} {f : EthFrame} (cmp : s.md.pstate.cmp = true) (link : (s.port p).link = true) (bad : f.good = false) :
    s.ethRx p f = s.satp .eth p Off.ETH_RX_ERR := by
  have served : ¬ (!s.md.pstate.cmp || !(s.port p).link) = true := by simp [cmp, link]
  exact (if_neg served).trans (if_pos (by simp [bad]))

/-- A link that comes up (R384). -/
theorem State.ethLink_comesUp {p : Nat} (fast : Bool) (cmp : s.md.pstate.cmp = true) (hp : p < 4) (was : (s.port p).link = false) :
    s.ethLink p true fast = (s.updPort p fun x => { x with link := true, fd1000 := fast }).irq .eth p 1 := by
  have port : ¬ (!s.md.pstate.cmp || decide (4 ≤ p)) = true := by simp [cmp, hp]
  simp only [State.ethLink, if_neg port, was]
  have kept : ¬ (decide (p < 2) && false && !true) = true := by simp
  exact if_neg kept

/-- A leg silent for 6 s while the other receives is out of service (R386). -/
theorem State.legSilent_fails {leg u v : Nat} (cmp : s.md.pstate.cmp = true) (hleg : leg < 2) (last : (s.port leg).lastRx = some u)
    (other : (s.port (1 - leg)).lastRx = some v) (later : u < v) (alive : s.now < v + 6 * sec) (silent : u + 6 * sec ≤ s.now) :
    s.legSilent leg = s.legDown leg 2 := by
  have runs : (!s.md.pstate.cmp || decide (2 ≤ leg)) = false := by simp [cmp, hleg]
  simp only [State.legSilent, runs, last, other, Option.getD_some, later, alive, silent, decide_true, Bool.and_self, Bool.false_eq_true, if_false, if_true]

/-- A leg in service that goes down (R386). -/
theorem State.legDown_up {leg : Nat} (why : Nat) (up : (s.port leg).down = false) :
    s.legDown leg why = (((s.updPort leg fun p => { p with down := true, runFrom := none, runLast := 0 }).irq .eth leg 2).record 0x0A05 (w32 (leg + 1))
      (w32 why) (w32 (s.updPort leg fun p => { p with down := true, runFrom := none, runLast := 0 }).degNow)).trigger .unit := by
  rw [State.legDown, if_neg (by simp [up])]

/-- A leg returns after 10 s of frames in each second (R386). -/
theorem State.legReturn_runs {leg u : Nat} (cmp : s.md.pstate.cmp = true) (hleg : leg < 2) (down : (s.port leg).down = true)
    (link : (s.port leg).link = true) (fast : (s.port leg).fd1000 = true) (from_ : (s.port leg).runFrom = some u) (long : u + 10 * sec ≤ s.now)
    (each : 9 ≤ (s.port leg).runLast) :
    let c := s.updPort leg fun x => { x with down := false, runFrom := none, runLast := 0, lastRx := some s.now }
    s.legReturn leg = ((c.irq .eth leg 3).record 0x0A06 (w32 (leg + 1)) 0 (w32 c.degNow)).trigger .unit := by
  simp only [State.legReturn, cmp, hleg, down, link, fast, from_, long, each, decide_true, Bool.and_self, if_true]

/-- The supervision frame goes out every 2 s (R385). -/
theorem State.prpSupervise_due {u : Nat} (cmp : s.md.pstate.cmp = true) (last : s.eth.supAt = some u) (due : u + 2 * sec ≤ s.now) :
    s.prpSupervise = ({ s with eth := { s.eth with supAt := some s.now } } : State).emit .prpSup := by
  simp only [State.prpSupervise, cmp, last, due, decide_true, Bool.and_self, if_true]

end

/-- Settles O17. -/
theorem ethernetEventsAct : Obligations.EthernetEventsAct := by
  intro s t b cmp
  refine ⟨fun p mac a hp link owns => next_settled ?_,
    fun p mac k tag rct link => next_settled (State.ethRx_bad cmp link rfl),
    fun p fast hp was => next_settled (State.ethLink_comesUp fast cmp hp was),
    fun leg u v hleg up last other later alive silent =>
      next_settled ((State.legSilent_fails cmp hleg last other later alive silent).trans (State.legDown_up 2 up)),
    fun leg u hleg down link fast from_ long each => next_settled (State.legReturn_runs cmp hleg down link fast from_ long each),
    fun u last due => next_settled (State.prpSupervise_due cmp last due)⟩
  calc b.ethRx p ⟨.arp a, true, false, mac, none⟩
      = (b.ethHeard p).ethRole p ⟨.arp a, true, false, mac, none⟩ := State.ethRx_plain cmp hp link rfl
    _ = (b.ethHeard p).emit (.arp p a) := State.ethRole_arp ((State.ethHeard_ownsAddr hp a).trans owns)

end Sys2Proof.Machine
end

section
/-!
SUPPORT. UPD.CMD (R500–R502, R512).
-/
namespace Sys2Proof.Machine

/-- A UPD.CMD of a free page executes at once (R512). -/
theorem next_updCmd {s : State} {t slot tag op extra : Nat} {x : Session} (h : s.MayCommand slot x .service .upd 0) :
    occurs t (fun s => s.hostWrite slot (Page.reg .upd 0 Off.UPD_CMD) (cmdWord op tag extra)) s =
      .next (s.settled ((s.counted t x .upd 0 Off.UPD_CMD).execUpdCmd ⟨cmdWord op tag extra, slot, x.priv, max s.now t, []⟩)) :=
  next_command _ h rfl rfl nofun (by simp only [State.takeCmd, h.noReset, Bool.false_and, Bool.false_eq_true, if_false, State.cmdArgs])

section
variable {s u : State} {tag slot since : Nat} {priv : Priv} {args : List Word}

theorem State.execUpdCmd_open (hm : updModeOk s.md.mode = true) (act : s.updOpen slot = (.ok, u)) :
    s.execUpdCmd ⟨cmdWord 1 tag 0, slot, priv, since, args⟩ = u.complete .upd 0 Off.UPD_CMD_STAT .ok tag := by
  simp [State.execUpdCmd, hm, act, State.complete_mod]

theorem State.execUpdCmd_resume (hm : updModeOk s.md.mode = true) (act : s.updResume slot = (.ok, u)) :
    s.execUpdCmd ⟨cmdWord 2 tag 0, slot, priv, since, args⟩ = u.complete .upd 0 Off.UPD_CMD_STAT .ok tag := by
  simp [State.execUpdCmd, hm, act, State.complete_mod]

theorem State.execUpdCmd_write {len : Nat} (hm : updModeOk s.md.mode = true) (hl : len < 4096) (act : s.updWrite slot len = (.ok, u)) :
    s.execUpdCmd ⟨cmdWord 3 tag (65536 * (len % 4096)), slot, priv, since, args⟩ = u.complete .upd 0 Off.UPD_CMD_STAT .ok tag := by
  have op : (cmdWord 3 tag (65536 * (len % 4096))).fld 0 4 = 3 := cmdWord_op _ _ _ (by decide) (by omega)
  have tg : (cmdWord 3 tag (65536 * (len % 4096))).fld 8 8 = tag % 256 := cmdWord_tag _ _ _ (by omega)
  have ln : (cmdWord 3 tag (65536 * (len % 4096))).fld 16 12 = len := by
    rw [cmdWord_extra _ _ _ _ (by decide) (by omega)]
    omega
  simp [State.execUpdCmd, op, tg, ln, hm, act, State.complete_mod]

theorem State.execUpdCmd_finish (hm : updModeOk s.md.mode = true) (act : s.updFinish slot = (.ok, u)) :
    s.execUpdCmd ⟨cmdWord 4 tag 0, slot, priv, since, args⟩ = u.complete .upd 0 Off.UPD_CMD_STAT .ok tag := by
  simp [State.execUpdCmd, hm, act, State.complete_mod]

theorem State.execUpdCmd_arm (hm : updModeOk s.md.mode = true) (act : s.updArm = (.ok, u)) :
    s.execUpdCmd ⟨cmdWord 5 tag 0, slot, priv, since, args⟩ = u.complete .upd 0 Off.UPD_CMD_STAT .ok tag := by
  simp [State.execUpdCmd, hm, act, State.complete_mod]

theorem State.execUpdCmd_disarm (act : s.updDisarm = (.ok, u)) :
    s.execUpdCmd ⟨cmdWord 6 tag 0, slot, priv, since, args⟩ = u.complete .upd 0 Off.UPD_CMD_STAT .ok tag := by
  simp [State.execUpdCmd, act, State.complete_mod]

theorem State.execUpdCmd_discard :
    s.execUpdCmd ⟨cmdWord 7 tag 0, slot, priv, since, args⟩ =
      (s.updUpd fun u => { u with stage := .empty, owner := none, len := 0, blocks := [] }).complete .upd 0 Off.UPD_CMD_STAT .ok tag := by
  simp [State.execUpdCmd, State.updDiscard, State.complete_mod]

/-- No other session owns staging (R500). -/
theorem State.ownsStaging_free (h : s.upd.owner = none ∨ s.upd.owner = some slot) : (s.upd.owner.isSome && !s.ownsStaging slot) = false := by
  rcases h with h | h <;> simp [h, State.ownsStaging]

theorem State.updOpen_fits (stage : s.upd.stage ≠ .armed) (owner : s.upd.owner = none ∨ s.upd.owner = some slot)
    (low : 1376 ≤ (s.rdp .upd 0 Off.UPD_ARG).toNat) (high : (s.rdp .upd 0 Off.UPD_ARG).toNat ≤ 134217728) :
    s.updOpen slot = (.ok, s.updUpd fun u => { u with stage := .receiving, owner := some slot, len := (s.rdp .upd 0 Off.UPD_ARG).toNat, blocks := [] }) := by
  have unarmed : (s.upd.stage == .armed) = false := beq_eq_false_iff_ne.mpr stage
  have fits : ¬ ((s.rdp .upd 0 Off.UPD_ARG).toNat < manifestLen ∨ pkgMax < (s.rdp .upd 0 Off.UPD_ARG).toNat) := by
    simp only [manifestLen, pkgMax]
    omega
  simp only [State.updOpen, unarmed, State.ownsStaging_free owner, Bool.false_eq_true, if_false, if_neg fits]

theorem State.updResume_same (stage : s.upd.stage = .receiving) (owner : s.upd.owner = none ∨ s.upd.owner = some slot)
    (len : (s.rdp .upd 0 Off.UPD_ARG).toNat = s.upd.len) : s.updResume slot = (.ok, s.updUpd fun u => { u with owner := some slot }) := by
  have open_ : (s.upd.stage != .receiving || decide ((s.rdp .upd 0 Off.UPD_ARG).toNat ≠ s.upd.len)) = false := by simp [stage, len]
  simp only [State.updResume, open_, State.ownsStaging_free owner, Bool.false_eq_true, if_false]

/-- The session that owns staging finds it receiving. -/
theorem State.ownsStaging_receiving (stage : s.upd.stage = .receiving) (owner : s.upd.owner = some slot) :
    (s.upd.stage != .receiving || !s.ownsStaging slot) = false := by
  simp [stage, owner, State.ownsStaging]

theorem State.updWrite_block {len : Nat} (stage : s.upd.stage = .receiving) (owner : s.upd.owner = some slot)
    (aligned : (s.rdp .upd 0 Off.UPD_ARG).toNat % 2048 = 0) (inside : (s.rdp .upd 0 Off.UPD_ARG).toNat < s.upd.len)
    (hl : len = min 2048 (s.upd.len - (s.rdp .upd 0 Off.UPD_ARG).toNat)) :
    s.updWrite slot len = (.ok, s.updUpd fun u => { u with blocks := insertA ((s.rdp .upd 0 Off.UPD_ARG).toNat / 2048) (s.updBuf len) u.blocks }) := by
  have place : ¬ ((s.rdp .upd 0 Off.UPD_ARG).toNat % blockLen ≠ 0 ∨ s.upd.len ≤ (s.rdp .upd 0 Off.UPD_ARG).toNat) := by
    simp only [blockLen]
    omega
  have size : ¬ len ≠ min blockLen (s.upd.len - (s.rdp .upd 0 Off.UPD_ARG).toNat) := not_not_intro hl
  simp only [State.updWrite, State.ownsStaging_receiving stage owner, Bool.false_eq_true, if_false, if_neg place, if_neg size]
  rfl

theorem State.updFinish_whole (stage : s.upd.stage = .receiving) (owner : s.upd.owner = some slot) (all : firstMissing s.upd = none)
    (form : manifestOk ((stagedBytes s.upd).take 1376) s.upd.len = true) :
    s.updFinish slot = (.ok, (s.wrp .upd 0 Off.UPD_MISSING 0xFFFFFFFF).updUpd fun u => { u with stage := .complete, owner := none }) := by
  have sound : ¬ (!manifestOk ((stagedBytes s.upd).take manifestLen) s.upd.len) = true := by simpa [manifestLen] using form
  simp only [State.updFinish, State.ownsStaging_receiving stage owner, Bool.false_eq_true, if_false, all]
  exact if_neg sound

theorem State.updArm_complete (stage : s.upd.stage = .complete) (trial : s.upd.trial ≠ 1) :
    s.updArm = (.ok, s.updUpd fun u => { u with stage := .armed }) := by
  simp [State.updArm, stage, trial]

theorem State.updDisarm_armed (stage : s.upd.stage = .armed) : s.updDisarm = (.ok, s.updUpd fun u => { u with stage := .complete }) := by
  simp [State.updDisarm, stage]

end

/-- Settles O18: each operation executes at once, in the staging area that stands. -/
theorem updateCommandsAct : Obligations.UpdateCommandsAct := by
  intro s t slot tag x h b done arg
  have upd : b.upd = s.upd := State.counted_upd s t x .upd 0 Off.UPD_CMD
  have md : b.md = s.md := State.counted_md s t x .upd 0 Off.UPD_CMD
  rw [← md, ← upd]
  refine ⟨fun hm stage owner low high => (next_updCmd h).trans ?_, fun hm stage owner len => (next_updCmd h).trans ?_,
    fun len hm stage owner aligned inside hl => (next_updCmd h).trans ?_, fun hm stage owner all form => (next_updCmd h).trans ?_,
    fun hm stage trial => (next_updCmd h).trans ?_, fun stage => (next_updCmd h).trans ?_, (next_updCmd h).trans ?_⟩
  · rw [State.execUpdCmd_open hm (State.updOpen_fits stage owner low high)]
  · rw [State.execUpdCmd_resume hm (State.updResume_same stage owner len)]
  · rw [State.execUpdCmd_write hm (by omega) (State.updWrite_block stage owner aligned inside hl)]
  · rw [State.execUpdCmd_finish hm (State.updFinish_whole stage owner all form)]
  · rw [State.execUpdCmd_arm hm (State.updArm_complete stage trial)]
  · rw [State.execUpdCmd_disarm (State.updDisarm_armed stage)]
  · rw [State.execUpdCmd_discard]

end Sys2Proof.Machine
end

section
/-!
SUPPORT. SEC.CMD and EVT.CMD (R481–R494, R523–R527).
-/
namespace Sys2Proof.Machine

/-- A command that completes changes registers and pages' events alone. -/
@[simp] theorem State.complete_keys (s : State) (p : Page) (i o : Nat) (e : Err) (tag bit : Nat) : (s.complete p i o e tag bit).keys = s.keys := by
  rw [State.complete, (State.irq_fields _ p i bit).1, State.wrp_keys]

theorem State.setLcs_same {s : State} {l : Nat} (h : s.keys.lcs = l) : s.setLcs l = s := if_pos h

/-- A SEC.CMD of a free page executes at once (R494). -/
theorem next_secCmd {s : State} {t slot tag op : Nat} {x : Session} (h : s.MayCommand slot x .service .sec 0) :
    occurs t (fun s => s.hostWrite slot (Page.reg .sec 0 Off.SEC_CMD) (cmdWord op tag 0)) s =
      .next (s.settled ((s.counted t x .sec 0 Off.SEC_CMD).execSecCmd ⟨cmdWord op tag 0, slot, x.priv, max s.now t, []⟩)) :=
  next_command _ h rfl rfl nofun (by simp only [State.takeCmd, h.noReset, Bool.false_and, Bool.false_eq_true, if_false, State.cmdArgs])

/-- An EVT.CMD of a free page executes at once (R527). -/
theorem next_evtCmd {s : State} {t slot tag op : Nat} {x : Session} (h : s.MayCommand slot x .service .evt 0) :
    occurs t (fun s => s.hostWrite slot (Page.reg .evt 0 Off.EVT_CMD) (cmdWord op tag 0)) s =
      .next (s.settled ((s.counted t x .evt 0 Off.EVT_CMD).execEvtCmd ⟨cmdWord op tag 0, slot, x.priv, max s.now t, []⟩)) :=
  next_command _ h rfl rfl nofun (by simp only [State.takeCmd, h.noReset, Bool.false_and, Bool.false_eq_true, if_false, State.cmdArgs])

section
variable {s u : State} {x : Session} {tag slot since : Nat} {priv : Priv} {args : List Word}

/-- SUBMIT of a message that passes every check commits it (R481, R482); the life-cycle state follows the command's completion (R483). -/
theorem State.execSecCmd_submit (hp : priv.ge .service = true) (hx : s.sess? slot = some x) (hm : svcMode s.md.mode = true)
    (checked : s.kuCheck (kuMsg x) = .ok) (commit : s.kuCommit (kuMsg x) = (.ok, u)) :
    s.execSecCmd ⟨cmdWord 1 tag 0, slot, priv, since, args⟩ =
      ((u.wrp .sec 0 Off.SEC_KU_LAST (w32 (kuOp (kuMsg x) + 256 * kuSlot (kuMsg x)))).complete .sec 0 Off.SEC_CMD_STAT .ok tag).setLcs
        (s.kuNextLcs (kuMsg x)) := by
  have status : 65536 * Err.ok.code = 0 := rfl
  simp [State.execSecCmd, State.submit, hp, hx, hm, checked, commit, status, State.complete_mod]

theorem State.execSecCmd_attest (hp : priv.ge .service = true) :
    s.execSecCmd ⟨cmdWord 2 tag 0, slot, priv, since, args⟩ =
      ({ s with keys := { s.keys with report := s.attestBody ++ P256.idSign s.attestBody } } : State).complete .sec 0 Off.SEC_CMD_STAT .ok tag := by
  refine Eq.trans ?_ (State.setLcs_same (l := s.keys.lcs) (by rw [State.complete_keys]))
  simp [State.execSecCmd, State.attest, hp, State.complete_mod]

theorem State.execSecCmd_reprovDone (hp : priv.ge .service = true) (act : s.reprovDone = (.ok, u)) (same : u.keys = s.keys) :
    s.execSecCmd ⟨cmdWord 3 tag 0, slot, priv, since, args⟩ = u.complete .sec 0 Off.SEC_CMD_STAT .ok tag := by
  refine Eq.trans ?_ (State.setLcs_same (l := s.keys.lcs) (by rw [State.complete_keys, same]))
  simp [State.execSecCmd, act, hp, State.complete_mod]

theorem State.execSecCmd_clearStage (hp : priv.ge .service = true) :
    s.execSecCmd ⟨cmdWord 4 tag 0, slot, priv, since, args⟩ =
      (s.updSess slot fun y => { y with kuStage := [] }).complete .sec 0 Off.SEC_CMD_STAT .ok tag := by
  refine Eq.trans ?_ (State.setLcs_same (l := s.keys.lcs) (by rw [State.complete_keys]; rfl))
  simp [State.execSecCmd, hp, State.complete_mod]

/-- REPROV_DONE without an active tamper source, with a root key and a credential (R486). -/
theorem State.reprovDone_ready (hm : svcMode s.md.mode = true) (calm : s.tamperActive = false)
    (root : (s.keyOf (s.rdp .dpx 0 Off.DPX_ROOT_SLOT).toNat useRoot).isSome = true) (cred : ∃ k ∈ s.keys.slots, ∃ y, k = some y ∧ y.usage = useCred) :
    s.reprovDone = (.ok, s.putf .sec 0 Off.SEC_TAMPER 8 1 0) := by
  obtain ⟨k, hk, y, rfl, use⟩ := cred
  have has : (s.keys.slots.any fun k => match k with | some x => x.usage = useCred | none => false) = true :=
    List.any_eq_true.mpr ⟨some y, hk, by simp [use]⟩
  have ready : (s.tamperActive || (s.keyOf (s.rdp .dpx 0 Off.DPX_ROOT_SLOT).toNat useRoot).isNone ||
      !(s.keys.slots.any fun k => match k with | some x => x.usage = useCred | none => false)) = false := by
    simp only [calm, has, Option.isNone_eq_false_iff.mpr root, Bool.not_true, Bool.or_self]
  exact (if_neg (by simp [hm])).trans (if_neg (Bool.eq_false_iff.mp ready))

/-- CLEAR with a valid authorisation: the clear record stands alone, with the next number (R524). -/
theorem State.execEvtCmd_clear {k : Nat} (hp : priv.ge .service = true) (hx : s.sess? slot = some x) (hm : svcMode s.md.mode = true)
    (valid : s.clearErr x = .ok) (number : s.takeSeq = some (k, u)) :
    s.execEvtCmd ⟨cmdWord 1 tag 0, slot, priv, since, args⟩ =
      (((({ u with evt := { u.evt with log := [{ u.mkRec 0x1102 (w32 s.lastSeq) (w32 s.evt.log.length) (s.rdp .evt 0 Off.EVT_OVF) false with seq := k }]
                                       full := false } } : State).wrp .evt 0 Off.EVT_OVF 0).irq .evt 0 2).irq .evt 0 4).complete .evt 0 Off.EVT_CMD_STAT .ok tag := by
  simp [State.execEvtCmd, State.clearLog, hp, hx, hm, valid, number, State.complete_mod]

end

/-- Settles O19: each operation executes at once on the session's staging or authorisation as it stands. -/
theorem keyAndLogCommandsAct : Obligations.KeyAndLogCommandsAct := by
  intro s t slot tag x
  refine ⟨fun h => ?_, fun h hm => ?_⟩
  · intro b done
    have here := State.counted_sess s t x .sec 0 Off.SEC_CMD h.here
    have md : b.md = s.md := State.counted_md s t x .sec 0 Off.SEC_CMD
    have keys : b.keys = s.keys := State.counted_keys s t x .sec 0 Off.SEC_CMD
    rw [← md, ← keys]
    refine ⟨fun u hm checked commit => (next_secCmd h).trans ?_, (next_secCmd h).trans ?_, fun hm calm root cred => (next_secCmd h).trans ?_,
      (next_secCmd h).trans ?_⟩
    · rw [State.execSecCmd_submit (x := { x with last := max s.now t }) h.priv here hm checked commit]
      rfl
    · rw [State.execSecCmd_attest h.priv]
    · rw [State.execSecCmd_reprovDone h.priv (State.reprovDone_ready hm calm root cred) rfl]
    · rw [State.execSecCmd_clearStage h.priv]
  · intro b k u valid number
    have here := State.counted_sess s t x .evt 0 Off.EVT_CMD h.here
    have md : b.md = s.md := State.counted_md s t x .evt 0 Off.EVT_CMD
    refine (next_evtCmd h).trans ?_
    rw [State.execEvtCmd_clear h.priv here (by rw [← md] at hm; exact hm) valid number]

end Sys2Proof.Machine
end

section
/-!
SUPPORT. What raising an event and storing a record leave as it was: all but registers, the log, frames sent, the sessions' subscriptions and the PL1
sender (R31, R107, R518).
-/
namespace Sys2Proof.Machine

/-- `u` is `s` but for registers, the log, frames sent, sessions and the PL1 sender. -/
structure State.Logs (s u : State) : Prop where
  pending : u.pending = s.pending
  variant : u.variant = s.variant
  now     : u.now = s.now
  free    : u.free = s.free
  shadow  : u.shadow = s.shadow
  cmdq    : u.cmdq = s.cmdq
  trig    : u.trig = s.trig
  opNs    : u.opNs = s.opNs
  md      : u.md = s.md
  ord     : u.ord = s.ord
  mem     : u.mem = s.mem
  net     : u.net = s.net
  lp      : u.lp = s.lp
  slv     : u.slv = s.slv
  time    : u.time = s.time
  rtc     : u.rtc = s.rtc
  eth     : u.eth = s.eth
  fld     : u.fld = s.fld
  prg     : u.prg = s.prg
  can     : u.can = s.can
  safe    : u.safe = s.safe
  keys    : u.keys = s.keys
  mtr     : u.mtr = s.mtr
  prof    : u.prof = s.prof
  upd     : u.upd = s.upd
  panel   : u.panel = s.panel
  pwr     : u.pwr = s.pwr
  pair    : ∃ tx un, u.pair = { s.pair with txSeq := tx, unacked := un }

theorem State.Logs.of_same {s u : State} (h : u = { s with regs := u.regs, edge := u.edge, out := u.out, host := u.host, evt := u.evt }) : s.Logs u := by
  rw [h]
  exact ⟨rfl, rfl, rfl, rfl, rfl, rfl, rfl, rfl, rfl, rfl, rfl, rfl, rfl, rfl, rfl, rfl, rfl, rfl, rfl, rfl, rfl, rfl, rfl, rfl, rfl, rfl, rfl, _, _, rfl⟩

theorem State.Logs.refl (s : State) : s.Logs s := .of_same rfl

theorem State.Logs.trans {a b c : State} (h : a.Logs b) (k : b.Logs c) : a.Logs c := by
  obtain ⟨tx, un, hp⟩ := h.pair
  obtain ⟨tx', un', kp⟩ := k.pair
  refine ⟨k.pending.trans h.pending, k.variant.trans h.variant, k.now.trans h.now, k.free.trans h.free, k.shadow.trans h.shadow, k.cmdq.trans h.cmdq,
    k.trig.trans h.trig, k.opNs.trans h.opNs, k.md.trans h.md, k.ord.trans h.ord, k.mem.trans h.mem, k.net.trans h.net, k.lp.trans h.lp, k.slv.trans h.slv,
    k.time.trans h.time, k.rtc.trans h.rtc, k.eth.trans h.eth, k.fld.trans h.fld, k.prg.trans h.prg, k.can.trans h.can, k.safe.trans h.safe,
    k.keys.trans h.keys, k.mtr.trans h.mtr, k.prof.trans h.prof, k.upd.trans h.upd, k.panel.trans h.panel, k.pwr.trans h.pwr, tx', un', ?_⟩
  rw [kp, hp]

theorem State.wrp_logs (s : State) (p : Page) (i o : Nat) (v : Word) : s.Logs (s.wrp p i o v) := .of_same rfl

theorem State.putf_logs (s : State) (p : Page) (i o lo width v : Nat) : s.Logs (s.putf p i o lo width v) := .of_same rfl

theorem State.satf_logs (s : State) (p : Page) (i o lo width n : Nat) : s.Logs (s.satf p i o lo width n) := .of_same rfl

theorem State.devSet_logs (s : State) (a : Nat) (m : Word) : s.Logs (s.devSet a m) := .of_same rfl

theorem State.irq_logs (s : State) (p : Page) (i b : Nat) : s.Logs (s.irq p i b) := by
  simp only [State.irq, State.riseIf]
  split
  · split <;> exact .of_same rfl
  · exact .refl s

theorem State.storeAt_logs (s : State) (r : Snag) : s.Logs (s.storeAt r) :=
  State.Logs.trans (b := { s with evt := { s.evt with log := s.evt.log ++ [r] } }) (.of_same rfl) (State.irq_logs _ _ _ _)

theorem State.pl1Send_logs (s : State) (f : Pl1Out) : s.Logs (s.pl1Send f) := by
  unfold State.pl1Send
  split
  · exact ⟨rfl, rfl, rfl, rfl, rfl, rfl, rfl, rfl, rfl, rfl, rfl, rfl, rfl, rfl, rfl, rfl, rfl, rfl, rfl, rfl, rfl, rfl, rfl, rfl, rfl, rfl, rfl, _, _, rfl⟩
  · exact .refl s

theorem State.takeSeq_logs {s u : State} {n : Nat} (h : s.takeSeq = some (n, u)) : s.Logs u := by
  simp only [State.takeSeq] at h
  split at h
  · cases h
  · split at h
    · cases h
      exact .of_same rfl
    · split at h
      · cases h
        exact State.Logs.trans (.of_same rfl) (State.pl1Send_logs _ _)
      · cases h

theorem State.overflowed_logs (s : State) : s.Logs s.overflowed := .of_same rfl

theorem State.fillLog_logs (s : State) (r : Snag) : s.Logs (s.fillLog r) := by
  simp only [State.fillLog]
  split
  · exact .refl s
  · next n u take =>
    exact (State.takeSeq_logs take).trans ((State.storeAt_logs u _).trans (State.Logs.trans (.of_same rfl) (State.irq_logs _ _ _ _)))

/-- Storing a record, or holding it back. -/
theorem State.release_logs (s : State) (r : Snag) : s.Logs (s.release r) := by
  simp only [State.release]
  split
  · split <;> exact .of_same rfl
  · have filled : s.Logs (if (s.evt.freeze.isNone && !s.evt.full && decide (s.evt.log.length ≥ evtSlots)) = true then s.fillLog r else s) := by
      split
      · exact State.fillLog_logs s r
      · exact .refl s
    generalize (if (s.evt.freeze.isNone && !s.evt.full && decide (s.evt.log.length ≥ evtSlots)) = true then s.fillLog r else s) = v at *
    refine filled.trans ?_
    split
    · exact .of_same rfl
    · next n u take =>
      refine (State.takeSeq_logs take).trans ?_
      split
      · split <;> exact .of_same rfl
      · split
        · exact State.overflowed_logs u
        · exact State.storeAt_logs u _

theorem State.record_logs (s : State) (code : Nat) (p1 p2 p3 : Word) (g : Bool) : s.Logs (s.record code p1 p2 p3 g) := State.release_logs s _

/-- The module holds its role. -/
theorem State.Logs.isActive {s u : State} (h : s.Logs u) : u.isActive = s.isActive := by
  obtain ⟨tx, un, hp⟩ := h.pair
  simp only [State.isActive, h.variant, hp]

end Sys2Proof.Machine
end

section
/-!
SUPPORT. Tamper, the health window, the freeze (R484, R485, R507, R522).
-/
namespace Sys2Proof.Machine

section
variable {s : State}

theorem tamper_sources {src : Nat} (h : src < 128) : src &&& 127 = src := Nat.and_two_pow_sub_one_of_lt_two_pow (n := 7) h

/-- A source that does not count only shows (R484). -/
theorem State.tamper_uncounted {src : Nat} (h : src < 128) (masked : src &&& s.tamperMask = 0) : s.tamper src = s.setActive src true := by
  have none_ : src &&& (s.setActive src true).tamperMask = 0 := masked
  simp only [State.tamper, tamper_sources h, none_, true_or, if_true]

section
variable (s)
theorem State.putf_calNs (p : Page) (i o lo width v : Nat) : (s.putf p i o lo width v).calNs = s.calNs := rfl
theorem State.satf_calNs (p : Page) (i o lo width n : Nat) : (s.satf p i o lo width n).calNs = s.calNs := rfl
theorem State.devSet_calNs (a : Nat) (m : Word) : (s.devSet a m).calNs = s.calNs := rfl
theorem State.zeroSlots_calNs : s.zeroSlots.calNs = s.calNs := rfl
theorem State.setActive_calNs (src : Nat) (on : Bool) : (s.setActive src on).calNs = s.calNs := rfl
end

/-- The cause and the count of a tamper leave the calendar's flags as they were. -/
theorem State.tamperCount_calInvalid (c : State) (m : Word) :
    ((c.devSet (Page.sec.reg 0 Off.SEC_TAMPER_CAUSE) m).satf .sec 0 Off.SEC_TAMPER 16 16).calInvalid = c.calInvalid := by
  have count : Page.rtc.reg 0 Off.RTC_FLAGS ≠ Page.sec.reg 0 Off.SEC_TAMPER := by decide
  have cause : Page.rtc.reg 0 Off.RTC_FLAGS ≠ Page.sec.reg 0 Off.SEC_TAMPER_CAUSE := by decide
  exact congrArg (·.bit 0) ((State.rd_wr_ne _ _ _ _ count).trans (c.rd_wr_ne _ _ _ cause))

/-- A source that counts zeroes every slot and resets the controller (R485). -/
theorem State.tamper_counts {src : Nat} (h : src < 128) (counts : src &&& s.tamperMask ≠ 0) (powered : s.md.pstate ≠ .p4) :
    let c := (s.setActive src true).zeroSlots
    let d := c.devSet (Page.sec.reg 0 Off.SEC_TAMPER_CAUSE) (w32 (src &&& s.tamperMask))
    let e := ((d.satf .sec 0 Off.SEC_TAMPER 16 16).putf .sec 0 Off.SEC_TAMPER 8 1 1).putf .sec 0 Off.SEC_TAMPER 9 1 (b2n s.calInvalid)
    let u := e.wrp .sec 0 Off.SEC_TAMPER_S (w32 (s.calNs.toNat / sec))
    s.tamper src = ({ u with keys := { u.keys with told := false } } : State).trigger (.reset .tamper) := by
  intro c d e u
  have mask : (s.setActive src true).tamperMask = s.tamperMask := rfl
  have p4 : (s.md.pstate == .p4) = false := beq_eq_false_iff_ne.mpr powered
  have invalid : (s.setActive src true).zeroSlots.calInvalid = s.calInvalid := rfl
  have stays : ¬ (src &&& s.tamperMask = 0 ∨ ((s.md.pstate == .p4) && s.rtc.lost) = true) := by simp [counts, p4]
  simp only [State.tamper, tamper_sources h, mask, State.tamperCount_calInvalid, invalid, State.putf_calNs, State.satf_calNs, State.devSet_calNs, State.zeroSlots_calNs,
    State.setActive_calNs]
  refine (if_neg stays).trans ?_
  have loads : c.Logs u := (c.devSet_logs _ _).trans ((d.satf_logs _ _ _ _ _ _).trans ((State.putf_logs _ _ _ _ _ _ _).trans
    ((State.putf_logs _ _ _ _ _ _ _).trans (e.wrp_logs _ _ _ _))))
  have md : u.md = s.md := loads.md
  rw [← md] at p4
  exact if_neg (Bool.eq_false_iff.mp p4)

/-- A source that becomes inactive (R484). -/
theorem State.tamperChange_off {src : Nat} (h : src < 128) : s.tamperChange src false = s.setActive src false := by
  simp only [State.tamperChange, tamper_sources h, Bool.false_eq_true, if_false]

theorem State.healthExpiry_past {u : Nat} (trial : s.upd.trial = 1) (from_ : s.upd.from_ = some u) (past : u + s.upd.run.health * 60 * sec ≤ s.opNs) :
    s.healthExpiry = (s.updUpd fun u => { u with expired := true }).trigger (.reset .watchdog) := by
  have ends : s.healthEnd = some (u + s.upd.run.health * 60 * sec) := by simp only [State.healthEnd, trial, if_true, from_, Option.map_some]
  simp only [State.healthExpiry, ends]
  exact if_pos past

theorem State.freezeTimeout_past {k u : Nat} (frozen : s.evt.freeze = some (k, u)) (past : u + (s.rdp .evt 0 Off.EVT_CFG).fld 8 8 * sec ≤ s.now) :
    s.freezeTimeout = s.endFreeze := by
  simp only [State.freezeTimeout, frozen]
  exact if_pos past

end

/-- Settles O20. -/
theorem tamperHealthAndFreezeEventsAct : Obligations.TamperHealthAndFreezeEventsAct := by
  intro s t b
  refine ⟨fun src h counts powered => next_settled (State.tamper_counts h counts powered),
    fun src h masked => ⟨next_settled (v := b.setActive src true) (State.tamper_uncounted h masked), next_settled (v := b.setActive src false) (State.tamperChange_off h)⟩,
    fun u trial from_ past => next_settled (State.healthExpiry_past trial from_ past),
    fun k u frozen past => next_settled (State.freezeTimeout_past frozen past)⟩

end Sys2Proof.Machine
end

section
/-!
SUPPORT. Events of the supply (R558–R568).
-/
namespace Sys2Proof.Machine

/-! The role while the supply fails -/

/-- `u` has the variant and the token of `s`. -/
def State.SameRole (s u : State) : Prop := u.variant = s.variant ∧ u.pair.token = s.pair.token

theorem State.SameRole.trans {a b c : State} (h : a.SameRole b) (k : b.SameRole c) : a.SameRole c := ⟨k.1.trans h.1, k.2.trans h.2⟩

theorem State.SameRole.isActive {s u : State} (h : s.SameRole u) : u.isActive = s.isActive := by
  simp only [State.isActive, h.1, h.2]

theorem State.Logs.role {s u : State} (h : s.Logs u) : s.SameRole u := by
  obtain ⟨tx, un, hp⟩ := h.pair
  exact ⟨h.variant, by rw [hp]⟩

/-- A change of the source of the backup domain is logged in registers and the calendar alone. -/
theorem State.changeOver_kept (s : State) (to_ : BkpSrc) :
    (s.changeOver to_).md = s.md ∧ (s.changeOver to_).now = s.now ∧ s.SameRole (s.changeOver to_) := by
  simp only [State.changeOver]
  split
  · split
    · exact ⟨rfl, rfl, rfl, rfl⟩
    · split <;> exact ⟨rfl, rfl, rfl, rfl⟩
  · exact ⟨rfl, rfl, rfl, rfl⟩

theorem State.mgAbandon_role (s : State) (p : Eng → Bool) : s.SameRole (s.mgAbandon p) := by
  have each : ∀ (ms : List MakingGood) (u : State), u.SameRole
      (ms.foldl (fun s m => (s.irq .ord 0 2).record 0x0202 (mgWord m.eng.code m.eng.inst m.cause (s.now - m.since)) 0 0) u) := by
    intro ms
    induction ms with
    | nil => exact fun u => ⟨rfl, rfl⟩
    | cons m ms ih => exact fun u => ((State.irq_logs u _ _ _).trans (State.record_logs _ _ _ _ _ _)).role.trans (ih _)
  have drop : s.SameRole (s.mgDrop p) := by
    simp only [State.mgDrop]
    split <;> exact ⟨rfl, rfl⟩
  exact drop.trans (each _ _)

theorem State.lanePower_role (s : State) : s.SameRole s.lanePower := by
  unfold State.lanePower
  split <;> exact ⟨rfl, rfl⟩

theorem State.grant_role (s : State) : s.SameRole s.grant := by
  have power : ∀ u : State, s.SameRole u → s.SameRole u.lanePower := fun u h => h.trans u.lanePower_role
  unfold State.grant
  split
  · exact ⟨rfl, rfl⟩
  · dsimp only
    split
    · exact power _ ⟨rfl, rfl⟩
    · split
      · exact power _ ⟨rfl, rfl⟩
      · split
        · exact power _ ⟨rfl, rfl⟩
        · exact power _ ⟨rfl, rfl⟩

theorem State.discardCycles_role (s : State) : s.SameRole s.discardCycles := by
  simp only [State.discardCycles]
  refine State.SameRole.trans ?_ (State.grant_role _)
  split <;> exact ⟨rfl, rfl⟩

/-! Inputs -/

section
variable {s : State}

/-- An input that is lost outside DORMANT (R558). -/
theorem State.inputChange_lost {ch : Bool} (aon : s.aon = true) (mode : s.md.mode ≠ .dormant) (was : (if ch then s.pwr.inB else s.pwr.inA) = true) :
    let c := ((s.updPwr fun p => if ch then { p with inB := false, lowB := false } else { p with inA := false, lowA := false }).satf .pwr 0
      Off.PWR_IN_LOSSES (if ch then 16 else 0) 16).irq .pwr 0 2
    s.inputChange ch false = c.record 0x1201 c.pwrStat (Config.measure (Page.reg .pwr 0 Off.PWR_VIN_A_MV) c.now &&& 0xFFFF)
      (Config.measure (Page.reg .pwr 0 Off.PWR_VIN_B_MV) c.now &&& 0xFFFF) := by
  intro c
  have md : c.md = s.md := (State.irq_logs _ .pwr 0 2).md
  have awake : ¬ (c.md.mode == .dormant) = true := by simp [md, mode]
  have powered : ¬ (!s.aon) = true := by simp [aon]
  have changes : ¬ ((if ch then s.pwr.inB else s.pwr.inA) == false) = true := by simp [was]
  exact (if_neg changes).trans ((if_neg powered).trans (if_neg awake))

theorem State.voltageAlarm_powered (aon : s.aon = true) (ch high on : Bool) : s.voltageAlarm ch high on = s.updPwr fun p => match ch, high with
    | false, false => { p with lowA := on && p.inA }
    | true, false => { p with lowB := on && p.inB }
    | false, true => { p with highA := on }
    | true, true => { p with highB := on } :=
  if_neg (by simp [aon])

/-! The last gasp (R561–R563) -/

/-- In DORMANT the supply's failure turns everything off (R562). -/
theorem State.lastGasp_dormant (phase dur : Nat) (ok cell : Bool) (aon : s.aon = true) (lostA : s.pwr.inA = false) (lostB : s.pwr.inB = false)
    (mode : s.md.mode = .dormant) :
    s.lastGasp phase dur ok cell = { s.changeOver (if cell then .cell else .supercap) with
      md := { (s.changeOver (if cell then .cell else .supercap)).md with pstate := .p4 } } := by
  have failing : ¬ (!s.aon || s.pwr.inA || s.pwr.inB) = true := by simp [aon, lostA, lostB]
  have dormant : ((s.changeOver (if cell then .cell else .supercap)).md.mode == .dormant) = true := by
    rw [(s.changeOver_kept _).1, mode]
    rfl
  exact (if_neg failing).trans (if_pos dormant)

/-- Elsewhere a sequence that completes saves, stops the panel and the ports, and ends every session (R562). -/
theorem State.lastGasp_completes (dur : Nat) (ok cell : Bool) (aon : s.aon = true) (lostA : s.pwr.inA = false) (lostB : s.pwr.inB = false)
    (mode : s.md.mode ≠ .dormant) (alone : s.isActive = false) :
    let g := (((s.changeOver (if cell then .cell else .supercap)).updPwr fun p =>
      { p with gasp := some s.now, test := none, failed := true }).mgAbandon (· != .metering)).discardCycles
    let v := ((g.failMark.gaspSave ok).mtrStop.panelGasp.startStations.ethOff).ctlOff.pl1Off
    let c := v.wrp .pwr 0 Off.PWR_LASTGASP (gaspWord 4 (!s.md.pstate.cmp) dur)
    s.lastGasp 4 dur ok cell = { c.trigger .endSessions with md := { c.md with pstate := .p4, mode := .boot } } := by
  intro g v c
  have failing : ¬ (!s.aon || s.pwr.inA || s.pwr.inB) = true := by simp [aon, lostA, lostB]
  obtain ⟨md, now, role⟩ := s.changeOver_kept (if cell then .cell else .supercap)
  have awake : ¬ ((s.changeOver (if cell then .cell else .supercap)).md.mode == .dormant) = true := by
    rw [md]
    simp [mode]
  have armed : (s.changeOver (if cell then .cell else .supercap)).SameRole
      ((s.changeOver (if cell then .cell else .supercap)).updPwr fun p => { p with gasp := some s.now, test := none, failed := true }) := ⟨rfl, rfl⟩
  have single : ¬ g.isActive = true := by
    rw [(role.trans (armed.trans ((State.mgAbandon_role _ _).trans (State.discardCycles_role _)))).isActive, alone]
    exact Bool.false_ne_true
  rw [State.lastGasp, if_neg failing]
  extract_lets s0 md0 skipped s1 s2 s3 s4 s5 s6 s7 s8 u1 m1 u2 m2
  have same : s2 = g := by simp only [s2, s1, s0, g, now]
  have quiet : s3 = g := (if_neg (by rw [same]; exact single)).trans same
  have saved : s4 = g.failMark.gaspSave ok := (if_pos (by decide)).trans (by rw [quiet])
  have stopped : s6 = (g.failMark.gaspSave ok).mtrStop.panelGasp := (if_pos (by decide)).trans (by simp only [s5, saved])
  have work : s7 = v := by simp only [s7, stopped, v]
  have shown_ : s8 = c := by simp only [s8, work, skipped, s0, md, c]
  rw [if_neg awake, show u1 = u2 from congrArg (·.trigger .endSessions) shown_, show m1 = m2 from congrArg (·.md) shown_]

/-- The supply's return starts the controller (R564). -/
theorem State.supplyReturn_starts {a a' : Bool} (charged : Bool) (off_ : s.aon = false) (present : (a || a') = true) :
    s.supplyReturn a a' charged = (((s.updPwr fun p => { p with
      inA := a, inB := a', lowA := false, lowB := false, highA := false, highB := false, gasp := none, holdLow := !charged, charging := !charged }).changeOver
        .main).trigger (.reset .powerOn)) :=
  if_neg (by simp [off_, present])

/-- A temperature below 105.0 °C is shown, and the highest kept (R560). -/
theorem State.baseplate_below {temp : Int} (aon : s.aon = true) (ctl : s.md.pstate.ctl = true) (below : temp < 1050) (high : s.pwr.high = false) :
    let c := s.updPwr fun p => { p with tBase := temp }
    s.baseplate temp =
      if ((s.rdp .pwr 0 Off.PWR_T_BASE_MAX).setWidth 16).toInt < temp then c.wrp .pwr 0 Off.PWR_T_BASE_MAX (sw32 temp &&& 0xFFFF) else c := by
  intro c
  have on : ¬ (!s.aon) = true := by simp [aon]
  have runs : ¬ (!s.md.pstate.ctl) = true := by simp [ctl]
  have notHigh : ¬ (temp ≥ 1050) := by omega
  have notOver : ¬ (temp ≥ 1150) := by omega
  rw [State.baseplate, if_neg on, if_neg runs]
  extract_lets tw hottest u v
  have low : u.pwr.high = false := by
    simp only [u]
    split <;> exact high
  have calm : v = u := (if_neg (by simp [notHigh])).trans (if_neg (by simp [low]))
  exact (if_neg (by simp [notOver])).trans calm


/-- A full store is not measured by its voltage (R565). -/
theorem State.holdupMeasure_begins {mj : Nat} (enough : 766 ≤ mj) (aon : s.aon = true) (gasp : s.pwr.gasp = none) (test : s.pwr.test = none)
    (first : s.pwr.lastTest = none) : s.holdupMeasure mj = s.updPwr fun p => { p with test := some (.own, s.now) } := by
  have due : ¬ (!s.aon || s.pwr.gasp.isSome || s.pwr.test.isSome || !(match s.pwr.lastTest with | some t => decide (s.now ≥ t + 24 * 3600 * sec) | none => true)) = true := by
    simp [aon, gasp, test, first]
  exact (if_neg due).trans (if_neg (Nat.not_lt.mpr enough))

/-- The controller's own measurement ends (R565). -/
theorem State.holdupEnd_own {u mj : Nat} (test : s.pwr.test = some (.own, u)) :
    s.holdupEnd mj =
      let c := s.updPwr fun p => { p with holdMj := min 8191 mj, holdLow := mj < 1000, charging := p.charging && mj < 1000, test := none, lastTest := some s.now }
      if mj < 1000 then (c.irq .pwr 0 3).record 0x1202 (w32 (min 8191 mj)) 1 0 else c := by
  simp only [State.holdupEnd, State.holdupLoad, test, Option.isSome_some, if_true]

end

/-- Settles O21. -/
theorem supplyEventsAct : Obligations.SupplyEventsAct := by
  intro s t b
  refine ⟨fun ch aon mode was => next_settled (State.inputChange_lost aon mode was), fun on aon => ⟨?_, ?_, ?_, ?_⟩,
    fun phase dur ok cell aon lostA lostB mode => next_settled (State.lastGasp_dormant phase dur ok cell aon lostA lostB mode),
    fun ok cell dur aon lostA lostB mode alone => next_settled (State.lastGasp_completes dur ok cell aon lostA lostB mode alone),
    fun a a' charged off_ present => next_settled (State.supplyReturn_starts charged off_ present),
    fun temp aon ctl below high => next_settled (State.baseplate_below aon ctl below high),
    fun mj enough aon gasp test first => next_settled (State.holdupMeasure_begins enough aon gasp test first),
    fun mj u test => next_settled (State.holdupEnd_own test)⟩
  · exact next_settled (State.voltageAlarm_powered aon false false on)
  · exact next_settled (State.voltageAlarm_powered aon true false on)
  · exact next_settled (State.voltageAlarm_powered aon false true on)
  · exact next_settled (State.voltageAlarm_powered aon true true on)

end Sys2Proof.Machine
end

section
/-!
SUPPORT. The status panel and its commands (R531–R546), and the hold-up test (R565, R568).
-/
namespace Sys2Proof.Machine

section
variable {s : State}

/-- A waveform that has driven its last frame shows its target (R533). -/
theorem State.waveformEnd_over {w : Wave} (run : s.panel.run = some w) (past : w.start + waveTotal w * panelFrameNs ≤ s.now) :
    s.waveformEnd = ((((s.updPanel fun p => { p with
      run := none, prog := none, shown := w.target, lastMs := min 65535 (waveTotal w * 20)
      ledger := p.ledger.foldl (fun m e => if pixDriven w p.shown (e.1 % 400) (e.1 / 400) then putLedger m e.1 (toward e.2 8) else m) p.ledger }).modp .disp 0
        Off.DISP_UPDATES).irq .disp 0 2)).panelNext := by
  simp only [State.waveformEnd, run]
  exact if_neg (Nat.not_lt.mpr past)

/-- A frame of the running waveform starts (R541). -/
theorem State.panelFrame_starts {w : Wave} (ctl : s.md.pstate.ctl = true) (run : s.panel.run = some w) (left : w.done < waveTotal w)
    (due : w.start + w.done * panelFrameNs ≤ s.now) :
    s.panelFrame = s.updPanel fun p => { p with
      prog := some (w, false), run := some { w with done := w.done + 1 }, stress := addStress p.stress (frameTiles w p.shown p.ledger w.done) } := by
  simp only [State.panelFrame, ctl, run, Bool.not_true, Bool.false_eq_true, if_false]
  exact if_pos (by simp [left, due])

/-- BAND_S seconds after an event-count change the band is redrawn (R531). -/
theorem State.bandTimer_due {u : Nat} (ctl : s.md.pstate.ctl = true) (from_ : s.panel.evtFrom = some u)
    (due : u + (s.rdp .disp 0 Off.DISP_CFG).fld 0 8 * sec ≤ s.now) :
    s.bandTimer = (s.updPanel fun p => { p with evtFrom := none }).panelReq false bandRect := by
  simp only [State.bandTimer, from_]
  exact if_pos (by simp [ctl, due])

/-- A reading within −19 to +59 °C releases what was held (R536, R538). -/
theorem State.panelTemp_mild {temp : Int} (ctl : s.md.pstate.ctl = true) (low : -190 ≤ temp) (high : temp ≤ 590) :
    s.panelTemp temp = (s.updPanel fun p => { p with temp := some temp, tempOk := true, held := false }).panelNext := by
  have range : inUpdate temp = true := by
    simp only [inUpdate, Bool.and_eq_true, decide_eq_true_eq]
    omega
  simp [State.panelTemp, ctl, range, low, high]

end

/-! DISP.CMD -/

/-- A DISP.CMD of a free page executes at once (R546). -/
theorem next_dispCmd {s : State} {t slot tag op extra : Nat} {x : Session} (h : s.MayCommand slot x .operate .disp 0) :
    occurs t (fun s => s.hostWrite slot (Page.reg .disp 0 Off.DISP_CMD) (cmdWord op tag extra)) s =
      .next (s.settled ((s.counted t x .disp 0 Off.DISP_CMD).execDispCmd ⟨cmdWord op tag extra, slot, x.priv, max s.now t, []⟩)) :=
  next_command _ h rfl rfl nofun (by simp only [State.takeCmd, h.noReset, Bool.false_and, Bool.false_eq_true, if_false, State.cmdArgs])

/-- Bit 16 of a command word. -/
theorem cmdWord_flag {op : Nat} (tag : Nat) (b : Bool) (h : op < 16) : (cmdWord op tag (65536 * b2n b)).bit 16 = b := by
  have value : (cmdWord op tag (65536 * b2n b)).toNat / 2 ^ 16 % 2 = b2n b := by
    have small : b2n b ≤ 1 := by cases b <;> decide
    simp only [cmdWord, w32, BitVec.toNat_ofNat]
    omega
  rw [Word.bit, BitVec.getLsbD, Nat.testBit_eq_decide_div_mod_eq, value]
  cases b <;> rfl

section
variable {s : State} {tag slot since : Nat} {priv : Priv} {args : List Word}

theorem State.execDispCmd_full (hp : priv.ge .operate = true) (on : (s.rdp .disp 0 Off.DISP_CFG).bit 8 = true) :
    s.execDispCmd ⟨cmdWord 1 tag (65536 * b2n true), slot, priv, since, args⟩ = (s.panelReq true hostRect).complete .disp 0 Off.DISP_CMD_STAT .ok tag := by
  have op : (cmdWord 1 tag (65536 * b2n true)).fld 0 4 = 1 := cmdWord_op _ _ _ (by decide) (by decide)
  have tg : (cmdWord 1 tag (65536 * b2n true)).fld 8 8 = tag % 256 := cmdWord_tag _ _ _ (by decide)
  have flag := cmdWord_flag tag true (op := 1) (by decide)
  simp [State.execDispCmd, State.dispDone, op, tg, flag, hp, on, State.complete_mod]

theorem State.execDispCmd_rect (hp : priv.ge .operate = true) (on : (s.rdp .disp 0 Off.DISP_CFG).bit 8 = true)
    (inside : rectOk (rectOf (s.rdp .disp 0 Off.DISP_RECT)) = true) :
    s.execDispCmd ⟨cmdWord 1 tag (65536 * b2n false), slot, priv, since, args⟩ =
      (s.panelReq false (rectOf (s.rdp .disp 0 Off.DISP_RECT))).complete .disp 0 Off.DISP_CMD_STAT .ok tag := by
  have op : (cmdWord 1 tag (65536 * b2n false)).fld 0 4 = 1 := cmdWord_op _ _ _ (by decide) (by decide)
  have tg : (cmdWord 1 tag (65536 * b2n false)).fld 8 8 = tag % 256 := cmdWord_tag _ _ _ (by decide)
  have flag := cmdWord_flag tag false (op := 1) (by decide)
  simp [State.execDispCmd, State.dispDone, op, tg, flag, hp, on, inside, State.complete_mod]

theorem State.execDispCmd_band (hp : priv.ge .operate = true) :
    s.execDispCmd ⟨cmdWord 2 tag 0, slot, priv, since, args⟩ = (s.panelReq false bandRect).complete .disp 0 Off.DISP_CMD_STAT .ok tag := by
  simp [State.execDispCmd, State.dispDone, hp, State.complete_mod]

/-! PWR.CMD -/

/-- With nothing waiting the queue of a command register is empty. -/
theorem State.queue_idle {p : Page} {i : Nat} (h : s.waiting p i = 0) : s.queue (cmdAddr p i) = [] := by
  rw [State.waiting] at h
  exact List.length_eq_zero_iff.mp (by omega)

/-- What a hold-up test sets going. -/
theorem State.execPwrCmd_test (hp : priv.ge .operate = true) (test : s.pwr.test = none) (charged : s.pwr.charging = false) :
    s.execPwrCmd ⟨cmdWord 1 tag 0, slot, priv, since, args⟩ =
      s.updPwr fun p => { p with test := some (.cmd ⟨cmdWord 1 tag 0, slot, priv, since, args⟩, s.now) } := by
  simp [State.execPwrCmd, hp, test, charged]

/-- A PWR.CMD that finds its queue empty executes at once (OP-3). -/
theorem State.runPwr_alone {c : QCmd} (idle : s.queue (cmdAddr .pwr 0) = []) (test : s.pwr.test = none) :
    (s.enqueue .pwr 0 c).runPwr = ((s.setQueue pwrCmdAddr [c]).execPwrCmd c).setQueue pwrCmdAddr [] := by
  have entered : s.enqueue .pwr 0 c = s.setQueue pwrCmdAddr [c] := by
    rw [State.enqueue, idle]
    rfl
  have rests : ¬ (s.setQueue pwrCmdAddr [c]).pwrBusy = true := by simp [State.pwrBusy, test]
  rw [entered, State.runPwr, State.queue_setQueue, runPwrQueue, if_neg rests, runPwrQueue]

end

/-- Settles O22. -/
theorem panelEventsAndItsCommandsAct : Obligations.PanelEventsAndItsCommandsAct := by
  refine ⟨?_, fun s t slot tag x => ⟨fun h => ?_, fun h test charged => ?_⟩⟩
  · intro s t b
    exact ⟨fun w run past => next_settled (State.waveformEnd_over run past), fun w ctl run left due => next_settled (State.panelFrame_starts ctl run left due),
      fun u ctl from_ due => next_settled (State.bandTimer_due ctl from_ due), fun temp ctl low high => next_settled (State.panelTemp_mild ctl low high)⟩
  · intro b done
    refine ⟨fun on => (next_dispCmd h).trans ?_, fun on inside => (next_dispCmd h).trans ?_, (next_dispCmd h).trans ?_⟩
    · rw [State.execDispCmd_full h.priv on]
    · rw [State.execDispCmd_rect h.priv on inside]
    · rw [State.execDispCmd_band h.priv]
  · intro c
    refine next_command _ h rfl rfl nofun ?_
    have idle : (s.counted t x .pwr 0 Off.PWR_CMD).queue (cmdAddr .pwr 0) = [] := State.queue_idle (by rw [State.counted_waiting, h.idle])
    have now : (s.counted t x .pwr 0 Off.PWR_CMD).now = max s.now t := State.counted_now s t x .pwr 0 Off.PWR_CMD
    have pwr : (s.counted t x .pwr 0 Off.PWR_CMD).pwr = s.pwr := State.counted_pwr s t x .pwr 0 Off.PWR_CMD
    simp only [State.takeCmd, h.noReset, Bool.false_and, Bool.false_eq_true, if_false, State.cmdArgs]
    rw [State.runPwr_alone idle (by rw [pwr, test]), State.execPwrCmd_test h.priv (by simp [test]) (by simp [charged]), State.setQueue_now, now]

end Sys2Proof.Machine
end

section
/-!
SUPPORT. Sessions (R42, R44, R487).
-/
namespace Sys2Proof.Machine

section
variable {s : State}

/-- A frame of a session that is ready as asked acts on what the frame keeps alive (R42, R44). -/
theorem State.withSess_known {port : Port} {good ready : Bool} {id : Word} {x : Session} {f : Session → State → State} (cmp : s.md.pstate.cmp = true)
    (ok : good = true) (known : s.sessOf port id = some x) (hr : x.ready = ready) : s.withSess port good ready id f = f x (s.touch x.slot) := by
  simp only [State.withSess, cmp, ok, known, hr, beq_self_eq_true, Bool.not_true, Bool.false_eq_true, if_false, if_true]

/-- A frame that fails a check only counts at its port (R41). -/
theorem State.withSess_bad {port : Port} {good ready : Bool} {id : Word} {f : Session → State → State} (cmp : s.md.pstate.cmp = true) (bad : good = false) :
    s.withSess port good ready id f = s.draDrop port := by
  simp only [State.withSess, cmp, bad, Bool.not_true, Bool.not_false, Bool.false_eq_true, if_false, if_true]

theorem Priv.ofCode_ne_none {want : Nat} (low : 1 ≤ want) (high : want ≤ 4) : (Priv.ofCode want == Priv.none) = false := by
  have cases_ : want = 1 ∨ want = 2 ∨ want = 3 ∨ want = 4 := by omega
  rcases cases_ with rfl | rfl | rfl | rfl <;> rfl

/-- A SESSION-INIT that finds a free slot opens a session that is not ready (R42). -/
theorem State.sessionInit_opens {port : Port} {good : Bool} {key nonce : List Byte} {cred want k : Nat} (ok : good = true) (cmp : s.md.pstate.cmp = true) (lcs : s.keys.lcs ≠ 3)
    (lock : s.host.lockUntil = none) (slot : s.freeSlot = some k) (low : 1 ≤ want) (high : want ≤ 4) :
    ∃ (y : Session) (m : List Byte), (y.slot = k ∧ y.port = port ∧ y.ready = false ∧ y.cred = cred ∧ y.want = Priv.ofCode want ∧ y.last = s.now) ∧
      s.sessionInit port good key nonce cred want =
        ({ s with free := s.free + 2, host := { s.host with sessions := s.host.sessions ++ [y] } } : State).emit (.accept port m) := by
  have served : ¬ (!s.md.pstate.cmp) = true := by simp [cmp]
  have open_ : ¬ (decide (s.keys.lcs = 3) || s.host.lockUntil.any (s.now < ·)) = true := by simp [lcs, lock]
  have granted : ¬ (Priv.ofCode want == Priv.none) = true := by simp [Priv.ofCode_ne_none low high]
  apply Exists.intro
  apply Exists.intro
  apply And.intro
  rotate_left
  · unfold State.sessionInit
    rw [if_neg served, if_neg (by simp [ok]), if_neg open_, slot]
    exact if_neg granted
  · exact ⟨rfl, rfl, rfl, rfl, rfl, rfl⟩

theorem State.sessionInit_bad {port : Port} {good : Bool} {key nonce : List Byte} {cred want : Nat} (cmp : s.md.pstate.cmp = true) (bad : good = false) :
    s.sessionInit port good key nonce cred want = s.draDrop port := by
  simp only [State.sessionInit, cmp, bad, Bool.not_true, Bool.not_false, Bool.false_eq_true, if_false, if_true]

theorem State.sessionProof_right {port : Port} {good : Bool} {id : Word} {x : Session} {secret : List Byte} {p : Priv} (ok : good = true) (cmp : s.md.pstate.cmp = true)
    (known : s.sessOf port id = some x) (hr : x.ready = false) (cred : (s.touch x.slot).credential port x.cred = some (secret, p)) :
    s.sessionProof port good id (proofMac secret x) =
      ((s.touch x.slot).updSess x.slot fun y => { y with ready := true, priv := if p.code < x.want.code then p else x.want, rx := 1, tx := 1 }).emit
        (.ready x.slot (if p.code < x.want.code then p else x.want)) := by
  rw [State.sessionProof, State.withSess_known cmp ok known hr]
  simp only [cred, if_true]

theorem State.sessionProof_unknown {port : Port} {good : Bool} {id : Word} {x : Session} {mac : List Byte} (ok : good = true) (cmp : s.md.pstate.cmp = true)
    (known : s.sessOf port id = some x) (hr : x.ready = false) (cred : (s.touch x.slot).credential port x.cred = none) :
    s.sessionProof port good id mac = (s.touch x.slot).proofFails x := by
  rw [State.sessionProof, State.withSess_known cmp ok known hr]
  simp only [cred]

theorem State.sessionClose_known {port : Port} {good : Bool} {id : Word} {x : Session} (cmp : s.md.pstate.cmp = true) (ok : good = true)
    (known : s.sessOf port id = some x) (hr : x.ready = true) : s.sessionClose port good id = (s.touch x.slot).endSession x.slot := by
  rw [State.sessionClose, State.withSess_known cmp ok known hr]

theorem State.ownClose_open {k : Nat} {x : Session} (cmp : s.md.pstate.cmp = true) (here : s.sess? k = some x) :
    s.ownClose k = (s.emit (.close x.port k)).endSession k := by
  simp only [State.ownClose, here, cmp, if_true]

theorem State.sessionIdle_past {k : Nat} {x : Session} (here : s.sess? k = some x) (past : x.last + 60 * sec ≤ s.now) : s.sessionIdle k = s.endSession k := by
  simp only [State.sessionIdle, here]
  exact if_pos past

theorem State.lockoutEnds_past {u : Nat} (lock : s.host.lockUntil = some u) (past : u ≤ s.now) :
    s.lockoutEnds = { s with host := { s.host with lockUntil := none } } := by
  simp only [State.lockoutEnds, lock]
  exact if_pos past

end

/-- Settles O23. -/
theorem sessionFramesAct : Obligations.SessionFramesAct := by
  intro s t b
  refine ⟨fun port fr key nonce cred want k ok cmp lcs lock slot low high => ?_,
    fun port fr id x secret p ok cmp known hr cred => next_settled (State.sessionProof_right ok cmp known hr cred),
    fun port fr id x mac ok cmp known hr cred => next_settled (State.sessionProof_unknown ok cmp known hr cred),
    fun port fr id x k ok cmp known hr => next_settled (State.sessionClose_known cmp ok known hr),
    fun port fr id x k cmp here => next_settled (State.ownClose_open cmp here),
    fun fr id key nonce mac cred want cmp =>
      ⟨fun bad => next_settled (State.sessionInit_bad cmp bad), fun bad => next_settled (State.withSess_bad cmp bad)⟩,
    fun x k here past => next_settled (State.sessionIdle_past here past),
    fun u lock past => next_settled (State.lockoutEnds_past lock past)⟩
  obtain ⟨y, m, ⟨hk, hport, hready, hcred, hwant, hlast⟩, opens⟩ :=
    State.sessionInit_opens (key := key) (nonce := nonce) (cred := cred) ok cmp lcs lock slot low high
  exact ⟨y, m, hk, hport, hready, hcred, hwant, hlast, next_settled opens⟩

end Sys2Proof.Machine
end

section
/-!
SUPPORT. How a request that waits for nothing executes (R45–R53).
-/
namespace Sys2Proof.Machine

/-! The session while its requests are taken -/

/-- The session in whose name a request executes at instant `t`. -/
def asking (x : Session) (s : State) (t : Nat) : Session := { x with last := max s.now t, held := [] }

theorem State.touch_sess {s : State} {slot : Nat} {x : Session} (h : s.sess? slot = some x) : (s.touch slot).sess? slot = some { x with last := s.now } := by
  rw [State.touch, State.updSess_sess _ _ _ (by intro x; rfl), h]
  rfl

theorem State.asked_sess {s : State} {t slot seq : Nat} {rq : Request} {x : Session} (h : s.sess? slot = some x) :
    (s.asked t slot seq rq).sess? slot = some (asking x s t) := by
  have heard : ((s.begin t).touch slot).sess? slot = some { x with last := (s.begin t).now } := State.touch_sess h
  rw [State.asked, State.updSess_sess _ _ _ (by intro x; rfl), State.updSess_sess _ _ _ (by intro x; rfl), heard]
  rfl

/-- Raising an event changes of the sessions what they have to be notified of alone. -/
theorem State.irq_sess (s : State) (p : Page) (i b k : Nat) :
    ∃ g : Session → Session, (∀ x, (g x).barrier = x.barrier ∧ (g x).held = x.held) ∧ (s.irq p i b).sess? k = (s.sess? k).map g := by
  have unchanged : ∃ g : Session → Session, (∀ x, (g x).barrier = x.barrier ∧ (g x).held = x.held) ∧ s.sess? k = (s.sess? k).map g :=
    ⟨id, fun _ => ⟨rfl, rfl⟩, by rw [Option.map_id]; rfl⟩
  have noted : ∀ n x, (noteRise n x).slot = x.slot ∧ (noteRise n x).barrier = x.barrier ∧ (noteRise n x).held = x.held := by
    intro n x
    unfold noteRise
    split
    · split <;> exact ⟨rfl, rfl, rfl⟩
    · exact ⟨rfl, rfl, rfl⟩
  simp only [State.irq, State.riseIf]
  split
  · split
    · refine ⟨noteRise (p.sumBit i), fun x => (noted _ x).2, ?_⟩
      have found : (fun y : Session => y.slot == k) ∘ noteRise (p.sumBit i) = fun y => y.slot == k := by
        funext y
        simp only [Function.comp, (noted _ y).1]
      show (s.host.sessions.map (noteRise (p.sumBit i))).find? _ = _
      rw [List.find?_map, found]
      rfl
    · exact unchanged
  · exact unchanged

/-- A request takes its place at the end of its session's queue. -/
def State.enterRequest (s : State) (slot seq : Nat) (rq : Request) : State := s.updSess slot fun y => { y with held := y.held ++ [(seq, rq)] }

theorem State.enterRequest_sess {s : State} {slot seq : Nat} {rq : Request} {x : Session} (h : s.sess? slot = some x) :
    (s.enterRequest slot seq rq).sess? slot = some { x with held := x.held ++ [(seq, rq)] } := by
  rw [State.enterRequest, State.updSess_sess _ _ _ (by intro x; rfl), h]
  rfl

theorem State.mirrorOf_alone {s : State} (h : (s.isActive && s.pair.session) = false) (y : Session) (rq : Request) : s.mirrorOf y rq = none := by
  simp only [State.mirrorOf, h, Bool.not_false, if_true]

/-- A request that waits for nothing executes at once (R53). -/
theorem State.hold_executes {s : State} {t slot seq : Nat} {rq : Request} {x : Session} (h : s.MayAsk slot x) (form : requestErr rq = .ok)
    (rest : ∀ z, ((s.asked t slot seq rq).execRequest (asking x s t) seq rq).sess? slot = some z → z.held = []) :
    ((s.begin t).touch slot).hold slot seq rq = (s.asked t slot seq rq).execRequest (asking x s t) seq rq := by
  have heard : ((s.begin t).touch slot).sess? slot = some { x with last := (s.begin t).now } := State.touch_sess h.here
  have entered := State.enterRequest_sess (seq := seq) (rq := rq) heard
  have enters : ((s.begin t).touch slot).hold slot seq rq = (((s.begin t).touch slot).enterRequest slot seq rq).runHeldOf slot false := rfl
  have pops : s.asked t slot seq rq = (((s.begin t).touch slot).enterRequest slot seq rq).updSess slot fun y => { y with held := [] } := rfl
  have popped := State.asked_sess (t := t) (seq := seq) (rq := rq) h.here
  rw [enters, pops]
  rw [pops] at popped rest
  have alone : ((((s.begin t).touch slot).enterRequest slot seq rq).isActive && (((s.begin t).touch slot).enterRequest slot seq rq).pair.session) = false := h.alone
  have free : ∀ l, (((s.begin t).touch slot).enterRequest slot seq rq).blocked { x with last := (s.begin t).now, held := l } = false := fun _ => h.free
  generalize ((s.begin t).touch slot).enterRequest slot seq rq = u at *
  simp only [h.first, List.nil_append] at entered
  simp only [State.runHeldOf, entered, List.length_cons, List.length_nil]
  rw [runHeld, entered]
  simp only [free, form, State.mirrorOf_alone alone, Bool.false_eq_true, if_false, popped, Option.getD_some]
  exact runHeld_done _ _ _ rest

/-- An operation of a ready session takes its place among the session's requests. -/
theorem State.operation_runs {s : State} {slot seq : Nat} {rq : Request} {x : Session} (here : s.sess? slot = some x)
    (runs : (s.md.pstate.cmp && x.ready) = true) : s.operation slot seq rq = (s.touch slot).hold slot seq rq := by
  simp only [State.operation, here, runs, if_true]

/-! Operations (R45–R51, R56) -/

section
variable {c u : State} {y : Session} {seq req addr : Nat}

theorem requestErr_read : requestErr (readRq req addr) = .ok := by simp [requestErr, readRq, rqOf]

theorem requestErr_write (val : Word) (m : Option Word) : requestErr (writeRq req addr val m) = .ok := by
  cases m <;> simp [requestErr, writeRq, rqOf]

theorem requestErr_readBlock {n : Nat} (low : 1 ≤ n) (high : n ≤ 356) : requestErr (readBlockRq req addr n) = .ok := by
  simp [requestErr, readBlockRq, rqOf, low, high]

theorem requestErr_writeBlock {ws : List Word} (low : 1 ≤ ws.length) (high : ws.length ≤ 356) : requestErr (writeBlockRq req addr ws) = .ok := by
  simp [requestErr, writeBlockRq, rqOf, low, high]

theorem requestErr_barrier : requestErr (plainRq req 5) = .ok := by simp [requestErr, plainRq, rqOf]

theorem requestErr_ping : requestErr (plainRq req 7) = .ok := by simp [requestErr, plainRq, rqOf]

theorem requestErr_notify (pages : Word64) (iv : Nat) : requestErr (notifyRq req pages iv) = .ok := by simp [requestErr, notifyRq, rqOf]

theorem State.execRequest_read {r : RegAddr} {d : RegDef} (page : r.page ≠ .pq) (at_ : c.locate addr = .reg r d) :
    c.execRequest y seq (readRq req addr) = c.answer y.slot seq ⟨req, 1, .ok, addr, 1, c.wseqOf (readRq req addr), [c.view y r d]⟩ := by
  have stays : (r.page == .pq) = false := beq_eq_false_iff_ne.mpr page
  simp [State.execRequest, State.readReg, State.respOf, readRq, rqOf, at_, stays]

theorem State.execRequest_write {val : Word} (act : c.writeReg y addr val none = (.ok, u)) :
    c.execRequest y seq (writeRq req addr val none) = u.answer y.slot seq ⟨req, 2, .ok, addr, 1, u.wseqOf (writeRq req addr val none), []⟩ := by
  simp [State.execRequest, State.respOf, writeRq, rqOf, act]

theorem State.execRequest_writeMasked {val m : Word} (act : c.writeReg y addr val (some m) = (.ok, u)) :
    c.execRequest y seq (writeRq req addr val (some m)) =
      u.answer y.slot seq ⟨req, 2, .ok, addr, 1, u.wseqOf (writeRq req addr val (some m)), []⟩ := by
  simp [State.execRequest, State.respOf, writeRq, rqOf, act]

theorem State.execRequest_readBlock {n : Nat} {ws : List Word} (act : c.blockRead y addr n = (.ok, addr, ws, u)) :
    c.execRequest y seq (readBlockRq req addr n) = u.answer y.slot seq ⟨req, 3, .ok, addr, n, u.wseqOf (readBlockRq req addr n), ws⟩ := by
  simp [State.execRequest, State.respOf, readBlockRq, rqOf, act]

theorem State.execRequest_writeBlock {ws : List Word} (act : c.blockWriteAll y addr ws = (.ok, addr, u)) :
    c.execRequest y seq (writeBlockRq req addr ws) =
      u.answer y.slot seq ⟨req, 4, .ok, addr, ws.length, u.wseqOf (writeBlockRq req addr ws), []⟩ := by
  simp [State.execRequest, State.respOf, writeBlockRq, rqOf, act]

theorem State.execRequest_ping : c.execRequest y seq (plainRq req 7) = c.answer y.slot seq ⟨req, 7, .ok, 0, 0, 0, []⟩ := by
  simp [State.execRequest, State.respOf, State.wseqOf, plainRq, rqOf]

/-- The two halves of a 64-bit value. -/
theorem pair64_halves (w : Word64) : pair64 (lo32 w) (hi32 w) = w := by
  apply BitVec.eq_of_getLsbD_eq
  intro i hi
  simp only [pair64, lo32, hi32, BitVec.getLsbD_or, BitVec.getLsbD_shiftLeft, BitVec.getLsbD_setWidth, BitVec.getLsbD_ushiftRight]
  by_cases low : i < 32
  · simp [low, hi]
  · have place : 32 + (i - 32) = i := by omega
    simp [low, hi, place, show i - 32 < 32 by omega, show i - 32 < 64 by omega]

/-- NOTIFY with some page and an interval within its range replaces the subscription (R56). -/
theorem State.execRequest_notify {pages : Word64} {iv : Nat} (some_ : pages.toNat % 2 ^ 60 ≠ 0) (low : 1 ≤ iv) (high : iv ≤ 1000) :
    c.execRequest y seq (notifyRq req pages iv) =
      (c.updSess y.slot fun z => { z with sub := some { mask := pages.toNat % 2 ^ 60, interval := iv } }).answer y.slot seq ⟨req, 6, .ok, 0, 0, 0, []⟩ := by
  have every : (w32 iv).fld 0 16 = iv := by
    simp only [Word.fld, w32, BitVec.toNat_ofNat, Nat.shiftRight_zero]
    omega
  have range : ¬ (iv = 0 ∨ 1000 < iv) := by omega
  have sub : c.subscribe y.slot [lo32 pages, hi32 pages, w32 iv] =
      (.ok, c.updSess y.slot fun z => { z with sub := some { mask := pages.toNat % 2 ^ 60, interval := iv } }) := by
    simp only [State.subscribe, List.getD_cons_zero, List.getD_cons_succ, pair64_halves, every, if_neg some_, if_neg range]
  simp [State.execRequest, sub, State.respOf, State.wseqOf, notifyRq, rqOf]

/-- A barrier with nothing under way completes at once and is answered (R51, R108). -/
theorem State.execRequest_barrier {d : RegDef} {z : Session} (here : c.sess? y.slot = some z) (none_ : z.barrier = none)
    (def_ : Page.ord.defAt Off.ORD_BARRIER = some d) (served : c.writeErr y ⟨.ord, 0, Off.ORD_BARRIER⟩ d = .ok) (met : c.barrierMet y.slot = true) :
    c.execRequest y seq (plainRq req 5) =
      (((c.accepted .ord 0).updSess y.slot fun z => { z with barrier := none, barStat := barWord 0 .ok }).irq .ord 0 1).answer y.slot seq
        ⟨req, 5, .ok, 0, 0, 0, []⟩ := by
  have here' : (c.accepted .ord 0).sess? y.slot = some z := here
  have met' : (c.accepted .ord 0).barrierMet y.slot = true := met
  have writes : c.barrierAsWrite y seq =
      (.ok, ((c.accepted .ord 0).updSess y.slot fun z => { z with barrier := none, barStat := barWord 0 .ok }).irq .ord 0 1) := by
    simp [State.barrierAsWrite, def_, served, State.barrierWrite, here', none_, met', State.endBarrier]
  obtain ⟨g, hg, after⟩ := State.irq_sess ((c.accepted .ord 0).updSess y.slot fun z => { z with barrier := none, barStat := barWord 0 .ok }) .ord 0 1 y.slot
  rw [State.updSess_sess _ _ _ (by intro x; rfl), here'] at after
  simp [State.execRequest, writes, after, hg, State.respOf, State.wseqOf, plainRq, rqOf]

end

/-! Reads and what memory holds (R50) -/

section
variable {s : State} {slot seq : Nat} {rq : Request} {x : Session}

theorem State.readOperation_clean (here : s.sess? slot = some x) (runs : (s.md.pstate.cmp && x.ready) = true) :
    s.readOperation slot seq rq .clean = (s.touch slot).hold slot seq rq := by
  simp only [State.readOperation, here, runs, if_true, State.readFind]

theorem State.readOperation_uncorrectable {ps : List Nat} {e : MemErr} (here : s.sess? slot = some x) (runs : (s.md.pstate.cmp && x.ready) = true)
    (found : (s.touch slot).decoded (.wrong ps e) = .failed) :
    s.readOperation slot seq rq (.wrong ps e) = ((s.touch slot).uncorrectable e false).answer slot seq
      (((s.touch slot).uncorrectable e false).respOf rq .uncorr rq.addr 0 []) := by
  simp only [State.readOperation, here, runs, if_true, State.readFind, found]

theorem State.readOperation_corrected {ps qs : List Nat} {e : MemErr} (here : s.sess? slot = some x) (runs : (s.md.pstate.cmp && x.ready) = true)
    (found : (s.touch slot).decoded (.wrong ps e) = .corrected qs) :
    s.readOperation slot seq rq (.wrong ps e) = ((s.touch slot).corrected e.sram e.index qs).hold slot seq rq := by
  simp only [State.readOperation, here, runs, if_true, State.readFind, found]

end

/-- Settles O24: each request is well formed, waits for nothing and is answered by the session it is asked by. -/
theorem operationsAnswer : Obligations.OperationsAnswer := by
  intro s t slot seq req x h y
  obtain rfl : x.slot = slot := State.sess_slot h.here
  have begins : (s.begin t).sess? x.slot = some x := h.here
  have runs : ((s.begin t).md.pstate.cmp && x.ready) = true := by simp [h.cmp, h.ready]
  have asked : ∀ rq, (s.asked t x.slot seq rq).sess? x.slot = some y := fun rq => State.asked_sess h.here
  have idle : ∀ rq z, (s.asked t x.slot seq rq).sess? x.slot = some z → z.held = [] := by
    intro rq z hz
    rw [asked] at hz
    cases hz
    rfl
  have executes : ∀ (rq : Request) (u : State) (r : Resp), requestErr rq = .ok → (∀ z, u.sess? x.slot = some z → z.held = []) →
      (s.asked t x.slot seq rq).execRequest y seq rq = u.answer x.slot seq r → ((s.begin t).touch x.slot).hold x.slot seq rq = u.answer x.slot seq r :=
    fun rq u r form rest act => (State.hold_executes h form (act ▸ State.answer_held u x.slot seq r rest)).trans act
  have answers : ∀ (rq : Request) (u : State) (r : Resp), requestErr rq = .ok → (∀ z, u.sess? x.slot = some z → z.held = []) →
      (s.asked t x.slot seq rq).execRequest y seq rq = u.answer x.slot seq r → (s.begin t).operation x.slot seq rq = u.answer x.slot seq r :=
    fun rq u r form rest act => (State.operation_runs begins runs).trans (executes rq u r form rest act)
  have reads : ∀ (rq : Request) (u : State) (r : Resp), requestErr rq = .ok → (∀ z, u.sess? x.slot = some z → z.held = []) →
      (s.asked t x.slot seq rq).execRequest y seq rq = u.answer x.slot seq r → (s.begin t).readOperation x.slot seq rq .clean = u.answer x.slot seq r :=
    fun rq u r form rest act => (State.readOperation_clean begins runs).trans (executes rq u r form rest act)
  refine ⟨fun addr r d page at_ => next_settled (reads _ _ _ requestErr_read (idle _) (State.execRequest_read page at_)),
    fun addr ps e found => next_settled (State.readOperation_uncorrectable begins runs found),
    fun addr ps qs e found => next_settled (State.readOperation_corrected begins runs found),
    fun addr val u act rest => next_settled (answers _ _ _ (requestErr_write val none) rest (State.execRequest_write act)),
    fun addr val m u act rest => next_settled (answers _ _ _ (requestErr_write val (some m)) rest (State.execRequest_writeMasked act)),
    fun addr n ws u low high act rest => next_settled (reads _ _ _ (requestErr_readBlock low high) rest (State.execRequest_readBlock act)),
    fun addr ws u low high act rest => next_settled (answers _ _ _ (requestErr_writeBlock low high) rest (State.execRequest_writeBlock act)),
    fun d def_ served met => next_settled (answers _ _ _ requestErr_barrier ?_ (State.execRequest_barrier (asked _) ?_ def_ served met)),
    next_settled (answers _ _ _ requestErr_ping (idle _) State.execRequest_ping),
    fun pages iv some_ low high => next_settled (answers _ _ _ (requestErr_notify pages iv) ?_ (State.execRequest_notify some_ low high))⟩
  · intro z hz
    obtain ⟨g, hg, after⟩ := State.irq_sess (((s.asked t x.slot seq (plainRq req 5)).accepted .ord 0).updSess x.slot fun z =>
      { z with barrier := none, barStat := barWord 0 .ok }) .ord 0 1 x.slot
    have counted : ((s.asked t x.slot seq (plainRq req 5)).accepted .ord 0).sess? x.slot = some y := asked _
    rw [after, State.updSess_sess _ _ _ (by intro x; rfl), counted] at hz
    cases hz
    exact (hg _).2
  · have free : s.blocked x = false := h.free
    simp only [State.blocked, Bool.or_eq_false_iff] at free
    exact Option.isNone_iff_eq_none.mp (Option.isSome_eq_false_iff.mp free.1)
  · intro z hz
    rw [State.updSess_sess _ _ _ (by intro x; rfl), asked] at hz
    cases hz
    rfl

end Sys2Proof.Machine
end

section
/-!
SUPPORT. Frames in SEQ order and notifications (R52, R56–R58).
-/
namespace Sys2Proof.Machine

section
variable {s : State}

/-- The next REQUEST joins the last 64 and executes in its session's order (R52). -/
theorem State.request_next {port : Port} {good : Bool} {id : Word} {x : Session} {rq : Request} (cmp : s.md.pstate.cmp = true) (ok : good = true)
    (known : s.sessOf port id = some x) (hr : x.ready = true) (room : unanswered x < 16) :
    s.request port good id (x.rx + 1) rq =
      ((s.touch x.slot).updSess x.slot fun y => acceptSeq y (x.rx + 1) (.pending rq)).hold x.slot (x.rx + 1) rq := by
  have space : ¬ unanswered x ≥ 16 := Nat.not_le.mpr room
  rw [State.request, State.withSess_known cmp ok known hr]
  simp only [State.inOrder, if_true, if_neg space]

theorem State.notifySend_first {slot : Nat} {x : Session} {u : Subscription} (cmp : s.md.pstate.cmp = true) (here : s.sess? slot = some x)
    (sub : x.sub = some u) (risen : u.risen ≠ 0) (acked : u.outst = none) (first : u.sentAt = none) :
    s.notifySend slot = (s.setSub slot { u with
      lastNum := u.lastNum + 1, risen := 0, sentAt := some s.now, outst := some ⟨u.lastNum + 1, u.risen, u.interval, s.now⟩ }).sendNotify slot
        (u.lastNum + 1) u.risen u.mask := by
  have bound : (s.sess? slot).bind (·.sub) = some u := by rw [here]; exact sub
  simp only [State.notifySend, bound]
  exact if_pos (by simp [cmp, risen, acked, first])

theorem State.notifyRepeat_due {slot : Nat} {x : Session} {u : Subscription} {o : Outstanding} (cmp : s.md.pstate.cmp = true)
    (here : s.sess? slot = some x) (sub : x.sub = some u) (open_ : u.outst = some o) (due : o.sentAt + o.every * ms ≤ s.now) :
    s.notifyRepeat slot = (s.setSub slot { u with
      sentAt := some s.now, outst := some { o with every := min 1000 (2 * o.every), sentAt := s.now } }).sendNotify slot o.num (o.risen ||| u.risen) u.mask := by
  have bound : (s.sess? slot).bind (·.sub) = some u := by rw [here]; exact sub
  simp only [State.notifyRepeat, bound, open_]
  exact if_pos (by simp [cmp, due])

/-- The acknowledgement of the NOTIFY that is out ends it (R58). -/
theorem State.notifyAck_next {port : Port} {good : Bool} {id : Word} {x : Session} {u : Subscription} {o : Outstanding} (cmp : s.md.pstate.cmp = true)
    (ok : good = true) (known : s.sessOf port id = some x) (hr : x.ready = true) (sub : x.sub = some u) (open_ : u.outst = some o) :
    s.notifyAck port good id (x.rx + 1) o.num =
      ((s.touch x.slot).updSess x.slot fun y => acceptSeq y (x.rx + 1) .ack).setSub x.slot { u with outst := none } := by
  rw [State.notifyAck, State.withSess_known cmp ok known hr]
  simp only [State.inOrder, if_true, sub, open_]

end

/-- Settles O25. -/
theorem requestsAndNotificationsAct : Obligations.RequestsAndNotificationsAct := by
  intro s t b cmp
  exact ⟨fun port fr id x rq ok known hr room => next_settled (State.request_next cmp ok known hr room),
    fun slot x u here sub risen acked first => next_settled (State.notifySend_first cmp here sub risen acked first),
    fun slot x u o here sub open_ due => next_settled (State.notifyRepeat_due cmp here sub open_ due),
    fun port fr id x u o ok known hr sub open_ => next_settled (State.notifyAck_next cmp ok known hr sub open_)⟩

end Sys2Proof.Machine
end

section
/-!
SUPPORT. Register writes: accepted, refused, waiting, mirrored (R34, R35, R48, R53, R108, R109).
-/
namespace Sys2Proof.Machine

section
variable {s : State} {t slot i o : Nat} {x : Session} {p : Page} {d : RegDef} {v : Word}

/-- The register that a write addresses. -/
theorem State.Writes.locates (h : s.Writes slot x p i o d) : ((s.begin t).touch slot).locate (p.reg i o) = .reg ⟨p, i, o⟩ d := by
  have aligned : p.reg i o % 4 = 0 := by
    have base := page_base0 p
    have word := h.word
    simp only [Page.reg, Page.base]
    omega
  have present : p.present ((s.begin t).touch slot).variant i = true := h.present
  simp [State.locate, decodeAddr_reg p i o h.inst h.word.2, present, aligned, h.def_]

/-- A write of a ready session acts at once or takes its place among the session's requests. -/
theorem State.hostWrite_runs (h : s.Writes slot x p i o d) : (s.begin t).hostWrite slot (p.reg i o) v =
    if ((s.begin t).touch slot).atOnce x (p.reg i o) v then (((s.begin t).touch slot).writeReg x (p.reg i o) v none).2
    else ((s.begin t).touch slot).hold slot noSeq (bareWrite (p.reg i o) v) := by
  have here : (s.begin t).sess? slot = some x := h.here
  have runs : ((s.begin t).md.pstate.cmp && x.ready) = true := by simp [h.cmp, h.ready]
  simp only [State.hostWrite, here, runs, if_true]

theorem State.writeReg_accepted (h : s.Writes slot x p i o d) {u : State} (served : s.writeErr x ⟨p, i, o⟩ d = .ok)
    (act : (s.counted t x p i o).effect x ⟨p, i, o⟩ d v = (.ok, u)) : (((s.begin t).touch slot).writeReg x (p.reg i o) v none).2 = u := by
  have served' : ((s.begin t).touch slot).writeErr x ⟨p, i, o⟩ d = .ok := served
  have counts : (((s.begin t).touch slot).accepted p i).notePend x.slot p i o = s.counted t x p i o := by rw [State.counted, State.sess_slot h.here]
  simp only [State.writeReg, h.locates, served', counts, act]

theorem State.writeReg_refused (h : s.Writes slot x p i o d) (refused : s.writeErr x ⟨p, i, o⟩ d ≠ .ok) :
    (((s.begin t).touch slot).writeReg x (p.reg i o) v none).2 = ((s.begin t).touch slot).refuse p i (s.writeErr x ⟨p, i, o⟩ d) := by
  have same : ((s.begin t).touch slot).writeErr x ⟨p, i, o⟩ d = s.writeErr x ⟨p, i, o⟩ d := rfl
  simp only [State.writeReg, h.locates, same]

/-- Only ORD.BARRIER has its address. -/
theorem reg_ne_barrier (hi : i < p.count) (ho : o < 0x1000) (other : p ≠ .ord ∨ o ≠ Off.ORD_BARRIER) : p.reg i o ≠ Page.reg .ord 0 Off.ORD_BARRIER := by
  intro same
  have found := congrArg decodeAddr same
  rw [decodeAddr_reg p i o hi ho, decodeAddr_reg .ord 0 Off.ORD_BARRIER (by decide) (by decide)] at found
  cases found
  rcases other with h | h <;> exact h rfl

/-- A blocked session executes nothing it holds (R108, R109). -/
theorem runHeld_blocked {k n : Nat} {go : Bool} {u : State} {z : Session} (here : u.sess? k = some z) (blocked : u.blocked z = true) :
    runHeld k go n u = u := by
  cases n with
  | zero => rfl
  | succ n =>
    simp only [runHeld, here]
    split
    · rfl
    · exact if_pos blocked

/-- What a session holds waits while the session is blocked. -/
theorem State.hold_blocked {seq : Nat} {rq : Request} {y : Session} (here : s.sess? slot = some y) (blocked : s.blocked y = true) :
    s.hold slot seq rq = s.enterRequest slot seq rq := by
  have entered := State.enterRequest_sess (seq := seq) (rq := rq) here
  have enters : s.hold slot seq rq = (s.enterRequest slot seq rq).runHeldOf slot false := rfl
  rw [enters, State.runHeldOf, entered]
  exact runHeld_blocked entered blocked

/-- A write that this module mirrors goes to the partner first and waits for its acknowledgement (R109). -/
theorem State.hold_mirrored {seq : Nat} {rq : Request} {y : Session} {w : HostWrite} (entered : (s.enterRequest slot seq rq).sess? slot = some y)
    (first : y.held = [(seq, rq)]) (free : (s.enterRequest slot seq rq).blocked y = false) (form : requestErr rq = .ok)
    (mirror : (s.enterRequest slot seq rq).mirrorOf y rq = some w) :
    let u := (s.enterRequest slot seq rq).pl1Send (.hostin w)
    s.hold slot seq rq = { u with pair := { u.pair with acks := u.pair.acks ++ [(u.pair.txSeq, slot, seq)] } } := by
  have enters : s.hold slot seq rq = (s.enterRequest slot seq rq).runHeldOf slot false := rfl
  rw [enters]
  generalize s.enterRequest slot seq rq = u at *
  simp only [State.runHeldOf, entered, first, runHeld, free, form, mirror, Bool.false_eq_true, if_false]

end

theorem requestErr_bareWrite (a : Nat) (v : Word) : requestErr (bareWrite a v) = .ok := by simp [requestErr, bareWrite]

/-- Settles O26. -/
theorem registerWritesActOrAreRefused : Obligations.RegisterWritesActOrAreRefused := by
  intro s t slot i o x p d v h b rq held
  refine ⟨fun direct local_ => ?_, fun blocked other => next_settled ?_, fun y w direct here isMirrored mirror => next_settled ?_⟩
  · have now := State.atOnce_direct (t := t) (slot := slot) direct h.inst h.word.2 v local_
    exact ⟨fun served u act => next_settled ((State.hostWrite_runs h).trans ((if_pos now).trans (State.writeReg_accepted h served act))),
      fun refused => next_settled ((State.hostWrite_runs h).trans ((if_pos now).trans (State.writeReg_refused h refused)))⟩
  · have waits : ¬ b.atOnce x (p.reg i o) v = true := by
      have blocked' : b.blocked x = true := blocked
      simp [State.atOnce, blocked', reg_ne_barrier h.inst h.word.2 other]
    have heard : b.sess? slot = some { x with last := (s.begin t).now } := State.touch_sess h.here
    exact (State.hostWrite_runs h).trans ((if_neg waits).trans (State.hold_blocked heard blocked))
  · have free : x.barrier.isSome = false := (Bool.or_eq_false_iff.mp direct.free).1
    have waits : ¬ b.atOnce x (p.reg i o) v = true := by
      have goes : (b.mirrorOf x (bareWrite (p.reg i o) v)).isNone = false := Option.isNone_eq_false_iff.mpr isMirrored
      simp [State.atOnce, goes, free]
    have heard : b.sess? slot = some { x with last := (s.begin t).now } := State.touch_sess h.here
    have entered := State.enterRequest_sess (seq := noSeq) (rq := rq) heard
    have same : { x with last := (s.begin t).now, held := x.held ++ [(noSeq, rq)] } = y := Option.some.inj (entered.symm.trans here)
    subst same
    refine (State.hostWrite_runs h).trans ((if_neg waits).trans ?_)
    exact State.hold_mirrored entered (congrArg (· ++ [(noSeq, rq)]) direct.first) direct.free (requestErr_bareWrite _ _) mirror

end Sys2Proof.Machine
end

section
/-!
SUPPORT. The common header on a register file out of its canonical form.
-/
namespace Sys2Proof.Machine
open Sys2Proof.Tests

/-- A register file that names PAGE_IRQ of CAN6 twice, which `Rising` shuts out and the statement does not: a register that returns to its reset value is taken
out of the file once, so that the second entry shows. -/
def markedTwice : State :=
  { st .run with regs := [(Page.reg .can 5 Off.PAGE_IRQ, 1), (Page.reg .can 5 Off.PAGE_IRQ, 1), (Page.reg .can 5 Off.PAGE_ERR, 5)] }

/-- PAGE_ERR of CAN6 in the next state. -/
def errShown : Host.Outcome State Fault Refusal → Option Word
  | .next u => some (u.rdp .can 5 Off.PAGE_ERR)
  | _ => none

/-- ERR still stands after the write, so PAGE_ERR stays. -/
theorem markedTwice_errStays : errShown (exec (.pageIrqClear 0 0 .can 5 1) markedTwice) = some 5 := by decide +kernel

/-- Refutes O27: where the register file names PAGE_IRQ twice, ERR reads 1 after a 1 was written to it, and PAGE_ERR stays; the statement, whose `left` is what
was written, has PAGE_ERR cleared. It lacks the premise that the register file is in its canonical form (`Rising`, as O5 has it). -/
theorem not_pageHeaderWritesAct : ¬ Obligations.PageHeaderWritesAct := by
  unfold Obligations.PageHeaderWritesAct
  intro h
  obtain ⟨d, may⟩ := can_write (s := markedTwice) (p := .can) (i := 5) (o := Off.PAGE_IRQ) (by decide +kernel)
  have clears := congrArg errShown (((h markedTwice 0 0 5 sess .can d).1 1 may).1 nofun)
  rw [markedTwice_errStays] at clears
  revert clears
  decide +kernel

end Sys2Proof.Machine
end

section
/-!
SUPPORT. The making good of a station whose number takes more than eight bits.
-/
namespace Sys2Proof.Machine
open Sys2Proof.Tests

/-- A running module that makes the ingest of station 4095 good, without sets that wait. -/
def lastStationInMg : State := { st .run with ord := { (st .run).ord with mg := [⟨.ingest 4095, 3, 0⟩] } }

/-- ORD.MG_LAST in the next state. -/
def mgLastShown : Host.Outcome State Fault Refusal → Option Word
  | .next u => some (u.rdp .ord 0 Off.ORD_MG_LAST)
  | _ => none

/-- ORD.MG_LAST holds the station's number modulo 256, as its eight bits do. -/
theorem lastStationInMg_shown : mgLastShown (exec (.makingGoodDone 0 (.ingest 4095)) lastStationInMg) = some (mgWord 5 255 3 0) := by decide +kernel

/-- Refutes O28: the member's number in ORD.MG_LAST and in the record has eight bits, and the model loads it with the station's number modulo 256; the statement adds
the whole number, so that the number of station 4095 runs into the field of the cause. -/
theorem not_orderAndMemoryEventsAct : ¬ Obligations.OrderAndMemoryEventsAct := by
  intro h
  obtain ⟨-, -, -, ends, -⟩ := h lastStationInMg 0 0 sess
  have shown := congrArg mgLastShown (ends 4095 ⟨.ingest 4095, 3, 0⟩ (by decide +kernel) (by decide +kernel))
  rw [lastStationInMg_shown] at shown
  revert shown
  decide +kernel

end Sys2Proof.Machine
end

section
/-!
SUPPORT. What entry to SAFE-HOLD stops and sends leaves the mode logic, the profiles and the masks as they are (R64).
-/
namespace Sys2Proof.Machine

/-- `u` has the mode logic, the profiles and the masks of `s`. -/
structure State.SameHold (s u : State) : Prop where
  mode     : u.md.mode = s.md.mode
  crossing : u.md.crossing = s.md.crossing
  causes   : u.md.shCauses = s.md.shCauses
  prof     : u.prof = s.prof
  masks    : u.prg.masks = s.prg.masks

namespace State.SameHold

theorem refl (s : State) : s.SameHold s := ⟨rfl, rfl, rfl, rfl, rfl⟩

theorem trans {a b c : State} (h : a.SameHold b) (k : b.SameHold c) : a.SameHold c := 
  ⟨k.mode.trans h.mode, k.crossing.trans h.crossing, k.causes.trans h.causes, k.prof.trans h.prof, k.masks.trans h.masks⟩

theorem of_logs {s u : State} (h : s.Logs u) : s.SameHold u := 
  ⟨congrArg (·.mode) h.md, congrArg (·.crossing) h.md, congrArg (·.shCauses) h.md, h.prof, congrArg (·.masks) h.prg⟩

theorem foldl {β : Type} {f : State → β → State} (h : ∀ (s : State) b, s.SameHold (f s b)) (l : List β) (s : State) : s.SameHold (l.foldl f s) := by
  induction l generalizing s with
  | nil => exact refl s
  | cons x xs ih => exact (h s x).trans (ih _)

theorem ite {c : Prop} [Decidable c] {s u v : State} (h : s.SameHold u) (k : s.SameHold v) : s.SameHold (if c then u else v) := by
  split
  · exact h
  · exact k

end State.SameHold

section
variable (s : State)

theorem State.irq_hold (p : Page) (i b : Nat) : s.SameHold (s.irq p i b) := .of_logs (State.irq_logs s p i b)

theorem State.record_hold (code : Nat) (p1 p2 p3 : Word) (g : Bool) : s.SameHold (s.record code p1 p2 p3 g) := .of_logs (State.record_logs s code p1 p2 p3 g)

theorem State.pl1Send_hold (f : Pl1Out) : s.SameHold (s.pl1Send f) := .of_logs (State.pl1Send_logs s f)

theorem State.complete_hold (p : Page) (i o : Nat) (e : Err) (tag b : Nat) : s.SameHold (s.complete p i o e tag b) :=
  .of_logs ((s.wrp_logs p i o _).trans (State.irq_logs _ _ _ _))

/-! The solver slots -/

theorem State.slv_hold (x : SolverState) : s.SameHold { s with slv := x } := ⟨rfl, rfl, rfl, rfl, rfl⟩

theorem State.setQueue_hold (a : Nat) (q : List QCmd) : s.SameHold (s.setQueue a q) := ⟨rfl, rfl, rfl, rfl, rfl⟩

theorem State.updPair_hold (f : PairState → PairState) : s.SameHold (s.updPair f) := ⟨rfl, rfl, rfl, rfl, rfl⟩

theorem State.lp_hold (x : LoopState) : s.SameHold { s with lp := x } := ⟨rfl, rfl, rfl, rfl, rfl⟩

theorem State.updStn_hold (n : Nat) (f : Stn → Stn) : s.SameHold (s.updStn n f) := ⟨rfl, rfl, rfl, rfl, rfl⟩

theorem State.updSlot_hold (n : Nat) (f : Slot → Slot) : s.SameHold (s.updSlot n f) := ⟨rfl, rfl, rfl, rfl, rfl⟩

theorem State.lanePower_hold : s.SameHold s.lanePower := by
  simp only [State.lanePower]
  exact .ite ⟨rfl, rfl, rfl, rfl, rfl⟩ ⟨rfl, rfl, rfl, rfl, rfl⟩

theorem State.grant_hold : s.SameHold s.grant := by
  have power : ∀ u : State, s.SameHold u → s.SameHold u.lanePower := fun u h => h.trans u.lanePower_hold
  simp only [State.grant]
  refine .ite (.refl s) ?_
  split
  · exact power _ ⟨rfl, rfl, rfl, rfl, rfl⟩
  · split
    · exact power _ ⟨rfl, rfl, rfl, rfl, rfl⟩
    · split
      · exact power _ ⟨rfl, rfl, rfl, rfl, rfl⟩
      · exact s.lanePower_hold

theorem State.preempt_hold (k : Nat) : s.SameHold (s.preempt k) := by
  simp only [State.preempt]
  split
  · split
    · exact .ite ⟨rfl, rfl, rfl, rfl, rfl⟩ (.refl s)
    · exact .refl s
  · exact ⟨rfl, rfl, rfl, rfl, rfl⟩
  · exact ⟨rfl, rfl, rfl, rfl, rfl⟩
  · exact .refl s

theorem State.returnLanes_hold : s.SameHold s.returnLanes := by
  simp only [State.returnLanes]
  refine .foldl (fun u k => ?_) _ _
  have freed : u.SameHold (u.updLane k fun _ => {}) := ⟨rfl, rfl, rfl, rfl, rfl⟩
  exact freed.trans ((State.irq_hold _ _ _ _).trans ((State.record_hold _ _ _ _ _ _).trans ⟨rfl, rfl, rfl, rfl, rfl⟩))

theorem State.refuse_hold (p : Page) (i : Nat) (e : Err) : s.SameHold (s.refuse p i e) :=
  .of_logs ((s.wrp_logs p i _ _).trans (State.irq_logs _ _ _ _))

theorem State.skimRejects_hold (n : Nat) (es : List Err) : s.SameHold (s.skimRejects n es) := by
  simp only [State.skimRejects]
  have counted : s.SameHold (s.satp .slot n Off.SLOT_SKIM_REJ es.length) := ⟨rfl, rfl, rfl, rfl, rfl⟩
  exact .ite (.refl s) (counted.trans ((State.SameHold.foldl (fun s e => State.refuse_hold s .slot n e) _ _).trans (State.irq_hold _ _ _ _)))

theorem State.startCycle_hold (n num : Nat) (trial : Bool) : s.SameHold (s.startCycle n num trial) := by
  simp only [State.startCycle]
  split
  · refine s.returnLanes_hold.trans (State.SameHold.trans ?_ ((State.preempt_hold _ _).trans (State.grant_hold _)))
    next c x _ _ =>
    have rejects : ∀ (u : State) (es : List Err) (b : Bool),
        u.SameHold (if b = true then (u.skimRejects n es).skimRejects n [.struct] else u.skimRejects n es) := fun u es b =>
      .ite ((State.skimRejects_hold _ _ _).trans (State.skimRejects_hold _ _ _)) (State.skimRejects_hold _ _ _)
    refine State.SameHold.trans ?_ (State.updSlot_hold _ _ _)
    cases c.kind
    · exact (rejects _ _ _).trans (State.slv_hold _ _)
    · exact rejects _ _ _
  · exact .refl s

theorem State.execSlotCmd_hold (n : Nat) (c : QCmd) : s.SameHold (s.execSlotCmd n c).2 := by
  simp only [State.execSlotCmd]
  split
  · repeat' split
    iterate 4 · exact .refl s
    · exact (s.updSlot_hold _ _).trans (State.grant_hold _)
  · repeat' split
    iterate 3 · exact .refl s
    · exact (s.updSlot_hold _ _).trans (State.startCycle_hold _ _ _ _)
  · repeat' split
    all_goals exact ⟨rfl, rfl, rfl, rfl, rfl⟩
  · repeat' split
    all_goals exact ⟨rfl, rfl, rfl, rfl, rfl⟩
  · exact .refl s

end

theorem beginSlot_hold (n k : Nat) (s : State) : s.SameHold (beginSlot n k s) := by
  induction k generalizing s with
  | zero => exact .refl s
  | succ k ih =>
    simp only [beginSlot]
    split
    · exact .refl s
    · next c _ =>
      refine .ite (.refl s) ?_
      have run := State.execSlotCmd_hold (s.updSlot n fun x => { x with begun := (s.slot n).begun ++ [.waiting] }) n c
      generalize (s.updSlot n fun x => { x with begun := (s.slot n).begun ++ [.waiting] }).execSlotCmd n c = r at *
      obtain ⟨e, u⟩ := r
      have base : s.SameHold u := (s.updSlot_hold _ _).trans run
      cases e with
      | none => exact base.trans (ih u)
      | some e => exact base.trans ((u.updSlot_hold _ _).trans (ih _))

theorem reportSlot_hold (n k : Nat) (s : State) : s.SameHold (reportSlot n k s) := by
  induction k generalizing s with
  | zero => exact .refl s
  | succ k ih =>
    simp only [reportSlot]
    split
    · exact (s.setQueue_hold _ _).trans ((State.updSlot_hold _ _ _).trans ((State.complete_hold _ _ _ _ _ _ _).trans (ih _)))
    · exact .refl s

section
variable (s : State)

theorem State.endCmds_hold (n op : Nat) (p : CmdSt → Bool) (e : Err) : s.SameHold (s.endCmds n op p e) :=
  (s.updSlot_hold _ _).trans ((beginSlot_hold n _ _).trans (reportSlot_hold n _ _))

theorem State.discardCycles_hold : s.SameHold s.discardCycles := by
  simp only [State.discardCycles]
  refine State.SameHold.trans ?_ (State.grant_hold _)
  split <;> exact ⟨rfl, rfl, rfl, rfl, rfl⟩

theorem State.stopSlots_hold : s.SameHold s.stopSlots := by
  refine s.discardCycles_hold.trans (.foldl (fun u n => ?_) _ _)
  have trial : u.SameHold (if (u.slot n).trialCmd.isSome then (u.updSlot n fun y => { y with trialCmd := none }).endCmds n 2 (fun _ => true) .aborted else u) :=
    .ite ((u.updSlot_hold _ _).trans (State.endCmds_hold _ _ _ _ _)) (.refl u)
  exact trial.trans (State.endCmds_hold _ _ _ _ _)

/-! Loops, captures, making goods, handovers -/

theorem State.endTests_hold : s.SameHold s.endTests := by
  refine .foldl (fun u n => ?_) _ _
  simp only [State.endTest]
  exact .ite ((u.lp_hold _).trans (State.irq_hold _ _ _ _)) (.refl u)

theorem State.abortCaps_hold (p : Cap → Bool) : s.SameHold (s.abortCaps p) := by
  refine .foldl (fun u k => ?_) _ _
  exact .ite ((u.lp_hold _).trans (State.irq_hold _ _ _ _)) (.refl u)

theorem State.stopLoops_hold : s.SameHold s.stopLoops := by
  simp only [State.stopLoops]
  refine State.SameHold.trans (s.endTests_hold.trans ((State.lp_hold _ _).trans (State.abortCaps_hold _ _))) (.foldl (fun u p => ?_) _ _)
  exact (u.setQueue_hold _ _).trans (.foldl (fun v c => State.complete_hold _ _ _ _ _ _ _) _ _)

theorem State.mgAbandon_hold (p : Eng → Bool) : s.SameHold (s.mgAbandon p) := by
  have drop : s.SameHold (s.mgDrop p) := by
    simp only [State.mgDrop]
    split <;> exact ⟨rfl, rfl, rfl, rfl, rfl⟩
  exact drop.trans (.foldl (fun u m => (State.irq_hold _ _ _ _).trans (State.record_hold _ _ _ _ _ _)) _ _)

theorem State.dropHandover_hold : s.SameHold s.dropHandover := by
  simp only [State.dropHandover]
  split
  · exact .refl s
  · next h _ =>
    refine .ite (.refl s) ?_
    cases h.cmd with
    | none =>
      simp only [State.pairDoneOpt]
      exact s.updPair_hold _
    | some c => exact (s.updPair_hold _).trans (State.complete_hold _ _ _ _ _ _ _)

/-! What a change of mode sends -/

theorem State.updSeg_hold (n : Nat) (f : Seg → Seg) : s.SameHold (s.updSeg n f) := by
  simp only [State.updSeg]
  exact .ite (.refl s) ⟨rfl, rfl, rfl, rfl, rfl⟩

theorem State.refreshCan_hold (old : State) : s.SameHold (s.refreshCan old) := by
  refine .foldl (fun u k => ?_) _ _
  split
  · exact .refl u
  · exact .ite (.refl u) (State.updSeg_hold _ _ _)

theorem State.takeDseq_hold (st : Nat) : s.SameHold (s.takeDseq st).2 := by
  simp only [State.takeDseq]
  split
  · exact .refl s
  · split
    · exact ⟨rfl, rfl, rfl, rfl, rfl⟩
    · exact (s.updStn_hold _ _).trans (State.pl1Send_hold _ _)

theorem State.countRecord_hold (st : Nat) : s.SameHold (s.countRecord st) := by
  simp only [State.countRecord]
  refine State.SameHold.trans ?_ (State.updStn_hold _ _ _)
  split
  · exact .ite (State.pl1Send_hold _ _) (.refl s)
  · exact .refl s

theorem State.dpxTx_hold (st : Nat) (o : Out) : s.SameHold (s.dpxTx st o) :=
  State.SameHold.trans (b := (s.emit o).modp .dpx 0 Off.DPX_TX_MSG) ⟨rfl, rfl, rfl, rfl, rfl⟩ (State.countRecord_hold _ _)

end

theorem pumpLoop_hold (st k : Nat) (s : State) : s.SameHold (pumpLoop st k s) := by
  induction k generalizing s with
  | zero => exact .refl s
  | succ k ih =>
    simp only [pumpLoop]
    split
    · exact .refl s
    · split
      · exact .refl s
      · refine .ite (.refl s) ((State.takeDseq_hold s st).trans ?_)
        exact (State.updStn_hold _ _ _).trans ((State.dpxTx_hold _ _ _).trans (ih _))

section
variable (s : State)

theorem State.pump_hold (st : Nat) : s.SameHold (s.pump st) := by
  simp only [State.pump]
  split
  · exact pumpLoop_hold _ _ _
  · exact .refl s

theorem State.queueSet_hold (st flags : Nat) (es : List PtEntry) : s.SameHold (s.queueSet st flags es) := by
  simp only [State.queueSet]
  split
  · exact .refl s
  · exact (s.updStn_hold _ _).trans (State.pump_hold _ _)

theorem State.noteSent_hold (st l : Nat) (v : F64.F) : s.SameHold (s.noteSent st l v) := ⟨rfl, rfl, rfl, rfl, rfl⟩

theorem State.sendFull_hold (st : Nat) (resync : Bool) : s.SameHold (s.sendFull st resync) := by
  simp only [State.sendFull]
  split
  · exact .refl s
  · exact (State.SameHold.foldl (fun u o => State.noteSent_hold _ _ _ _) _ _).trans (State.queueSet_hold _ _ _ _)

theorem State.refreshPts_hold (old : State) : s.SameHold (s.refreshPts old) := by
  simp only [State.refreshPts]
  refine .ite (.foldl (fun u st => ?_) _ _) (.refl s)
  split
  · exact .refl u
  · exact .ite (State.sendFull_hold _ _ _) (.ite (.refl u)
      ((State.SameHold.foldl (fun v o => State.noteSent_hold _ _ _ _) _ _).trans (State.queueSet_hold _ _ _ _)))

theorem State.refreshOuts_hold (old : State) : s.SameHold (s.refreshOuts old) := (State.refreshCan_hold _ _).trans (State.refreshPts_hold _ _)

end

end Sys2Proof.Machine
end

section
/-!
SUPPORT. MODE.CMD and RST.CMD (R61, R63–R66, R79).
-/
namespace Sys2Proof.Machine

section
variable {s : State} {t slot tag op : Nat} {x : Session}

/-! Entry to SAFE-HOLD (R64) -/

theorem State.modeDone_hold (s : State) (c : QCmd) (e : Err) : s.SameHold (s.modeDone c e) :=
  .of_logs ((s.wrp_logs _ _ _ _).trans (State.irq_logs _ _ _ _))

/-- No MODE.CMD crosses once all are ended (R64). -/
theorem State.abortModes_crossing (s : State) (keep : Option QCmd) : (s.abortModes keep).md.crossing = none :=
  (State.SameHold.foldl (fun s c => State.modeDone_hold s c .aborted) _ _).crossing

theorem State.abandonSwitch_crossing (s : State) : s.abandonSwitch.md.crossing = s.md.crossing := by
  simp only [State.abandonSwitch]
  split
  · rfl
  · next w here =>
    simp only [State.dropSwitch, here]
    exact ((State.complete_hold _ _ _ _ _ _ _).trans ((State.record_hold _ _ _ _ _ _).trans (State.record_hold _ _ _ _ _ _))).crossing

/-- No switch is pending once it is abandoned (R76). -/
theorem State.abandonSwitch_switch (s : State) : s.abandonSwitch.prof.switch = none := by
  simp only [State.abandonSwitch]
  split
  · next none_ => exact none_
  · next w here =>
    simp only [State.dropSwitch, here]
    exact congrArg (·.switch) ((State.complete_hold _ _ _ _ _ _ _).trans ((State.record_hold _ _ _ _ _ _).trans (State.record_hold _ _ _ _ _ _))).prof

theorem State.abandonSwitch_mode (s : State) : s.abandonSwitch.md.mode = s.md.mode := by
  simp only [State.abandonSwitch]
  split
  · rfl
  · next w here =>
    simp only [State.dropSwitch, here]
    exact ((State.complete_hold _ _ _ _ _ _ _).trans ((State.record_hold _ _ _ _ _ _).trans (State.record_hold _ _ _ _ _ _))).mode

theorem State.recordMask_hold (s : State) (m : Mask) (what : Nat) : s.SameHold (s.recordMask m what) := State.record_hold _ _ _ _ _ _

theorem State.stopTasks_hold (s : State) : s.SameHold s.stopTasks := ⟨rfl, rfl, rfl, rfl, rfl⟩

/-- Every mask clears (R65). -/
theorem State.clearMasks_fields (s : State) :
    s.clearMasks.prg.masks = [] ∧ s.clearMasks.md.crossing = s.md.crossing ∧ s.clearMasks.prof = s.prof ∧ s.clearMasks.md.mode = s.md.mode := by
  have noted := State.SameHold.foldl (fun s m => State.recordMask_hold s m 2) s.prg.masks s
  simp only [State.clearMasks]
  split
  · exact ⟨rfl, noted.crossing, noted.prof, noted.mode⟩
  · have raised := State.irq_hold
    exact ⟨(raised _ _ _ _).masks, (raised _ _ _ _).crossing.trans noted.crossing, (raised _ _ _ _).prof.trans noted.prof,
      (raised _ _ _ _).mode.trans noted.mode⟩

/-- The mode is what the change gave, with nothing else of the mode logic changed. -/
theorem State.setMode_fields (s : State) (m : Mode) (r : ModeReason) : (s.setMode m r).md.mode = m ∧ (s.setMode m r).md.crossing = s.md.crossing ∧
    (s.setMode m r).md.shCauses = s.md.shCauses ∧ (s.setMode m r).prof = s.prof ∧ (s.setMode m r).prg.masks = s.prg.masks := by
  simp only [State.setMode]
  split
  · next same => exact ⟨eq_of_beq same, rfl, rfl, rfl, rfl⟩
  · have noted := fun u : State => fun p1 p2 p3 => (u.irq_hold .mode 0 1).trans (State.record_hold (u.irq .mode 0 1) 0x0102 p1 p2 p3 false)
    exact ⟨(noted _ _ _ _).mode, (noted _ _ _ _).crossing, (noted _ _ _ _).causes, (noted _ _ _ _).prof, (noted _ _ _ _).masks⟩

/-- What entry to SAFE-HOLD leaves of the mode logic, the switch and the masks (R64, R65, R68, R76). -/
theorem State.enterSafeHold_fields (s : State) (c : ShCause) (p : Nat) (keep : Option QCmd) :
    let u := s.enterSafeHold c p keep
    u.md.mode = .safeHold ∧ u.md.crossing = none ∧ u.md.shCauses = [(c, p)] ∧ u.prof.switch = none ∧ u.prg.masks = [] := by
  have crossing := ((s.abortModes keep).abandonSwitch_crossing).trans (s.abortModes_crossing keep)
  have switch := (s.abortModes keep).abandonSwitch_switch
  simp only [State.enterSafeHold]
  generalize (s.abortModes keep).abandonSwitch = a at *
  have ended := (a.mgAbandon_hold fun _ => true).trans ((State.stopSlots_hold _).trans ((State.stopTasks_hold _).trans (State.stopLoops_hold _)))
  generalize ((a.mgAbandon fun _ => true).stopSlots.stopTasks).stopLoops = e at *
  obtain ⟨masks, kept, prof, -⟩ := e.clearMasks_fields
  have dropped := e.clearMasks.dropHandover_hold
  generalize e.clearMasks.dropHandover = g at *
  generalize caused : (g.updMd fun m => { m with shCauses := [(c, p)], idleFrom := if g.host.sessions.isEmpty then some g.now else none }) = v
  obtain ⟨mode, kept', causes, profs, masks'⟩ := v.setMode_fields .safeHold (shReason c)
  have sent := (v.setMode .safeHold (shReason c)).refreshOuts_hold s
  subst caused
  exact ⟨sent.mode.trans mode, sent.crossing.trans (kept'.trans (dropped.crossing.trans (kept.trans (ended.crossing.trans crossing)))),
    sent.causes.trans causes, (congrArg (·.switch) (sent.prof.trans (profs.trans (dropped.prof.trans (prof.trans ended.prof))))).trans switch,
    sent.masks.trans (masks'.trans (dropped.masks.trans masks))⟩

/-! The queue of MODE.CMD -/

/-- A MODE.CMD that finds none crossing and none waiting executes, with itself in the queue. -/
theorem next_modeCmd (h : s.MayOrder slot x .operate .mode 0) (alone : op = 6 → (s.isActive && s.pair.session) = false) (small : op < 16)
    (free : s.md.crossing = none) :
    let c : QCmd := ⟨cmdWord op tag 0, slot, x.priv, max s.now t, []⟩
    let u := ((s.counted t x .mode 0 Off.MODE_CMD).setQueue modeCmdAddr [c]).execModeCmd c
    occurs t (fun s => s.hostWrite slot (Page.reg .mode 0 Off.MODE_CMD) (cmdWord op tag 0)) s =
      .next (s.settled (if u.md.crossing.isSome || u.queue modeCmdAddr = [] then u else u.setQueue modeCmdAddr [])) := by
  intro c u
  have local_ : (s.isActive && s.pair.session && mirrored .mode Off.MODE_CMD (cmdWord op tag 0)) = false := by
    by_cases six : op = 6
    · rw [alone six, Bool.false_and]
    · have other : mirrored .mode Off.MODE_CMD (cmdWord op tag 0) = false := by simp [mirrored, cmdWord_plain_op tag small, six]
      rw [other, Bool.and_false]
  refine next_settled ((State.hostWrite_order _ h rfl rfl nofun local_).trans ?_)
  have reset : (s.counted t x .mode 0 Off.MODE_CMD).resetPending .mode 0 = false := by rw [State.counted_reset]; exact h.reset
  have empty : (s.counted t x .mode 0 Off.MODE_CMD).queue modeCmdAddr = [] := State.queue_idle (p := .mode) (i := 0) (by rw [State.counted_waiting]; exact h.idle)
  have none_ : (s.counted t x .mode 0 Off.MODE_CMD).md.crossing.isSome = false := by rw [State.counted_md, free]; rfl
  simp only [State.takeCmd, reset, Bool.false_and, Bool.false_eq_true, if_false, State.modeCmd, State.cmdArgs, empty, List.nil_append, none_, runModeQueue]
  rfl

/-! The targets (R61) -/

section
variable {c : QCmd}

theorem State.execModeCmd_commission (op : c.word.fld 0 4 = 2) (from_ : s.md.mode = .safeHold ∨ s.md.mode = .maintenance) :
    s.execModeCmd c = s.cross c .commission := by
  simp only [State.execModeCmd, op]
  rcases from_ with m | m <;> simp [m]

theorem State.execModeCmd_run {m : Mode} (op : c.word.fld 0 4 = 4)
    (from_ : s.md.mode = .commission ∨ s.md.mode = .maintenance ∨ s.md.mode = .safeHold) (allowed : s.runAllowed = true) (lands : s.runLands = some m) :
    s.execModeCmd c = s.cross c m := by
  simp only [State.execModeCmd, op, allowed, lands]
  rcases from_ with m | m | m <;> simp [m]

theorem State.execModeCmd_maintenance (op : c.word.fld 0 4 = 7)
    (from_ : s.md.mode = .run ∨ s.md.mode = .degraded ∨ s.md.mode = .standby) (service : c.priv.ge .service = true) :
    s.execModeCmd c = s.cross c .maintenance := by
  simp only [State.execModeCmd, op, service]
  rcases from_ with m | m | m <;> simp [m]

theorem State.execModeCmd_dormant (op : c.word.fld 0 4 = 0)
    (from_ : s.md.mode = .commission ∨ s.md.mode = .maintenance ∨ s.md.mode = .safeHold) (wakes : (s.rdp .mode 0 Off.MODE_WAKE_SRC).fld 0 3 ≠ 0)
    (trial : s.upd.trial ≠ 1) :
    s.execModeCmd c = s.updMd fun y => { y with crossing := some ⟨c, s.md.mode, s.inEpoch.filter fun e => e != .metering, s.now⟩ } := by
  simp only [State.execModeCmd, op]
  rcases from_ with m | m | m <;> simp [m, wakes, trial]

theorem State.execModeCmd_host (op : c.word.fld 0 4 = 6) (boot : s.md.mode ≠ .boot) (dormant : s.md.mode ≠ .dormant) (other : s.md.mode ≠ .safeHold) :
    s.execModeCmd c = ((s.enterSafeHold .host 0 (some c)).modeDone c .ok).updMd fun x =>
      { x with shCauses := x.shCauses.filter fun y => y.1 != ShCause.host } := by
  have served : ¬ (s.md.mode == .boot || s.md.mode == .dormant || s.md.mode == .safeHold) = true := by simp [boot, dormant, other]
  simp only [State.execModeCmd, op]
  exact if_neg served

/-- The host's cause clears as its command completes (R68). -/
theorem State.SameHold.hostClears {e v : State} (done : e.SameHold v) (mode : e.md.mode = .safeHold) (crossing : e.md.crossing = none)
    (causes : e.md.shCauses = [(.host, 0)]) (switch : e.prof.switch = none) (masks : e.prg.masks = []) {u : State}
    (clears : u = v.updMd fun x => { x with shCauses := x.shCauses.filter fun y => y.1 != ShCause.host }) :
    u.md.mode = .safeHold ∧ u.md.shCauses = [] ∧ u.prg.masks = [] ∧ u.prof.switch = none ∧ u.md.crossing = none := by
  have left_ : v.md.shCauses = [(.host, 0)] := done.causes.trans causes
  subst clears
  refine ⟨done.mode.trans mode, ?_, done.masks.trans masks, (congrArg (·.switch) done.prof).trans switch, done.crossing.trans crossing⟩
  simp [State.updMd, left_]

theorem State.execModeCmd_safeHold (op : c.word.fld 0 4 = 6) (boot : s.md.mode ≠ .boot) (dormant : s.md.mode ≠ .dormant) (other : s.md.mode ≠ .safeHold) :
    (s.execModeCmd c).md.mode = .safeHold ∧ (s.execModeCmd c).md.shCauses = [] ∧ (s.execModeCmd c).prg.masks = [] ∧
      (s.execModeCmd c).prof.switch = none ∧ (s.execModeCmd c).md.crossing = none := by
  obtain ⟨mode, crossing, causes, switch, masks⟩ := s.enterSafeHold_fields .host 0 (some c)
  exact State.SameHold.hostClears (State.modeDone_hold _ c .ok) mode crossing causes switch masks (State.execModeCmd_host op boot dormant other)

end

theorem State.cross_idle {c : QCmd} {m : Mode} (none_ : s.inEpoch = []) : s.cross c m = (s.changeMode m .host).modeDone c .ok := by
  simp [State.cross, none_]

theorem State.cross_waits {c : QCmd} {m : Mode} (some_ : s.inEpoch ≠ []) :
    s.cross c m = (s.changeMode m .host).updMd fun y => { y with crossing := some ⟨c, s.md.mode, s.inEpoch, (s.changeMode m .host).now⟩ } := by
  simp only [State.cross, List.isEmpty_iff, some_, if_false]

/-- A soft reset (R79). -/
theorem State.cmdWrite_softReset (s : State) (x : Session) : s.cmdWrite x .rst 0 (cmdWord 1 0xC3 0) = (.ok, s.softReset) := rfl

end

end Sys2Proof.Machine
end

namespace Sys2Proof.Machine

/-- Settles O29. -/
theorem modeCommandsAct : Obligations.ModeCommandsAct := by
  intro s t slot tag x
  refine ⟨fun h free => ?_, fun d h => next_write _ h rfl⟩
  intro b c q
  have md : ∀ k, (q k).md = s.md := fun k => State.counted_md s t x .mode 0 Off.MODE_CMD
  have now : (q 0).now = max s.now t := State.counted_now s t x .mode 0 Off.MODE_CMD
  have op : ∀ k, k < 16 → (c k).word.fld 0 4 = k := fun k small => cmdWord_plain_op tag small
  refine ⟨fun from_ none_ => ?_, fun m from_ allowed lands some_ => ?_, fun from_ service some_ => ?_, fun from_ wakes trial => ?_,
    fun boot dormant other alone => ?_⟩
  · rw [← md 2] at from_
    intro u
    have runs : (q 2).execModeCmd (c 2) = u := (State.execModeCmd_commission (op 2 (by decide)) from_).trans (State.cross_idle none_)
    refine (next_modeCmd h (fun six => absurd six (by decide)) (by decide) free).trans ?_
    rw [runs]
  · rw [← md 4] at from_
    have runs := (State.execModeCmd_run (c := c 4) (op 4 (by decide)) from_ allowed lands).trans (State.cross_waits some_)
    refine (next_modeCmd h (fun six => absurd six (by decide)) (by decide) free).trans ?_
    rw [runs, ← md 4]
    rfl
  · rw [← md 7] at from_
    have runs := (State.execModeCmd_maintenance (c := c 7) (op 7 (by decide)) from_ service).trans (State.cross_waits some_)
    refine (next_modeCmd h (fun six => absurd six (by decide)) (by decide) free).trans ?_
    rw [runs, ← md 7]
    rfl
  · rw [← md 0] at from_
    have src : (q 0).rdp .mode 0 Off.MODE_WAKE_SRC = s.rdp .mode 0 Off.MODE_WAKE_SRC := State.counted_rd _ _ _ _ _ _ _ (by decide)
    have upd : (q 0).upd = s.upd := State.counted_upd s t x .mode 0 Off.MODE_CMD
    have runs := State.execModeCmd_dormant (c := c 0) (op 0 (by decide)) from_ (by rw [src]; exact wakes) (by rw [upd]; exact trial)
    refine (next_modeCmd h (fun six => absurd six (by decide)) (by decide) free).trans ?_
    rw [runs, ← md 0, ← now]
    rfl
  · rw [← md 6] at boot dormant other
    obtain ⟨mode, causes, masks, switch, crossing⟩ := State.execModeCmd_safeHold (c := c 6) (op 6 (by decide)) boot dormant other
    refine ⟨_, next_modeCmd h (fun _ => alone) (by decide) free, ?_⟩
    split
    · exact ⟨mode, causes, masks, switch, crossing⟩
    · exact ⟨mode, causes, masks, switch, crossing⟩

end Sys2Proof.Machine

section
/-!
SUPPORT. Crossings, power states and resets (R61, R63, R69, R77–R79).
-/
namespace Sys2Proof.Machine

section
variable {s : State}

/-- The last engine crosses, and no further MODE.CMD waits (R63). -/
theorem State.transitionDone_last {c : Crossing} (crossing : s.md.crossing = some c) (all : s.allCrossed c = true) (target : c.cmd.word.fld 0 4 ≠ 0)
    (last : (s.queue modeCmdAddr).tail = []) :
    s.transitionDone = ((s.updMd fun m => { m with crossing := none }).modeDone c.cmd .ok).setQueue modeCmdAddr [] := by
  simp only [State.transitionDone, crossing, all, Bool.not_true, Bool.false_eq_true, if_false, target, last, runModeQueue]

/-- The last engine crosses on the way to DORMANT, whose band is drawn (R66). -/
theorem State.transitionDone_dormant {c : Crossing} (crossing : s.md.crossing = some c) (all : s.allCrossed c = true) (target : c.cmd.word.fld 0 4 = 0)
    (drawn : s.bandDrawn = true) : s.transitionDone = s.goDormant c.cmd := by
  simp only [State.transitionDone, crossing, all, Bool.not_true, Bool.false_eq_true, if_false, target, drawn, if_true]

/-- SAFE-HOLD has been idle for its time (R69). -/
theorem State.idleExpiry_past {u : Nat} (from_ : s.md.idleFrom = some u) (mode : s.md.mode = .safeHold) (cmp : s.md.pstate.cmp = true)
    (set_ : (s.rdp .mode 0 Off.MODE_SH_IDLE_S).toNat ≠ 0) (none_ : s.host.sessions = [])
    (past : u + (s.rdp .mode 0 Off.MODE_SH_IDLE_S).toNat * sec ≤ s.now) : s.idleExpiry = s.sleepP2 := by
  have idle : (s.md.mode == .safeHold && s.md.pstate.cmp && decide ((s.rdp .mode 0 Off.MODE_SH_IDLE_S).toNat ≠ 0) && s.host.sessions.isEmpty &&
      decide (s.now ≥ u + (s.rdp .mode 0 Off.MODE_SH_IDLE_S).toNat * sec)) = true := by simp [mode, cmp, set_, none_, past]
  simp only [State.idleExpiry, from_]
  exact if_pos idle

/-- An armed source wakes CMP (R69, R70). -/
theorem State.wakeP2_armed {src : Nat} (off_ : s.md.pstate = .p2) (armed : s.wakeArmed src = true) :
    let c : State := { s with regs := s.shadow.foldl (fun m r => regPut m r.1 r.2) s.regs, shadow := [] }
    let w := (c.rdp .mode 0 Off.MODE_WAKE_SRC)
    s.wakeP2 src = { (((c.wrp .mode 0 Off.MODE_WAKE_CAUSE (w32 (2 ^ src + (if src = 3 then 256 * w.fld 8 6 else 0)))).updMd fun m =>
      { m with pstate := .p1, wakes := 0, idleFrom := some s.now }).startStations.wakeEth.grant) with mem := { s.mem with sweepFrom := s.now, overdue := false } } := by
  have wakes : ¬ (s.md.pstate != .p2 || !s.wakeArmed src) = true := by simp [off_, armed]
  exact if_neg wakes

/-- An armed source starts BOOT from DORMANT (R61, R77). -/
theorem State.wakeDormant_armed {src : Nat} (mode : s.md.mode = .dormant) (off_ : s.md.pstate = .p3) (own : src < 3) (armed : s.wakeArmed src = true) :
    s.wakeDormant src = (s.resetCore [.wake]).wrp .mode 0 Off.MODE_WAKE_CAUSE (w32 (2 ^ src)) := by
  have other : (src == 3) = false := beq_eq_false_iff_ne.mpr (by omega)
  have wakes : ¬ (s.md.mode != .dormant || s.md.pstate != .p3 || src == 3 || !s.wakeArmed src) = true := by simp [mode, off_, other, armed]
  have word : s.wakeWord src = w32 (2 ^ src) := by
    have three : src ≠ 3 := by omega
    simp only [State.wakeWord, three, if_false, Nat.add_zero]
  rw [← word]
  exact if_neg wakes

end

/-- Settles O30. -/
theorem modeAndResetEventsAct : Obligations.ModeAndResetEventsAct := by
  intro s t b
  exact ⟨fun c crossing all target last => next_settled (State.transitionDone_last crossing all target last),
    fun c crossing all target drawn => next_settled (State.transitionDone_dormant crossing all target drawn), fun cmp code => next_settled rfl,
    fun u from_ mode cmp set_ none_ past => next_settled (State.idleExpiry_past from_ mode cmp set_ none_ past),
    fun src off_ armed => next_settled (State.wakeP2_armed off_ armed),
    fun src mode off_ own armed => next_settled (State.wakeDormant_armed mode off_ own armed), next_settled rfl,
    fun ctl => next_settled (if_pos ctl), fun ctl => next_settled (if_pos ctl)⟩

end Sys2Proof.Machine
end

section
/-!
SUPPORT. The end of BOOT (R61, R73, R83, R457).
-/
namespace Sys2Proof.Machine

section
variable {s : State} {i : BootIn}

/-- The start that nothing holds in BOOT: records, units, numbers. -/
def State.bootStarts (s : State) (i : BootIn) : State := (((s.startRecord i).startUnits i).updPair fun p => { p with decided := true }).resumeNumbering

/-- A role that is decided without taking the token lets the start go on. -/
theorem State.bootComplete_decided (boot : s.md.mode = .boot) (powered : s.md.pstate ≠ .p4) (own : (s.updPair fun p => { p with posB := i.posB }).mayTake = false)
    (role : s.variant.pair = false ∨ s.pair.token = true ∨ s.pair.loop = true) (good : i.checksOk = true) :
    let c := (s.updPair fun p => { p with posB := i.posB }).bootStarts i
    let cs := c.bootCauses i
    s.bootComplete i = if cs.isEmpty then c.land c.bootLands.1 c.bootLands.2
      else if cs.any (·.1 == .cmpFault) then ((c.updMd fun m => { m with shCauses := cs.eraseDups }).land .safeHold (bootShReason cs)).sleepP2
      else (c.updMd fun m => { m with shCauses := cs.eraseDups }).land .safeHold (bootShReason cs) := by
  intro c cs
  have runs : ¬ (s.md.mode != .boot || s.md.pstate == .p4) = true := by simp [boot, powered]
  have decided : ∀ held : Bool, (!held && (s.updPair fun p => { p with posB := i.posB }).variant.pair && !(s.updPair fun p => { p with posB := i.posB }).pair.token &&
      !(s.updPair fun p => { p with posB := i.posB }).pair.loop) = false := by
    intro held
    rcases role with r | r | r <;> simp [r, State.updPair]
  simp only [State.bootComplete, if_neg runs, own, Bool.and_false, Bool.false_eq_true, if_false, decided, good, if_true]
  rfl

end

/-- Settles O31. -/
theorem bootCompletes : Obligations.BootCompletes := by
  intro s t i b boot powered own role c
  have starts := fun good : i.checksOk = true => State.bootComplete_decided (s := s.begin t) boot powered own role good
  refine ⟨fun good none_ => next_settled ((starts good).trans ?_), fun good some_ sound => next_settled ((starts good).trans ?_)⟩
  · exact if_pos (List.isEmpty_iff.mpr none_)
  · have found : ¬ (c.resumeNumbering.bootCauses i).isEmpty = true := fun h => some_ (List.isEmpty_iff.mp h)
    exact (if_neg found).trans (if_neg (Bool.eq_false_iff.mp sound))

end Sys2Proof.Machine
end

section
/-!
SUPPORT. PROF.CMD and the switch (R74–R76).
-/
namespace Sys2Proof.Machine

/-- A PROF.CMD of a free page executes at once (R86). -/
theorem next_profCmd {s : State} {t slot tag op extra : Nat} {x : Session} (h : s.MayCommand slot x .config .prof 0) :
    occurs t (fun s => s.hostWrite slot (Page.reg .prof 0 Off.PROF_CMD) (cmdWord op tag extra)) s =
      .next (s.settled ((s.counted t x .prof 0 Off.PROF_CMD).execProfCmd ⟨cmdWord op tag extra, slot, x.priv, max s.now t, []⟩)) :=
  next_command _ h rfl rfl nofun (by simp only [State.takeCmd, h.noReset, Bool.false_and, Bool.false_eq_true, if_false, State.cmdArgs])

section
variable {s : State} {tag slot since n : Nat} {priv : Priv} {args : List Word}

theorem cmdWord_switch (tag : Nat) (h : n < 4) : (cmdWord 1 tag (16 * n)).fld 0 3 = 1 ∧ (cmdWord 1 tag (16 * n)).fld 4 2 = n := by
  simp only [cmdWord, Word.fld, w32, BitVec.toNat_ofNat, Nat.shiftRight_eq_div_pow]
  omega

theorem cmdWord_cancel (tag : Nat) : (cmdWord 2 tag 0).fld 0 3 = 2 := by
  simp only [cmdWord, Word.fld, w32, BitVec.toNat_ofNat, Nat.shiftRight_eq_div_pow]
  omega

/-- A switch is pending once it is accepted (R74, R76). -/
theorem State.execProfCmd_switch (small : n < 4) (mode : s.md.mode = .run ∨ s.md.mode = .degraded ∨ s.md.mode = .maintenance ∨ s.md.mode = .commission)
    (none_ : s.prof.switch = none) :
    s.execProfCmd ⟨cmdWord 1 tag (16 * n), slot, priv, since, args⟩ =
      { s with prof := { s.prof with switch := some ⟨⟨cmdWord 1 tag (16 * n), slot, priv, since, args⟩, n, false, s.md.mode == .commission⟩ } } := by
  obtain ⟨op, target⟩ := cmdWord_switch tag small
  simp only [State.execProfCmd, op, if_true, State.profSwitch, State.dropSwitch, none_, target]
  rcases mode with m | m | m | m <;> simp only [m]

/-- CANCEL withdraws the pending switch (R76). -/
theorem State.execProfCmd_cancel {w : Switch} (pending : s.prof.switch = some w) :
    s.execProfCmd ⟨cmdWord 2 tag 0, slot, priv, since, args⟩ = (s.dropSwitch .aborted).complete .prof 0 Off.PROF_CMD_STAT .ok tag 2 := by
  have some_ : s.prof.switch.isNone = false := by rw [pending]; rfl
  have other : ¬ (2 = 1) := by decide
  simp only [State.execProfCmd, cmdWord_cancel, State.profCancel, some_, State.profDone, cmdWord_plain_tag tag (show 2 < 16 by decide), State.complete_mod,
    if_neg other, if_true, Bool.false_eq_true, if_false]

/-- A verification that fails rejects the switch (R74). -/
theorem State.profVerify_fails {w : Switch} (pending : s.prof.switch = some w) (open_ : w.verified = false) (bad : s.validProf w.target = none) :
    s.profVerify = (s.dropSwitch .rejected).profEvent 4 w.target .rejected := by
  simp only [State.profVerify, pending, open_, bad, Bool.false_eq_true, if_false]

/-- A switch that passes its verification is to be built (R74). -/
theorem State.profVerify_passes {w : Switch} {p : Profile} (pending : s.prof.switch = some w) (open_ : w.verified = false) (later : w.commission = false)
    (good : s.validProf w.target = some p) :
    s.profVerify = ({ s with
      prof := { s.prof with switch := some { w with verified := true }, target := some p }
      slv := { s.slv with next := some (s.planNext p.slots p.disp) } } : State).grant := by
  simp only [State.profVerify, pending, open_, good, later, Bool.false_eq_true, if_false]

/-- A verified switch whose screeds stand takes effect at its boundary (R75). -/
theorem State.switchBoundary_takes {w : Switch} {p : Profile} {x : NextSlots} {o : Nat} (pending : s.prof.switch = some w) (target : s.prof.target = some p)
    (next_ : s.slv.next = some x) (origin : s.slv.origin = some o) (verified : w.verified = true) (built : x.todo = []) (sound : x.failed = false)
    (runs : s.md.mode.tasksRun = true) (past : o < s.now) (boundary : (s.now - o) % s.switchPeriod = 0) : s.switchBoundary = s.takeSwitch w p x := by
  have takes : (w.verified && x.todo.isEmpty && !x.failed && s.md.mode.tasksRun && decide (s.now > o) && (s.now - o) % s.switchPeriod == 0) = true := by
    simp [verified, built, sound, runs, past, boundary]
  simp only [State.switchBoundary, pending, target, next_, origin]
  exact if_pos takes

end

/-- Settles O32. -/
theorem profileSwitchActs : Obligations.ProfileSwitchActs := by
  intro s t slot tag x
  refine ⟨fun h => ?_, fun w pending open_ bad => next_settled (State.profVerify_fails pending open_ bad),
    fun w p pending open_ later good => next_settled (State.profVerify_passes pending open_ later good),
    fun w p n o pending target next_ origin verified built sound runs past boundary =>
      next_settled (State.switchBoundary_takes pending target next_ origin verified built sound runs past boundary)⟩
  intro b
  have md : b.md = s.md := State.counted_md s t x .prof 0 Off.PROF_CMD
  have prof : b.prof = s.prof := State.counted_prof s t x .prof 0 Off.PROF_CMD
  rw [← md, ← prof]
  refine ⟨fun n small mode none_ => (next_profCmd h).trans ?_, fun w pending => (next_profCmd h).trans ?_⟩
  · rw [State.execProfCmd_switch small mode none_]
  · rw [State.execProfCmd_cancel pending]

end Sys2Proof.Machine
end

section
/-!
SUPPORT. Sessions of stations (R141–R148, R160).
-/
namespace Sys2Proof.Machine

/-- What may commit an epoch, while no mode is being left, commits what it gives (R63, R461). -/
theorem State.epoch_commits {s u : State} {e : Eng} {f : State → State} (crossing : s.md.crossing = none) (act : f s = u) :
    s.epoch e f = s.withCommit e fun _ => u := by
  simp only [State.epoch, State.withCommit, State.underOld, crossing, act]

section
variable {s : State} {st : Nat} {x : Stn}

/-! ClientHello (R145, R147) -/

theorem State.clientHello_offersNone {ck wf : Bool} {id : Word} {g : Nat} (serves : s.servesDpx = true) :
    s.clientHello false ck id wf st g = s.hsFail.emit (.dtls st .handshakeFailure) := by
  simp only [State.clientHello, serves, Bool.not_true, Bool.false_eq_true, if_false, Bool.not_false, if_true]

/-- A ClientHello with *DTLS parameters*, while fewer than 32 handshakes run. -/
theorem State.clientHello_room {ck wf : Bool} {id : Word} {g : Nat} (serves : s.servesDpx = true) (room : s.net.hs.length < 32) :
    s.clientHello true ck id wf st g =
      if ck then
        if (match s.stn? st with
          | some x => wf && st != 0 && (match s.net.img with | some g => id == g.netid | none => false) && x.enabled && (g == x.kgen || (x.nextOk && g == x.kgen + 1))
          | none => false) then ({ s with net := { s.net with hs := s.net.hs ++ [(st, g)] } } : State).emit (.dtls st .serverHello)
        else (s.hsFail.emit (.dtls st .unknownPsk)).record 0x0B02 (w32 st) (Config.downReason 32) 0
      else s.emit (.dtls st .helloRetry) := by
  simp only [State.clientHello, serves, Bool.not_true, Bool.false_eq_true, if_false, ge_iff_le, Nat.not_le.mpr room]
  cases ck <;> rfl

theorem State.clientHello_known {im : NetImage} (serves : s.servesDpx = true) (room : s.net.hs.length < 32) (other : st ≠ 0) (here : s.stn? st = some x)
    (img : s.net.img = some im) (enabled : x.enabled = true) :
    s.clientHello true true im.netid true st x.kgen = ({ s with net := { s.net with hs := s.net.hs ++ [(st, x.kgen)] } } : State).emit (.dtls st .serverHello) := by
  rw [State.clientHello_room serves room, if_pos rfl, here]
  simp only [img]
  exact if_pos (by simp [other, enabled])

theorem State.clientHello_disabled {id : Word} {g : Nat} (serves : s.servesDpx = true) (room : s.net.hs.length < 32) (here : s.stn? st = some x)
    (enabled : x.enabled = false) :
    s.clientHello true true id true st g = (s.hsFail.emit (.dtls st .unknownPsk)).record 0x0B02 (w32 st) (Config.downReason 32) 0 := by
  rw [State.clientHello_room serves room, if_pos rfl, here]
  exact if_neg (by simp [enabled])

/-! Sessions -/

/-- A station that is neither UP nor JOINING stays as it is. -/
theorem State.stationDown_down {to_ : StnState} {why : Nat} (here : s.stn? st = some x) (down : x.st = .down) : s.stationDown st to_ why = s := by
  simp only [State.stationDown, here, down]
  rfl

/-- A completed handshake begins a session with its traffic secret (R145, R160). -/
theorem State.handshakeDone_begins (serves : s.servesDpx = true) (known : (st, x.kgen) ∈ s.net.hs) (here : s.stn? st = some x) (down : x.st = .down)
    (enabled : x.enabled = true) (own : x.nextOk = false) :
    let key := Config.trafficSecret (s.fresh 71).1
    let c := { s with net := { s.net with hs := s.net.hs.erase (st, x.kgen) }, free := s.free + 1 }
    s.handshakeDone st x.kgen = (c.updStn st fun y => { y with
      dtls := some { gen := x.kgen, keyedAt := s.now, records := 0, helloOk := false, rx := 0, secret := key }
      buf := [], reasm := none, ready := [], owed := [], lastSet := none }).pl1Send (.reserve (.secrets st x.kgen false key) 0 0 false) := by
  intro key c
  have goes : ¬ (!(s.net.hs.contains (st, x.kgen)) || !s.servesDpx) = true := by simp [serves, known]
  have found : ({ s with net := { s.net with hs := s.net.hs.erase (st, x.kgen) } } : State).stn? st = some x := here
  have still : ¬ (!x.enabled) = true := by simp [enabled]
  simp only [State.handshakeDone, if_neg goes, State.stationDown_down found down, found, if_neg still, own, Bool.false_and, Bool.false_eq_true, if_false]
  rfl

/-- A key update after 2²³ records in either direction or 24 h (R145). -/
theorem State.dtlsKeyUpdate_due {d : Dtls} (serves : s.servesDpx = true) (here : s.stn? st = some x) (session : x.dtls = some d)
    (due : 2 ^ 23 ≤ d.records ∨ 2 ^ 23 ≤ d.rx ∨ d.keyedAt + 24 * 3600 * sec ≤ s.now) :
    let key := Config.trafficSecret (s.fresh 71).1
    s.dtlsKeyUpdate st = (((({ s with free := s.free + 1 } : State).updStn st fun y => { y with dtls := some { d with keyedAt := s.now, records := 0, rx := 0, secret := key } }).emit
      (.dtls st .keyUpdate)).pl1Send (.reserve (.secrets st d.gen d.helloOk key) 0 0 false)) := by
  intro key
  have bound : (s.stn? st).bind (·.dtls) = some d := by rw [here]; exact session
  have goes : (s.servesDpx && (decide (d.records ≥ 2 ^ 23) || decide (d.rx ≥ 2 ^ 23) || decide (s.now ≥ d.keyedAt + 24 * 3600 * sec))) = true := by
    simpa [serves, or_assoc] using due
  simp only [State.dtlsKeyUpdate, bound]
  exact if_pos goes

/-- Silence takes a station out of UP or JOINING (R141). -/
theorem State.hbTimeout_silent {c : StationCfg} (serves : s.servesDpx = true) (here : s.stn? st = some x) (cfg : s.stnCfg st = some c)
    (on : x.st = .up ∨ x.st = .joining) (past : x.lastRx + s.hbMiss * c.hbMs * ms ≤ s.now) : s.hbTimeout st = s.stationDown st .down 1 := by
  have goes : (s.servesDpx && (x.st == .up || x.st == .joining) && decide (s.now ≥ x.lastRx + s.hbMiss * c.hbMs * ms)) = true := by
    rcases on with h | h <;> simp [serves, past, h]
  simp only [State.hbTimeout, here, cfg]
  exact if_pos goes

/-- A COMMAND message that is due again, or exhausted (R157). -/
theorem State.dpxRetransmit_due {m : DownMsg} {q : Nat} (serves : s.servesDpx = true) (here : s.stn? st = some x)
    (waits : x.cmdQ.find? (·.seq == some q) = some m) (due : m.sentAt + s.retxMs * ms ≤ s.now) :
    let u := ((((s.updStn st fun y => { y with cmdQ := y.cmdQ.map fun z => if z.seq == some q then { z with tries := z.tries + 1, sentAt := s.now } else z }).emit
      (.dpxCmd st q m.flags m.frag)).satp .dpx 0 Off.DPX_RETX).countRecord st)
    s.dpxRetransmit st q = if s.retxMax ≤ m.tries then s.stationDown st .down 2 else u := by
  intro u
  have goes : ¬ (!s.servesDpx || decide (s.now < m.sentAt + s.retxMs * ms)) = true := by simp [serves, due]
  simp only [State.dpxRetransmit, here, waits]
  exact if_neg goes

/-- A station leaves UP or JOINING (R142). -/
theorem State.stationDown_leaves {why : Nat} {to_ : StnState} (here : s.stn? st = some x) (on : x.st = .up ∨ x.st = .joining) :
    let n := x.cmdQ.length + x.safeQ.length
    let u := (s.updStn st fun y => { y with
      dtls := none, buf := [], reasm := none, ready := [], owed := [], cmdQ := [], safeQ := [], lastSet := none
      drop := satAdd max32 y.drop n, downs := satAdd max32 y.downs 1, st := to_ }).satp .dpx 0 Off.DPX_CMD_DROP n
    s.stationDown st to_ why =
      ((u.newVersion st (x.pts.map fun p => { p with qual := .bad, reason := .stationDown, at_ := s.now })).irq .dpx 0 1).record 0x0B01 (w32 st)
        (Config.downReason why) 0 := by
  intro n u
  have goes : (x.st == .up || x.st == .joining) = true := by rcases on with h | h <;> simp [h]
  simp only [State.stationDown, here]
  exact if_pos goes

end

/-- Settles O33. -/
theorem stationSessionsActAndEnd : Obligations.StationSessionsActAndEnd := by
  refine ⟨fun s t st => ?_, fun s st why to_ x here on => State.stationDown_leaves here on⟩
  intro b
  refine ⟨fun ck wf id g serves => next_settled (State.clientHello_offersNone serves),
    fun wf id g serves room => next_settled ((State.clientHello_room serves room).trans (if_neg nofun)),
    fun x im serves room other here img enabled => next_settled (State.clientHello_known serves room other here img enabled),
    fun x id g serves room here enabled => next_settled (State.clientHello_disabled serves room here enabled),
    fun x serves crossing known here down enabled own =>
      next_settled (State.epoch_commits crossing (State.handshakeDone_begins serves known here down enabled own)),
    fun x d serves here session due => next_settled (State.dtlsKeyUpdate_due serves here session due),
    fun crossing => next_settled (State.epoch_commits crossing rfl),
    fun x c serves crossing here cfg on past => next_settled (State.epoch_commits crossing (State.hbTimeout_silent serves here cfg on past)),
    fun x m q serves crossing here waits due => next_settled (State.epoch_commits crossing (State.dpxRetransmit_due serves here waits due))⟩

end Sys2Proof.Machine
end

section
/-!
SUPPORT. An acknowledgement for a station that the list of stations holds twice.
-/
namespace Sys2Proof.Machine
open Sys2Proof.Tests

/-- A COMMAND message that waits for its acknowledgement. -/
def unacked5 : DownMsg := { seq := some 5, flags := 0, frag := ⟨0, 0, {}, 0, 1, []⟩ }

/-- Station 1 without OUT points, UP, with that message. -/
def awaiting5 : Stn := { stn .up (some (dtls true)) with cmdQ := [unacked5] }

/-- A state that lists station 1 twice, the second time with an OUT point, which the statement does not shut out. -/
def listedTwice : State := let s := serving .run awaiting5; { s with net := { s.net with stns := [awaiting5, { awaiting5 with outs := [{ idx := 0 }] }] } }

/-- How many OUT points each station of the next state has. -/
def outCounts : Host.Outcome State Fault Refusal → Option (List Nat)
  | .next u => some (u.net.stns.map (·.outs.length))
  | _ => none

/-- The acknowledgement leaves each entry its own OUT points. -/
theorem listedTwice_outs : outCounts (exec (.dpxAckRx 0 1 (hdr 5 0) ⟨5, 0, false, 0⟩) listedTwice) = some [0, 1] := by decide +kernel

/-- Refutes O34: an ACK marks the OUT points of the entry that it updates; where a station stands twice in the list, the statement gives the OUT points of the
first entry to the second. It lacks the premise that station numbers are distinct. -/
theorem not_stationMessagesAct : ¬ Obligations.StationMessagesAct := by
  intro h
  obtain ⟨-, -, -, -, -, acks, -⟩ := h listedTwice 0 1 awaiting5 (dtls true) (hdr 5 0) (by decide +kernel) (by decide +kernel) rfl
  have shown := congrArg outCounts (acks ⟨5, 0, false, 0⟩ unacked5 5 (by decide +kernel) rfl rfl rfl (by decide))
  rw [listedTwice_outs] at shown
  revert shown
  decide +kernel

end Sys2Proof.Machine
end

section
/-!
SUPPORT. NET.CMD and the PNT window (R148, R162, R163).
-/
namespace Sys2Proof.Machine

/-- A NET.CMD of a free page executes at once (R162). -/
theorem next_netCmd {s : State} {t slot tag op extra : Nat} {x : Session} (h : s.MayCommand slot x .service .net 0) :
    occurs t (fun s => s.hostWrite slot (Page.reg .net 0 Off.NET_CMD) (cmdWord op tag extra)) s =
      .next (s.settled ((s.counted t x .net 0 Off.NET_CMD).execNetCmd ⟨cmdWord op tag extra, slot, x.priv, max s.now t, []⟩)) :=
  next_command _ h rfl rfl nofun (by simp only [State.takeCmd, h.noReset, Bool.false_and, Bool.false_eq_true, if_false, State.cmdArgs])

section
variable {s : State} {tag slot since st op : Nat} {priv : Priv} {args : List Word}

/-- What each operation of NET.CMD does for a station. -/
def State.netOp (s : State) (op st : Nat) : Err × State :=
  if op = 1 then s.netEnable st
  else if op = 2 then s.netDisableEpoch st
  else if op = 3 then s.netResync st
  else if op = 4 then s.netNextGen st
  else s.netKexport st

/-- An operation that the privilege and the mode allow completes with what it answers (R162). -/
theorem State.execNetCmd_admitted {u : State} (low : 0 < op) (high : op ≤ 5) (some_ : 0 < st) (small : st < 4096) (service : priv.ge .service = true)
    (mode : op = 3 ∨ commMaint s.md.mode = true) (act : s.netOp op st = (.ok, u)) :
    s.execNetCmd ⟨cmdWord op tag (65536 * (st % 4096)), slot, priv, since, args⟩ = u.complete .net 0 Off.NET_CMD_STAT .ok tag := by
  have code : (cmdWord op tag (65536 * (st % 4096))).fld 0 4 = op := cmdWord_op _ _ _ (by omega) (by omega)
  have tagged : (cmdWord op tag (65536 * (st % 4096))).fld 8 8 = tag % 256 := cmdWord_tag _ _ _ (by omega)
  have station : (cmdWord op tag (65536 * (st % 4096))).fld 16 12 = st := by
    rw [cmdWord_extra op tag (st % 4096) 12 (by omega) (by omega)]
    omega
  have known : ¬ (op = 0 ∨ 5 < op ∨ st = 0) := by omega
  have granted : ∀ need : Priv, Priv.ge .service need = true → ¬ (!priv.ge need) = true := fun need le => by simp [Priv.ge_trans service le]
  have free : ¬ (op ≠ 3 ∧ (!commMaint s.md.mode) = true) := by
    rintro ⟨other, closed⟩
    rcases mode with m | m
    · exact other m
    · simp [m] at closed
  have may : ¬ (!priv.ge (if op = 3 then .operate else if op ≤ 2 then .config else .service)) = true := by
    split
    · exact granted _ rfl
    · split
      · exact granted _ rfl
      · exact granted _ rfl
  have answers : (if op = 1 then s.netEnable st
      else if op = 2 then s.netDisableEpoch st
      else if op = 3 then s.netResync st
      else if op = 4 then s.netNextGen st
      else s.netKexport st) = (.ok, u) := act
  simp only [State.execNetCmd, code, tagged, station, if_neg known, if_neg free, if_neg may, answers, State.complete_mod]

theorem State.netEnable_disabled {y : Stn} (here : s.stn? st = some y) (off_ : y.st = .disabled) :
    s.netOp 1 st = (.ok, s.updStn st fun z => { z with st := .down, enabled := true }) := by
  show s.netEnable st = _
  simp only [State.netEnable, here, off_]
  rfl

theorem State.netDisable_down {y : Stn} (crossing : s.md.crossing = none) (here : s.stn? st = some y) (down : y.st = .down) :
    s.netOp 2 st = (.ok, s.withCommit (.ingest st) fun _ =>
      ((s.newVersion st (y.pts.map fun p => { p with qual := .bad, reason := .stationDown, at_ := s.now })).updStn st fun z =>
        { z with st := .disabled, enabled := false, dtls := none }).recordGen 0x0B .net 0 Off.NET_SD_STAT (w32 1)) := by
  have runs : s.netDisable st = (.ok, ((s.newVersion st (y.pts.map fun p => { p with qual := .bad, reason := .stationDown, at_ := s.now })).updStn st fun z =>
      { z with st := .disabled, enabled := false, dtls := none }).recordGen 0x0B .net 0 Off.NET_SD_STAT (w32 1)) := by
    have other : ¬ (StnState.down == StnState.disabled) = true := by decide
    have same : (StnState.down == StnState.down) = true := by decide
    simp only [State.netDisable, here, down, if_neg other, if_pos same]
    rfl
  show s.netDisableEpoch st = _
  rw [State.netDisableEpoch, runs, State.epoch_commits crossing (congrArg Prod.snd runs)]

theorem State.netResync_up {y : Stn} (here : s.stn? st = some y) (up : y.st = .up) :
    s.netOp 3 st = (.ok, (s.updStn st fun z => { z with st := .joining }).ack st .state true) := by
  show s.netResync st = _
  simp only [State.netResync, here, up]
  rfl

theorem State.netNextGen_known {y : Stn} (here : s.stn? st = some y) : s.netOp 4 st = (.ok, s.updStn st fun z => { z with nextOk := true }) := by
  show s.netNextGen st = _
  simp only [State.netNextGen, here]

theorem State.netKexport_wraps {y : Stn} {kek psk : List Byte} (here : s.stn? st = some y) (occupied : s.occupied ((s.rdp .net 0 Off.NET_KEX_SLOT).fld 0 6) = true)
    (wraps : s.keyOf ((s.rdp .net 0 Off.NET_KEX_SLOT).fld 0 6) useKek = some kek) (next_ : s.stationPsk st (y.kgen + 1) = some psk) :
    s.netOp 5 st = (.ok, ({ s with net := { s.net with kexBuf := (List.range 10).map fun j => w32 (leAt (Aes.wrap kek psk) (4 * j) 4) } } : State).recordGen 0xB .net 0
      Off.NET_KEX_SLOT (w32 ((s.rdp .net 0 Off.NET_KEX_SLOT).fld 0 6))) := by
  show s.netKexport st = _
  simp only [State.netKexport, here, occupied, wraps, next_, Bool.not_true, Bool.false_eq_true, if_false]

/-! The window (R163) -/

theorem State.pntBase_moves {v : Word} (point : v.toNat < 2 ^ 23) (local_ : ptLocal v.toNat ≤ 1535) :
    s.pntBase v = (.ok, ((if ptStation v.toNat ≠ s.pntStation then ({ s with net := { s.net with pntFrz := none } } : State) else s).wrp .pnt 0 Off.PNT_BASE v).pruneVersions) := by
  have inside : ¬ (v.toNat ≥ 2 ^ 23 ∨ ptLocal v.toNat > 1535) := by omega
  simp only [State.pntBase, if_neg inside]

theorem State.pntFreeze_on {y : Stn} (free : s.net.pntFrz = none) (here : s.stn? s.pntStation = some y) :
    s.pntFreeze true = { s with net := { s.net with pntFrz := some (y.num, y.ver) } } := by
  simp only [State.pntFreeze, free, here, if_true]

end

/-- Settles O35. -/
theorem networkCommandsAct : Obligations.NetworkCommandsAct := by
  intro s t slot tag st x some_ small
  refine ⟨fun h => ?_, fun v d h point local_ => next_write _ h (State.pntBase_moves point local_), fun d h => ?_⟩
  · intro b done
    have md : b.md = s.md := State.counted_md s t x .net 0 Off.NET_CMD
    have acts : ∀ {op : Nat} {u : State}, 0 < op → op ≤ 5 → (op = 3 ∨ commMaint s.md.mode = true) → b.netOp op st = (.ok, u) →
        occurs t (fun s => s.hostWrite slot (Page.reg .net 0 Off.NET_CMD) (cmdWord op tag (65536 * (st % 4096)))) s = .next (done u) := by
      intro op u low high mode act
      rw [← md] at mode
      refine (next_netCmd h).trans ?_
      rw [State.execNetCmd_admitted low high some_ small h.priv mode act]
    refine ⟨fun y mode here off_ => acts (by decide) (by decide) (.inr mode) (State.netEnable_disabled here off_),
      fun y mode crossing here down => acts (by decide) (by decide) (.inr mode) (State.netDisable_down ((congrArg (·.crossing) md).trans crossing) here down),
      fun y here up => acts (by decide) (by decide) (.inl rfl) (State.netResync_up here up),
      fun y mode here => acts (by decide) (by decide) (.inr mode) (State.netNextGen_known here), fun y kek psk mode here => ?_⟩
    intro k occupied wraps next_
    exact acts (by decide) (by decide) (.inr mode) (State.netKexport_wraps here occupied wraps next_)
  · intro b
    refine ⟨fun y free here => ?_, next_write _ h rfl⟩
    exact next_write _ h (congrArg (Prod.mk Err.ok) (State.pntFreeze_on free here))

end Sys2Proof.Machine
end

section
/-!
SUPPORT. Cycles of a solver slot (R22, R23, R211–R217, R233).
-/
namespace Sys2Proof.Machine

/-- A commit whose reads met no error. -/
theorem State.checked_none (s : State) (commit held : State → State) : s.checked [] commit held = commit s := rfl

/-- A module out of STANDBY has its inputs (R461). -/
theorem State.shadowInputs_own {s : State} {e : Eng} (own : s.md.mode ≠ .standby) : s.shadowInputs e = (true, s) := by
  have other : (s.md.mode != .standby) = true := by simp [own]
  simp only [State.shadowInputs, other, if_true]

section
variable {s : State} {n : Nat} {c : SlotCfg}

/-- At a boundary not yet taken, the slot takes it (R22). -/
theorem State.slotBoundary_taken {o : Nat} (crossing : s.md.crossing = none) (cfg : (s.slot n).cfg = some c) (origin : s.slv.origin = some o)
    (runs : s.md.mode.tasksRun = true) (past : o < s.now) (boundary : (s.now - o) % (c.periodMs * ms) = 0) (once : (s.slot n).lastB ≠ some s.now) :
    s.slotBoundary n = s.boundaryAt n := by
  have stays : s.leaving = false := by rw [State.leaving, crossing]; rfl
  have takes : (s.md.mode.tasksRun && !s.leaving && decide (s.now > o) && (s.now - o) % (c.periodMs * ms) == 0 && (s.slot n).lastB != some s.now) = true := by
    simp [runs, stays, past, boundary, once]
  simp only [State.slotBoundary, cfg, origin]
  exact if_pos takes

/-- A boundary while a cycle is uncommitted is an overrun (R233). -/
theorem State.boundaryAt_overrun {y : Cycle} (busy : (s.slot n).cyc = some y) :
    s.boundaryAt n = ((((s.updSlot n fun x => { x with nextNum := (s.slot n).nextNum + 1, lastB := some s.now }).satp .slot n Off.SLOT_OVERRUNS).irq .slot n 4).updSlot n
      fun x => { x with skips := x.skips + 1 }).recordEp 0x0401 (w32 n) (w32 (s.slot n).nextNum) 0 := by
  simp only [State.boundaryAt, busy, Option.isSome_some, if_true]

/-- Any other boundary of a slot with a screed starts a cycle (R22, R23). -/
theorem State.boundaryAt_starts (own : s.md.mode ≠ .standby) (free : (s.slot n).cyc = none) (screed : (s.slot n).screed.isSome = true)
    (started : (s.slot n).started = true) :
    s.boundaryAt n = ((s.updSlot n fun x => { x with nextNum := (s.slot n).nextNum + 1, lastB := some s.now }).reached (.slot n)).startCycle n
      (s.slot n).nextNum false := by
  have whole : (s.updSlot n fun x => { x with nextNum := (s.slot n).nextNum + 1, lastB := some s.now }).shadowInputs (.slot n) =
      (true, s.updSlot n fun x => { x with nextNum := (s.slot n).nextNum + 1, lastB := some s.now }) := State.shadowInputs_own own
  have fitted : ¬ (s.slot n).screed.isNone = true := by
    intro none_
    rw [Option.isNone_iff_eq_none.mp none_] at screed
    exact absurd screed (by decide)
  simp only [State.boundaryAt, free, Option.isSome_none, Bool.false_eq_true, if_false, if_neg fitted, started, if_true, whole, Bool.not_true]

section
variable {x : Screed} {y : Cycle}

/-- The cycle after an iterate of merit `i.m` (R213, R215). -/
def tried (y : Cycle) (x : Screed) (i : Iterate) : Cycle :=
  { y with
    done := y.done + 1
    best := if betterEq i.m y.best then some (y.done, i.m) else y.best
    merit0 := if y.done = 0 then some i.m else y.merit0
    hashes := y.hashes ++ [(solHash x.vars i.x).take 8] }

section
variable (cfg : (s.slot n).cfg = some c) (screed : (s.slot n).screed = some x) (cyc : (s.slot n).cyc = some y) (lanes : y.lanes ≠ 0)
  (finite : (iterateAt s.slv.ucode (s.iterIn n c x y) y.done).finite = true) (pivot : (iterateAt s.slv.ucode (s.iterIn n c x y) y.done).pivot = false)
include cfg screed cyc lanes finite pivot

/-- A finite iterate before the last is a candidate by its merit (R213). -/
theorem State.iterateDone_candidate (more : y.done ≠ c.iter) (early : y.done ≠ 0 ∨ y.late = false) :
    s.iterateDone n = s.updSlot n fun w => { w with cyc := some (tried y x (iterateAt s.slv.ucode (s.iterIn n c x y) y.done)) } := by
  have some_ : ¬ (y.lanes == 0) = true := by simp [lanes]
  have early' : ¬ (decide (y.done = 0) && y.late) = true := by
    rcases early with h | h <;> simp [h]
  simp only [State.iterateDone, cfg, screed, cyc, if_neg some_, finite, pivot, Bool.not_true, Bool.false_eq_true, if_false, if_neg early', if_neg more]
  rfl

/-- The last iterate of a cycle commits the best (R213). -/
theorem State.iterateDone_last {q : Nat × Word64} (last : y.done = c.iter) (later : 0 < y.done)
    (best : (tried y x (iterateAt s.slv.ucode (s.iterIn n c x y) y.done)).best = some q) :
    s.iterateDone n = (s.updSlot n fun w => { w with cyc := some (tried y x (iterateAt s.slv.ucode (s.iterIn n c x y) y.done)) }).finishCycle n
      (.iterate q.1) rfComplete := by
  have some_ : ¬ (y.lanes == 0) = true := by simp [lanes]
  have late : ¬ (decide (y.done = 0) && y.late) = true := by simp [Nat.pos_iff_ne_zero.mp later]
  simp only [tried] at best
  simp only [State.iterateDone, cfg, screed, cyc, if_neg some_, finite, pivot, Bool.not_true, Bool.false_eq_true, if_false, if_neg late, if_pos last, best, tried]

end

section
variable {inside : Bool} (cfg : (s.slot n).cfg = some c) (cyc : (s.slot n).cyc = some y) (past : y.boundary + c.deadlineUs * us ≤ s.now)
include cfg cyc past

/-- The deadline commits the best so far (R216). -/
theorem State.slotDeadline_best {q : Nat × Word64} (plain : c.shift = false) (best : y.best = some q) :
    s.slotDeadline n inside = s.finishCycle n (.iterate q.1) (rfDeadline ||| if inside && y.lanes != 0 then rfPartial else 0) := by
  simp only [State.slotDeadline, cfg, cyc, if_neg (Nat.not_lt.mpr past), plain, Bool.false_eq_true, if_false, best]

/-- Where the profile says so, the deadline commits the shifted previous publication (R217). -/
theorem State.slotDeadline_shifted (shift : c.shift = true) (prev : (s.slot n).prevOk = true) (res : (s.slot n).res.isSome = true)
    (healthy : s.healthyCount ≠ 0) :
    s.slotDeadline n inside = s.finishCycle n .shifted (rfDeadline ||| (if inside && y.lanes != 0 then rfPartial else 0) ||| rfShifted ||| 0) := by
  have some_ : ¬ (s.healthyCount == 0) = true := by simp [healthy]
  simp only [State.slotDeadline, cfg, cyc, if_neg (Nat.not_lt.mpr past), shift, prev, res, Bool.and_self, if_true, if_neg some_]

/-- Without an iterate, the deadline awaits iterate 0 (R216). -/
theorem State.slotDeadline_awaits (plain : c.shift = false) (best : y.best = none) (healthy : s.healthyCount ≠ 0) (early : y.late = false) :
    s.slotDeadline n inside = s.updSlot n fun z => { z with
      cyc := some { y with late := true, flags := y.flags ||| rfDeadline ||| (if y.lanes == 0 then rfLaneWait else 0) } } := by
  have some_ : ¬ (s.healthyCount == 0) = true := by simp [healthy]
  simp only [State.slotDeadline, cfg, cyc, if_neg (Nat.not_lt.mpr past), plain, Bool.false_eq_true, if_false, best, if_neg some_, early]

end
end
end

/-- Settles O36. -/
theorem slotCyclesRun : Obligations.SlotCyclesRun := by
  intro s t n c b crossing cfg
  refine ⟨fun o y origin runs past boundary once busy _ => ?_, fun o origin runs own past boundary once free screed started _ => ?_,
    fun x y screed cyc lanes => ?_, fun y inside cyc past => ?_⟩
  · exact next_settled (State.epoch_commits crossing
      ((State.slotBoundary_taken crossing cfg origin runs past boundary once).trans (State.boundaryAt_overrun busy)))
  · exact next_settled (State.epoch_commits crossing
      ((State.slotBoundary_taken crossing cfg origin runs past boundary once).trans (State.boundaryAt_starts own free screed started)))
  · intro i finite pivot m z u
    exact ⟨fun more early => next_settled (State.epoch_commits crossing (State.iterateDone_candidate cfg screed cyc lanes finite pivot more early)),
      fun q last later best => next_settled (State.epoch_commits crossing (State.iterateDone_last cfg screed cyc lanes finite pivot last later best))⟩
  · intro part
    exact ⟨fun q plain best => next_settled (State.epoch_commits crossing (State.slotDeadline_best cfg cyc past plain best)),
      fun shift prev res healthy => next_settled (State.epoch_commits crossing (State.slotDeadline_shifted cfg cyc past shift prev res healthy)),
      fun plain best healthy early => next_settled (State.epoch_commits crossing (State.slotDeadline_awaits cfg cyc past plain best healthy early))⟩

end Sys2Proof.Machine
end

section
/-!
SUPPORT. Builds, lanes and the forecaster (R182, R199–R203, R228).
-/
namespace Sys2Proof.Machine

section
variable {s : State} {n k : Nat}

/-- A build within the limits that no command awaits makes its screed resident (R199–R201). -/
theorem State.buildDone_fits {c : SlotCfg} (holder : s.slv.holder = some (.build n)) (running : (s.slot n).build = .running) (cfg : (s.slot n).cfg = some c)
    (own : (s.slot n).buildCmd = none) (fits : tooLarge (s.makeScreed n c s.slv.disp) (s.nnzOthers n) = false) :
    s.buildDone n = ((((s.freeLanes.updSlot n fun z => { newScreed z (s.makeScreed n c s.slv.disp) with buildCmd := none }).schedWarns).irq .slot n 5).grant) := by
  have same : ¬ n ≠ n := fun h => h rfl
  simp only [State.buildDone, holder, if_neg same, running, cfg, State.activeBuilt, own, fits, Bool.false_eq_true, if_false, Option.isSome_none]

/-- A lane that faults while no lane works is fenced with its record (R228). -/
theorem State.laneFault_idle (fitted : k < s.variant.lanes) (sound : (s.lane k).fenced = false) (idle : s.slv.holder = none) :
    s.laneFault k = s.fenceLane k 1 := by
  simp only [State.laneFault, ge_iff_le, Nat.not_le.mpr fitted, if_false, sound, Bool.false_eq_true, idle]

/-- A fenced lane is retested after its wait (R228). -/
theorem State.laneRetest_due (fitted : k < s.variant.lanes) (fenced : (s.lane k).fenced = true) (held : (s.lane k).held = false)
    (queued : (s.lane k).queued = false) (back : (s.lane k).back = 0) (due : (s.lane k).since + s.retestNs ≤ s.now) :
    s.laneRetest k = (s.updLane k fun x => { x with queued := true }).grant := by
  have goes : (decide (k < s.variant.lanes) && (s.lane k).fenced && !(s.lane k).held && !(s.lane k).queued && (s.lane k).back == 0 &&
      decide (s.now ≥ (s.lane k).since + s.retestNs)) = true := by simp [fitted, fenced, held, queued, back, due]
  exact if_pos goes

/-- A lane that passes its retest waits to return (R228). -/
theorem State.selfTestDone_passes (holder : s.slv.holder = some (.test k)) (own : (s.lane k).cmd = none) :
    s.selfTestDone true =
      (s.freeLanes.updLane k fun y => { y with queued := false, cmd := none, fails := 0, back := if y.held then 0 else 1 }).grant := by
  simp only [State.selfTestDone, holder, if_true, own, Option.isSome_none, Bool.false_eq_true, if_false]

/-- The forecaster updates at each grid point (R182). -/
theorem State.gridPoint_updates {o : Nat} (origin : s.slv.origin = some o) (runs : s.md.mode.tasksRun = true) (past : o < s.now)
    (point : (s.now - o) % gridNs = 0) : s.gridPoint = s.forecastUpdate (s.now - gridNs) := by
  have goes : (s.md.mode.tasksRun && decide (s.now > o) && (s.now - o) % gridNs == 0) = true := by simp [runs, past, point]
  simp only [State.gridPoint, origin]
  exact if_pos goes

end

/-- Settles O37. -/
theorem solverEventsAct : Obligations.SolverEventsAct := by
  intro s t b
  refine ⟨fun n c holder running cfg own fits => next_settled (State.buildDone_fits holder running cfg own fits),
    fun k fitted sound idle => next_settled (congrArg State.lateSlots (State.laneFault_idle fitted sound idle)),
    fun k fitted fenced held queued back due => next_settled (State.laneRetest_due fitted fenced held queued back due),
    fun k holder own _ => next_settled (State.selfTestDone_passes holder own),
    fun o origin runs past point => next_settled (State.gridPoint_updates origin runs past point)⟩

end Sys2Proof.Machine
end

section
/-!
SUPPORT. SLV.CMD, SLOT.CMD and SDATA.CMD (R177, R204, R232, R234–R237).
-/
namespace Sys2Proof.Machine

/-- A status takes eight bits of the tag. -/
theorem statWord_mod (e : Err) (tag : Nat) : statWord e (tag % 256) = statWord e tag := by simp [statWord]

section
variable {s : State} {t slot tag n op extra : Nat} {x : Session}

/-! SLV.CMD -/

/-- A SLV.CMD that finds none waiting executes at once (R232). -/
theorem next_slvCmd (h : s.MayCommand slot x .service .slv 0) :
    occurs t (fun s => s.hostWrite slot (Page.reg .slv 0 Off.SLV_CMD) (cmdWord op tag extra)) s =
      .next (s.settled (runSlvQueue [⟨cmdWord op tag extra, slot, x.priv, max s.now t, []⟩] (s.counted t x .slv 0 Off.SLV_CMD))) := by
  have empty : (s.counted t x .slv 0 Off.SLV_CMD).queue (Page.reg .slv 0 Off.SLV_CMD) = [] :=
    State.queue_idle (p := .slv) (i := 0) (by rw [State.counted_waiting]; exact h.idle)
  refine next_command _ h rfl rfl nofun ?_
  simp only [State.takeCmd, h.noReset, Bool.false_and, Bool.false_eq_true, if_false, State.cmdArgs, State.slvCmd, empty, List.isEmpty_nil, if_true]

section
variable {c : QCmd} (priv : c.priv.ge .service = true) (mode : slvModeOk s.md.mode = true) (fitted : c.word.fld 16 3 < s.variant.lanes)
include priv mode fitted

/-- The self-test of a fenced lane is queued; its command waits (R228, R232). -/
theorem runSlvQueue_test (test : c.word.fld 0 4 = 1) (fenced : (s.lane (c.word.fld 16 3)).fenced = true) :
    runSlvQueue [c] s = ((s.updLane (c.word.fld 16 3) fun y => { y with queued := true, cmd := some c }).grant).setQueue (Page.reg .slv 0 Off.SLV_CMD) [c] := by
  have known : ¬ (1 ≠ 1 ∧ 1 ≠ 2) := by decide
  simp only [runSlvQueue, State.execSlvCmd, test, if_neg known, priv, mode, Bool.not_true, Bool.false_eq_true, if_false, ge_iff_le, Nat.not_le.mpr fitted, if_true, fenced]

/-- A held lane is released (R228, R232). -/
theorem runSlvQueue_release (release : c.word.fld 0 4 = 2) :
    runSlvQueue [c] s = ((s.updLane (c.word.fld 16 3) fun y => { y with held := false, fails := 0, since := s.now }).slvDone c .ok false).setQueue
      (Page.reg .slv 0 Off.SLV_CMD) [] := by
  have known : ¬ (c.word.fld 0 4 ≠ 1 ∧ c.word.fld 0 4 ≠ 2) := by omega
  have other : ¬ c.word.fld 0 4 = 1 := by omega
  simp only [runSlvQueue, State.execSlvCmd, if_neg known, priv, mode, Bool.not_true, Bool.false_eq_true, if_false, ge_iff_le, Nat.not_le.mpr fitted, if_neg other]

end

/-! SLOT.CMD -/

theorem State.updSlot_updSlot (s : State) (n : Nat) (f g : Slot → Slot) : (s.updSlot n f).updSlot n g = s.updSlot n fun x => g (f x) := by
  simp only [State.updSlot, modAt_modAt]

theorem State.complete_logs (s : State) (p : Page) (i o : Nat) (e : Err) (tag b : Nat) : s.Logs (s.complete p i o e tag b) :=
  (s.wrp_logs p i o _).trans (State.irq_logs _ _ _ _)

theorem reportSlot_none {s : State} {n k : Nat} (h : (s.slot n).begun = []) : reportSlot n k s = s := by
  cases k with
  | zero => rfl
  | succ k =>
    rw [reportSlot, h]
    split
    · next none_ => cases none_
    · rfl

/-- The state in which the slot's command begins. -/
def State.begun (s : State) (n : Nat) (c : QCmd) : State := (s.setQueue (slotQ n) [c]).updSlot n fun y => { y with begun := [.waiting] }

section
variable {c : QCmd} (empty : s.queue (slotQ n) = []) (first : (s.slot n).begun = []) (inside : n < s.slv.slots.length) (idle : (s.slot n).build = .none)
  (free : (s.slot n).cyc = none)
include empty first inside idle free

/-- A slot's command that ends at once is reported and leaves the queue (OP-3, R234). -/
theorem State.slotCmd_ends {e : Err} {v : State} (runs : (s.begun n c).execSlotCmd n c = (some e, v)) (same : (s.begun n c).SameCmds v) :
    s.slotCmd n c = (((v.updSlot n fun y => { y with begun := [.done e] }).setQueue (slotQ n) []).updSlot n fun y => { y with begun := [] }).slotDone n c e := by
  have queue : ∀ u : State, u.cmdq = v.cmdq → u.queue (slotQ n) = [c] := by
    intro u h
    have given := s.queue_setQueue (slotQ n) c
    simp only [State.queue] at *
    rw [h, same.cmdq]
    exact given
  have length : n < v.slv.slots.length := by
    have lengths := congrArg List.length same.begun
    simp only [List.length_map] at lengths
    have kept : (s.begun n c).slv.slots.length = s.slv.slots.length := modAt_length _ _ _
    omega
  have ended : ((v.updSlot n fun y => { y with begun := [.done e] }).slot n).begun = [.done e] := by rw [State.updSlot_slot _ _ _ length]
  have begins : beginSlot n 5 (s.setQueue (slotQ n) [c]) = v.updSlot n fun y => { y with begun := [.done e] } := by
    have here : (s.setQueue (slotQ n) [c]).slot n = s.slot n := rfl
    have runs' : ((s.setQueue (slotQ n) [c]).updSlot n fun y => { y with begun := [.waiting] }).execSlotCmd n c = (some e, v) := runs
    rw [beginSlot]
    simp only [State.queue_setQueue, here, first, List.length_nil, List.getElem?_cons_zero, List.zip_nil_right, List.any_nil, Bool.false_eq_true, if_false,
      List.nil_append, runs']
    rw [beginSlot]
    simp only [queue (v.updSlot n fun y => { y with begun := [.done e] }) rfl, ended]
    rfl
  have reports : reportSlot n 5 (v.updSlot n fun y => { y with begun := [.done e] }) =
      (((v.updSlot n fun y => { y with begun := [.done e] }).setQueue (slotQ n) []).updSlot n fun y => { y with begun := [] }).slotDone n c e := by
    rw [reportSlot, queue (v.updSlot n fun y => { y with begun := [.done e] }) rfl, ended]
    refine reportSlot_none ?_
    have kept := (State.complete_logs (((v.updSlot n fun y => { y with begun := [.done e] }).setQueue (slotQ n) []).updSlot n fun y => { y with begun := [] })
      .slot n Off.SLOT_CMD_STAT e (c.word.fld 8 8) 8).slv
    have length' : n < ((v.updSlot n fun y => { y with begun := [.done e] }).setQueue (slotQ n) []).slv.slots.length :=
      Nat.lt_of_lt_of_eq length (modAt_length _ _ _).symm
    rw [State.slotDone, State.slot, kept]
    exact congrArg Slot.begun (State.updSlot_slot _ n _ length')
  simp only [State.slotCmd, idle, free, empty, bne_self_eq_false, Bool.or_self, Bool.false_eq_true, if_false, List.nil_append, State.runSlot, queueMax]
  rw [begins, reports]

end

/-- A SLOT.CMD of a free page goes to its slot (R234). -/
theorem next_slotCmd (h : s.MayCommand slot x .config .slot n) :
    occurs t (fun s => s.hostWrite slot (Page.reg .slot n Off.SLOT_CMD) (cmdWord op tag extra)) s =
      .next (s.settled ((s.counted t x .slot n Off.SLOT_CMD).slotCmd n ⟨cmdWord op tag extra, slot, x.priv, max s.now t, []⟩)) :=
  next_command _ h rfl rfl nofun (by simp only [State.takeCmd, h.noReset, Bool.false_and, Bool.false_eq_true, if_false, State.cmdArgs])

section
variable {c : QCmd}

/-- A screed is to be built (R199). -/
theorem State.execSlotCmd_build (code : c.word.fld 0 4 = 1) (priv : c.priv.ge .config = true) (mode : s.md.mode = .commission) (plain : c.args = [])
    (idle : (s.slot n).build = .none) (cfg : (s.slot n).cfg.isSome = true) :
    s.execSlotCmd n c = (none, (s.updSlot n fun y => { y with build := .waiting, buildCmd := some c }).grant) := by
  have own : ¬ (s.md.mode != .commission) = true := by simp [mode]
  have may : ¬ (!c.args.isEmpty || (s.slot n).build != .none) = true := by simp [plain, idle]
  have fitted : ¬ (s.slot n).cfg.isNone = true := by simp [Option.isNone_iff_eq_none, Option.isSome_iff_ne_none.mp cfg]
  simp only [State.execSlotCmd, code, priv, Bool.not_true, Bool.false_eq_true, if_false, if_neg own, if_neg may, if_neg fitted, State.wantBuild]

/-- A trial runs (R234). -/
theorem State.execSlotCmd_trial (code : c.word.fld 0 4 = 2) (priv : c.priv.ge .config = true) (mode : s.md.mode = .commission)
    (screed : (s.slot n).screed.isSome = true) (cfg : (s.slot n).cfg.isSome = true) (free : (s.slot n).cyc = none) :
    s.execSlotCmd n c = (none, (s.updSlot n fun y => { y with trialCmd := some c }).startCycle n (s.slot n).nextNum true) := by
  have own : ¬ (s.md.mode != .commission) = true := by simp [mode]
  have may : ¬ ((s.slot n).screed.isNone || (s.slot n).cfg.isNone || (s.slot n).cyc.isSome) = true := by
    simp [Option.isNone_iff_eq_none, Option.isSome_iff_ne_none.mp cfg, Option.isSome_iff_ne_none.mp screed, free]
  simp only [State.execSlotCmd, code, priv, Bool.not_true, Bool.false_eq_true, if_false, if_neg own, if_neg may]

/-- The next cycle starts cold (R234). -/
theorem State.execSlotCmd_cold (code : c.word.fld 0 4 = 3) (priv : c.priv.ge .operate = true) (mode : slvModeOk s.md.mode = true) :
    s.execSlotCmd n c = (some .ok, s.updSlot n fun y => { y with coldPend := true }) := by
  simp only [State.execSlotCmd, code, priv, mode, Bool.not_true, Bool.false_eq_true, if_false]

/-- The next cycle is captured (R234). -/
theorem State.execSlotCmd_capture (code : c.word.fld 0 4 = 4) (priv : c.priv.ge .operate = true) (mode : slvModeOk s.md.mode = true ∨ s.md.mode = .standby) :
    s.execSlotCmd n c = (none, s) := by
  have may : ¬ (!(slvModeOk s.md.mode || s.md.mode == .standby)) = true := by rcases mode with m | m <;> simp [m]
  simp only [State.execSlotCmd, code, priv, Bool.not_true, Bool.false_eq_true, if_false, if_neg may]

end

section
variable {c : QCmd} (empty : s.queue (slotQ n) = []) (first : (s.slot n).begun = []) (inside : n < s.slv.slots.length) (idle : (s.slot n).build = .none)
  (free : (s.slot n).cyc = none)
include empty first inside idle free

omit empty first idle free in
theorem State.begun_slot : (s.begun n c).slot n = { s.slot n with begun := [.waiting] } := State.updSlot_slot (s.setQueue (slotQ n) [c]) n _ inside

/-- A build waits for its end at the head of the queue (R234). -/
theorem State.slotCmd_build (code : c.word.fld 0 4 = 1) (priv : c.priv.ge .config = true) (mode : s.md.mode = .commission) (plain : c.args = [])
    (cfg : (s.slot n).cfg.isSome = true) :
    s.slotCmd n c = ((s.begun n c).updSlot n fun y => { y with build := .waiting, buildCmd := some c }).grant := by
  have here : (s.begun n c).slot n = { s.slot n with begun := [.waiting] } := State.begun_slot inside
  refine State.slotCmd_waits empty first inside idle free
    (State.execSlotCmd_build (s := s.begun n c) code priv mode plain (by rw [here]; exact idle) (by rw [here]; exact cfg)) ?_
  refine State.SameCmds.trans ?_ (State.grant_cmds _)
  exact State.updSlot_cmds _ _ _ fun _ => rfl

/-- A trial waits for its end at the head of the queue (R234). -/
theorem State.slotCmd_trial (code : c.word.fld 0 4 = 2) (priv : c.priv.ge .config = true) (mode : s.md.mode = .commission)
    (screed : (s.slot n).screed.isSome = true) (cfg : (s.slot n).cfg.isSome = true) :
    s.slotCmd n c = ((s.begun n c).updSlot n fun y => { y with trialCmd := some c }).startCycle n (s.slot n).nextNum true := by
  have here : (s.begun n c).slot n = { s.slot n with begun := [.waiting] } := State.begun_slot inside
  have runs := State.execSlotCmd_trial (s := s.begun n c) code priv mode (by rw [here]; exact screed) (by rw [here]; exact cfg) (by rw [here]; exact free)
  rw [here] at runs
  refine State.slotCmd_waits empty first inside idle free runs ?_
  refine State.SameCmds.trans ?_ (State.startCycle_cmds _ _ _ _)
  exact State.updSlot_cmds _ _ _ fun _ => rfl

/-- COLD_NEXT ends at once (R234). -/
theorem State.slotCmd_cold (code : c.word.fld 0 4 = 3) (priv : c.priv.ge .operate = true) (mode : slvModeOk s.md.mode = true) :
    s.slotCmd n c = (((s.setQueue (slotQ n) [c]).updSlot n fun y => { y with coldPend := true, begun := [] }).setQueue (slotQ n) []).slotDone n c .ok := by
  have runs := State.execSlotCmd_cold (s := s.begun n c) (n := n) code priv mode
  refine (State.slotCmd_ends empty first inside idle free runs (State.updSlot_cmds _ _ _ fun _ => rfl)).trans ?_
  have once : (((s.begun n c).updSlot n fun y => { y with coldPend := true }).updSlot n fun y => { y with begun := [.done .ok] }).updSlot n
      (fun y => { y with begun := [] }) = (s.setQueue (slotQ n) [c]).updSlot n fun y => { y with coldPend := true, begun := [] } := by
    simp only [State.begun, State.updSlot_updSlot]
  rw [← once]
  rfl

/-- A capture waits for its cycle at the head of the queue (R234). -/
theorem State.slotCmd_capture (code : c.word.fld 0 4 = 4) (priv : c.priv.ge .operate = true) (mode : slvModeOk s.md.mode = true ∨ s.md.mode = .standby) :
    s.slotCmd n c = s.begun n c :=
  State.slotCmd_waits empty first inside idle free (State.execSlotCmd_capture (s := s.begun n c) code priv mode) (.refl _)

end

/-! SDATA.CMD -/

/-- A SDATA.CMD of a free page executes at once (R237). -/
theorem next_sdataCmd (h : s.MayCommand slot x .operate .sdata 0) :
    occurs t (fun s => s.hostWrite slot (Page.reg .sdata 0 Off.SDATA_CMD) (cmdWord op tag extra)) s =
      .next (s.settled ((s.counted t x .sdata 0 Off.SDATA_CMD).sdataCmd ⟨cmdWord op tag extra, slot, x.priv, max s.now t, []⟩)) :=
  next_command _ h rfl rfl nofun (by simp only [State.takeCmd, h.noReset, Bool.false_and, Bool.false_eq_true, if_false, State.cmdArgs])

section
variable {c : QCmd}

/-- How a SDATA.CMD that succeeds completes (R237). -/
def State.sdataDone (s : State) (k tag : Nat) : State := (s.updSess k fun y => { y with sdStat := statWord .ok tag }).sessIrq k 1

section
variable {y : Session} (here : s.sess? c.sess = some y)
include here

theorem State.sdataCmd_series {u : State} {len : Nat} (code : c.word.fld 0 4 = 1) (size : c.word.fld 16 12 = len) (priv : c.priv.ge .operate = true)
    (low : 1 ≤ len) (high : len ≤ 3840) (act : s.commitSeries y len = (.ok, u)) : s.sdataCmd c = u.sdataDone c.sess (c.word.fld 8 8) := by
  have length : ¬ (!(decide (1 ≤ len) && decide (len ≤ 3840))) = true := by simp [low, high]
  simp only [State.sdataCmd, here, code, size, if_true, priv, Bool.not_true, Bool.false_eq_true, if_false, if_neg length, act, State.sdataDone]

theorem State.sdataCmd_skim {u : State} {len : Nat} (code : c.word.fld 0 4 = 2) (size : c.word.fld 16 12 = len) (priv : c.priv.ge .config = true)
    (mode : s.md.mode = .commission) (low : 1 ≤ len) (high : len ≤ 3840) (act : s.commitSkim y len = (.ok, u)) :
    s.sdataCmd c = u.sdataDone c.sess (c.word.fld 8 8) := by
  have length : ¬ (!(decide (1 ≤ len) && decide (len ≤ 3840))) = true := by simp [low, high]
  have own : ¬ (s.md.mode != .commission) = true := by simp [mode]
  have other : ¬ (2 = 1) := by decide
  simp only [State.sdataCmd, here, code, size, if_neg other, if_true, priv, Bool.not_true, Bool.false_eq_true, if_false, if_neg own, if_neg length, act, State.sdataDone]

theorem State.sdataCmd_clear (code : c.word.fld 0 4 = 3) :
    s.sdataCmd c = (s.updSess c.sess fun y => { y with stage := [] }).sdataDone c.sess (c.word.fld 8 8) := by
  have one : ¬ (3 = 1) := by decide
  have two : ¬ (3 = 2) := by decide
  simp only [State.sdataCmd, here, code, if_neg one, if_neg two, if_true, State.sdataDone]

end
end

/-- A well-formed series replaces the one of its code and scope (R177, R235). -/
theorem State.commitSeries_good {y : Session} {len : Nat} (dispatch : s.isDispatch (y.sdSel.fld 0 3) = true) (form : leAt (stageBytes y len) 1 1 = 0)
    (low : 1 ≤ leAt (stageBytes y len) 12 2) (high : leAt (stageBytes y len) 12 2 ≤ 192) (length : len = 16 + 8 * leAt (stageBytes y len) 12 2)
    (values : seriesOk s.slv.disp (parseSeries (stageBytes y len)) = true) :
    s.commitSeries y len = (.ok, { s with slv := { s.slv with
      series := (s.slv.series.filter fun z => !(z.code == (parseSeries (stageBytes y len)).code && z.scope == (parseSeries (stageBytes y len)).scope)) ++
        [parseSeries (stageBytes y len)]
      serHist := noteOld s.now s.slv.series s.slv.serHist } }) := by
  have own : ¬ (!s.isDispatch (y.sdSel.fld 0 3)) = true := by simp [dispatch]
  have header : ¬ len < 16 := by omega
  have plain : ¬ leAt (stageBytes y len) 1 1 ≠ 0 := fun h => h form
  have count : ¬ (!(decide (1 ≤ leAt (stageBytes y len) 12 2) && decide (leAt (stageBytes y len) 12 2 ≤ 192))) = true := by simp [low, high]
  have whole : ¬ len ≠ 16 + 8 * leAt (stageBytes y len) 12 2 := fun h => h length
  have good : ¬ (!seriesOk s.slv.disp (parseSeries (stageBytes y len))) = true := by simp [values]
  simp only [State.commitSeries, if_neg own, if_neg header, if_neg plain, if_neg count, if_neg whole, if_neg good]

/-- A well-formed skim for the resident screed waits for the next trial (R204, R236). -/
theorem State.commitSkim_good {y : Session} {len : Nat} {r : Screed} (magic : leAt (stageBytes y len) 0 2 = 0x4B53) (version : leAt (stageBytes y len) 2 1 = 1)
    (own : leAt (stageBytes y len) 3 1 = y.sdSel.fld 0 3) (zero : leAt (stageBytes y len) 8 4 = 0) (length : len = 16 * (leAt (stageBytes y len) 12 4 + 1))
    (screed : (s.slot (y.sdSel.fld 0 3)).screed = some r) (resident : r.fig.id = w32 (leAt (stageBytes y len) 4 4)) :
    s.commitSkim y len = (.ok, s.updSlot (y.sdSel.fld 0 3) fun z => { z with
      hostSkim := some ⟨w32 (leAt (stageBytes y len) 4 4), 0, (List.range (leAt (stageBytes y len) 12 4)).map fun i =>
        ⟨leAt (stageBytes y len) (16 + 16 * i) 1, leAt (stageBytes y len) (20 + 16 * i) 4, BitVec.ofNat 64 (leAt (stageBytes y len) (24 + 16 * i) 8)⟩⟩ }) := by
  have header : ¬ len < 16 := by omega
  have small : leAt (stageBytes y len) 3 1 ≤ 7 := by
    rw [own, Word.fld]
    exact Nat.lt_succ_iff.mp (Nat.mod_lt _ (by decide))
  have form : ¬ (leAt (stageBytes y len) 0 2 ≠ 0x4B53 ∨ leAt (stageBytes y len) 2 1 ≠ 1 ∨ leAt (stageBytes y len) 3 1 > 7 ∨ leAt (stageBytes y len) 8 4 ≠ 0) := by
    rintro (h | h | h | h)
    · exact h magic
    · exact h version
    · omega
    · exact h zero
  have whole : ¬ len ≠ 16 * (leAt (stageBytes y len) 12 4 + 1) := fun h => h length
  have found : ((s.slot (y.sdSel.fld 0 3)).screed.map (·.fig.id)) = some (w32 (leAt (stageBytes y len) 4 4)) := by rw [screed, Option.map_some, resident]
  have fits : ¬ (leAt (stageBytes y len) 3 1 ≠ y.sdSel.fld 0 3 ∨ ((s.slot (y.sdSel.fld 0 3)).screed.map (·.fig.id)) ≠ some (w32 (leAt (stageBytes y len) 4 4))) := by
    rintro (h | h)
    · exact h own
    · exact h found
  simp only [State.commitSkim, if_neg header, if_neg form, if_neg whole, if_neg fits]

end

/-- SLV.CMD (R232). -/
theorem slvCommandsAct {s : State} {t slot tag n : Nat} {x : Session} (h : s.MayCommand slot x .service .slv 0) (mode : slvModeOk s.md.mode = true) (small : n < 8)
    (fitted : n < s.variant.lanes) :
    let b := s.counted t x .slv 0 Off.SLV_CMD
    let c := fun k : Nat => (⟨cmdWord k tag (65536 * n), slot, x.priv, max s.now t, []⟩ : QCmd)
    ((b.lane n).fenced = true →
      exec (.slvLaneTest t slot tag n) s = .next (s.settled
        ((b.updLane n fun y => { y with queued := true, cmd := some (c 1) }).grant.setQueue (Page.reg .slv 0 Off.SLV_CMD) [c 1]))) ∧
    exec (.slvLaneRelease t slot tag n) s = .next (s.settled
      ((((b.updLane n fun y => { y with held := false, fails := 0, since := max s.now t }).wrp .slv 0 Off.SLV_CMD_STAT
        ((statWord .ok tag).setBit 25 false)).irq .slv 0 3).setQueue (Page.reg .slv 0 Off.SLV_CMD) [])) := by
  intro b c
  have md : b.md = s.md := State.counted_md s t x .slv 0 Off.SLV_CMD
  have variant : b.variant = s.variant := State.counted_variant s t x .slv 0 Off.SLV_CMD
  have now : b.now = max s.now t := State.counted_now s t x .slv 0 Off.SLV_CMD
  have lane : ∀ k, k < 16 → (c k).word.fld 16 3 = n := fun k low => by
    rw [cmdWord_extra k tag n 3 low (by omega)]
    omega
  have word : n % 8 = n := Nat.mod_eq_of_lt small
  have code : ∀ k, k < 16 → (c k).word.fld 0 4 = k := fun k low => cmdWord_op _ _ _ low (by omega)
  rw [← md] at mode
  rw [← variant] at fitted
  refine ⟨fun fenced => ?_, ?_⟩
  · have runs := runSlvQueue_test (c := c 1) h.priv mode (by rw [lane 1 (by decide)]; exact fitted) (code 1 (by decide))
      (by rw [lane 1 (by decide)]; exact fenced)
    rw [lane 1 (by decide)] at runs
    refine (next_slvCmd h).trans ?_
    rw [word]
    exact congrArg (Host.Outcome.next ∘ s.settled) runs
  · have runs := runSlvQueue_release (c := c 2) h.priv mode (by rw [lane 2 (by decide)]; exact fitted) (code 2 (by decide))
    have tagged : (c 2).word.fld 8 8 = tag % 256 := cmdWord_tag _ _ _ (by omega)
    rw [lane 2 (by decide), State.slvDone, tagged, statWord_mod, now] at runs
    refine (next_slvCmd h).trans ?_
    rw [word]
    exact congrArg (Host.Outcome.next ∘ s.settled) runs

/-- SLOT.CMD (R234). -/
theorem slotCommandsAct {s : State} {t slot tag n : Nat} {x : Session} (h : s.MayCommand slot x .config .slot n) (idle : (s.slot n).build = .none)
    (free : (s.slot n).cyc = none) (first : (s.slot n).begun = []) (inside : n < s.slv.slots.length) :
    let b := s.counted t x .slot n Off.SLOT_CMD
    let c := fun k : Nat => (⟨cmdWord k tag 0, slot, x.priv, max s.now t, []⟩ : QCmd)
    let held := fun (k : Nat) (f : State → State) =>
      s.settled (f ((b.setQueue (Page.reg .slot n Off.SLOT_CMD) [c k]).updSlot n fun y => { y with begun := [.waiting] }))
    (s.md.mode = .commission → (s.slot n).cfg.isSome = true →
      exec (.slotScreedBuild t slot tag n) s =
        .next (held 1 fun u => (u.updSlot n fun y => { y with build := .waiting, buildCmd := some (c 1) }).grant)) ∧
    (s.md.mode = .commission → (s.slot n).cfg.isSome = true → (s.slot n).screed.isSome = true →
      exec (.slotTrial t slot tag n) s =
        .next (held 2 fun u => (u.updSlot n fun y => { y with trialCmd := some (c 2) }).startCycle n (s.slot n).nextNum true)) ∧
    (slvModeOk s.md.mode = true →
      exec (.slotColdNext t slot tag n) s = .next (s.settled
        ((((b.setQueue (Page.reg .slot n Off.SLOT_CMD) [c 3]).updSlot n fun y => { y with coldPend := true, begun := [] }).setQueue (Page.reg .slot n Off.SLOT_CMD)
          []).complete .slot n Off.SLOT_CMD_STAT .ok tag 8))) ∧
    ((slvModeOk s.md.mode = true ∨ s.md.mode = .standby) →
      exec (.slotCapture t slot tag n) s = .next (held 4 id)) := by
  intro b c held
  have md : b.md = s.md := State.counted_md s t x .slot n Off.SLOT_CMD
  have slv : b.slv = s.slv := State.counted_slv s t x .slot n Off.SLOT_CMD
  have slot_ : b.slot n = s.slot n := by rw [State.slot, State.slot, slv]
  have empty : b.queue (slotQ n) = [] := State.queue_idle (p := .slot) (i := n) (by rw [State.counted_waiting]; exact h.idle)
  rw [← slv] at inside
  rw [← md, ← slot_]
  rw [← slot_] at idle free first
  have code : ∀ k, k < 16 → (c k).word.fld 0 4 = k := fun k low => cmdWord_plain_op tag low
  have operate : x.priv.ge .operate = true := Priv.ge_trans h.priv rfl
  have next_ : ∀ {k : Nat} {u : State}, b.slotCmd n (c k) = u →
      occurs t (fun s => s.hostWrite slot (Page.reg .slot n Off.SLOT_CMD) (cmdWord k tag 0)) s = .next (s.settled u) := fun act =>
    (next_slotCmd h).trans (congrArg (Host.Outcome.next ∘ s.settled) act)
  refine ⟨fun mode cfg => next_ (State.slotCmd_build empty first inside idle free (code 1 (by decide)) h.priv mode rfl cfg),
    fun mode cfg screed => next_ (State.slotCmd_trial empty first inside idle free (code 2 (by decide)) h.priv mode screed cfg), fun mode => ?_,
    fun mode => next_ (State.slotCmd_capture empty first inside idle free (code 4 (by decide)) operate mode)⟩
  have ends := State.slotCmd_cold empty first inside idle free (code 3 (by decide)) operate mode
  have tagged : (c 3).word.fld 8 8 = tag % 256 := cmdWord_plain_tag tag (by decide)
  rw [State.slotDone, tagged, State.complete_mod] at ends
  exact next_ ends

/-- SDATA.CMD (R177, R204, R235–R237). -/
theorem sdataCommandsAct {s : State} {t slot tag len : Nat} {x : Session} (h : s.MayCommand slot x .operate .sdata 0) :
    let b := s.counted t x .sdata 0 Off.SDATA_CMD
    let done := fun (u : State) => s.settled (u.sdataDone slot tag)
    let n := x.sdSel.fld 0 3
    let bs := stageBytes x len
    let r := parseSeries bs
    (b.isDispatch n = true → leAt bs 1 1 = 0 → 1 ≤ leAt bs 12 2 → leAt bs 12 2 ≤ 192 → len = 16 + 8 * leAt bs 12 2 → seriesOk b.slv.disp r = true →
      exec (.commitSeries t slot tag len) s = .next (done
        { b with slv := { b.slv with
          series := (b.slv.series.filter fun y => !(y.code == r.code && y.scope == r.scope)) ++ [r], serHist := noteOld b.now b.slv.series b.slv.serHist } })) ∧
    (∀ (y : Screed), x.priv.ge .config = true → s.md.mode = .commission → leAt bs 0 2 = 0x4B53 → leAt bs 2 1 = 1 → leAt bs 3 1 = n → leAt bs 8 4 = 0 →
      len = 16 * (leAt bs 12 4 + 1) → len ≤ 3840 → (b.slot n).screed = some y → y.fig.id = w32 (leAt bs 4 4) →
      exec (.commitSkim t slot tag len) s = .next (done (b.updSlot n fun z => { z with
        hostSkim := some ⟨w32 (leAt bs 4 4), 0, (List.range (leAt bs 12 4)).map fun i =>
          ⟨leAt bs (16 + 16 * i) 1, leAt bs (20 + 16 * i) 4, BitVec.ofNat 64 (leAt bs (24 + 16 * i) 8)⟩⟩ }))) ∧
    exec (.clearStage t slot tag) s = .next (done (b.updSess slot fun y => { y with stage := [] })) := by
  intro b done n bs r
  have md : b.md = s.md := State.counted_md s t x .sdata 0 Off.SDATA_CMD
  have here : b.sess? slot = some { x with last := max s.now t } := State.counted_sess s t x .sdata 0 Off.SDATA_CMD h.here
  have ends : ∀ u : State, u.sdataDone slot (tag % 256) = u.sdataDone slot tag := fun u => by simp only [State.sdataDone, statWord_mod]
  have next_ : ∀ {op extra : Nat} {u : State}, b.sdataCmd ⟨cmdWord op tag extra, slot, x.priv, max s.now t, []⟩ = u.sdataDone slot (tag % 256) →
      occurs t (fun s => s.hostWrite slot (Page.reg .sdata 0 Off.SDATA_CMD) (cmdWord op tag extra)) s = .next (done u) := fun act =>
    (next_sdataCmd h).trans (congrArg (Host.Outcome.next ∘ s.settled) (act.trans (ends _)))
  have size : ∀ op, op < 16 → len < 4096 → (cmdWord op tag (65536 * (len % 4096))).fld 16 12 = len := fun op low short => by
    rw [cmdWord_extra op tag (len % 4096) 12 low (by omega)]
    omega
  have tagged : ∀ op, op < 16 → (cmdWord op tag (65536 * (len % 4096))).fld 8 8 = tag % 256 := fun op low => cmdWord_tag _ _ _ (by omega)
  have code : ∀ op, op < 16 → (cmdWord op tag (65536 * (len % 4096))).fld 0 4 = op := fun op low => cmdWord_op _ _ _ low (by omega)
  refine ⟨fun dispatch form low high length values => next_ ?_, fun y priv mode magic version own zero length long_ screed resident => next_ ?_, next_ ?_⟩
  · have runs := State.sdataCmd_series (c := ⟨cmdWord 1 tag (65536 * (len % 4096)), slot, x.priv, max s.now t, []⟩) here (code 1 (by decide))
      (size 1 (by decide) (by omega)) h.priv (by omega) (by omega) (State.commitSeries_good dispatch form low high length values)
    rw [tagged 1 (by decide)] at runs
    exact runs
  · rw [← md] at mode
    have runs := State.sdataCmd_skim (c := ⟨cmdWord 2 tag (65536 * (len % 4096)), slot, x.priv, max s.now t, []⟩) here (code 2 (by decide))
      (size 2 (by decide) (by omega)) priv mode (by omega) long_ (State.commitSkim_good magic version own zero length screed resident)
    rw [tagged 2 (by decide)] at runs
    exact runs
  · have runs := State.sdataCmd_clear (c := ⟨cmdWord 3 tag 0, slot, x.priv, max s.now t, []⟩) here (cmdWord_plain_op tag (by decide))
    rw [cmdWord_plain_tag tag (by decide)] at runs
    exact runs

/-- Settles O38. -/
theorem solverCommandsAct : Obligations.SolverCommandsAct :=
  ⟨fun _ _ _ _ _ _ => ⟨slvCommandsAct, slotCommandsAct⟩, fun _ _ _ _ _ _ => sdataCommandsAct⟩

end Sys2Proof.Machine
end

section
/-!
SUPPORT. A loop's sample (R240–R246, R254–R259).
-/
namespace Sys2Proof.Machine

/-! Updates of one loop -/

section
variable (s : State) (n : Nat)

theorem State.updLoop_updLoop (f k : Loop → Loop) : (s.updLoop n f).updLoop n k = s.updLoop n fun y => k (f y) := by
  simp only [State.updLoop, modAt_modAt]

/-- A loop of the table that is changed by number holds what the change gives. -/
theorem State.updLoop_loop (f : Loop → Loop) (h : n < s.lp.loops.length) : (s.updLoop n f).loop n = f (s.loop n) := modAt_getD _ _ _ _ h

theorem modAt_const {α : Type} (l : List α) (n : Nat) (f : α → α) (d : α) : modAt l n f = modAt l n fun _ => f (l.getD n d) := by
  induction l generalizing n with
  | nil => rfl
  | cons x xs ih =>
    cases n with
    | zero => rfl
    | succ n => exact congrArg (x :: ·) (ih n)

/-- An update of a loop gives the value that it has for the loop as it stands. -/
theorem State.updLoop_const (f : Loop → Loop) : s.updLoop n f = s.updLoop n fun _ => f (s.loop n) :=
  congrArg (fun ls => ({ s with lp := { s.lp with loops := ls } } : State)) (modAt_const s.lp.loops n f {})

end

/-- Outside a table its default is read. -/
theorem getD_outside {α : Type} {l : List α} {n : Nat} {d : α} (outside : l.length ≤ n) : l.getD n d = d := by
  rw [List.getD_eq_getElem?_getD, List.getElem?_eq_none outside]
  rfl

/-- A loop that runs is one of the table. -/
theorem State.running_inside {s : State} {n : Nat} (h : (s.loop n).running = true) : n < s.lp.loops.length := by
  refine Decidable.byContradiction fun outside => ?_
  have default_ : s.loop n = {} := getD_outside (Nat.le_of_not_lt outside)
  rw [default_] at h
  exact absurd h (by decide)

/-! The sample -/

/-- A test after a sample (R261–R263). -/
def State.advanceTest (s : State) (n : Nat) : State :=
  match (s.loop n).test with
  | none => s
  | some x => match testStep x with
    | some x' => s.updLoop n fun l => { l with test := some x' }
    | none => s.endTest n

/-- The sample is the first of the loop's test. -/
def testBegins (l : Loop) : Bool := match l.test with | some x => x.j == 0 | none => false

/-- The test signal of the loop's sample (R262). -/
def testAdds (c : LoopCfg) (l : Loop) : F64.F := match l.test with | some x => testSignal c x | none => F64.zero

/-- The loop's test acts on its output. -/
def testOnOut (l : Loop) : Bool := match l.test with | some x => x.onOut | none => false

section
variable {s : State} {n : Nat} {c : LoopCfg} {j : LoopJr} {late handover casc ovr : Bool} {law : Law} {trk : Option Nat}

section
variable (laws : (s.latched n (latchOf (s.loop n) j)).lawOf c ((s.latched n (latchOf (s.loop n) j)).loop n) (latchOf (s.loop n) j) = (law, trk, casc, ovr))
include laws

/-- A sample that is missed (R257–R259). -/
theorem State.sampleBody_misses {why : Nat}
    (miss : missWhy ((s.latched n (latchOf (s.loop n) j)).loop n) law (latchOf (s.loop n) j) trk late handover = some why) :
    let x := latchOf (s.loop n) j
    let e := s.latched n x
    s.sampleBody n c j late handover = ((e.loopMiss n why (law != .pid)).capSample n j.frame
      (F64.clamp (tuneOf (e.loop n) tSpLo) (tuneOf (e.loop n) tSpHi) (e.loop n).r) x.y true ((s.loop n).mode != (s.loop n).sampMode) (testBegins (s.loop n))
      (s.time64At (s.latchAt n j.frame))).advanceTest n := by
  intro x e
  rw [State.sampleBody, laws]
  dsimp -zeta only
  extract_lets dt onOut r u
  have missed : r = (e.loopMiss n why (law != .pid), F64.clamp (tuneOf (e.loop n) tSpLo) (tuneOf (e.loop n) tSpHi) (e.loop n).r, true) := by
    simp only [r, miss]
    rfl
  have taken : u = (e.loopMiss n why (law != .pid)).capSample n j.frame (F64.clamp (tuneOf (e.loop n) tSpLo) (tuneOf (e.loop n) tSpHi) (e.loop n).r) x.y true
      ((s.loop n).mode != (s.loop n).sampMode) (testBegins (s.loop n)) (s.time64At (s.latchAt n j.frame)) := by
    refine Eq.trans (b := r.1.capSample n j.frame r.2.1 x.y r.2.2 ((s.loop n).mode != (s.loop n).sampMode) (testBegins (s.loop n))
      (s.time64At (s.latchAt n j.frame))) rfl ?_
    rw [missed]
  refine Eq.trans (b := u.advanceTest n) ?_ (congrArg (State.advanceTest · n) taken)
  clear_value u
  rfl

/-- A sample that completes (R246, R258). -/
theorem State.sampleBody_completes
    (miss : missWhy ((s.latched n (latchOf (s.loop n) j)).loop n) law (latchOf (s.loop n) j) trk late handover = none) :
    let x := latchOf (s.loop n) j
    let e := s.latched n x
    let r := e.loopComplete n c law x (testAdds c (e.loop n)) (testOnOut (e.loop n)) casc ovr (s.time64At (s.latchAt n j.frame)) (max e.now (e.outAt n j.frame))
    s.sampleBody n c j late handover = (r.1.capSample n j.frame r.2 x.y false ((s.loop n).mode != (s.loop n).sampMode) (testBegins (s.loop n))
      (s.time64At (s.latchAt n j.frame))).advanceTest n := by
  intro x e done
  rw [State.sampleBody, laws]
  dsimp -zeta only
  extract_lets dt onOut r u
  have signal : dt = testAdds c (e.loop n) := rfl
  have placed : onOut = testOnOut (e.loop n) := rfl
  have completed : r = (done.1, done.2, false) := by
    simp only [done, ← signal, ← placed]
    simp only [r, miss]
    rfl
  have taken : u = done.1.capSample n j.frame done.2 x.y false ((s.loop n).mode != (s.loop n).sampMode) (testBegins (s.loop n))
      (s.time64At (s.latchAt n j.frame)) := by
    refine Eq.trans (b := r.1.capSample n j.frame r.2.1 x.y r.2.2 ((s.loop n).mode != (s.loop n).sampMode) (testBegins (s.loop n))
      (s.time64At (s.latchAt n j.frame))) rfl ?_
    rw [completed]
  refine Eq.trans (b := u.advanceTest n) ?_ (congrArg (State.advanceTest · n) taken)
  clear_value u
  rfl

end

/-- The state in which loop `n` computes its sample of the frame that starts at `F`. -/
def State.sampled (s : State) (n F : Nat) : State :=
  (((s.updLoop n fun l => { l with due := none, sampled := some F }).reachedAt (.loop n) F).loopWaits).setQueue (Page.reg .loop (loopPage n) Off.LOOP_CMD) []

section
variable {F : Nat} (crossing : s.md.crossing = none) (runs : s.md.mode.loopsRun = true) (own : s.md.mode ≠ .standby) (on : (s.loop n).running = true)
  (next_ : (s.loop n).next = none) (cfg : (s.loop n).cfg = some c) (jr : (s.loop n).jr = some j) (frame : j.frame = F)
include next_ cfg jr frame

/-- The sample start that has been taken stands (R241). -/
theorem State.atStart_taken : s.atStart n F = s := by
  have coming : cfgIn (s.loop n) s.lp.frame0 F = some c := by simp [cfgIn, comingCfg, next_, cfg]
  have journaled : ((s.loop n).jr.any fun j => j.frame == F) = true := by rw [jr, Option.any_some, frame, beq_self_eq_true]
  simp only [State.atStart, coming, journaled, if_true]

omit next_ cfg jr frame in
theorem State.takeNext_none (h : (s.loop n).next = none) : s.takeNext n = s := by simp only [State.takeNext, h]

include crossing runs own on

omit crossing runs own next_ cfg jr frame in
theorem State.sampled_loop : (s.sampled n F).loop n = { s.loop n with due := none, sampled := some F } :=
  State.updLoop_loop _ _ _ (State.running_inside on)

/-- A running loop with the journal of the frame samples from it (R241). -/
theorem State.takeSample_runs (latched : j.latched = true) (empty : s.queue (Page.reg .loop (loopPage n) Off.LOOP_CMD) = []) :
    s.takeSample n F late handover = (((s.sampled n F).updLoop n workOn).sampleBody n c j late handover).updLoop n (settleRegs ((s.sampled n F).loop n)) := by
  have inside := State.running_inside on
  have here := State.sampled_loop (F := F) on
  generalize cleared : s.updLoop n (fun l => { l with due := none }) = v
  have loop : v.loop n = { s.loop n with due := none } := cleared ▸ State.updLoop_loop _ _ _ inside
  have md : v.md = s.md := cleared ▸ rfl
  have keeps : (if F = v.lp.frame0 then v else v.takeNext n) = v := by
    rw [State.takeNext_none (by rw [loop]; exact next_), ite_self]
  have goes : (!(v.md.mode.loopsRun && (v.loop n).running) || v.leaving) = false := by
    have stays : v.leaving = false := by rw [State.leaving, md, crossing]; rfl
    rw [md, loop, stays]
    simp [runs, on]
  have whole : v.shadowInputs (.loop n) = (true, v) := State.shadowInputs_own (by rw [md]; exact own)
  have ready : (((v.updLoop n fun l => { l with sampled := some F }).reachedAt (.loop n) F).loopWaits).runLoop (loopPage n) (some (n, F)) = s.sampled n F := by
    have queue : (((v.updLoop n fun l => { l with sampled := some F }).reachedAt (.loop n) F).loopWaits).queue (Page.reg .loop (loopPage n) Off.LOOP_CMD) = [] := by
      rw [← cleared]
      exact empty
    rw [State.runLoop, queue, runLoopQueue, State.sampled, ← cleared, State.updLoop_updLoop]
  have config : ((s.sampled n F).loop n).cfg = some c := by rw [here]; exact cfg
  have journal : (s.sampled n F).sampleJr n c F = j := by
    have active : ¬ ((s.sampled n F).md.mode == .standby) = true := fun h => own (eq_of_beq h)
    simp only [State.sampleJr, if_neg active, here, jr, latched, if_true]
  simp only [State.takeSample, State.atStart_taken next_ cfg jr frame, cleared, keeps, goes, Bool.false_eq_true, if_false, whole, Bool.not_true, ready, config, journal]

end
end

/-! LOOP_SAMPLE -/

section
variable {s : State} {n : Nat} {handover : Bool} {chk : List MemFind} (due : (s.loop n).due = none) (frame : s.loopFrame n = true)
include due frame

/-- A sample in its own frame, with no sample left over (R240). -/
theorem State.loopSample_due (late : Bool) : s.loopSample n late handover chk =
    if late then (s.takeSample n s.frameStart true handover).mgAbandon (· == .loop n)
    else if s.inMg (.loop n) then s.deferSample n s.frameStart handover
    else s.checked chk (fun u => u.takeSample n s.frameStart false handover) (fun u => u.deferSample n s.frameStart handover) := by
  have stands : s.dropDue n s.frameStart = s := by simp only [State.dropDue, due]
  simp only [State.loopSample, stands, frame, Bool.not_true, Bool.false_eq_true, if_false]

end

/-- The loop of a sample once its latch has come (R256, R264). -/
theorem State.latched_worked (d : State) (n : Nat) (x : Latch) :
    (d.updLoop n workOn).latched n x = d.updLoop n fun _ =>
      { workOn (d.loop n) with r := if (workOn (d.loop n)).fresh then x.y else (workOn (d.loop n)).r, fresh := false, sampMode := (workOn (d.loop n)).mode } := by
  rw [State.latched, State.updLoop_updLoop, State.updLoop_const]

section
variable {d e : State} {n F : Nat} {c : LoopCfg} {j : LoopJr} {l : Loop} {x : Latch} {late handover : Bool} {at_ : Time64}
  (inside : n < d.lp.loops.length) (working : l = workOn (d.loop n)) (scaled : x = latchOf l j)
  (latch : e = d.updLoop n fun _ => { l with r := if l.fresh then x.y else l.r, fresh := false, sampMode := l.mode })
  (instant : at_ = d.time64At (d.latchAt n F)) (frame : j.frame = F)
include inside working scaled latch instant frame

/-- The sample that a loop misses, from the state in which it works (R257–R259). -/
theorem State.workedSample_misses {why : Nat}
    (miss : missWhy (e.loop n) (e.lawOf c (e.loop n) x).1 x (e.lawOf c (e.loop n) x).2.1 late handover = some why) :
    (d.updLoop n workOn).sampleBody n c j late handover = ((e.loopMiss n why ((e.lawOf c (e.loop n) x).1 != .pid)).capSample n F
      (F64.clamp (tuneOf l tSpLo) (tuneOf l tSpHi) (e.loop n).r) x.y true (l.mode != l.sampMode) (testBegins l) at_).advanceTest n := by
  have worked : (d.updLoop n workOn).loop n = l := working ▸ State.updLoop_loop d n workOn inside
  have latched : (d.updLoop n workOn).latched n (latchOf ((d.updLoop n workOn).loop n) j) = e := by
    rw [State.latched_worked d n _, worked, ← scaled, ← working, latch]
  have tuned : (e.loop n).tune = l.tune := by rw [latch, State.updLoop_loop d n _ inside]
  have time : (d.updLoop n workOn).time64At ((d.updLoop n workOn).latchAt n j.frame) = at_ := by
    have slot : ((d.updLoop n workOn).loop n).slot = (d.loop n).slot := by rw [State.updLoop_loop d n _ inside]; rfl
    rw [instant, State.latchAt, State.latchAt, slot, frame]
    rfl
  have body := State.sampleBody_misses (s := d.updLoop n workOn) (c := c) (j := j) (late := late) (handover := handover) (why := why) (law := (e.lawOf c (e.loop n) x).1)
    (trk := (e.lawOf c (e.loop n) x).2.1) (casc := (e.lawOf c (e.loop n) x).2.2.1) (ovr := (e.lawOf c (e.loop n) x).2.2.2)
    (by rw [latched, worked, ← scaled]) (by rw [latched, worked, ← scaled]; exact miss)
  dsimp only at body
  rw [latched, worked, ← scaled, time, frame] at body
  simp only [tuneOf, tuned] at body
  simp only [tuneOf]
  exact body

/-- The sample that a loop completes, from the state in which it works (R246, R258). -/
theorem State.workedSample_completes {b : State} (now : d.now = b.now) (slot : (d.loop n).slot = (b.loop n).slot)
    (miss : missWhy (e.loop n) (e.lawOf c (e.loop n) x).1 x (e.lawOf c (e.loop n) x).2.1 late handover = none) :
    let law := e.lawOf c (e.loop n) x
    let r := e.loopComplete n c law.1 x (testAdds c l) (testOnOut l) law.2.2.1 law.2.2.2 at_ (max b.now (b.outAt n F))
    (d.updLoop n workOn).sampleBody n c j late handover = (r.1.capSample n F r.2 x.y false (l.mode != l.sampMode) (testBegins l) at_).advanceTest n := by
  have worked : (d.updLoop n workOn).loop n = l := working ▸ State.updLoop_loop d n workOn inside
  have latched : (d.updLoop n workOn).latched n (latchOf ((d.updLoop n workOn).loop n) j) = e := by
    rw [State.latched_worked d n _, worked, ← scaled, ← working, latch]
  have tested : (e.loop n).test = l.test := by rw [latch, State.updLoop_loop d n _ inside]
  have time : (d.updLoop n workOn).time64At ((d.updLoop n workOn).latchAt n j.frame) = at_ := by
    have slot : ((d.updLoop n workOn).loop n).slot = (d.loop n).slot := by rw [State.updLoop_loop d n _ inside]; rfl
    rw [instant, State.latchAt, State.latchAt, slot, frame]
    rfl
  have out : max e.now (e.outAt n F) = max b.now (b.outAt n F) := by
    have now' : e.now = b.now := by rw [latch]; exact now
    have slot' : (e.loop n).slot = (b.loop n).slot := by
      rw [latch, State.updLoop_loop d n _ inside, working]
      exact slot
    rw [now', State.outAt, State.outAt, State.latchAt, State.latchAt, slot']
  have body := State.sampleBody_completes (s := d.updLoop n workOn) (c := c) (j := j) (late := late) (handover := handover) (law := (e.lawOf c (e.loop n) x).1)
    (trk := (e.lawOf c (e.loop n) x).2.1) (casc := (e.lawOf c (e.loop n) x).2.2.1) (ovr := (e.lawOf c (e.loop n) x).2.2.2)
    (by rw [latched, worked, ← scaled]) (by rw [latched, worked, ← scaled]; exact miss)
  have adds : testAdds c (e.loop n) = testAdds c l := by rw [testAdds, testAdds, tested]
  have onOut : testOnOut (e.loop n) = testOnOut l := by rw [testOnOut, testOnOut, tested]
  dsimp only at body
  rw [latched, worked, ← scaled, time, frame, adds, onOut, out] at body
  exact body

end

section
variable {b : State} {n : Nat} {c : LoopCfg} {j : LoopJr} (crossing : b.md.crossing = none) (frame : b.loopFrame n = true) (runs : b.md.mode.loopsRun = true)
  (own : b.md.mode ≠ .standby) (on : (b.loop n).running = true) (next_ : (b.loop n).next = none) (due : (b.loop n).due = none)
  (cfg : (b.loop n).cfg = some c) (jr : (b.loop n).jr = some j) (here : j.frame = b.frameStart) (latched : j.latched = true)
  (empty : b.queue (Page.reg .loop (loopPage n) Off.LOOP_CMD) = [])
include crossing frame runs own on next_ due cfg jr here latched empty

/-- A sample that is missed, in time or late for its making good (R100, R257). -/
theorem State.loopSample_misses {late handover : Bool} {chk : List MemFind} (clean : late = true ∨ (chk = [] ∧ b.inMg (.loop n) = false))
    {d e : State} {l : Loop} {x : Latch} {at_ : Time64} {why : Nat} (working : d = b.sampled n b.frameStart) (works : l = workOn (d.loop n))
    (scaled : x = latchOf l j) (latch : e = d.updLoop n fun _ => { l with r := if l.fresh then x.y else l.r, fresh := false, sampMode := l.mode })
    (instant : at_ = d.time64At (d.latchAt n b.frameStart))
    (miss : missWhy (e.loop n) (e.lawOf c (e.loop n) x).1 x (e.lawOf c (e.loop n) x).2.1 late handover = some why) :
    let u := (((e.loopMiss n why ((e.lawOf c (e.loop n) x).1 != .pid)).capSample n b.frameStart (F64.clamp (tuneOf l tSpLo) (tuneOf l tSpHi) (e.loop n).r) x.y true
      (l.mode != l.sampMode) (testBegins l) at_).advanceTest n).updLoop n (settleRegs (d.loop n))
    b.loopSample n late handover chk = if late then u.mgAbandon (· == .loop n) else u := by
  intro u
  have inside : n < d.lp.loops.length := by
    rw [working]
    exact Nat.lt_of_lt_of_eq (State.running_inside on) (modAt_length _ _ _).symm
  have sample := State.takeSample_runs (late := late) (handover := handover) crossing runs own on next_ cfg jr here latched empty
  have body := State.workedSample_misses (c := c) inside works scaled latch instant here miss
  rw [← working, body] at sample
  rw [State.loopSample_due due frame late]
  rcases clean with isLate | ⟨plain, sound⟩
  · subst isLate
    rw [if_pos rfl, if_pos rfl, sample]
  · cases late with
    | true => rw [if_pos rfl, if_pos rfl, sample]
    | false =>
      rw [if_neg Bool.false_ne_true, if_neg Bool.false_ne_true, if_neg (Bool.eq_false_iff.mp sound), plain, State.checked_none]
      exact sample

/-- A sample that completes (R246, R258). -/
theorem State.loopSample_completes {handover : Bool} (sound : b.inMg (.loop n) = false)
    {d e : State} {l : Loop} {x : Latch} {at_ : Time64} (working : d = b.sampled n b.frameStart) (works : l = workOn (d.loop n))
    (scaled : x = latchOf l j) (latch : e = d.updLoop n fun _ => { l with r := if l.fresh then x.y else l.r, fresh := false, sampMode := l.mode })
    (instant : at_ = d.time64At (d.latchAt n b.frameStart))
    (miss : missWhy (e.loop n) (e.lawOf c (e.loop n) x).1 x (e.lawOf c (e.loop n) x).2.1 false handover = none) :
    let law := e.lawOf c (e.loop n) x
    let r := e.loopComplete n c law.1 x (testAdds c l) (testOnOut l) law.2.2.1 law.2.2.2 at_ (max b.now (b.outAt n b.frameStart))
    b.loopSample n false handover [] =
      ((r.1.capSample n b.frameStart r.2 x.y false (l.mode != l.sampMode) (testBegins l) at_).advanceTest n).updLoop n (settleRegs (d.loop n)) := by
  intro law r
  have inside : n < d.lp.loops.length := by
    rw [working]
    exact Nat.lt_of_lt_of_eq (State.running_inside on) (modAt_length _ _ _).symm
  have now : d.now = b.now := by rw [working]; rfl
  have slot : (d.loop n).slot = (b.loop n).slot := by rw [working, State.sampled_loop on]
  have sample := State.takeSample_runs (late := false) (handover := handover) crossing runs own on next_ cfg jr here latched empty
  have body := State.workedSample_completes (c := c) (b := b) inside works scaled latch instant here now slot miss
  rw [← working, body] at sample
  rw [State.loopSample_due due frame false, if_neg Bool.false_ne_true, if_neg (Bool.eq_false_iff.mp sound), State.checked_none]
  exact sample

omit crossing runs own on latched empty in
/-- A sample whose loop is being made good waits (R96). -/
theorem State.loopSample_waits {handover : Bool} {chk : List MemFind} (repairs : b.inMg (.loop n) = true) :
    b.loopSample n false handover chk = b.updLoop n fun k => { k with due := some (b.frameStart, handover) } := by
  rw [State.loopSample_due due frame false, if_neg Bool.false_ne_true, if_pos repairs, State.deferSample, State.atStart_taken next_ cfg jr here]

end

/-- Settles O39. -/
theorem loopSamplesRun : Obligations.LoopSamplesRun := by
  intro s t n c j b F a crossing frame runs own on next_ due cfg jr here latched empty d l x e law at_ first dt onOut ends missed
  have begins : first = testBegins l := by
    clear_value l
    rfl
  have adds : dt = testAdds c l := by
    clear_value l
    rfl
  have placed : onOut = testOnOut l := by
    clear_value l
    rfl
  have ended : ∀ u : State, ends u = (u.advanceTest n).updLoop n (settleRegs (d.loop n)) := fun u => rfl
  have misses := fun (late : Bool) (chk : List MemFind) (why : Nat) clean miss =>
    State.loopSample_misses (late := late) (handover := b.handoverFrame) (chk := chk) (why := why) crossing frame runs own on next_ due cfg jr here latched empty clean
      (d := d) (e := e) (l := l) (x := x) (at_ := at_) rfl rfl rfl rfl rfl miss
  refine ⟨fun why sound miss => next_settled (State.epoch_commits crossing ?_), fun sound miss => ?_,
    fun chk repairs => next_settled (State.epoch_commits crossing (State.loopSample_waits frame next_ due cfg jr here repairs)),
    fun why chk miss => next_settled (State.epoch_commits crossing ?_)⟩
  · refine (misses false [] why (.inr ⟨rfl, sound⟩) miss).trans ((if_neg Bool.false_ne_true).trans ?_)
    simp only [missed, ended, begins]
    rfl
  · intro r
    refine next_settled (State.epoch_commits crossing ((State.loopSample_completes crossing frame runs own on next_ due cfg jr here latched empty sound
      (d := d) (e := e) (l := l) (x := x) (at_ := at_) rfl rfl rfl rfl rfl miss).trans ?_))
    simp only [ended, begins, r, adds, placed]
    rfl
  · refine (misses true chk why (.inl rfl) miss).trans ((if_pos rfl).trans ?_)
    simp only [missed, ended, begins]
    rfl

end Sys2Proof.Machine
end

section
/-!
SUPPORT. LOOP.CMD, the tuning pairs and LCAP.CMD (R248, R250, R261–R269).
-/
namespace Sys2Proof.Machine

/-! Queues -/

/-- What is inserted twice stands as after the first time. -/
theorem insertA_insertA {α : Type} (k : Nat) (v : α) (m : List (Nat × α)) : insertA k v (insertA k v m) = insertA k v m := by
  induction m with
  | nil => simp [insertA]
  | cons y ys ih =>
    obtain ⟨j, w⟩ := y
    rcases Nat.lt_trichotomy k j with below | same | above
    · simp [insertA, below]
    · simp [insertA, same]
    · simp [insertA, Nat.not_lt.mpr (Nat.le_of_lt above), Nat.ne_of_gt above, ih]

theorem State.setQueue_setQueue (s : State) (a : Nat) (c : QCmd) : (s.setQueue a [c]).setQueue a [c] = s.setQueue a [c] := by
  simp only [State.setQueue, List.isEmpty_cons, Bool.false_eq_true, if_false, insertA_insertA]

section
variable {s u : State} {t slot tag n op p : Nat} {x : Session}

/-! The word of LOOP.CMD -/

theorem cmdWord_block (tag k e : Nat) (h : op < 16) (hk : k < 8) : (cmdWord op tag (16 * k + 65536 * e)).fld 4 3 = k := by
  simp only [cmdWord, Word.fld, w32, BitVec.toNat_ofNat, Nat.shiftRight_eq_div_pow]; omega

theorem cmdWord_mode (tag k e : Nat) (h : op < 16) (hk : k < 8) (he : e < 8) : (cmdWord op tag (16 * k + 65536 * e)).fld 16 3 = e := by
  simp only [cmdWord, Word.fld, w32, BitVec.toNat_ofNat, Nat.shiftRight_eq_div_pow]; omega

/-! The queue of LOOP.CMD -/

/-- A LOOP.CMD that finds none waiting is judged by its queue (R250). -/
theorem next_loopCmd {w : Word} (h : s.MayCommand slot x .config .loop p) :
    occurs t (fun s => s.hostWrite slot (Page.reg .loop p Off.LOOP_CMD) w) s =
      .next (s.settled (runLoopQueue p none [⟨w, slot, x.priv, max s.now t, []⟩]
        ((s.counted t x .loop p Off.LOOP_CMD).setQueue (Page.reg .loop p Off.LOOP_CMD) [⟨w, slot, x.priv, max s.now t, []⟩]))) := by
  have empty : (s.counted t x .loop p Off.LOOP_CMD).queue (Page.reg .loop p Off.LOOP_CMD) = [] := State.queue_idle (p := .loop) (by rw [State.counted_waiting]; exact h.idle)
  have here : cmdAddr .loop p = Page.reg .loop p Off.LOOP_CMD := rfl
  refine next_command _ h rfl rfl nofun ?_
  simp only [State.takeCmd, h.noReset, Bool.false_and, Bool.false_eq_true, if_false, State.cmdArgs, State.enqueue, empty, List.nil_append, State.runLoop, here,
    State.queue_setQueue]

section
variable {c : QCmd} (local_ : c.sess < 8)

include local_ in
/-- A command of the loops acts and completes with OK. -/
theorem State.execLoopCmd_acts (acts : s.loopOp p c = (.ok, u)) :
    s.execLoopCmd p c = u.complete .loop p Off.LOOP_CMD_STAT .ok (c.word.fld 8 8) := by
  simp only [State.execLoopCmd, State.asPeer, if_pos local_, acts]

include local_ in
/-- NOP, and any command of a loop that takes no samples, ends at once (R250). -/
theorem runLoopQueue_due (acts : s.loopOp p c = (.ok, u)) (rests : c.word.fld 0 4 = 0 ∨ (s.loop (8 * p + c.word.fld 4 3)).running = false) :
    runLoopQueue p none [c] s = (u.complete .loop p Off.LOOP_CMD_STAT .ok (c.word.fld 8 8)).setQueue (Page.reg .loop p Off.LOOP_CMD) [] := by
  have due : s.loopCmdDue p none c = true := by
    rw [State.loopCmdDue]
    rcases rests with nop | stands
    · simp [nop]
    · simp [stands]
  rw [runLoopQueue, if_pos due, State.execLoopCmd_acts local_ acts, runLoopQueue]

/-- A command of a loop that takes samples waits for its next one (R250). -/
theorem runLoopQueue_waits (acts : s.loopOp p c = (.ok, u)) (op : c.word.fld 0 4 ≠ 0) (runs : (s.loop (8 * p + c.word.fld 4 3)).running = true)
    (configured : (s.loop (8 * p + c.word.fld 4 3)).cfg.isSome = true) :
    runLoopQueue p none [c] s = s.setQueue (Page.reg .loop p Off.LOOP_CMD) [c] := by
  have due : s.loopCmdDue p none c = false := by
    simp only [State.loopCmdDue, acts, runs, configured, beq_eq_false_iff_ne.mpr op]
    decide
  rw [runLoopQueue, due, if_neg Bool.false_ne_true]

end

/-! What the operations do -/

section
variable {c : QCmd}

theorem State.loopOp_nop (op : c.word.fld 0 4 = 0) : s.loopOp p c = (.ok, s) := by simp only [State.loopOp, op, if_true]

theorem State.loopOp_setMode (op : c.word.fld 0 4 = 1) (priv : c.priv.ge .operate = true) :
    s.loopOp p c = s.loopSetMode (8 * p + c.word.fld 4 3) (c.word.fld 16 3) := by simp [State.loopOp, op, priv]

theorem State.loopOp_testStart (op : c.word.fld 0 4 = 2) (priv : c.priv.ge .config = true) : s.loopOp p c = s.testStart (8 * p + c.word.fld 4 3) := by
  simp [State.loopOp, op, priv]

theorem State.loopOp_testStop (op : c.word.fld 0 4 = 3) (priv : c.priv.ge .operate = true) : s.loopOp p c = s.testStop (8 * p + c.word.fld 4 3) := by
  simp [State.loopOp, op, priv]

end

/-- A mode that the controller's mode and the loop's configuration allow is set for reason 1 (R250). -/
theorem State.loopSetMode_sets {k : LoopCfg} {m : LoopMode} {code : Nat} (cfg : (s.loop n).cfg = some k) (mode : setModeOk s.md.mode = true)
    (on : (s.loop n).mode ≠ .off) (known : LoopMode.ofCode code = some m) (cascade : ¬ (m = .cascade ∧ k.spKind = 0)) (track : ¬ (m = .track ∧ k.trkKind = 0)) :
    s.loopSetMode n code = (.ok, ((if (s.loop n).mode == m then s else s.endTest n).setLoopMode n m 1).updLoop n fun l => { l with stat := l.stat.setBit 15 false }) := by
  have own : (s.md.mode == .standby) = false := by
    refine beq_false_of_ne fun shadow => ?_
    rw [shadow] at mode
    exact absurd mode (by decide)
  have cascade' : ¬ (m == .cascade && k.spKind == 0) = true := by simpa using cascade
  have track' : ¬ (m == .track && k.trkKind == 0) = true := by simpa using track
  simp only [State.loopSetMode, cfg, known, own, mode, Bool.not_true, Bool.false_eq_true, if_false, beq_false_of_ne on, if_neg cascade', if_neg track']

/-- The end of a test (R261). -/
theorem State.testStop_stops (test : (s.loop n).test.isSome = true) :
    s.testStop n = (.ok, (s.updLoop n fun l => { l with test := none }).irq .loop (n / 8) (18 + n % 8)) := by
  simp only [State.testStop, State.endTest, test, if_true, loopPage, loopBlk]

/-! The tuning pairs -/

/-- The HI word of a tuning pair brings the pair's value and the loop's cut-in (R248). -/
theorem State.effect_tune {k : Nat} {d : RegDef} {c : LoopCfg} {val : Word} (inside : k < 23) (cfg : (s.loop n).cfg = some c)
    (ok : tuneOk (loopT c) (s.loop n).tune k
      (s.pairValue x.slot (Page.reg .loop (n / 8) (loopOff n (0x40 + 8 * k))) (tuneOf (s.loop n) k) val) = true) :
    s.effect x ⟨.loop, n / 8, loopOff n (0x44 + 8 * k)⟩ d val = (.ok, s.updLoop n fun l =>
      { l with tune := setAt l.tune k (s.pairValue x.slot (Page.reg .loop (n / 8) (loopOff n (0x40 + 8 * k))) (tuneOf (s.loop n) k) val), cutWr := true }) := by
  generalize off : loopOff n (0x44 + 8 * k) = o
  rw [loopOff, loopBlk] at off
  have block : 8 * (n / 8) + (o - 0x100) / 0x180 = n := by omega
  have place : (o - 0x100) % 0x180 = 0x44 + 8 * k := by omega
  have page : 0x100 ≤ o := by omega
  have header : ¬ o < 0x40 := by omega
  have command : isCmd .loop o = false := by
    have other : Off.LOOP_CMD ≠ o := by simp only [Off.LOOP_CMD]; omega
    simp [isCmd, cmdOff, other]
  have clear : o ≠ Off.LOOP_CLR := by simp only [Off.LOOP_CLR]; omega
  have region : 0x40 ≤ 0x44 + 8 * k ∧ 0x44 + 8 * k < 0xF8 := by omega
  have high : ¬ (0x44 + 8 * k) % 8 = 0 := by omega
  have miss : ¬ 0x44 + 8 * k = 0x34 := by omega
  have age : ¬ 0x44 + 8 * k = 0x38 := by omega
  have index : (0x44 + 8 * k - 0x40) / 8 = k := by omega
  have tunes : s.tuneHi x.slot n k val = (.ok, s.updLoop n fun l =>
      { l with tune := setAt l.tune k (s.pairValue x.slot (Page.reg .loop (n / 8) (loopOff n (0x40 + 8 * k))) (tuneOf (s.loop n) k) val), cutWr := true }) := by
    rw [State.tuneHi, cfg]
    exact if_pos ok
  simp only [State.effect, if_neg header, command, Bool.false_eq_true, if_false, State.clrWrite, if_neg clear, State.blockWrite, if_pos page, block, place,
    State.loopBlkWrite, if_neg miss, if_neg age, if_pos region, if_neg high, index, tunes]

/-! LCAP.CMD -/

/-- An idle capture is armed with what LCAP.CFG gives (R264). -/
theorem State.capArm_arms {k : Nat} (mode : lcapModeOk s.md.mode = true) :
    let w := s.rdp .lcap 0 (Off.LCAP_CFG0 + 4 * k)
    (s.lp.caps.getD k {}).st ≠ .armed → (s.lp.caps.getD k {}).st ≠ .running → (s.loop (w.fld 0 6)).mode ≠ .off → w.fld 8 8 ≠ 0 → w.fld 16 15 ≠ 0 →
    w.fld 16 15 ≤ 16384 → s.capArm k = (.ok, { s with lp := { s.lp with
      caps := setAt s.lp.caps k { st := .armed, loop := w.fld 0 6, trig := w.fld 6 2, decim := w.fld 8 8, count := w.fld 16 15, since := s.now } } }) := by
  intro w armed running on decim count bound
  have fits : ¬ (w.fld 8 8 = 0 ∨ w.fld 16 15 = 0 ∨ w.fld 16 15 > 16384) := by omega
  simp only [State.capArm, mode, Bool.not_true, Bool.false_eq_true, if_false, beq_false_of_ne armed, beq_false_of_ne running, Bool.or_self]
  exact (if_neg fun off => on (eq_of_beq off)).trans (if_neg fits)

/-- A running capture ends as DONE (R269). -/
theorem State.capStop_running {k : Nat} (mode : lcapModeOk s.md.mode = true) (running : (s.lp.caps.getD k {}).st = .running) :
    s.capStop k = (.ok, ({ s with lp := { s.lp with caps := setAt s.lp.caps k { s.lp.caps.getD k {} with st := .done } } } : State).irq .lcap 0 (2 + k)) := by
  simp only [State.capStop, mode, Bool.not_true, Bool.false_eq_true, if_false, running, beq_self_eq_true, if_true]

/-- An armed capture ends as IDLE (R269). -/
theorem State.capStop_armed {k : Nat} (mode : lcapModeOk s.md.mode = true) (armed : (s.lp.caps.getD k {}).st = .armed) :
    s.capStop k = (.ok, { s with lp := { s.lp with caps := setAt s.lp.caps k { s.lp.caps.getD k {} with st := .idle } } }) := by
  have other : (CapState.armed == CapState.running) = false := rfl
  simp only [State.capStop, mode, Bool.not_true, Bool.false_eq_true, if_false, armed, other, beq_self_eq_true, if_true]

/-- An LCAP.CMD acts at once (R269). -/
theorem next_lcapCmd {w : Word} (h : s.MayCommand slot x .operate .lcap 0) :
    occurs t (fun s => s.hostWrite slot (Page.reg .lcap 0 Off.LCAP_CMD) w) s =
      .next (s.settled ((s.counted t x .lcap 0 Off.LCAP_CMD).execLcapCmd ⟨w, slot, x.priv, max s.now t, []⟩)) :=
  next_command _ h rfl rfl nofun (by simp only [State.takeCmd, h.noReset, Bool.false_and, Bool.false_eq_true, if_false, State.cmdArgs])

section
variable {c : QCmd} (priv : c.priv.ge .operate = true)
include priv

theorem State.execLcapCmd_arm (op : c.word.fld 0 4 = 1) (acts : s.capArm (c.word.fld 4 2) = (.ok, u)) :
    s.execLcapCmd c = u.complete .lcap 0 Off.LCAP_CMD_STAT .ok (c.word.fld 8 8) := by
  simp [State.execLcapCmd, op, priv, acts]

theorem State.execLcapCmd_stop (op : c.word.fld 0 4 = 2) (acts : s.capStop (c.word.fld 4 2) = (.ok, u)) :
    s.execLcapCmd c = u.complete .lcap 0 Off.LCAP_CMD_STAT .ok (c.word.fld 8 8) := by
  simp [State.execLcapCmd, op, priv, acts]

end

/-! The commands, as the host writes them -/

/-- LOOP.CMD (R250, R261). -/
theorem loopCommandsAct (slots : slot < 8) (h : s.MayCommand slot x .config .loop (n / 8)) :
    let a := Page.reg .loop (n / 8) Off.LOOP_CMD
    let b := s.counted t x .loop (n / 8) Off.LOOP_CMD
    let q := fun k e : Nat => b.setQueue a [⟨cmdWord k tag (16 * (n % 8) + 65536 * e), slot, x.priv, max s.now t, []⟩]
    ∀ (op e : Nat) (u : State), op < 4 → e < 8 →
      (q op e).loopOp (n / 8) ⟨cmdWord op tag (16 * (n % 8) + 65536 * e), slot, x.priv, max s.now t, []⟩ = (.ok, u) →
      ((op = 0 ∨ (b.loop n).running = false) →
        occurs t (fun s => s.hostWrite slot a (cmdWord op tag (16 * (n % 8) + 65536 * e))) s =
          .next (s.settled ((u.complete .loop (n / 8) Off.LOOP_CMD_STAT .ok tag).setQueue a []))) ∧
      (op ≠ 0 → (b.loop n).running = true → (b.loop n).cfg.isSome = true →
        occurs t (fun s => s.hostWrite slot a (cmdWord op tag (16 * (n % 8) + 65536 * e))) s = .next (s.settled (q op e))) := by
  intro a b q op e u known small acts
  have opw : (cmdWord op tag (16 * (n % 8) + 65536 * e)).fld 0 4 = op := cmdWord_op _ _ _ (by omega) (by omega)
  have tagw : (cmdWord op tag (16 * (n % 8) + 65536 * e)).fld 8 8 = tag % 256 := cmdWord_tag _ _ _ (by omega)
  have blk : 8 * (n / 8) + (cmdWord op tag (16 * (n % 8) + 65536 * e)).fld 4 3 = n := by rw [cmdWord_block _ _ _ (by omega) (by omega)]; omega
  have loop : (q op e).loop n = b.loop n := rfl
  refine ⟨fun rests => (next_loopCmd h).trans ?_, fun op' runs configured => (next_loopCmd h).trans ?_⟩
  · have ends := runLoopQueue_due slots acts (by rw [opw, blk, loop]; exact rests)
    rw [tagw, State.complete_mod] at ends
    exact congrArg (Host.Outcome.next ∘ s.settled) ends
  · have waits := runLoopQueue_waits acts (by rw [opw]; exact op') (by rw [blk, loop]; exact runs) (by rw [blk, loop]; exact configured)
    exact congrArg (Host.Outcome.next ∘ s.settled) (waits.trans (State.setQueue_setQueue _ _ _))

end

/-- Settles O40. -/
theorem loopAndCaptureCommandsAct : Obligations.LoopAndCaptureCommandsAct := by
  refine ⟨fun s t slot tag n x inside slots => ⟨fun h => ?_, fun k val d c small h => ?_⟩, fun s t slot tag k x small h mode => ?_⟩
  · intro a b c q done
    have operate : x.priv.ge .operate = true := Priv.ge_trans h.priv (by decide)
    have field (op e : Nat) (known : op < 4) : 8 * (n / 8) + (c op e).word.fld 4 3 = n := by
      rw [cmdWord_block _ _ _ (by omega) (by omega)]; omega
    have code (op e : Nat) (known : op < 4) : (c op e).word.fld 0 4 = op := cmdWord_op _ _ _ (by omega) (by omega)
    refine ⟨?_, fun k m cfg modeOk on _ known small cascade track => ?_, fun u acts => ?_, fun test => ?_⟩
    · exact (loopCommandsAct slots h 0 0 (q 0 0) (by decide) (by decide) (State.loopOp_nop (code 0 0 (by decide)))).1 (.inl rfl)
    · intro d u
      have acts : d.loopOp (n / 8) (c 1 m.code) = (.ok, u) := by
        rw [State.loopOp_setMode (code 1 _ (by decide)) operate, field 1 _ (by decide), cmdWord_mode _ _ _ (by decide) (by omega) small]
        exact State.loopSetMode_sets (s := d) cfg ((congrArg (fun m => setModeOk m.mode) (State.counted_md s t x _ _ _)).trans modeOk) on known cascade track
      have runs := loopCommandsAct slots h 1 m.code u (by decide) small acts
      have word : exec (.loopSetMode t slot tag n m.code) s = occurs t (fun s => s.hostWrite slot a (cmdWord 1 tag (16 * (n % 8) + 65536 * m.code))) s :=
        congrArg (fun e => occurs t (fun s => s.hostWrite slot a (cmdWord 1 tag (16 * (n % 8) + 65536 * e))) s) (Nat.mod_eq_of_lt small)
      exact ⟨fun rests => word.trans (runs.1 (.inr rests)),
        fun samples => word.trans (runs.2 (by decide) samples (congrArg Option.isSome (cfg : (b.loop n).cfg = some k)))⟩
    · have goes : (q 2 0).loopOp (n / 8) (c 2 0) = (.ok, u) := by
        rw [State.loopOp_testStart (code 2 0 (by decide)) h.priv, field 2 0 (by decide), acts]
      have runs := loopCommandsAct slots h 2 0 u (by decide) (by decide) goes
      exact ⟨fun rests => runs.1 (.inr rests), runs.2 (by decide)⟩
    · have goes : (q 3 0).loopOp (n / 8) (c 3 0) = (.ok, ((q 3 0).updLoop n fun l => { l with test := none }).irq .loop (n / 8) (18 + n % 8)) := by
        rw [State.loopOp_testStop (code 3 0 (by decide)) operate, field 3 0 (by decide)]
        exact State.testStop_stops (s := q 3 0) test
      have runs := loopCommandsAct slots h 3 0 _ (by decide) (by decide) goes
      exact ⟨fun rests => runs.1 (.inr rests), runs.2 (by decide)⟩
  · intro b v cfg ok
    have hs : x.slot = slot := State.sess_slot h.here
    refine next_write _ h ?_
    have tunes := State.effect_tune (s := b) (x := x) (d := d) (val := val) small cfg (by rw [hs]; exact ok)
    rw [hs] at tunes
    exact tunes
  · intro b done c w
    have here : b.md = s.md := State.counted_md s t x _ _ _
    have mode' : lcapModeOk b.md.mode = true := by rw [here]; exact mode
    have which (op : Nat) (known : op < 4) : (cmdWord op tag (16 * (k % 4))).fld 4 2 = k := by rw [cmdWord_ref _ _ _ (by omega)]; omega
    have code (op : Nat) (known : op < 4) : (cmdWord op tag (16 * (k % 4))).fld 0 4 = op := cmdWord_op _ _ _ (by omega) (by omega)
    have tagw (op : Nat) (known : op < 4) : (cmdWord op tag (16 * (k % 4))).fld 8 8 = tag % 256 := cmdWord_tag _ _ _ (by omega)
    refine ⟨fun armed running on decim count bound => (next_lcapCmd h).trans ?_, fun running => (next_lcapCmd h).trans ?_,
      fun armed => (next_lcapCmd h).trans ?_⟩
    · rw [State.execLcapCmd_arm h.priv (code 1 (by decide)) (by rw [which 1 (by decide)]; exact State.capArm_arms mode' armed running on decim count bound),
        tagw 1 (by decide), State.complete_mod]
    · rw [State.execLcapCmd_stop h.priv (code 2 (by decide)) (by rw [which 2 (by decide)]; exact State.capStop_running mode' running), tagw 2 (by decide),
        State.complete_mod]
    · rw [State.execLcapCmd_stop h.priv (code 2 (by decide)) (by rw [which 2 (by decide)]; exact State.capStop_armed mode' armed), tagw 2 (by decide),
        State.complete_mod]

end Sys2Proof.Machine
end

section
/-!
SUPPORT. Conversions, calibration and references of a slice group (R272–R280), its other inputs and its diagnostics (R271, R282–R284).
-/
namespace Sys2Proof.Machine

/-- Only STANDBY has the inputs of this module steered to its partner (R452). -/
theorem State.steeredAway_own {s : State} (own : s.md.mode ≠ .standby) : s.steeredAway = false := beq_false_of_ne own

section
variable {s : State} {g n : Nat}

/-! Conversions -/

section
variable {code : Word}

/-- A one-slot conversion on a settled reference, without a diagnostic, goes through the chain and is graded (R276, R278, R280). -/
theorem State.convValue_one (ok : (s.grp g).convOk = true) (slots : slotsOf (s.slc n).cfg = 1) (lead : (s.slc n).lead = none) :
    let c := (s.slc n).cfg
    let v := userStages c (s.grp g).usr (State.factoryStage n c (F64.mul (F64.sub (F64.ofInt (code24 code)) (calVal g 0 (s.grp g).zeros)) (calVal g 1 (s.grp g).gains)))
    F64.fin v.2 = true → s.convValue g n code false false = s.loadInput n v.2 (rawWord code) (gradeOf c v.1).1 (gradeOf c v.1).2 := by
  intro c v finite
  have single : (slotsOf (s.slc n).cfg == 2) = false := by rw [slots]; rfl
  have finite' : ¬ (!F64.fin v.2) = true := by rw [finite]; decide
  simp only [State.convValue, single, Bool.false_and, Bool.false_eq_true, if_false, lead, ok, Bool.not_false, Bool.true_or, Bool.and_true, Bool.not_true]
  exact if_neg finite'

/-- A conversion that ends within twice its period gives its value (R272, R287). -/
theorem State.conversionEnd_intime {wire ovc : Bool} (runs : (s.grp g).running = true) (cause : (s.grp g).cause = none) (own : s.md.mode ≠ .standby)
    (cal : (s.grp g).inCal = false) (pos : (s.grp g).pos < (s.scan g).length) (intime : s.now ≤ (s.grp g).convFrom + 2 * convPeriod (s.grp g).cfg.period) :
    s.conversionEnd g code wire ovc = (s.convValue g ((s.scan g).getD (s.grp g).pos 0) code wire ovc).nextConv g := by
  have some_ : (s.scan g).isEmpty = false := by
    rw [List.isEmpty_eq_false_iff]
    exact List.ne_nil_of_length_pos (Nat.lt_of_le_of_lt (Nat.zero_le _) pos)
  simp only [State.conversionEnd, runs, cause, Option.isSome_none, some_, cal, State.steeredAway_own own, Bool.not_true, Bool.or_self, Bool.false_eq_true, if_false]
  exact if_neg (Nat.not_lt.mpr intime)

end

/-! Calibration and settling -/

section
variable (runs : (s.grp g).running = true) (cause : (s.grp g).cause = none) (own : s.md.mode ≠ .standby)
include runs cause own

section
variable {res : Word64} (cal : (s.grp g).inCal = true) (intime : s.now ≤ (s.grp g).convFrom + 2 * convPeriod (s.grp g).cfg.period)
include cal intime

/-- A result in its window is kept with the one before it (R273). -/
theorem State.calibrationSlot_kept : s.calibrationSlot g res true =
    (((s.updGrp g fun y => { y with
      zeros := if y.calNo % 2 = 1 then (res :: y.zeros).take 2 else y.zeros
      gains := if y.calNo % 2 = 0 then (res :: y.gains).take 2 else y.gains
      calNo := y.calNo + 1, calRun := 0 }).modp .adc g Off.ADC_CAL_DONE).endScan g) := by
  simp only [State.calibrationSlot, runs, cause, Option.isSome_none, cal, State.steeredAway_own own, Bool.not_true, Bool.or_self, Bool.false_eq_true, if_false,
    if_true]
  exact if_neg (Nat.not_lt.mpr intime)

/-- A result outside its window counts; the third in a row fences (R274). -/
theorem State.calibrationSlot_failed :
    let u := (((s.updGrp g fun y => { y with calNo := y.calNo + 1, calRun := satAdd 255 y.calRun 1 }).satp .adc g Off.ADC_CAL_FAIL).irq .adc g 2).endScan g
    s.calibrationSlot g res false = if (u.grp g).calRun ≥ 3 then u.fenceGroup g 3 else u := by
  intro u
  simp only [State.calibrationSlot, runs, cause, Option.isSome_none, cal, State.steeredAway_own own, Bool.not_true, Bool.or_self, Bool.false_eq_true, if_false]
  exact if_neg (Nat.not_lt.mpr intime)

end

section
variable (waits : (s.grp g).settled = false)
include waits

/-- Two measurements that agree settle the converter (R275). -/
theorem State.settleCheck_agrees {meas a : Nat} (last : (s.grp g).lastMeas = some a) (agrees : agree20 a meas = true) :
    s.settleCheck g meas = (s.updGrp g fun y =>
      { y with settled := true, refFault := false, faultFrom := none, lastMeas := none, settleUs := (s.now - y.checkFrom) / us }).irq .adc g 1 := by
  simp only [State.settleCheck, runs, cause, Option.isSome_none, waits, State.steeredAway_own own, Bool.not_true, Bool.or_self, Bool.false_eq_true, if_false, last,
    agrees, if_true]

/-- The first measurement only stands for comparison (R275). -/
theorem State.settleCheck_first {meas : Nat} (last : (s.grp g).lastMeas = none) :
    s.settleCheck g meas = s.updGrp g fun y => { y with lastMeas := some meas } := by
  simp only [State.settleCheck, runs, cause, Option.isSome_none, waits, State.steeredAway_own own, Bool.not_true, Bool.or_self, Bool.false_eq_true, if_false, last]

/-- The bound passes without settling (R276). -/
theorem State.settleTimeout_passes (past : (s.grp g).checkFrom + settleBound (s.grp g).refUsed ≤ s.now) :
    s.settleTimeout g = (s.updGrp g fun y => { y with refFault := true, faultFrom := some (y.faultFrom.getD s.now) }).irq .adc g 3 := by
  simp only [State.settleTimeout, runs, cause, Option.isSome_none, waits, State.steeredAway_own own, Bool.not_true, Bool.or_self,
    decide_eq_false (Nat.not_lt.mpr past), Bool.false_eq_true, if_false]

end
end

/-! Discrete inputs, counters, modulators -/

/-- A running group that is not fenced takes its twelve levels in order (R271). -/
theorem State.sampleGroup_runs {levels ovc : Nat} (runs : (s.grp g).running = true) (cause : (s.grp g).cause = none) :
    s.sampleGroup g levels ovc = (List.range 12).foldl (fun u j => u.sampleDI (12 * g + j + 1) (levels.testBit j) (ovc.testBit j)) s := by
  simp only [State.sampleGroup, runs, cause, Option.isSome_none, Bool.not_true, Bool.or_self, Bool.false_eq_true, if_false]

/-- A gate with two edges or more gives their rate (R282). -/
theorem State.cntGate_rate (func : (s.slc n).cfg.func = 9) (opt : (s.slc n).cfg.opt0 = true) (cause : (s.grp (grpOf n)).cause = none) (edges : 2 ≤ (s.slc n).gateN)
    (apart : (s.slc n).gateT0 < (s.slc n).gateT1) :
    s.cntGate n = (s.updSlc n fun y => { y with
      val := F64.div (F64.mul (F64.ofNat (s.slc n).gateN) (F64.ofNat sec)) (F64.ofNat ((s.slc n).gateT1 - (s.slc n).gateT0))
      qual := .good, reason := 0, gateN := 0, ts := s.time64At s.now, at_ := some s.now }).mirrorSlc n := by
  have goes : ¬ ((s.slc n).cfg.func ≠ 9 ∨ (!(s.slc n).cfg.opt0) = true ∨ (s.grp (grpOf n)).cause.isSome = true) := by simp [func, opt, cause]
  have counts : ¬ ((s.slc n).gateN < 2 ∨ (s.slc n).gateT1 ≤ (s.slc n).gateT0) := by omega
  simp only [State.cntGate, if_neg goes, if_neg counts]

section
variable {samples : List Int} (func : (s.slc n).cfg.func = 6) (runs : (s.grp (grpOf n)).running = true) (cause : (s.grp (grpOf n)).cause = none)
  (own : s.md.mode ≠ .standby)
include func runs cause own

/-- What lets a modulator's frame count (R283). -/
theorem State.modFrame_counts :
    ¬ ((s.slc n).cfg.func ≠ 6 ∨ (!(s.grp (grpOf n)).running) = true ∨ (s.grp (grpOf n)).cause.isSome = true ∨ s.steeredAway = true) := by
  simp [func, runs, cause, State.steeredAway_own own]

/-- The mean of a frame goes through the chain (R283). -/
theorem State.modFrame_mean :
    let c := (s.slc n).cfg
    let v := (userStages c (s.rdp .slc (grpOf n) (slcOff n 0x1C), s.rdp .slc (grpOf n) (slcOff n 0x20)) (State.factoryStage n c (F64.mean (samples.map F64.ofInt)))).2
    F64.fin v = true → s.modFrame n samples false = s.loadInput n v 0 .good 0 := by
  intro c v finite
  have finite' : ¬ (!F64.fin v) = true := by rw [finite]; decide
  simp only [State.modFrame, if_neg (State.modFrame_counts func runs cause own), Bool.false_eq_true, if_false]
  exact if_neg finite'

/-- A bitstream without a transition makes the input BAD (R283). -/
theorem State.modFrame_stuck :
    s.modFrame n samples true = s.loadInput n (userStages (s.slc n).cfg (s.rdp .slc (grpOf n) (slcOff n 0x1C), s.rdp .slc (grpOf n) (slcOff n 0x20))
      (State.factoryStage n (s.slc n).cfg (F64.mean (samples.map F64.ofInt)))).2 0 .bad 9 := by
  simp only [State.modFrame, if_neg (State.modFrame_counts func runs cause own), if_true]
  rfl

end

/-! Diagnostics of outputs -/

/-- An output at its current limit switches off (R284). -/
theorem State.overcurrent_trips (inside : n ≠ 0) (func : (s.slc n).cfg.func = 0xA ∨ (s.slc n).cfg.func = 0xB ∨ (s.slc n).cfg.func = 0xC ∨ (s.slc n).cfg.func = 0xF)
    (present : Page.present s.variant .slc (grpOf n) = true) :
    s.overcurrent n =
      ((s.updSlc n fun x => { x with tripped := true, tripAt := s.now, reason := 7 }).satf .slc (grpOf n) (slcOff n 0x3C) 0 16).irq .slc (grpOf n) 3 := by
  have goes : ¬ (n = 0 ∨ (!((s.slc n).cfg.func == 0xA || (s.slc n).cfg.func == 0xB || (s.slc n).cfg.func == 0xC || (s.slc n).cfg.func == 0xF)) = true ∨
      (!Page.present s.variant .slc (grpOf n)) = true) := by
    rcases func with f | f | f | f <;> simp [f, inside, present]
  rw [State.overcurrent]
  exact if_neg goes

section
variable {rb : Word} (inside : n ≠ 0) (func : (s.slc n).cfg.func = 0xB ∨ (s.slc n).cfg.func = 0xD ∨ (s.slc n).cfg.func = 0xE)
  (present : Page.present s.variant .slc (grpOf n) = true)
include inside func present

/-- What lets a readback count (R284). -/
theorem State.readback_counts : ¬ (n = 0 ∨ (!(isSdo (s.slc n).cfg.func || (s.slc n).cfg.func == 0xD || (s.slc n).cfg.func == 0xE)) = true ∨
    (!Page.present s.variant .slc (grpOf n)) = true) := by
  rcases func with f | f | f <;> simp [f, inside, present, isSdo]

/-- A readback outside its tolerance is an event (R284). -/
theorem State.readback_differs :
    let d := s.updSlc n fun x => { x with rb := rb }
    rbWrong (s.slc n).cfg.func (d.terminal n) (F64.ofF32 rb) = true → s.readback n rb =
      (((d.updSlc n fun x => { x with reason := 8 }).satf .slc (grpOf n) (slcOff n 0x3C) 16 15).putf .slc (grpOf n) (slcOff n 0x3C) 31 1 1).irq .slc (grpOf n) 3 := by
  intro d wrong
  rw [State.readback]
  exact (if_neg (State.readback_counts inside func present)).trans (if_pos wrong)

/-- A readback that agrees again (R284). -/
theorem State.readback_agrees :
    let d := s.updSlc n fun x => { x with rb := rb }
    rbWrong (s.slc n).cfg.func (d.terminal n) (F64.ofF32 rb) = false → s.readback n rb = d.putf .slc (grpOf n) (slcOff n 0x3C) 31 1 0 := by
  intro d right
  rw [State.readback]
  exact (if_neg (State.readback_counts inside func present)).trans (if_neg (Bool.eq_false_iff.mp right))

end
end

/-- Settles O41. -/
theorem conversionsRun : Obligations.ConversionsRun := by
  intro s t g b x runs cause own
  refine ⟨fun code cal pos intime ok => ?_, fun res cal intime => ?_, fun res cal intime => ?_, fun meas a waits last agrees => ?_,
    fun meas waits last => ?_, fun waits past => ?_⟩
  · intro n c cx v slots lead finite
    exact next_settled ((State.conversionEnd_intime runs cause own cal pos intime).trans
      (congrArg (State.nextConv · g) (State.convValue_one ok slots lead finite)))
  · exact next_settled (State.calibrationSlot_kept runs cause own cal intime)
  · exact next_settled (State.calibrationSlot_failed runs cause own cal intime)
  · exact next_settled (State.settleCheck_agrees runs cause own waits last agrees)
  · exact next_settled (State.settleCheck_first runs cause own waits last)
  · exact next_settled (State.settleTimeout_passes runs cause own waits past)

/-- Settles O42. -/
theorem sliceEventsAct : Obligations.SliceEventsAct := by
  intro s t n b g c
  refine ⟨fun levels ovc runs cause => next_settled (State.sampleGroup_runs runs cause),
    fun func opt cause edges apart => next_settled (State.cntGate_rate func opt cause edges apart), fun samples func runs cause own => ?_,
    fun inside func present => next_settled (State.overcurrent_trips inside func present), fun rb inside func present => ?_, rfl, rfl⟩
  · intro v
    exact ⟨fun finite => next_settled (State.modFrame_mean func runs cause own finite), next_settled (State.modFrame_stuck func runs cause own)⟩
  · intro d
    exact ⟨fun wrong => next_settled (State.readback_differs inside func present wrong), fun right => next_settled (State.readback_agrees inside func present right)⟩

end Sys2Proof.Machine
end

section
/-!
SUPPORT. Fences of slice groups (R287–R293) and the user calibration (R281).
-/
namespace Sys2Proof.Machine

section
variable {s : State} {g n : Nat}

/-! Fences -/

/-- The first cause fences a running group (R287). -/
theorem State.fenceGroup_first {cause : Nat} (present : Page.present s.variant .slc g = true) (runs : (s.grp g).running = true) (free : (s.grp g).cause = none) :
    let c := s.updGrp g fun y => { y with cause := some cause, fencedAt := s.now, fences := satAdd 65535 y.fences 1, inCal := false }
    let d := (grpSlices g).foldl (fun u n => u.updSlc n fun y =>
      if y.cfg.func = 0 ∨ isOut y.cfg.func ∨ y.cfg.func = 0xF then y else { y with qual := .bad, reason := 6, lead := none }) c
    let e := (grpSlices g).foldl (fun u n => u.mirrorSlc n) d
    s.fenceGroup g cause = (((e.satp .slc g Off.SLC_FENCES).irq .slc g 1).record 0x0601 (w32 g) (w32 cause) 0).trigger .unit := by
  simp only [State.fenceGroup, present, runs, free, Bool.not_true, Bool.false_eq_true, if_false]

/-- The slices of a group that is unfenced (R290): outputs keep their fault values, inputs are debounced anew. -/
theorem State.unfence_slices (l : List Nat) (s : State) (at_ : Nat) (now : s.now = at_) :
    l.foldl (fun u n => u.updSlc n fun x => if isOut x.cfg.func && !isSdo x.cfg.func then { x with held := true } else { x with candAt := u.now }) s =
      l.foldl (fun u n => u.updSlc n fun x => if isOut x.cfg.func && !isSdo x.cfg.func then { x with held := true } else { x with candAt := at_ }) s := by
  induction l generalizing s with
  | nil => rfl
  | cons n ns ih =>
    rw [List.foldl_cons, List.foldl_cons, now]
    exact ih _ ((State.updSlc_now _ n _).trans now)

/-- A fenced group returns (R290). -/
theorem State.unfenceGroup_fenced {k : Nat} (fenced : (s.grp g).cause = some k) :
    let c := s.updGrp g fun y => { y with cause := none, retesting := false, calRun := 0 }
    let d := (grpSlices g).foldl (fun u n => u.updSlc n fun y => if isOut y.cfg.func && !isSdo y.cfg.func then { y with held := true } else { y with candAt := s.now }) c
    s.unfenceGroup g = ((((d.startCheck g).restartScan g).irq .slc g 2).record 0x0602 (w32 g) (w32 k) 0).trigger .unit := by
  intro c d
  have slices := State.unfence_slices (grpSlices g) c s.now rfl
  simp only [State.unfenceGroup, fenced]
  exact congrArg (fun d : State => ((((d.startCheck g).restartScan g).irq .slc g 2).record 0x0602 (w32 g) (w32 k) 0).trigger .unit) slices

/-! Retests -/

/-- A group fenced for another cause than HOST returns when a retest passes (R289). -/
theorem State.groupRetest_passes {r : Retest} {k : Nat} (fenced : (s.grp g).cause = some k) (own : k ≠ 5) (wait : (s.grp g).fencedAt + 10 * sec ≤ s.now)
    (passes : retestPass r = true) : s.groupRetest g r = s.unfenceGroup g := by
  have due : ¬ s.now < (s.grp g).fencedAt + 10 * sec := Nat.not_lt.mpr wait
  simp only [State.groupRetest, fenced, if_neg due, passes, if_true]

/-- A group fenced for HOST returns when the UNFENCE that waits for the retest passes (R289, R293). -/
theorem State.groupRetest_command {r : Retest} {c : QCmd} (fenced : (s.grp g).cause = some 5) (waits : s.queue (Page.reg .slc g Off.SLC_CMD) = [c])
    (op : c.word.fld 0 4 = 2) (priv : c.priv.ge .service = true) (mode : commMaint s.md.mode = true) (passes : retestPass r = true) :
    s.groupRetest g r = ((s.unfenceGroup g).complete .slc g Off.SLC_CMD_STAT .ok (c.word.fld 8 8) 4).setQueue (Page.reg .slc g Off.SLC_CMD) [] := by
  have other : ¬ 2 = 1 := by decide
  simp only [State.groupRetest, fenced, waits, runSlcQueue, op, priv, mode, if_neg other, Bool.not_true, Bool.false_eq_true, if_false, ne_eq,
    not_true_eq_false, and_false, passes, if_true]

/-! SLC.CMD -/

section
variable {c : QCmd} (priv : c.priv.ge .service = true) (mode : commMaint s.md.mode = true)
include priv mode

/-- FENCE acts at once (R293). -/
theorem runSlcQueue_fence (op : c.word.fld 0 4 = 1) :
    runSlcQueue g none [c] s = ((s.fenceGroup g 5).complete .slc g Off.SLC_CMD_STAT .ok (c.word.fld 8 8) 4).setQueue (Page.reg .slc g Off.SLC_CMD) [] := by
  have known : ¬ (1 ≠ 1 ∧ 1 ≠ 2) := by decide
  simp only [runSlcQueue, op, if_neg known, priv, mode, Bool.not_true, Bool.false_eq_true, if_false, if_true]

/-- UNFENCE of a group fenced for HOST waits for the retest (R293). -/
theorem runSlcQueue_unfence (op : c.word.fld 0 4 = 2) (fenced : (s.grp g).cause = some 5) :
    runSlcQueue g none [c] s = s.setQueue (Page.reg .slc g Off.SLC_CMD) [c] := by
  have other : ¬ 2 = 1 := by decide
  simp only [runSlcQueue, op, priv, mode, if_neg other, fenced, Bool.not_true, Bool.false_eq_true, if_false, ne_eq, not_true_eq_false, and_false]

end

/-- A SLC.CMD that finds none waiting is judged by its queue (R293). -/
theorem next_slcCmd {t slot : Nat} {x : Session} {w : Word} (h : s.MayCommand slot x .service .slc g) :
    occurs t (fun s => s.hostWrite slot (Page.reg .slc g Off.SLC_CMD) w) s =
      .next (s.settled (runSlcQueue g none [⟨w, slot, x.priv, max s.now t, []⟩] (s.counted t x .slc g Off.SLC_CMD))) := by
  have empty : (s.counted t x .slc g Off.SLC_CMD).queue (cmdAddr .slc g) = [] := State.queue_idle (by rw [State.counted_waiting]; exact h.idle)
  refine next_command _ h rfl rfl nofun ?_
  simp only [State.takeCmd, h.noReset, Bool.false_and, Bool.false_eq_true, if_false, State.cmdArgs, empty, List.nil_append]

/-! The user calibration -/

/-- A user calibration within its range is stored and recorded (R281). -/
theorem State.usrCal_stores {gain : Bool} {val : Word} (finite : F64.fin (F64.ofF32 val) = true)
    (range : (if gain then F64.le (F64.q 9 10) (F64.ofF32 val) && F64.le (F64.ofF32 val) (F64.q 11 10)
      else F64.le (F64.mul (F64.ofNat 100) (F64.abs (F64.ofF32 val))) (F64.mul (F64.ofNat 5) (nominalSpan (s.slc n).cfg))) = true) :
    let o := slcOff n (if gain then 0x20 else 0x1C)
    s.usrCal n gain val = (.ok, (s.wrp .slc (grpOf n) o val).recordCfg (Page.reg .slc (grpOf n) o) (s.rdp .slc (grpOf n) o) val) := by
  intro o
  rw [State.usrCal, finite, range]
  rfl

/-- USR_OFS and USR_GAIN of slice Sn take the user calibration (R281, R292). -/
theorem State.effect_usrCal {x : Session} {d : RegDef} {gain : Bool} {val : Word} (one : 1 ≤ n) :
    s.effect x ⟨.slc, grpOf n, slcOff n (if gain then 0x20 else 0x1C)⟩ d val = s.usrCal n gain val := by
  generalize off : slcOff n (if gain then 0x20 else 0x1C) = o
  rw [slcOff] at off
  have part : (if gain then 0x20 else 0x1C) = 0x20 ∧ gain = true ∨ (if gain then 0x20 else 0x1C) = 0x1C ∧ gain = false := by cases gain <;> decide
  have block : 12 * grpOf n + (o - 0x100) / 0x40 + 1 = n := by rw [grpOf]; omega
  have which : decide ((o - 0x100) % 0x40 = 0x20) = gain := by
    rcases part with ⟨value, is⟩ | ⟨value, is⟩
    · rw [is, decide_eq_true_iff]; omega
    · rw [is, decide_eq_false_iff_not]; omega
  have header : ¬ o < 0x40 := by omega
  have command : isCmd .slc o = false := by
    have other : Off.SLC_CMD ≠ o := by simp only [Off.SLC_CMD]; omega
    simp [isCmd, cmdOff, other]
  have clear : o ≠ Off.SLC_CLR := by simp only [Off.SLC_CLR]; omega
  simp only [State.effect, if_neg header, command, Bool.false_eq_true, if_false, State.clrWrite, if_neg clear, State.blockWrite, block, which]

end

/-- Settles O43. -/
theorem groupFencesAct : Obligations.GroupFencesAct := by
  intro s t slot tag g x
  refine ⟨?_, fun h mode => ?_, fun n gain val d one last => ?_⟩
  · intro b
    exact ⟨fun cause present runs free => next_settled (State.fenceGroup_first present runs free),
      fun r k fenced own wait passes => next_settled ((State.groupRetest_passes fenced own wait passes).trans (State.unfenceGroup_fenced fenced)),
      fun r c fenced waits op priv mode passes => next_settled (State.groupRetest_command fenced waits op priv mode passes)⟩
  · intro b
    have here : b.md = s.md := State.counted_md s t x _ _ _
    have mode' : commMaint b.md.mode = true := by rw [here]; exact mode
    refine ⟨(next_slcCmd h).trans ?_, fun fenced => (next_slcCmd h).trans ?_⟩
    · rw [runSlcQueue_fence h.priv mode' (cmdWord_plain_op tag (by decide)), cmdWord_plain_tag tag (by decide), State.complete_mod]
    · rw [runSlcQueue_unfence h.priv mode' (cmdWord_plain_op tag (by decide)) fenced]
  · intro o h finite b range
    exact next_write _ h ((State.effect_usrCal one).trans (State.usrCal_stores finite range))

end Sys2Proof.Machine
end

section
/-!
SUPPORT. Events of metering (R297–R306, R313, R319).
-/
namespace Sys2Proof.Machine

/-! Windows -/

/-- A connection uses a channel. -/
theorem elements_headD (conn : Nat) : ∃ k : Nat, ((elements conn).flatMap fun e => [e, e + 3]).head? = some k ∧ ((elements conn).flatMap fun e => [e, e + 3]).headD 0 = k := by
  rw [elements]
  split
  · exact ⟨0, rfl, rfl⟩
  · split <;> exact ⟨0, rfl, rfl⟩

section
variable {s : State} {p : Nat}

section
variable {freq : Word64} {ch : List (Qual × List Word64)} (runs : s.mtr.running = true) (on : (s.elCfg p).on = true) (inside : p < 8)
include runs on inside

theorem State.windowEnd_goes : ¬ (!s.mtr.running || !(s.elCfg p).on || decide (8 ≤ p)) = true := by simp [runs, on, inside]

/-- A window without a BAD channel adds its energies (R299–R302). -/
theorem State.windowEnd_billable :
    let c := s.elCfg p
    let x := s.el p
    let used := (elements c.conn).flatMap fun e => [e, e + 3]
    let n := (ch.getD (used.headD 0) (.bad, [])).2.length
    (∀ k ∈ used, (ch.getD k (.bad, [])).1 ≠ .bad) →
    ∃ y : ElPoint, y.freq = freq ∧ y.fOut = freqOut s.mtr.cfg.f60 freq ∧ y.est = false ∧ y.pGood = some y.p ∧ y.errUs = x.errUs ∧
      y.pf = (if F64.isZ y.s then F64.zero else F64.div y.p y.s) ∧
      (y.acc, y.res) = accAdds x.acc x.res (energies y.p (winEnergy y.p n) (winEnergy y.q n) (winEnergy y.s n) y.q) ∧
      s.windowEnd p freq ch = s.updEl p fun _ => y := by
  intro c x used n good
  obtain ⟨first, head, headD⟩ := elements_headD c.conn
  have bill : (used.all fun k => (ch.getD k (.bad, [])).1 != .bad) = true := by
    rw [List.all_eq_true]
    intro k member
    exact bne_iff_ne.mpr (good k member)
  have length : n = (ch.getD first (.bad, [])).2.length := by rw [← headD]
  have goes := State.windowEnd_goes runs on inside
  rw [State.windowEnd, if_neg goes]
  extract_lets used' ql xs n' noV out fixed kk dir pow get pT qT sT pf quals billable y a
  have length' : n' = n := by
    simp only [n', show used'.head? = some first from head, length]
    rfl
  clear_value n' n
  subst length'
  rw [if_pos bill]
  exact ⟨{ y with acc := a.1, res := a.2, est := false, pGood := some pT, seen := true }, rfl, rfl, rfl, rfl, rfl, rfl, rfl, rfl⟩

/-- A window with a BAD channel adds an estimate of the last billable power and error time (R302). -/
theorem State.windowEnd_estimates {k : Nat} :
    let c := s.elCfg p
    let x := s.el p
    let used := (elements c.conn).flatMap fun e => [e, e + 3]
    let n := (ch.getD (used.headD 0) (.bad, [])).2.length
    k ∈ used → (ch.getD k (.bad, [])).1 = .bad →
    ∃ y : ElPoint, y.freq = freq ∧ y.est = true ∧ y.pGood = x.pGood ∧ y.errUs = x.errUs + n * 125 ∧
      (y.acc, y.res) = (match (if x.seen then x.pGood else none) with
        | some g => accAdds x.acc x.res [(if F64.lt g F64.zero then 9 else 8, winEnergy (F64.abs g) n)]
        | none => (x.acc, x.res)) ∧
      s.windowEnd p freq ch = if x.est then s.updEl p fun _ => y else (s.updEl p fun _ => y).irq .mtr 0 5 := by
  intro c x used n member bad
  obtain ⟨first, head, headD⟩ := elements_headD c.conn
  have bill : ¬ (used.all fun k => (ch.getD k (.bad, [])).1 != .bad) = true := by
    rw [List.all_eq_true]
    intro good
    exact bne_iff_ne.mp (good k member) bad
  have length : n = (ch.getD first (.bad, [])).2.length := by rw [← headD]
  have goes := State.windowEnd_goes runs on inside
  rw [State.windowEnd, if_neg goes]
  extract_lets used' ql xs n' noV out fixed kk dir pow get pT qT sT pf quals billable y a a' s'
  have length' : n' = n := by
    simp only [n', show used'.head? = some first from head, length]
    rfl
  clear_value n' n
  subst length'
  rw [if_neg bill]
  exact ⟨{ y with acc := a'.1, res := a'.2, est := true, errUs := y.errUs + n' * 125 }, rfl, rfl, rfl, rfl, rfl, rfl⟩

end

/-! Half-cycles -/

section
variable {ch : List (Qual × List Word64)} (runs : s.mtr.running = true) (on : (s.elCfg p).on = true) (inside : p < 8)
include runs on inside

/-- A half-cycle with every voltage channel lost only notes it (R305). -/
theorem State.halfCycle_lost :
    let els := elements (s.elCfg p).conn
    let lost := maskOf (els.filter fun k => (ch.getD k (.bad, [])).1 == .bad)
    (∀ k ∈ els, (ch.getD k (.bad, [])).1 = .bad) →
    s.halfCycle p ch = (if lost &&& (7 - (s.el p).lost % 8) ≠ 0 then s.pqCut p else s).updEl p fun y => { y with lost := lost } := by
  intro els lost all
  have goes := State.windowEnd_goes runs on inside
  have none_ : (els.filter fun k => (ch.getD k (.bad, [])).1 != .bad).isEmpty = true := by
    rw [List.isEmpty_iff, List.filter_eq_nil_iff]
    intro k member
    rw [all k member]
    decide
  rw [State.halfCycle]
  refine (if_neg goes).trans ?_
  exact if_pos none_

/-- A half-cycle moves the three kinds of voltage event on (R305). -/
theorem State.halfCycle_moves {k : Nat} :
    let c := s.elCfg p
    let els := elements c.conn
    let ql := fun k => (ch.getD k (.bad, [])).1
    let lost := maskOf (els.filter fun k => ql k == .bad)
    let e := (if lost &&& (7 - (s.el p).lost % 8) ≠ 0 then s.pqCut p else s).updEl p fun y => { y with lost := lost }
    let u := (els.filter fun k => ql k != .bad).map fun k => (k, rms (ch.getD k (.bad, [])).2)
    let pct := fun (v : Word64) => F64.mul (F64.div v (F64.ofF32 c.udin)) (F64.ofNat 100)
    let thr := fun k : Nat => F64.ofNat (c.thr.fld (8 * k) 8)
    let hyst := F64.q (c.thr.fld 24 8) 10
    let of := fun (f : Word64 → Bool) => maskOf ((u.filter fun y => f (pct y.2)).map (·.1))
    let lo := u.foldl (fun m y => F64.fmin m y.2) F64.inf
    let hi := u.foldl (fun m y => F64.fmax m y.2) F64.zero
    k ∈ els → ql k ≠ .bad → s.halfCycle p ch =
      ((e.pqKind p 0 (u.any fun y => F64.lt (pct y.2) (thr 0)) (!u.all fun y => F64.le (F64.add (thr 0) hyst) (pct y.2)) lo (of fun v => F64.lt v (thr 0))).pqKind
        p 1 (u.any fun y => F64.lt (thr 1) (pct y.2)) (!u.all fun y => F64.le (pct y.2) (F64.sub (thr 1) hyst)) hi (of fun v => F64.lt (thr 1) v)).pqKind
        p 2 (u.all fun y => F64.lt (pct y.2) (thr 2)) (!u.any fun y => F64.le (F64.add (thr 2) hyst) (pct y.2)) lo (of fun v => F64.lt v (thr 2)) := by
  intro c els ql lost e u pct thr hyst of lo hi member good
  have goes := State.windowEnd_goes runs on inside
  have some_ : ¬ (els.filter fun k => ql k != .bad).isEmpty = true := by
    rw [List.isEmpty_iff, List.filter_eq_nil_iff]
    intro none_
    exact none_ k member (bne_iff_ne.mpr good)
  rw [State.halfCycle]
  refine (if_neg goes).trans ?_
  exact if_neg some_

end

/-! The journal -/

/-- What is done as at the present instant and leaves the clock is done. -/
theorem State.atInstant_now {f : State → State} (kept : (f s).now = s.now) : s.atInstant s.now f = f s := by
  refine Eq.trans (b := { f s with now := s.now }) rfl ?_
  generalize f s = u at kept
  rw [← kept]

theorem State.mtrEvent_held {e : MtrEv} (mg : s.inMg .metering = true) : s.mtrEvent e = s.journalMtr e := by rw [State.mtrEvent, if_pos mg]

theorem State.mtrEvent_done {e : MtrEv} (mg : s.inMg .metering = false) : s.mtrEvent e = (s.journalMtr e).mtrDo e := by
  rw [State.mtrEvent, if_neg (Bool.eq_false_iff.mp mg)]

section
variable (runs : s.mtr.running = true) (on : (s.elCfg p).on = true) (inside : p < 8)
include runs on inside

theorem State.meterWindow_event {freq : Word64} {chans : List (Qual × List Word64)} :
    s.meterWindow p freq chans = s.mtrEvent (.window s.now p freq (s.mtrChans p 6 chans)) := by
  rw [State.meterWindow, if_neg (State.windowEnd_goes runs on inside)]

theorem State.meterHalf_event {chans : List (Qual × List Word64)} : s.meterHalf p chans = s.mtrEvent (.half s.now p (s.mtrChans p 3 chans)) := by
  rw [State.meterHalf, if_neg (State.windowEnd_goes runs on inside)]

end

/-! The clock -/

theorem State.pqEnd_now (k : Nat) (cut : Bool) : (s.pqEnd p k cut).now = s.now := by rw [State.pqEnd]; split <;> rfl

theorem State.pqCut_now : (s.pqCut p).now = s.now := by
  have each (l : List Nat) : ∀ u : State, u.now = s.now → (l.foldl (fun s k => s.pqEnd p k true) u).now = s.now := by
    induction l with
    | nil => exact fun u h => h
    | cons k ks ih => exact fun u h => ih _ ((State.pqEnd_now k true).trans h)
  exact each _ s rfl

theorem State.pqKind_now (k : Nat) (begin_ stay : Bool) (ext : Word64) (chans : Nat) : (s.pqKind p k begin_ stay ext chans).now = s.now := by
  rw [State.pqKind]
  split
  · cases stay with
    | true => rfl
    | false => exact State.pqEnd_now k false
  · split <;> rfl

/-! The interval step -/

/-- A step that is due (R313). -/
theorem State.intervalStep_due {bad : Nat} {chk : List MemFind} (runs : s.mtr.running = true) (ctl : s.md.pstate.ctl = true)
    (due : s.mtr.startAt + (s.mtr.steps + 1) * stepNs ≤ s.now) (own : s.md.mode ≠ .standby) :
    let d : State := { s with mtr := { s.mtr with steps := s.mtr.steps + 1 } }
    let e := MtrEv.step s.now (s.mtr.steps + 1) bad d.heatIns
    s.intervalStep bad chk = if s.inMg .metering then d.journalMtr e else d.checked chk (fun s => s.mtrEvent e) (fun s => s.journalMtr e) := by
  have goes : ¬ (!s.mtr.running || !s.md.pstate.ctl || decide (s.now < s.mtr.startAt + (s.mtr.steps + 1) * stepNs)) = true := by
    simp [runs, ctl, Nat.not_lt.mpr due]
  intro d e
  rw [State.intervalStep, if_neg goes, State.shadowInputs_own own]
  rfl

/-- The end of a step commits what was built (R89, R313). -/
theorem State.stepEnd_commits (no bad : Nat) (ins : List HeatIn) :
    (s.stepEnd no bad ins).mtr.jrn = [] ∧ (s.stepEnd no bad ins).mtr.c = { (s.stepEnd no bad ins).mtr.w with recNo := (s.stepEnd no bad ins).mtr.recNext } := by
  obtain ⟨u, ends⟩ : ∃ u : State, s.stepEnd no bad ins = u.mtrCommit := ⟨_, rfl⟩
  rw [ends]
  exact ⟨rfl, rfl⟩

theorem State.atInstant_mtr (s : State) (t : Nat) (f : State → State) : (s.atInstant t f).mtr = (f { s with now := t }).mtr := rfl

theorem State.stepEnd_instant (s : State) (t no bad : Nat) (ins : List HeatIn) :
    (s.atInstant t fun y => y.stepEnd no bad ins).mtr.jrn = [] ∧ (s.atInstant t fun y => y.stepEnd no bad ins).mtr.c =
      { (s.atInstant t fun y => y.stepEnd no bad ins).mtr.w with recNo := (s.atInstant t fun y => y.stepEnd no bad ins).mtr.recNext } := by
  rw [State.atInstant_mtr]
  exact State.stepEnd_commits no bad ins

/-! Billing records -/

/-- A record is stored (R319, R320). -/
def State.billStore (s : State) (rest : List (List Byte × Nat)) (y : List Byte) : State :=
  let l := s.mtr.recs ++ [(leAt y 4 4, y)]
  ({ s with mtr := { s.mtr with hold := rest, recs := l.drop (l.length - recMax) } } : State).irq .mtr 0 4

section
variable {r : List Byte} {slot : Nat} {rest : List (List Byte × Nat)} (holds : s.mtr.hold = (r, slot) :: rest) (cmp : s.md.pstate.cmp = true)
  (mirrored : s.stepsMirrored = true)
include holds cmp mirrored

/-- The oldest fixed record is signed and stored (R319). -/
theorem State.billSign_signed {k : List Byte} (key : s.keyOf slot useSign = some k) :
    s.billSign = s.billStore rest (r ++ if r.getD 25 0 &&& 128 = 0 then P256.sign (P256.beNat k) r else List.replicate 64 0) := by
  have goes : ¬ (!s.md.pstate.cmp || !s.stepsMirrored) = true := by simp [cmp, mirrored]
  have sig : (if r.getD 25 0 &&& 128 = 0 then r ++ P256.sign (P256.beNat k) r else r ++ List.replicate 64 0) =
      r ++ if r.getD 25 0 &&& 128 = 0 then P256.sign (P256.beNat k) r else List.replicate 64 0 := (apply_ite (r ++ ·) _ _ _).symm
  simp only [State.billSign, holds, if_neg goes, key, sig, Option.isNone_some, Bool.false_eq_true, if_false]
  rfl

/-- With no key in its slot the record is stored unsigned (R319). -/
theorem State.billSign_unsigned (key : s.keyOf slot useSign = none) :
    let d := s.billStore rest (setAt r 25 (r.getD 25 0 ||| 128) ++ List.replicate 64 0)
    s.billSign = d.recordGen 0x07 .mtr 0 Off.MTR_KEY_SLOT (d.rdp .mtr 0 Off.MTR_KEY_SLOT) := by
  have goes : ¬ (!s.md.pstate.cmp || !s.stepsMirrored) = true := by simp [cmp, mirrored]
  intro d
  simp only [State.billSign, holds, if_neg goes, key, Option.isNone_none, if_true]
  rfl

end
end

/-- Settles O44. -/
theorem meteringEventsAct : Obligations.MeteringEventsAct := by
  intro s t b
  refine ⟨?_, ?_, ?_⟩
  · intro p chans runs on inside c x
    refine ⟨?_, ?_⟩
    · intro freq ch ql used n d
      refine ⟨fun mg => ?_, fun mg good => ?_, fun k mg member bad => ?_⟩
      · exact next_settled ((State.meterWindow_event runs on inside).trans (State.mtrEvent_held mg))
      · obtain ⟨y, freq', out, est, last, err, pf, acc, ends⟩ := State.windowEnd_billable (s := d) (freq := freq) (ch := ch) runs on inside good
        refine ⟨y, freq', out, est, last, err, pf, acc, next_settled ((State.meterWindow_event runs on inside).trans ((State.mtrEvent_done mg).trans ?_))⟩
        exact (State.atInstant_now (s := d) (f := fun y => y.windowEnd p freq ch) ((congrArg State.now ends).trans rfl)).trans ends
      · obtain ⟨y, freq', est, last, err, acc, ends⟩ := State.windowEnd_estimates (s := d) (freq := freq) (ch := ch) runs on inside member bad
        refine ⟨y, freq', est, last, err, acc, next_settled ((State.meterWindow_event runs on inside).trans ((State.mtrEvent_done mg).trans ?_))⟩
        refine (State.atInstant_now (s := d) (f := fun y => y.windowEnd p freq ch) ((congrArg State.now ends).trans ?_)).trans ends
        split
        · rfl
        · exact (State.irq_logs _ .mtr 0 5).now
    · intro ch els ql lost d e u pct thr hyst of lo hi
      have now : e.now = d.now := by
        show (if _ then d.pqCut p else d).now = d.now
        split
        · exact State.pqCut_now
        · rfl
      refine ⟨fun mg => ?_, fun mg all => ?_, fun k mg member good => ?_⟩
      · exact next_settled ((State.meterHalf_event runs on inside).trans (State.mtrEvent_held mg))
      · have ends := State.halfCycle_lost (s := d) (ch := ch) runs on inside all
        exact next_settled ((State.meterHalf_event runs on inside).trans ((State.mtrEvent_done mg).trans
          ((State.atInstant_now (s := d) (f := fun y => y.halfCycle p ch) ((congrArg State.now ends).trans now)).trans ends)))
      · have ends := State.halfCycle_moves (s := d) (ch := ch) runs on inside member good
        refine next_settled ((State.meterHalf_event runs on inside).trans ((State.mtrEvent_done mg).trans
          ((State.atInstant_now (s := d) (f := fun y => y.halfCycle p ch) ((congrArg State.now ends).trans ?_)).trans ends)))
        exact (State.pqKind_now ..).trans ((State.pqKind_now ..).trans ((State.pqKind_now ..).trans now))
  · intro bad runs ctl due own crossing d e
    refine ⟨fun mg => ?_, fun chk mg => ?_⟩
    · obtain ⟨journal, committed⟩ := State.stepEnd_instant (d.journalMtr e) b.now (b.mtr.steps + 1) bad d.heatIns
      refine ⟨_, rfl, journal, committed, next_settled (State.epoch_commits crossing ?_)⟩
      exact (State.intervalStep_due runs ctl due own).trans ((if_neg (Bool.eq_false_iff.mp mg)).trans (State.mtrEvent_done (s := d) mg))
    · exact next_settled (State.epoch_commits crossing ((State.intervalStep_due runs ctl due own).trans (if_pos mg)))
  · intro r slot rest holds cmp mirrored put
    exact ⟨fun k key => next_settled (State.billSign_signed holds cmp mirrored key), fun key => next_settled (State.billSign_unsigned holds cmp mirrored key)⟩

end Sys2Proof.Machine
end

section
/-!
SUPPORT. The refutation of O45: a step end before the instant at which a command of MTR.CMD came leaves it in its queue.
-/
namespace Sys2Proof.Machine
open Sys2Proof.Tests

/-- The SAVE_NOW that the host writes at 1 ns. -/
def saveNowAt1 : QCmd := ⟨cmdWord 1 0 0, 0, .service, 1, []⟩

/-- A controller at instant 0 in whose queue that command stands. -/
def saveNowAhead : State := (st .run).setQueue mtrCmdAddr [saveNowAt1]

/-- Commands that wait at MTR.CMD. -/
def mtrWaiting (s : State) : Nat := (s.queue mtrCmdAddr).length

/-- A step end performs the commands that came up to it, and only those (R328). -/
theorem saveNowAhead_waits : mtrWaiting saveNowAhead.mtrCmds = 1 := by decide +kernel

/-- Refutes O45: SAVE_NOW is claimed performed at the end of any step that finds it in the queue, but `mtrCmds` performs only what came before that end; one that
came at 1 ns still waits at instant 0. -/
theorem not_meteringWritesAct : ¬ Obligations.MeteringWritesAct := by
  intro h
  obtain ⟨commands, -, -⟩ := h (st .run) 1 0 0 sess
  obtain ⟨-, -, saves, -⟩ := commands (can_may (by decide +kernel)) (by decide)
  have shown := congrArg mtrWaiting (saves saveNowAhead (by decide +kernel) (by decide +kernel))
  rw [saveNowAhead_waits] at shown
  revert shown
  decide +kernel

end Sys2Proof.Machine
end

section
/-!
SUPPORT. Releases of tasks (R339–R348) and masks (R349–R358).
-/
namespace Sys2Proof.Machine

section
variable {s : State} {n : Nat}

/-! Releases -/

section
variable {us f : Nat} {chk : List MemFind} (crossing : s.md.crossing = none) (mode : s.md.mode.tasksRun = true) (runs : (s.task n).running = true)
  (frame : s.taskFrame n = some f)
include crossing mode runs frame

/-- A release while the task still executes, or is being made good, is an overrun (R341). -/
theorem State.taskRelease_overrun (busy : s.inMg (.task n) = true ∨ s.now < (s.task n).busyTill) :
    s.taskRelease n us chk = ((s.updTask n fun y => { y with overrun := true }).satp .prg 0 (taskOff n 0x10)).irq .prg 0 1 := by
  have stays : s.leaving = false := by rw [State.leaving, crossing]; rfl
  have late : (s.inMg (.task n) || true && decide (s.now < (s.task n).busyTill)) = true := by simpa using busy
  simp only [State.taskRelease, mode, runs, Bool.true_or, Bool.and_true, Bool.not_true, stays, Bool.or_self, Bool.false_eq_true, if_false, frame, if_pos late]

/-- A release runs the task's cycle (R339, R340). -/
theorem State.taskRelease_runs {g : PrgImage} (own : s.md.mode ≠ .standby) (exch : (s.task n).exchDue = false) (mg : s.inMg (.task n) = false)
    (idle : (s.task n).busyTill ≤ s.now) (img : (s.task n).img = some g) :
    let u := s.reached (.task n)
    s.taskRelease n us [] = (u.updTask n fun y => { y with acks := [] }).taskCommit n (u.taskRun g n f us) := by
  have stays : s.leaving = false := by rw [State.leaving, crossing]; rfl
  have intime : (s.inMg (.task n) || true && decide (s.now < (s.task n).busyTill)) = false := by simp [mg, idle]
  have task : (s.reached (.task n)).task n = s.task n := rfl
  intro u
  simp only [State.taskRelease, mode, runs, Bool.true_or, Bool.and_true, Bool.not_true, stays, Bool.or_self, Bool.false_eq_true, if_false, frame, intime,
    State.shadowInputs_own own, exch, task, img, if_true, State.taskCycle, State.checked_none]
  rfl

end

/-! Acknowledgements and host inputs -/

/-- The acknowledgement of every alarm reaches every task (R339). -/
theorem State.almAck_all : s.almAck 0xFFFFFFFF =
    (.ok, { s with prg := { s.prg with tasks := s.prg.tasks.map fun y => { y with acks := y.acks ++ [max32] } } }) := by
  have all : (0xFFFFFFFF : Word).toNat = max32 := by decide
  rw [State.almAck, if_pos all]

/-- The acknowledgement of a block reaches the first task whose image holds it as an alarm (R339). -/
theorem State.almAck_block {val : Word} {k : Nat} {r : List Nat} (one : val.toNat ≠ max32) (hit : ((List.range 16).filter fun j => match (s.task j).img with
      | some g => (blocksOf g j).any fun y => isAlarm y.typ && y.id == val.toNat
      | none => false) = k :: r) :
    s.almAck val = (.ok, s.updTask k fun y => { y with acks := y.acks ++ [val.toNat] }) := by
  rw [State.almAck, if_neg one]
  dsimp only
  split
  · next j js found =>
    obtain ⟨same, -⟩ := List.cons.inj (found.symm.trans hit)
    rw [same]
  · next found => exact absurd (found.symm.trans hit) nofun

section
variable {x : Session} {d : RegDef} {val : Word}

theorem State.effect_almAck : s.effect x ⟨.prg, 0, Off.PRG_ALM_ACK⟩ d val = s.almAck val := rfl

/-- The HI word of a host input brings its pair (R348). -/
theorem State.effect_hinHi {k : Nat} (inside : k < 16) : s.effect x ⟨.prg, 0, Off.PRG_HIN0_LO + 8 * k + 4⟩ d val = (.ok, s.hinHi x.slot k val) := by
  generalize off : Off.PRG_HIN0_LO + 8 * k + 4 = o
  simp only [Off.PRG_HIN0_LO] at off
  have header : ¬ o < 0x40 := by omega
  have command : isCmd .prg o = false := by simp [isCmd, cmdOff]
  have clear : o ≠ Off.PRG_CLR := by simp only [Off.PRG_CLR]; omega
  have ack : o ≠ Off.PRG_ALM_ACK := by simp only [Off.PRG_ALM_ACK]; omega
  have high : ¬ (o - Off.PRG_HIN0_LO) % 8 = 0 := by simp only [Off.PRG_HIN0_LO]; omega
  have index : (o - Off.PRG_HIN0_LO) / 8 = k := by simp only [Off.PRG_HIN0_LO]; omega
  simp only [State.effect, if_neg header, command, Bool.false_eq_true, if_false, State.clrWrite, if_neg clear, State.blockWrite, if_neg ack, if_neg high, index]

end

/-! Operations of FORCE.CMD -/

/-- The outputs whose release completes the operation on a mask (R350, R351). -/
def maskOuts : MaskKind → List Target
  | .out t => [t]
  | _ => []

theorem maskOuts_none {k : MaskKind} (h : ∀ o : Target, k ≠ .out o) : maskOuts k = [] := by
  cases k with
  | out t => exact absurd rfl (h t)
  | _ => rfl

/-- The list of masks with one applied (R349). -/
def State.masksWith (s : State) (k : MaskKind) (v : Word64) : List Mask :=
  if s.prg.masks.any (·.kind == k) then s.prg.masks.map fun y => if y.kind == k then (⟨k, v⟩ : Mask) else y else s.prg.masks ++ [⟨k, v⟩]

section
variable {c : QCmd} (mode : commMaint s.md.mode = true)
include mode

/-- APPLY (R349, R352, R358). -/
theorem State.forceOp_apply {k : MaskKind} (op : c.word.fld 0 4 = 1) (target : s.maskTarget ((c.args.getD 0 0).fld 0 4) (c.args.getD 1 0) = (.ok, some k))
    (range : s.maskInRange k (pair64 (c.args.getD 2 0) (c.args.getD 3 0)) = true) (room : s.prg.masks.length < 256) :
    let v := pair64 (c.args.getD 2 0) (c.args.getD 3 0)
    s.forceOp c = (.ok, ((({ s with prg := { s.prg with masks := s.masksWith k v } } : State).recordMask ⟨k, v⟩ 1).irq .force 0 2).satp .force 0 Off.FORCE_APPLIED,
      maskOuts k) := by
  have fits : (!(s.prg.masks.any (·.kind == k)) && decide (s.prg.masks.length ≥ 256)) = false := by simp [room]
  simp only [State.forceOp, mode, op, target, range, fits, Bool.not_true, Bool.false_eq_true, if_false, if_true]
  cases k <;> rfl

/-- REMOVE (R352, R358). -/
theorem State.forceOp_remove {m : Mask} (op : c.word.fld 0 4 = 2) (target : s.maskTarget ((c.args.getD 0 0).fld 0 4) (c.args.getD 1 0) = (.ok, some m.kind))
    (stands : s.prg.masks.find? (·.kind == m.kind) = some m) :
    s.forceOp c = (.ok, (({ s with prg := { s.prg with masks := s.prg.masks.filter (·.kind != m.kind) } } : State).recordMask m 2).irq .force 0 2,
      maskOuts m.kind) := by
  have other : ¬ 2 = 1 := by decide
  simp only [State.forceOp, mode, op, target, stands, if_neg other, Bool.not_true, Bool.false_eq_true, if_false, if_true]
  cases m.kind <;> rfl

/-- REMOVE_ALL with no mask (R358). -/
theorem State.forceOp_none (op : c.word.fld 0 4 = 3) (masks : s.prg.masks = []) :
    s.forceOp c = (.ok, { s with prg := { s.prg with masks := [] } }, []) := by
  have apply_ : ¬ 3 = 1 := by decide
  have remove : ¬ 3 = 2 := by decide
  simp only [State.forceOp, mode, op, masks, if_neg apply_, if_neg remove, Bool.not_true, Bool.false_eq_true, if_false, if_true, List.foldl_nil, List.isEmpty_nil,
    List.flatMap_nil]

/-- REMOVE_ALL with one masked output (R352, R358). -/
theorem State.forceOp_one {o : Target} {v : Word64} (op : c.word.fld 0 4 = 3) (masks : s.prg.masks = [⟨.out o, v⟩]) :
    s.forceOp c = (.ok, (({ s with prg := { s.prg with masks := [] } } : State).recordMask ⟨.out o, v⟩ 2).irq .force 0 2, [o]) := by
  have apply_ : ¬ 3 = 1 := by decide
  have remove : ¬ 3 = 2 := by decide
  simp only [State.forceOp, mode, op, masks, if_neg apply_, if_neg remove, Bool.not_true, Bool.false_eq_true, if_false, if_true, List.foldl_cons, List.foldl_nil,
    List.isEmpty_cons, List.flatMap_cons, List.flatMap_nil, List.append_nil]

end

/-! The queue of FORCE.CMD -/

section
variable {c : QCmd} {u : State} {ts : List Target}

/-- An operation that waits for a release stands at the head of its queue (R350, R358). -/
theorem runForceQueue_owed {o : Target} (acts : s.forceOp c = (.ok, u, [o])) :
    runForceQueue false [c] s = ({ u with prg := { u.prg with due := [o] } } : State).setQueue (Page.reg .force 0 Off.FORCE_CMD) [c] := by
  rw [runForceQueue, acts]
  rfl

/-- An operation that waits for no release completes (R358). -/
theorem runForceQueue_done (acts : s.forceOp c = (.ok, u, [])) :
    runForceQueue false [c] s = (u.complete .force 0 Off.FORCE_CMD_STAT .ok (c.word.fld 8 8)).setQueue (Page.reg .force 0 Off.FORCE_CMD) [] := by
  simp only [runForceQueue, acts, Bool.false_eq_true, if_false, List.isEmpty_nil, Bool.not_true, Bool.and_false]

/-- A FORCE.CMD that finds none waiting and no release owed is judged by its queue (R358). -/
theorem next_forceCmd {t slot : Nat} {x : Session} {w : Word} (h : s.MayCommand slot x .service .force 0) (mode : commMaint s.md.mode = true)
    (due : s.prg.due = []) :
    let b := s.counted t x .force 0 Off.FORCE_CMD
    occurs t (fun s => s.hostWrite slot (Page.reg .force 0 Off.FORCE_CMD) w) s =
      .next (s.settled (runForceQueue false [⟨w, slot, x.priv, max s.now t, b.cmdArgs .force⟩] b)) := by
  intro b
  have empty : b.queue (cmdAddr .force 0) = [] := State.queue_idle (by rw [State.counted_waiting]; exact h.idle)
  have owed : b.prg.due = [] := by rw [State.counted_prg, due]
  refine next_command _ h rfl rfl (fun _ => mode) ?_
  simp only [State.takeCmd, h.noReset, Bool.false_and, Bool.false_eq_true, if_false, empty, owed, List.isEmpty_nil, if_true, List.nil_append, b]

/-- The release that an operation owes completes its command (R350, R351). -/
theorem State.forcedRelease_completes {o : Target} (owed : s.prg.due = [o]) :
    let u := s.releaseForced o
    let d : State := { u with prg := { u.prg with due := [] } }
    d.queue (Page.reg .force 0 Off.FORCE_CMD) = [c] →
    s.forcedRelease = (d.complete .force 0 Off.FORCE_CMD_STAT .ok (c.word.fld 8 8)).setQueue (Page.reg .force 0 Off.FORCE_CMD) [] := by
  intro u d waits
  simp only [State.forcedRelease, owed, List.isEmpty_cons, Bool.false_eq_true, if_false, List.foldl_cons, List.foldl_nil]
  refine Eq.trans (b := runForceQueue (!(d.queue (Page.reg .force 0 Off.FORCE_CMD)).isEmpty) (d.queue (Page.reg .force 0 Off.FORCE_CMD)) d) rfl ?_
  rw [waits, runForceQueue]
  simp only [List.isEmpty_cons, Bool.not_false, if_true, runForceQueue]

end
end

/-- Settles O46. -/
theorem tasksRunAndMasksAct : Obligations.TasksRunAndMasksAct := by
  refine ⟨fun s t slot n x => ⟨?_, fun d h => ?_, fun k val d inside => ?_⟩, fun s t slot tag x => ⟨fun h mode due => ?_, ?_⟩⟩
  · intro b us f crossing mode runs frame
    refine ⟨fun g own exch mg idle img => ?_, fun chk busy => ?_⟩
    · exact next_settled (State.epoch_commits crossing (State.taskRelease_runs crossing mode runs frame own exch mg idle img))
    · exact next_settled (State.epoch_commits crossing (State.taskRelease_overrun crossing mode runs frame busy))
  · exact ⟨next_write _ h (State.effect_almAck.trans State.almAck_all), fun val k r one hit => next_write _ h (State.effect_almAck.trans (State.almAck_block one hit))⟩
  · intro o h b v
    have hs : x.slot = slot := State.sess_slot h.here
    refine next_write _ h ((State.effect_hinHi inside).trans ?_)
    rw [hs]
    rfl
  · intro b a kind v c applied removed owed done
    have mode' : commMaint b.md.mode = true := (congrArg (fun m => commMaint m.mode) (State.counted_md s t x _ _ _)).trans mode
    have prg : b.prg = s.prg := State.counted_prg s t x _ _ _
    have code (k : Nat) (known : k < 16) : (c k).word.fld 0 4 = k := cmdWord_plain_op tag known
    have waits {k : Nat} {u : State} {o : Target} (acts : b.forceOp (c k) = (.ok, u, [o])) :
        occurs t (fun s => s.hostWrite slot a (cmdWord k tag 0)) s = .next (owed k u [o]) :=
      (next_forceCmd h mode due).trans (congrArg (Host.Outcome.next ∘ s.settled) (runForceQueue_owed acts))
    have ends {k : Nat} {u : State} (known : k < 16) (acts : b.forceOp (c k) = (.ok, u, [])) :
        occurs t (fun s => s.hostWrite slot a (cmdWord k tag 0)) s = .next (done u) := by
      have runs := runForceQueue_done acts
      rw [cmdWord_plain_tag tag known, State.complete_mod] at runs
      exact (next_forceCmd h mode due).trans (congrArg (Host.Outcome.next ∘ s.settled) runs)
    refine ⟨fun k target range room => ⟨fun o out => ?_, fun inner => ?_⟩, fun m target stands => ⟨fun o out => ?_, fun inner => ?_⟩, fun masks => ?_, fun o v masks => ?_⟩
    · have acts := State.forceOp_apply (c := c 1) mode' (code 1 (by decide)) target range room
      exact waits (acts.trans (by rw [out]; rfl))
    · have acts := State.forceOp_apply (c := c 1) mode' (code 1 (by decide)) target range room
      rw [maskOuts_none inner] at acts
      exact ends (by decide) acts
    · have acts := State.forceOp_remove (c := c 2) mode' (code 2 (by decide)) target stands
      have outs : maskOuts m.kind = [o] := congrArg maskOuts out
      exact waits (acts.trans (congrArg (fun ts => (Err.ok, removed m, ts)) outs))
    · have acts := State.forceOp_remove (c := c 2) mode' (code 2 (by decide)) target stands
      rw [maskOuts_none inner] at acts
      exact ends (by decide) acts
    · exact ends (by decide) (State.forceOp_none mode' (code 3 (by decide)) (by rw [prg, masks]))
    · exact waits (State.forceOp_one mode' (code 3 (by decide)) (by rw [prg, masks]))
  · intro b o c u d owed waits
    exact next_settled (State.forcedRelease_completes owed waits)

end Sys2Proof.Machine
end

section
/-!
SUPPORT. Frames and the schedule of a ShaiqLink segment (R359–R370, R378, R445).
-/
namespace Sys2Proof.Machine

section
variable {s : State} {i : Nat}

/-! One segment -/

/-- A configured segment is one of the table. -/
theorem State.seg_inside {c : CanCfg} (cfg : (s.seg (i + 1)).cfg = some c) : i < s.can.segs.length := by
  refine Decidable.byContradiction fun outside => ?_
  have default_ : s.seg (i + 1) = {} := getD_outside (Nat.le_of_not_lt outside)
  rw [default_] at cfg
  exact absurd cfg nofun

/-- A segment of the table that is changed holds what the change gives. -/
theorem State.updSeg_seg {f : Seg → Seg} (inside : i < s.can.segs.length) : (s.updSeg (i + 1) f).seg (i + 1) = f (s.seg (i + 1)) :=
  modAt_getD _ _ _ _ inside

/-- An update of a segment gives the value that it has for the segment as it stands. -/
theorem State.updSeg_const {f k : Seg → Seg} (same : f (s.seg (i + 1)) = k (s.seg (i + 1))) : s.updSeg (i + 1) f = s.updSeg (i + 1) k := by
  have segs : modAt s.can.segs i f = modAt s.can.segs i k := by
    rw [modAt_const _ _ f {}, modAt_const _ _ k {}]
    exact congrArg (fun g => modAt s.can.segs i fun _ => g) same
  exact congrArg (fun l => ({ s with can := { s.can with segs := l } } : State)) segs

section
variable {c : CanCfg} (cfg : (s.seg (i + 1)).cfg = some c)
include cfg

/-! Reception -/

section
variable {f : CanFrame} (on : (s.seg (i + 1)).st ≠ .off)
include on

/-- A frame that no Polien connection claims is filtered (R364). -/
theorem State.canRx_filtered (free : s.polOfCan (i + 1) f.id f.ide = [] ∨ f.rtr = true) :
    s.canRx (i + 1) f = (s.canHeard (i + 1) f).canFilter (i + 1) c f := by
  have goes : ((s.polOfCan (i + 1) f.id f.ide).isEmpty || f.rtr) = true := by simpa using free
  simp only [State.canRx, cfg, beq_false_of_ne on, Bool.false_eq_true, if_false, goes, if_true]

/-- A frame of a Polien connection is delivered to it (R445). -/
theorem State.canRx_polien (claimed : s.polOfCan (i + 1) f.id f.ide ≠ []) (data : f.rtr = false) :
    s.canRx (i + 1) f = (s.canHeard (i + 1) f).polDeliver (s.polOfCan (i + 1) f.id f.ide) f.data := by
  have some_ : (s.polOfCan (i + 1) f.id f.ide).isEmpty = false := List.isEmpty_eq_false_iff.mpr claimed
  simp only [State.canRx, cfg, beq_false_of_ne on, Bool.false_eq_true, if_false, some_, data, Bool.or_self]

end

omit cfg in
/-- URGENT is decoded first (R365). -/
theorem State.canDecode_urgent {w : RxWait} {r : List RxWait} (urgent : (s.seg (i + 1)).urgent = w :: r) :
    s.canDecode (i + 1) = (s.updSeg (i + 1) fun y => { y with urgent := r }).decodeFrame (i + 1) w := by
  simp only [State.canDecode, urgent]

omit cfg in
theorem State.canDecode_bulk {w : RxWait} {r : List RxWait} (urgent : (s.seg (i + 1)).urgent = []) (bulk : (s.seg (i + 1)).bulk = w :: r) :
    s.canDecode (i + 1) = (s.updSeg (i + 1) fun y => { y with bulk := r }).decodeFrame (i + 1) w := by
  simp only [State.canDecode, urgent, bulk]

omit cfg in
/-- A signal past its timeout turns its point BAD (R362). -/
theorem State.sigTimeout_bad {sig l u : Nat} {d : SigD} {v : Word64} (known : sigOf (s.seg (i + 1)) sig = some d)
    (held : lookupA sig (s.seg (i + 1)).rxVals = some (v, u)) (old : u + d.timeoutMs * ms < s.now) (point : d.point = some l) :
    s.sigTimeout (i + 1) sig = s.localPoint l v .bad (s.time64At u) := by
  simp only [State.sigTimeout, known, held, if_pos (show s.now > u + d.timeoutMs * ms from old), point]

/-! Base cycles -/

/-- A segment at the start of its base cycle (R366, R377). -/
def State.baseBegun (s : State) (c : CanCfg) (n : Nat) : State :=
  s.updSeg n fun y => { y with
    cycle := s.canCycleAt c s.now, st := (s.seg n).nextBase.getD (s.seg n).st, nextBase := none
    evtQ := if (s.seg n).nextBase = some .active then [] else y.evtQ }

/-- The payload of the reference frame (R366). -/
def State.refData (s : State) (c : CanCfg) (n : Nat) : List Byte :=
  natLE 1 (s.canCycleAt c s.now % max 1 c.matLen) ++ natLE 1 (b2n s.time.valid + 2 * b2n (s.seg n).takeover + 4 * b2n (s.md.mode == .safeHold)) ++
    natLE 2 (s.canCycleAt c s.now / max 1 c.matLen) ++ natLE 4 (if s.time.valid then (s.time64At s.now).s else 0)

omit cfg in
theorem State.baseBegun_model : s.baseBegun c (i + 1) = s.updSeg (i + 1) fun g => { g with
    cycle := s.canCycleAt c s.now, st := g.nextBase.getD g.st, nextBase := none, evtQ := if g.nextBase == some .active then [] else g.evtQ } :=
  State.updSeg_const (by simp only [beq_iff_eq])

theorem State.baseBegun_st : ((s.baseBegun c (i + 1)).seg (i + 1)).st = (s.seg (i + 1)).nextBase.getD (s.seg (i + 1)).st :=
  congrArg Seg.st (State.updSeg_seg (State.seg_inside cfg))

section
variable (on : (s.seg (i + 1)).st ≠ .off) (begun : s.canOrigin ≤ s.now) (grid : (s.now - s.canOrigin) % baseNs c = 0)
include on begun grid

omit cfg in
theorem State.canBase_goes : (decide (s.now < s.canOrigin) || (s.now - s.canOrigin) % baseNs c != 0 || (s.seg (i + 1)).st == .off) = false := by
  simp [Nat.not_lt.mpr begun, grid, on]

/-- A base cycle without a reference frame takes the pending state (R366). -/
theorem State.canBase_quiet (quiet : (s.seg (i + 1)).nextBase.getD (s.seg (i + 1)).st ≠ .active ∨ c.refEn = false)
    (free : (s.seg (i + 1)).nextBase = none ∨ (s.seg (i + 1)).job = none) : s.canBase (i + 1) = s.baseBegun c (i + 1) := by
  have none_ : (((s.baseBegun c (i + 1)).seg (i + 1)).st == .active && c.refEn) = false := by
    rw [State.baseBegun_st cfg]
    rcases quiet with off | off
    · rw [beq_false_of_ne off, Bool.false_and]
    · rw [off, Bool.and_false]
  simp only [State.canBase, cfg, State.canBase_goes on begun grid, Bool.false_eq_true, if_false]
  rw [← State.baseBegun_model]
  cases next_ : (s.seg (i + 1)).nextBase with
  | none => simp only [none_, Bool.false_eq_true, if_false]
  | some v => simp only [free.resolve_left (by rw [next_]; nofun), none_, Bool.false_eq_true, if_false]

/-- An ACTIVE segment sends its reference frame (R366, R368). -/
theorem State.canBase_reference (active : (s.seg (i + 1)).nextBase.getD (s.seg (i + 1)).st = .active) (refs : c.refEn = true)
    (free : (s.seg (i + 1)).nextBase = none ∨ (s.seg (i + 1)).job = none) :
    s.canBase (i + 1) = (((s.baseBegun c (i + 1)).canSend (i + 1) c.refId false false false (s.refData c (i + 1))).updSeg (i + 1) fun y => { y with takeover := false }) := by
  have sends : (((s.baseBegun c (i + 1)).seg (i + 1)).st == .active && c.refEn) = true := by rw [State.baseBegun_st cfg, active, refs]; rfl
  simp only [State.canBase, cfg, State.canBase_goes on begun grid, Bool.false_eq_true, if_false]
  rw [← State.baseBegun_model]
  cases next_ : (s.seg (i + 1)).nextBase with
  | none => simp only [sends, if_true]; rfl
  | some v => simp only [free.resolve_left (by rw [next_]; nofun), sends, if_true]; rfl

/-- A segment that becomes ACTIVE completes the command that waits for it (R366, R381). -/
theorem State.canBase_completes {j : QCmd} (next_ : (s.seg (i + 1)).nextBase = some .active) (job : (s.seg (i + 1)).job = some j) (refs : c.refEn = false) :
    s.canBase (i + 1) = ((s.baseBegun c (i + 1)).updSeg (i + 1) fun y => { y with job := none }).complete .can i Off.CAN_CMD_STAT .ok (j.word.fld 8 8) := by
  simp only [State.canBase, cfg, State.canBase_goes on begun grid, Bool.false_eq_true, if_false]
  rw [← State.baseBegun_model]
  simp only [next_, job, refs, Bool.and_false, Bool.false_eq_true, if_false]
  rfl

end

/-! Transmit slots and windows -/

section
variable {k : Nat} {x : TxSlot} (slot : c.slots[k]? = some x)
include slot

/-- A TT frame is loaded with the values held (R369). -/
theorem State.canLoad_loads (active : (s.seg (i + 1)).st = .active) (occurs : slotOccurs c (s.canCycleAt c (s.now + 5 * us)) x = true) :
    s.canLoad (i + 1) k = s.updSeg (i + 1) fun y => { y with loaded := insertA k (s.txPayload (i + 1) x.frame) y.loaded } := by
  simp only [State.canLoad, cfg, slot, active, occurs, beq_self_eq_true, Bool.and_self, if_true]

section
variable (occurs : slotOccurs c (s.canCycleAt c (s.now - 1)) x = true)
include occurs

/-- A loaded TT frame is sent in its slot, or withdrawn and counted (R369). -/
theorem State.canSlot_ends {p : List Byte} {sent : Bool} (active : (s.seg (i + 1)).st = .active) (loaded : lookupA k (s.seg (i + 1)).loaded = some p) :
    let d := s.updSeg (i + 1) fun y => { y with loaded := eraseA k y.loaded }
    let f := c.tx.getD x.frame ⟨0, false, false, 8, true, false⟩
    s.canSlot (i + 1) k sent = if sent then d.canSend (i + 1) f.id f.ide f.fdf (f.fdf && (rateOf (s.seg (i + 1))).data != 0) p
      else (d.satp .can i Off.CAN_SLOT_LOST).irq .can i 7 := by
  have busOff : (SegState.active == SegState.busOff) = false := rfl
  have same : (SegState.active != SegState.active) = false := rfl
  simp only [State.canSlot, cfg, slot, occurs, Bool.not_true, active, busOff, same, Bool.false_eq_true, if_false, loaded, Nat.add_sub_cancel]

/-- A slot in bus-off is lost (R375). -/
theorem State.canSlot_busOff {sent : Bool} (off : (s.seg (i + 1)).st = .busOff) : s.canSlot (i + 1) k sent = s.satp .can i Off.CAN_SLOT_LOST := by
  simp only [State.canSlot, cfg, slot, occurs, Bool.not_true, off, beq_self_eq_true, Bool.false_eq_true, if_false, if_true, Nat.add_sub_cancel]

end
end

/-- An arbitration window sends what is queued and fits (R370). -/
theorem State.canWindow_loop {w u len : Nat} {durs : List Nat} (window : c.windows[w]? = some (u, len)) (active : (s.seg (i + 1)).st = .active) :
    s.canWindow (i + 1) w durs = windowLoop (i + 1) ((u + len) * us) (u * us) durs s := by
  simp only [State.canWindow, cfg, window, active, beq_self_eq_true, if_true]

omit cfg in
/-- A Polien telegram that fits goes first (R445). -/
theorem windowLoop_polien {n endNs cur d conn : Nat} {bs : List Byte} {r : List (Nat × List Byte)} (queued : (s.seg n).polQ = (conn, bs) :: r)
    (fits : cur + frameNs (s.seg n) ((s.polTxId conn).testBit 29) true (fdLen bs.length) ≤ endNs) :
    windowLoop n endNs cur [d] s =
      (s.updSeg n fun y => { y with polQ := r }).canSend n (s.polTxId conn % 2 ^ 29) ((s.polTxId conn).testBit 29) true true (polPad bs) := by
  simp only [windowLoop, queued, if_pos fits]

end
end

/-- Settles O47. -/
theorem canScheduleRuns : Obligations.CanScheduleRuns := by
  intro s t i c b n g cfg
  refine ⟨fun f on => ⟨fun free => ?_, fun claimed data => ?_⟩, fun w r urgent => next_settled (State.canDecode_urgent urgent),
    fun w r urgent bulk => next_settled (State.canDecode_bulk urgent bulk),
    fun sig l u d v known held old point => next_settled (State.sigTimeout_bad known held old point), ?_, fun k x slot => ⟨?_, ?_, ?_⟩, fun w u len durs window active => ⟨?_, ?_⟩⟩
  · exact next_settled (State.canRx_filtered cfg on free)
  · exact next_settled (State.canRx_polien cfg on claimed data)
  · intro on begun grid k nx d
    exact ⟨fun quiet free => next_settled (State.canBase_quiet cfg on begun grid quiet free),
      fun active refs free => next_settled (State.canBase_reference cfg on begun grid active refs free),
      fun j next_ job refs => next_settled (State.canBase_completes cfg on begun grid next_ job refs)⟩
  · exact fun active occurs => next_settled (State.canLoad_loads cfg slot active occurs)
  · intro p active loaded occurs d f
    exact ⟨next_settled (State.canSlot_ends (sent := true) cfg slot occurs active loaded), next_settled (State.canSlot_ends (sent := false) cfg slot occurs active loaded)⟩
  · exact fun sent off occurs => next_settled (State.canSlot_busOff cfg slot occurs off)
  · exact next_settled (State.canWindow_loop cfg window active)
  · intro d conn bs r one queued id fits
    refine next_settled ((State.canWindow_loop cfg window active).trans ?_)
    rw [one]
    exact windowLoop_polien queued fits

end Sys2Proof.Machine
end

section
/-!
SUPPORT. Errors, rate detection, bus-off and fences of a segment, and CAN.CMD (R360, R371–R376, R381).
-/
namespace Sys2Proof.Machine

section
variable {s : State} {i : Nat}

section
variable {c : CanCfg} (cfg : (s.seg (i + 1)).cfg = some c)
include cfg

/-! Errors and bus-off -/

/-- A bus error sets the counters and ends a candidate (R360, R372). -/
theorem State.canError_sets {kind tec rec_ : Nat} {data : Bool} (on : (s.seg (i + 1)).st ≠ .off) :
    let u := s.updSeg (i + 1) fun y => { y with tec := tec, rec_ := rec_, lastErr := kind % 8 + 8 * b2n data }
    s.canError (i + 1) kind data tec rec_ = if detecting (s.seg (i + 1)) then u.nextCand (i + 1) else u := by
  simp only [State.canError, cfg, Option.isNone_some, beq_false_of_ne on, Bool.or_self, Bool.false_eq_true, if_false]

/-- A bus-off discards the event queue, is counted and recorded, and fences at BUSOFF_MAX (R375). -/
theorem State.canBusOff_active (active : (s.seg (i + 1)).st = .active) :
    let hist := (s.now :: (s.seg (i + 1)).busoffAt).filter fun u => u + c.winS * sec > s.now
    let d := ((s.satp .can i Off.CAN_EVT_DROP (s.seg (i + 1)).evtQ.length).updSeg (i + 1) fun y =>
      { y with evtQ := [], busoffAt := hist, st := .busOff, recovering := false, loaded := [] }).satp .can i Off.CAN_BUSOFFS
    let e := d.irq .can i 4
    let u := e.recordGen 0x09 .can i Off.CAN_BUSOFFS (e.rdp .can i Off.CAN_BUSOFFS)
    s.canBusOff (i + 1) = if hist.length ≥ c.busoffMax then u.fenceSeg (i + 1) 1 else u := by
  have same : (SegState.active != SegState.active) = false := rfl
  simp only [State.canBusOff, cfg, active, same, Bool.false_eq_true, if_false, Nat.add_sub_cancel]
  rfl

/-- The hold after a bus-off ends (R375). -/
theorem State.canHoldExpiry_ends {u : Nat} {r : List Nat} (last : (s.seg (i + 1)).busoffAt = u :: r) (off : (s.seg (i + 1)).st = .busOff)
    (past : u + c.holdMs * ms ≤ s.now) : s.canHoldExpiry (i + 1) = s.updSeg (i + 1) fun y => { y with recovering := true } := by
  have due : (SegState.busOff == SegState.busOff && decide (s.now ≥ u + c.holdMs * ms)) = true := by simp [past]
  simp only [State.canHoldExpiry, cfg, last, off, due, if_true]

omit cfg in
/-- Recovery leads to the state of the next base cycle (R375, R378). -/
theorem State.canRecovered_next (off : (s.seg (i + 1)).st = .busOff) (recovering : (s.seg (i + 1)).recovering = true) :
    s.canRecovered (i + 1) = s.updSeg (i + 1) fun y =>
      { y with recovering := false, nextBase := some (if s.hasToken then .active else .monitor), tec := 0, rec_ := 0 } := by
  simp only [State.canRecovered, off, recovering, beq_self_eq_true, Bool.and_self, if_true, State.segLive]

/-! Detection -/

section
variable (under : detecting (s.seg (i + 1)) = true)
include under

section
variable (past : (s.seg (i + 1)).candFrom + c.dwellMs * ms ≤ s.now)
include past

omit cfg in
theorem State.canDwell_due : ¬ ((!detecting (s.seg (i + 1))) = true ∨ s.now < (s.seg (i + 1)).candFrom + c.dwellMs * ms) := by
  simp [under, past]

/-- A dwell that ends moves to the next candidate (R372, R373). -/
theorem State.canDwell_moves (heard : c.master = false ∨ (s.seg (i + 1)).firstTry = false ∨ (s.seg (i + 1)).seen = true) :
    s.canDwell (i + 1) = s.nextCand (i + 1) := by
  have silent : (c.master && (s.seg (i + 1)).firstTry && !(s.seg (i + 1)).seen) = false := by
    rcases heard with h | h | h <;> simp [h]
  simp only [State.canDwell, cfg, if_neg (State.canDwell_due under past), silent, Bool.false_eq_true, if_false]

/-- The first candidate of a silent master passes (R372). -/
theorem State.canDwell_silent (master : c.master = true) (first : (s.seg (i + 1)).firstTry = true) (seen : (s.seg (i + 1)).seen = false) :
    s.canDwell (i + 1) = s.rateFound (i + 1) true := by
  simp only [State.canDwell, cfg, if_neg (State.canDwell_due under past), master, first, seen, Bool.not_false, Bool.and_self, if_true]

end

/-- No candidate has passed in time (R373, R376). -/
theorem State.canDetectTimeout_fences (past : (s.seg (i + 1)).detFrom + c.detectMaxS * sec ≤ s.now) (free : (s.seg (i + 1)).st ≠ .fenced) :
    let u := s.fenceSeg (i + 1) 2
    s.canDetectTimeout (i + 1) = match (s.seg (i + 1)).job with
      | some j => (u.updSeg (i + 1) fun y => { y with job := none }).complete .can i Off.CAN_CMD_STAT (if j.word.fld 0 4 = 1 then .timeout else .state)
          (j.word.fld 8 8)
      | none => u := by
  have due : ¬ ((!detecting (s.seg (i + 1))) = true ∨ s.now < (s.seg (i + 1)).detFrom + c.detectMaxS * sec) := by simp [under, past]
  simp only [State.canDetectTimeout, cfg, if_neg due, beq_false_of_ne free, Bool.false_eq_true, if_false, Nat.add_sub_cancel] <;> rfl

end

/-! Fences -/

/-- A first cause fences a segment (R376). -/
theorem State.fenceSeg_first {cause : Nat} (inside : i + 1 ≤ s.variant.segments) (free : (s.seg (i + 1)).st ≠ .fenced) (job : (s.seg (i + 1)).job = none) :
    let u := State.fencePoints (s.updSeg (i + 1) fun y =>
      { y with st := .fenced, cause := cause, fencedAt := s.now, nextBase := none, retest := false, recovering := false }) (i + 1)
    s.fenceSeg (i + 1) cause = ((u.irq .can i 2).record 0x0601 (w32 (i + 1)) (w32 cause) 0).trigger .unit := by
  have goes : ¬ (i + 1 = 0 ∨ i + 1 > s.variant.segments ∨ (s.seg (i + 1)).cfg.isNone = true) := by
    simp only [cfg, Option.isNone_some, Bool.false_eq_true, or_false]
    omega
  simp only [State.fenceSeg, if_neg goes, beq_false_of_ne free, Bool.false_eq_true, if_false, job, Nat.add_sub_cancel]

omit cfg in
/-- A retest begins a detection (R376). -/
theorem State.canRetest_begins (fenced : (s.seg (i + 1)).st = .fenced) (cause : (s.seg (i + 1)).cause ≠ 4) (wait : (s.seg (i + 1)).fencedAt + 10 * sec ≤ s.now)
    (free : (s.seg (i + 1)).retest = false) : s.canRetest (i + 1) = (s.startDetect (i + 1) true).updSeg (i + 1) fun y => { y with fencedAt := s.now } := by
  have goes : (SegState.fenced == SegState.fenced && decide ((s.seg (i + 1)).cause ≠ 4) && decide (s.now ≥ (s.seg (i + 1)).fencedAt + 10 * sec) && !false) = true := by
    simp [cause, wait]
  simp only [State.canRetest, fenced, free, if_pos goes]

end

/-! CAN.CMD -/

section
variable {c : QCmd}

/-- DETECT discards the stored rate and begins a detection (R381). -/
theorem State.execCanCmd_detect (op : c.word.fld 0 4 = 1) (mode : s.md.mode = .commission) (free : (s.seg (i + 1)).st ≠ .fenced)
    (cfg : (s.seg (i + 1)).cfg.isSome = true) :
    s.execCanCmd (i + 1) c = ((s.wrp .can i Off.CAN_RATE ((s.rdp .can i Off.CAN_RATE).setBit 4 false)).startDetect (i + 1) false).updSeg (i + 1) fun y =>
      { y with job := some c } := by
  have same : (Mode.commission != Mode.commission) = false := rfl
  have goes : ¬ ((s.seg (i + 1)).st == .fenced) = true := fun fenced => free (eq_of_beq fenced)
  have known : ¬ (s.seg (i + 1)).cfg.isNone = true := by
    rw [← Option.not_isSome, cfg]
    decide
  simp only [State.execCanCmd, op, if_true, mode, same, Bool.false_eq_true, if_false, if_neg (not_or.mpr ⟨goes, known⟩), Nat.add_sub_cancel]

section
variable (priv : c.priv.ge .service = true) (mode : commMaint s.md.mode = true)
include priv mode

/-- FENCE fences for the host (R381). -/
theorem State.execCanCmd_fence (op : c.word.fld 0 4 = 2) :
    s.execCanCmd (i + 1) c = (s.fenceSeg (i + 1) 4).complete .can i Off.CAN_CMD_STAT .ok (c.word.fld 8 8) := by
  have mode' : (s.md.mode == .commission || s.md.mode == .maintenance) = true := mode
  have detect : ¬ 2 = 1 := by decide
  simp only [State.execCanCmd, op, if_neg detect, if_true, priv, mode', Bool.not_true, Bool.false_eq_true, if_false, Nat.add_sub_cancel]

/-- UNFENCE of a fence for the host begins the detection that lifts it (R381). -/
theorem State.execCanCmd_unfence (op : c.word.fld 0 4 = 3) (fenced : (s.seg (i + 1)).st = .fenced) (cause : (s.seg (i + 1)).cause = 4) :
    s.execCanCmd (i + 1) c = (s.startDetect (i + 1) true).updSeg (i + 1) fun y => { y with job := some c } := by
  have mode' : (s.md.mode == .commission || s.md.mode == .maintenance) = true := mode
  have detect : ¬ 3 = 1 := by decide
  have fence : ¬ 3 = 2 := by decide
  have goes : ¬ ((SegState.fenced != SegState.fenced) = true ∨ 4 ≠ 4) := by decide
  simp only [State.execCanCmd, op, if_neg detect, if_neg fence, if_true, priv, mode', Bool.not_true, Bool.false_eq_true, if_false, fenced, cause, if_neg goes]

end

/-- A CAN.CMD that finds none waiting and none under way executes at once (R381). -/
theorem next_canCmd {t slot : Nat} {x : Session} {need : Priv} {w : Word} (h : s.MayCommand slot x need .can i) (priv : need.ge .config = true)
    (job : (s.seg (i + 1)).job = none) :
    let q := (s.counted t x .can i Off.CAN_CMD).setQueue (Page.reg .can i Off.CAN_CMD) [⟨w, slot, x.priv, max s.now t, []⟩]
    occurs t (fun s => s.hostWrite slot (Page.reg .can i Off.CAN_CMD) w) s =
      .next (s.settled ((q.execCanCmd (i + 1) ⟨w, slot, x.priv, max s.now t, []⟩).setQueue (Page.reg .can i Off.CAN_CMD) [])) := by
  intro q
  have empty : (s.counted t x .can i Off.CAN_CMD).queue (cmdAddr .can i) = [] := State.queue_idle (by rw [State.counted_waiting]; exact h.idle)
  have idle : (q.seg (i + 1)).job.isSome = false := by
    have here : q.seg (i + 1) = s.seg (i + 1) := congrArg (fun c => c.segs.getD i {}) (State.counted_can s t x .can i Off.CAN_CMD)
    rw [here, job]
    rfl
  have entered : (s.counted t x .can i Off.CAN_CMD).enqueue .can i ⟨w, slot, x.priv, max s.now t, []⟩ = q := by
    rw [State.enqueue, empty]
    rfl
  have waits : q.queue (Page.reg .can i Off.CAN_CMD) = [⟨w, slot, x.priv, max s.now t, []⟩] := State.queue_setQueue _ _ _
  refine next_command _ h priv rfl nofun ?_
  simp only [State.takeCmd, h.noReset, Bool.false_and, Bool.false_eq_true, if_false, State.cmdArgs, entered, State.runCan, Nat.add_sub_cancel, waits, runCanQueue,
    idle]

end
end

/-- Settles O48. -/
theorem canFaultsAndCommandsAct : Obligations.CanFaultsAndCommandsAct := by
  refine ⟨fun s t i c => ?_, fun s t slot tag i x need h priv job => ?_⟩
  · intro b n g cfg
    refine ⟨fun kind tec rec_ data on => next_settled (State.canError_sets cfg on), fun active => next_settled (State.canBusOff_active cfg active),
      fun u r last off past => next_settled (State.canHoldExpiry_ends cfg last off past), fun off recovering => next_settled (State.canRecovered_next off recovering),
      fun under past => ⟨fun heard => next_settled (State.canDwell_moves cfg under past heard),
        fun master first seen => next_settled (State.canDwell_silent cfg under past master first seen)⟩,
      fun under past free => next_settled (State.canDetectTimeout_fences cfg under past free),
      fun inside free none_ => next_settled (State.fenceSeg_first cfg inside free none_),
      fun fenced cause wait free => next_settled (State.canRetest_begins fenced cause wait free)⟩
  · intro n a b c q begun
    have md : b.md = s.md := State.counted_md s t x _ _ _
    have seg : b.seg n = s.seg n := congrArg (fun c => c.segs.getD i {}) (State.counted_can s t x .can i Off.CAN_CMD)
    have code (k : Nat) (known : k < 16) : (c k).word.fld 0 4 = k := cmdWord_plain_op tag known
    have maint (mode : commMaint s.md.mode = true) : commMaint b.md.mode = true := by rw [md]; exact mode
    refine ⟨fun mode free cfg => (next_canCmd h priv job).trans ?_, fun service mode => (next_canCmd h priv job).trans ?_,
      fun service mode fenced cause => (next_canCmd h priv job).trans ?_⟩
    · have acts := State.execCanCmd_detect (s := q 1) (i := i) (c := c 1) (code 1 (by decide)) (show b.md.mode = .commission by rw [md]; exact mode)
        (show (b.seg n).st ≠ .fenced by rw [seg]; exact free) (show (b.seg n).cfg.isSome = true by rw [seg]; exact cfg)
      exact congrArg (Host.Outcome.next ∘ s.settled) (congrArg (State.setQueue · a []) acts)
    · have acts := State.execCanCmd_fence (s := q 2) (i := i) (c := c 2) service (maint mode) (code 2 (by decide))
      rw [cmdWord_plain_tag tag (by decide), State.complete_mod] at acts
      exact congrArg (Host.Outcome.next ∘ s.settled) (congrArg (State.setQueue · a []) acts)
    · have acts := State.execCanCmd_unfence (s := q 3) (i := i) (c := c 3) service (maint mode) (code 3 (by decide))
        (show (b.seg n).st = .fenced by rw [seg]; exact fenced) (show (b.seg n).cause = 4 by rw [seg]; exact cause)
      exact congrArg (Host.Outcome.next ∘ s.settled) (congrArg (State.setQueue · a []) acts)

end Sys2Proof.Machine
end

section
/-!
SUPPORT. The safety domain: its cycle, the seal switches, the off pulse, functions and Polien (R419–R443).
-/
namespace Sys2Proof.Machine

section
variable {s : State}

/-! The cycle -/

section
variable {tests : List SdiTest} (runs : s.safeRuns = true) (clear : s.safe.lockout = false) (due : s.cycleDue = true)
include runs clear due

/-- The safety domain in the frame whose cycle it runs. -/
def State.cycleBegun (s : State) : State := { (s.reached .safety) with safe := { s.safe with cycAt := some s.safeFrame } }

/-- The safety cycle of a frame (R419). -/
theorem State.safetyCycle_due {agree : Bool} : s.safetyCycle agree tests = if !agree || s.cycleBegun.switchFault then s.cycleBegun.lockout
    else (List.range 64).foldl (fun s k => s.polSend k) ((List.range 32).foldl (fun s n => s.fnCycle n tests) s.cycleBegun.polBegin).safeOutputs := by
  have goes : ¬ (!s.safeRuns || s.safe.lockout || !s.cycleDue) = true := by simp [runs, clear, due]
  rw [State.safetyCycle, if_neg goes]
  rfl

/-- With the digests agreeing and the switches read alike the functions and connections run (R419). -/
theorem State.safetyCycle_agrees (switches : s.cycleBegun.switchFault = false) : s.safetyCycle true tests =
    (List.range 64).foldl (fun s k => s.polSend k) ((List.range 32).foldl (fun s n => s.fnCycle n tests) s.cycleBegun.polBegin).safeOutputs := by
  have goes : ¬ (!true || s.cycleBegun.switchFault) = true := by simp [switches]
  rw [State.safetyCycle_due runs clear due, if_neg goes]

/-- A disagreement locks the domain out (R421). -/
theorem State.safetyCycle_disagrees : s.safetyCycle false tests = s.cycleBegun.lockout := by
  rw [State.safetyCycle_due runs clear due]
  exact if_pos rfl

/-- A switch read differently for too long locks the domain out (R423). -/
theorem State.safetyCycle_switches (switches : s.cycleBegun.switchFault = true) : s.safetyCycle true tests = s.cycleBegun.lockout := by
  rw [State.safetyCycle_due runs clear due, switches]
  exact if_pos rfl

end

/-! Seal switches -/

section
variable {addr : Nat} {edit : Bool} (runs : s.safeRuns = true) (alike : s.safe.disAt = none) (byte : addr < 256)
include runs alike byte

/-- A switch whose readings agree with what stands (R423). -/
theorem State.sealChange_same (here : s.safe.swAddr = addr) (edits : s.safe.edit = edit) : s.sealChange addr edit addr edit = s := by
  have safety : s.variant.safety = true := by
    simp only [State.safeRuns, Bool.and_eq_true] at runs
    exact runs.1.1
  have value : addr % 256 = addr := Nat.mod_eq_of_lt byte
  have stands : ({ s with safe := { s.safe with swAddr := addr, edit := edit, disAt := none } } : State) = s := by
    rw [← here, ← edits, ← alike]
  simp only [State.sealChange, safety, State.switchFault, alike, value, here, edits, Bool.not_true, Bool.and_false, Bool.false_eq_true, if_false, bne_self_eq_false,
    Bool.or_false, ne_eq, not_true_eq_false, decide_false, Bool.false_and, stands]

/-- A move of a switch is shown and recorded (R423). -/
theorem State.sealChange_moved (moved : s.safe.swAddr ≠ addr ∨ s.safe.edit ≠ edit) :
    s.sealChange addr edit addr edit = (({ s with safe := { s.safe with swAddr := addr, edit := edit } } : State).irq .safe 0 4).recordGen 0x0C .safe 0 Off.SAFE_STAT
      (w32 (b2n edit + 256 * addr)) := by
  have safety : s.variant.safety = true := by
    simp only [State.safeRuns, Bool.and_eq_true] at runs
    exact runs.1.1
  have value : addr % 256 = addr := Nat.mod_eq_of_lt byte
  have stands : ({ s with safe := { s.safe with swAddr := addr, edit := edit, disAt := none } } : State) =
      { s with safe := { s.safe with swAddr := addr, edit := edit } } := by rw [← alike]
  have still : ({ s with safe := { s.safe with swAddr := addr, edit := edit } } : State).safeRuns = true := runs
  have moves : (decide ¬ s.safe.swAddr = addr || s.safe.edit != edit) = true := by simpa using moved
  simp only [State.sealChange, safety, State.switchFault, alike, value, Bool.not_true, Bool.and_false, Bool.false_eq_true, if_false, bne_self_eq_false,
    Bool.or_false, ne_eq, not_true_eq_false, decide_false, stands, moves, still, Bool.and_self, if_true]

/-- A switch read differently is noted (R423). -/
theorem State.sealChange_differs {other : Nat} (differ : other ≠ addr) (here : s.safe.swAddr = addr) (edits : s.safe.edit = edit) :
    s.sealChange addr edit other edit = { s with safe := { s.safe with disAt := some s.now } } := by
  have safety : s.variant.safety = true := by
    simp only [State.safeRuns, Bool.and_eq_true] at runs
    exact runs.1.1
  have value : addr % 256 = addr := Nat.mod_eq_of_lt byte
  have differs : (decide ¬ addr = other) = true := decide_eq_true fun same => differ same.symm
  have stands : ({ s with safe := { s.safe with swAddr := addr, edit := edit, disAt := some s.now } } : State) =
      { s with safe := { s.safe with disAt := some s.now } } := by rw [← here, ← edits]
  simp only [State.sealChange, safety, State.switchFault, alike, value, here, edits, Bool.not_true, Bool.and_false, Bool.false_eq_true, if_false, bne_self_eq_false,
    Bool.or_false, ne_eq, differs, not_true_eq_false, decide_false, Bool.false_and, if_true, Option.getD_none, stands]

end

/-! The off pulse -/

theorem modAt_getD_ne {α : Type} (l : List α) {n m : Nat} (f : α → α) (d : α) (h : m ≠ n) : (modAt l n f).getD m d = l.getD m d := by
  induction l generalizing n m with
  | nil => rfl
  | cons x xs ih =>
    cases n with
    | zero =>
      cases m with
      | zero => exact absurd rfl h
      | succ m => rfl
    | succ n =>
      cases m with
      | zero => rfl
      | succ m => exact ih fun same => h (congrArg Nat.succ same)

/-- A safety output of function `n` did not follow its off pulse (R434). -/
def State.pulseMissed (s : State) (failed : List Nat) (n : Nat) : Bool :=
  match s.fnCfg n with
  | some c => (fnOuts c).any fun k => failed.contains k && s.safe.sdo.contains k
  | none => false

/-- The functions after the off pulse of those in `l`. -/
def pulsedFns (hit : Nat → Bool) (l : List Nat) (fns : List Fn) : List Fn :=
  l.foldl (fun fns n => if hit n then modAt fns n fun f => { f with rbFault := true } else fns) fns

theorem pulsedFns_getD (hit : Nat → Bool) (l : List Nat) (fns : List Fn) (inside : ∀ n ∈ l, n < fns.length) (n : Nat) :
    (pulsedFns hit l fns).getD n {} = if n ∈ l ∧ hit n = true then { fns.getD n {} with rbFault := true } else fns.getD n {} := by
  induction l generalizing fns with
  | nil => simp [pulsedFns]
  | cons k ks ih =>
    have step : pulsedFns hit (k :: ks) fns = pulsedFns hit ks (if hit k then modAt fns k fun f => { f with rbFault := true } else fns) := rfl
    have rest : ∀ j ∈ ks, j < fns.length := fun j member => inside j (List.mem_cons_of_mem _ member)
    rw [step]
    by_cases hits : hit k = true
    · rw [if_pos hits, ih _ (by rw [modAt_length]; exact rest)]
      by_cases same : n = k
      · subst same
        rw [modAt_getD _ _ _ _ (inside n (List.mem_cons_self ..))]
        simp [hits]
      · rw [modAt_getD_ne _ _ _ same]
        simp [same]
    · rw [if_neg hits, ih _ rest]
      by_cases same : n = k
      · subst same
        simp [hits]
      · simp [same]

/-- The pulse leaves everything but the functions as it was (R434). -/
theorem State.sdoOffPulse_fns {failed : List Nat} (runs : s.safeRuns = true) :
    s.sdoOffPulse failed = { s with safe := { s.safe with fns := pulsedFns (s.pulseMissed failed) (List.range 32) s.safe.fns } } := by
  have each (l : List Nat) : ∀ u : State, u = { s with safe := { s.safe with fns := u.safe.fns } } →
      l.foldl (fun (u : State) n => match u.fnCfg n with
        | some c => if (fnOuts c).any fun k => failed.contains k && u.safe.sdo.contains k then u.updFn n fun f => { f with rbFault := true } else u
        | none => u) u = { s with safe := { s.safe with fns := pulsedFns (s.pulseMissed failed) l u.safe.fns } } := by
    induction l with
    | nil => exact fun u kept => kept
    | cons n ns ih =>
      intro u kept
      have cfg : u.fnCfg n = s.fnCfg n := by rw [kept]; rfl
      have sdo : u.safe.sdo = s.safe.sdo := by rw [kept]
      have missed : s.pulseMissed failed n = match s.fnCfg n with
        | some c => (fnOuts c).any fun k => failed.contains k && s.safe.sdo.contains k
        | none => false := rfl
      rw [List.foldl_cons, cfg, sdo]
      have goes : pulsedFns (s.pulseMissed failed) (n :: ns) u.safe.fns =
        pulsedFns (s.pulseMissed failed) ns (if s.pulseMissed failed n then modAt u.safe.fns n fun f => { f with rbFault := true } else u.safe.fns) := rfl
      rw [goes, missed]
      cases s.fnCfg n with
      | none => exact ih u kept
      | some c =>
        dsimp only
        split
        · exact ih _ (by rw [kept]; rfl)
        · exact ih u kept
  rw [State.sdoOffPulse, runs]
  exact each (List.range 32) s rfl

end

/-- Settles O49. -/
theorem safetyCyclesRun : Obligations.SafetyCyclesRun := by
  intro s t b
  refine ⟨fun tests runs clear due => ?_, fun addr edit runs alike byte => ?_, fun failed runs length => ?_⟩
  · intro c
    exact ⟨fun switches => next_settled (State.safetyCycle_agrees runs clear due switches), next_settled (State.safetyCycle_disagrees runs clear due),
      fun switches => next_settled (State.safetyCycle_switches runs clear due switches)⟩
  · intro c
    exact ⟨fun ⟨here, edits⟩ => next_settled (State.sealChange_same runs alike byte here edits),
      fun moved => next_settled (State.sealChange_moved runs alike byte moved),
      fun other differ here edits => next_settled (State.sealChange_differs runs alike byte differ here edits)⟩
  · intro hit
    refine ⟨_, next_settled (State.sdoOffPulse_fns runs), rfl, fun n inside => ?_⟩
    have fns := pulsedFns_getD (b.pulseMissed failed) (List.range 32) b.safe.fns (by rw [length]; exact fun n member => List.mem_range.mp member) n
    simp only [List.mem_range, inside, true_and] at fns
    exact fns

end Sys2Proof.Machine
end

section
/-!
SUPPORT. A safety function in its cycle (R427–R431).
-/
namespace Sys2Proof.Machine

section
variable (s : State) (n : Nat) (tests : List SdiTest) (c : FnCfg)

/-- What a function's cycle goes by: its inputs and its reset input, read (R428, R430). -/
def State.fnRead : Bool × Fn := s.fnPress c (s.fnInputs c (s.fn n) tests)

/-- The function as its cycle finds it, with the reset request taken. -/
def State.fnSeen : Fn := { (s.fnRead n tests c).2 with request := false }

/-- The reset input or a reset command asks for a reset (R430, R449). -/
def State.fnResets : Bool := (s.fnRead n tests c).1 || (s.fnRead n tests c).2.request

/-- The function stands as `g`. -/
def State.putFn (g : Fn) : State := s.updFn n fun _ => g

/-- A function switches its outputs off (R429). -/
def State.fnOff (g : Fn) : Fn := { g with on := false, fbAt := if g.on then some (s.now + ms) else g.fbAt }

/-- A function runs (R430). -/
def State.fnRun (f : Fn) : Fn := { f with st := .run, on := true, runAt := s.now, fbAt := some (s.now + ms), blocked := false }

/-- AUTO_START without MANUAL_RESET (R430). -/
def fnAuto (c : FnCfg) : Bool := (fnFlags c).testBit 2 && !(fnFlags c).testBit 0

/-- The cause of a trip by a demand (R429). -/
def State.demandCause : Nat := if s.polDead c.inA || s.polDead c.inB then 2 else 1

end

section
variable {s : State} {n : Nat} {tests : List SdiTest} {c : FnCfg} (cfg : s.fnCfg n = some c)
include cfg

/-- An unconfirmed function stays off in SAFE (R427). -/
theorem State.fnCycle_unconfirmed (open_ : s.safe.confirmed = false) :
    s.fnCycle n tests = s.putFn n { s.fnSeen n tests c with st := .safe, on := false } := by
  simp only [State.fnCycle, cfg, open_, Bool.not_false, if_true]
  rfl

section
variable (confirmed : s.safe.confirmed = true)
include confirmed

/-- A fault locks the function, and trips it where it runs (R429). -/
theorem State.fnCycle_faults (fault : s.fnFault c (s.fnSeen n tests c) ≠ 0) (free : (s.fnSeen n tests c).st ≠ .locked) :
    let u := (s.putFn n (s.fnOff { s.fnSeen n tests c with st := .locked, cause := s.fnFault c (s.fnSeen n tests c) })).irq .safe 0 3
    s.fnCycle n tests = if (s.fnSeen n tests c).st == .run || (s.fnSeen n tests c).st == .stopping then u.trip n c (s.fnFault c (s.fnSeen n tests c)) else u := by
  have goes : (decide (s.fnFault c (s.fnSeen n tests c) ≠ 0) && (s.fnSeen n tests c).st != .locked) = true := by simp [fault, free]
  simp only [State.fnCycle, cfg, confirmed, Bool.not_true, Bool.false_eq_true, if_false]
  exact if_pos goes

/-- Without a fault the function's state decides (R429, R430). -/
theorem State.fnCycle_moves (fault : s.fnFault c (s.fnSeen n tests c) = 0) :
    let f := s.fnSeen n tests c
    let reset := s.fnResets n tests c
    s.fnCycle n tests = match f.st with
      | .off => s.putFn n { f with st := .safe }
      | .safe => s.putFn n (if f.demand then f else if fnAuto c then s.fnRun f else { f with st := .ready })
      | .locked => s.putFn n (if s.fnFault c f = 0 && reset then { f with st := .safe } else f)
      | .ready => if f.demand then s.putFn n { f with st := .safe }
        else if reset then
          if c.inFb == .none || f.fb then s.putFn n { s.fnRun f with tripped := false } else s.putFn n { f with blocked := true }
        else if fnAuto c then s.putFn n (s.fnRun f)
        else s.putFn n f
      | .run => if !f.demand then s.putFn n f
        else if (fnFlags c).testBit 5 then s.putFn n { f with st := .stopping, stopAt := s.now, stopWhy := s.demandCause c }
        else (s.putFn n (s.fnOff { f with st := .safe })).trip n c (s.demandCause c)
      | .stopping => if s.now ≥ f.stopAt + c.stopMs * ms then (s.putFn n (s.fnOff { f with st := .safe })).trip n c f.stopWhy else s.putFn n f := by
  have goes : ¬ (decide (s.fnFault c (s.fnSeen n tests c) ≠ 0) && (s.fnSeen n tests c).st != .locked) = true := by simp [fault]
  simp only [State.fnCycle, cfg, confirmed, Bool.not_true, Bool.false_eq_true, if_false]
  exact if_neg goes

end
end

/-- Settles O50. -/
theorem safetyFunctionsMove : Obligations.SafetyFunctionsMove := by
  intro s n tests c cfg r f reset fault put off auto run why
  refine ⟨fun open_ => State.fnCycle_unconfirmed cfg open_, fun confirmed => ⟨fun faulty live => ?_, fun faulty safe => ?_, fun clear => ?_⟩⟩
  · have free : f.st ≠ .locked := by rcases live with st | st <;> rw [st] <;> decide
    have goes : (f.st == .run || f.st == .stopping) = true := by rcases live with st | st <;> rw [st] <;> rfl
    exact (State.fnCycle_faults cfg confirmed faulty free).trans (if_pos goes)
  · have free : f.st ≠ .locked := by rw [safe]; decide
    have goes : ¬ (f.st == .run || f.st == .stopping) = true := by rw [safe]; decide
    exact (State.fnCycle_faults cfg confirmed faulty free).trans (if_neg goes)
  · have moves := State.fnCycle_moves cfg confirmed clear
    have seen : s.fnSeen n tests c = f := rfl
    dsimp only at moves
    refine ⟨fun st calm manual => ?_, fun st calm starts => ?_, fun st resets => ?_, fun st demands => ?_, fun st calm resets shown => ?_,
      fun st calm resets reads shown => ?_, fun st calm => ?_, fun st demands now_ => ?_, fun st demands delays => ?_, fun st past => ?_, fun st early => ?_⟩ <;>
      rw [seen, st] at moves <;> refine moves.trans ?_ <;> dsimp only
    · exact congrArg put ((if_neg (Bool.eq_false_iff.mp calm)).trans (if_neg (Bool.eq_false_iff.mp manual)))
    · exact congrArg put ((if_neg (Bool.eq_false_iff.mp calm)).trans (if_pos starts))
    · have goes : (decide (s.fnFault c f = 0) && reset) = true := by rw [show s.fnFault c f = 0 from clear, resets]; rfl
      exact congrArg put (if_pos goes)
    · exact if_pos demands
    · have fed : (c.inFb == .none || f.fb) = true := by simpa using shown
      exact (if_neg (Bool.eq_false_iff.mp calm)).trans ((if_pos resets).trans (if_pos fed))
    · have fed : (c.inFb == .none || f.fb) = false := by rw [beq_false_of_ne reads, shown]; rfl
      have stands : ({ f with st := .ready, blocked := true } : Fn) = { f with blocked := true } := by rw [← st]
      exact (if_neg (Bool.eq_false_iff.mp calm)).trans ((if_pos resets).trans ((if_neg (Bool.eq_false_iff.mp fed)).trans (congrArg put stands)))
    · exact if_pos (by rw [calm]; rfl)
    · exact (if_neg (by rw [demands]; decide)).trans (if_neg (Bool.eq_false_iff.mp now_))
    · exact (if_neg (by rw [demands]; decide)).trans (if_pos delays)
    · exact if_pos past
    · exact if_neg (Nat.not_le.mpr early)

end Sys2Proof.Machine
end

section
/-!
SUPPORT. Polien's receiver rules and FAILSAFE (R441–R443).
-/
namespace Sys2Proof.Machine

section
variable {s : State} {k : Nat} {c : PolCfg} {bs : List Byte}

/-- The oldest telegram, where one connection can take it, is that connection's (R441). -/
theorem State.polRx_one {rest : List (List Nat × List Byte)} (runs : s.safeRuns = true) (clear : s.safe.lockout = false) (inbox : s.safe.inbox = ([k], bs) :: rest) :
    s.polRx = ({ s with safe := { s.safe with inbox := rest } } : State).polReceive k bs := by
  have goes : ¬ (!s.safeRuns || s.safe.lockout) = true := by simp [runs, clear]
  have one : (([k].find? fun j => ({ s with safe := { s.safe with inbox := rest } } : State).polVerifies j bs).getD ([k].headD 0)) = k := by
    rw [List.find?_cons]
    split <;> rfl
  have begins : s.polRx = if !s.safeRuns || s.safe.lockout then ({ s with safe := { s.safe with inbox := rest } } : State)
      else ({ s with safe := { s.safe with inbox := rest } } : State).polReceive
        (([k].find? fun j => ({ s with safe := { s.safe with inbox := rest } } : State).polVerifies j bs).getD ([k].headD 0)) bs := by
    rw [State.polRx, inbox]
    rfl
  rw [begins, if_neg goes, one]

section
variable (cfg : s.polCfg k = some c)
include cfg

/-- A telegram whose CHECK does not hold (R441). -/
theorem State.polReceive_check (bad : s.polVerifies k bs = false) : s.polReceive k bs = (s.satf .pol 0 (0x118 + 0x20 * k) 16 16).polFail k 1 := by
  simp only [State.polReceive, cfg, bad, Bool.not_false, if_true]

/-- A telegram of another version or length (R441). -/
theorem State.polReceive_form (check : s.polVerifies k bs = true) (bad : leAt bs 0 1 % 16 ≠ 1 ∨ leAt bs 1 1 ≠ c.lenRx) : s.polReceive k bs = s.polFail k 2 := by
  simp only [State.polReceive, cfg, check, Bool.not_true, Bool.false_eq_true, if_false, if_pos bad]

section
variable (check : s.polVerifies k bs = true) (version : leAt bs 0 1 % 16 = 1) (length : leAt bs 1 1 = c.lenRx) (start : (leAt bs 0 1).testBit 4 = false)
  (echo : (leAt bs 0 1).testBit 5 = false)
include check version length start echo

/-- A telegram that passes the checks before its number's (R441). -/
theorem State.polReceive_numbered {s0 : Nat} (last : (s.pol k).s = some s0) :
    s.polReceive k bs = if (leAt bs 2 2 + 65536 - s0) % 65536 = 0 ∨ 256 < (leAt bs 2 2 + 65536 - s0) % 65536 then s.satf .pol 0 (0x11C + 0x20 * k) 0 16
      else s.polAccept k c bs true := by
  have form : ¬ (1 ≠ 1 ∨ c.lenRx ≠ c.lenRx) := by simp
  simp only [State.polReceive, cfg, check, version, length, start, echo, last, Bool.not_true, Bool.false_eq_true, if_false, if_neg form, false_and]

omit cfg check version length start in
/-- An accepted telegram without an echo moves S on and brings its payload where the connection runs (R441, R443). -/
theorem State.polAccept_running (st : (s.pol k).st = .running) (inside : k < s.safe.conns.length) :
    s.polAccept k c bs true = s.updPol k fun p => { p with s := some (leAt bs 2 2), rxNext := some (sliceB bs 6 c.lenRx) } := by
  have moved : (s.updPol k fun p => { p with s := some (leAt bs 2 2) }).pol k = { s.pol k with s := some (leAt bs 2 2) } := modAt_getD _ _ _ _ inside
  have running : (((s.updPol k fun p => { p with s := some (leAt bs 2 2) }).pol k).st == .running) = true := by rw [moved, st]; rfl
  have both : (s.updPol k fun p => { p with s := some (leAt bs 2 2) }).updPol k (fun p => { p with rxNext := some (sliceB bs 6 c.lenRx) }) =
      s.updPol k fun p => { p with s := some (leAt bs 2 2), rxNext := some (sliceB bs 6 c.lenRx) } := by
    simp only [State.updPol, modAt_modAt]
  simp only [State.polAccept, echo, Bool.false_eq_true, if_false, running, Bool.true_or, Bool.and_self, if_true, both]

end

/-- FAILSAFE ends after WD_MS (R443). -/
theorem State.polFailEnd_ends (st : (s.pol k).st = .failsafe) (past : (s.pol k).failAt + c.wdMs * ms ≤ s.now) :
    s.polFailEnd k = s.updPol k fun p => { p with st := if s.polServes c && !s.safe.lockout then .starting else .closed, rxNow := [], rxNext := none } := by
  have due : (PolSt.failsafe == PolSt.failsafe && decide (s.now ≥ (s.pol k).failAt + c.wdMs * ms)) = true := by simp [past]
  simp only [State.polFailEnd, cfg, st, due, if_true]

end

/-- A running or starting connection fails with its cause, counted and recorded (R441). -/
theorem State.polFail_live {cause : Nat} (live : (s.pol k).st = .running ∨ (s.pol k).st = .starting) : s.polFail k cause =
    ((((s.updPol k fun p => { p with st := .failsafe, cause := cause, failAt := s.now }).satf .pol 0 (0x118 + 0x20 * k) 0 16).irq .pol 0 1).record 0x0C03 (w32 k)
      (w32 cause) 0) := by
  have goes : ((s.pol k).st == .running || (s.pol k).st == .starting) = true := by rcases live with st | st <;> rw [st] <;> rfl
  rw [State.polFail]
  exact if_pos goes

end

/-- Settles O51. -/
theorem polienActs : Obligations.PolienActs := by
  intro s t k c b cfg
  refine ⟨fun bs rest runs clear inbox => ?_, fun cause live => State.polFail_live live, fun st past => next_settled (State.polFailEnd_ends cfg st past)⟩
  intro u hdr seq good
  have rx := State.polRx_one runs clear inbox
  refine ⟨fun bad => next_settled (rx.trans (State.polReceive_check cfg bad)), fun check bad => next_settled (rx.trans (State.polReceive_form cfg check bad)), ?_, ?_⟩
  · intro ⟨check, version, length, start, echo⟩ s0 last late
    exact next_settled (rx.trans ((State.polReceive_numbered (s := u) cfg check version length start echo last).trans (if_pos late)))
  · intro ⟨check, version, length, start, echo⟩ s0 last new near st inside
    refine next_settled (rx.trans ((State.polReceive_numbered (s := u) cfg check version length start echo last).trans ((if_neg (not_or.mpr ⟨new, Nat.not_lt.mpr near⟩)).trans ?_)))
    exact State.polAccept_running (s := u) echo st inside

end Sys2Proof.Machine
end

section
/-!
SUPPORT. The PL1 link (R458, R459, R467).
-/
namespace Sys2Proof.Machine

section
variable {s : State}

/-! Its start and its loss -/

section
variable {id : List Word} {sigOk : Bool} (pair : s.variant.pair = true) (cmp : s.md.pstate.cmp = true)
include pair cmp

theorem State.linkStart_goes : ¬ (!s.variant.pair || !s.md.pstate.cmp) = true := by simp [pair, cmp]

/-- The bound partner begins a session (R458, R459). -/
theorem State.linkStart_bound (same : id = (List.range 4).map fun k => (s.pl1Chg true).rdp .pair 0 (Off.PAIR_PEER_ID0 + 4 * k)) (sig : sigOk = true) :
    s.linkStart id sigOk = (s.pl1Chg true).sessionUp := by
  have bound : (id == ((List.range 4).map fun k => (s.pl1Chg true).rdp .pair 0 (Off.PAIR_PEER_ID0 + 4 * k)) && sigOk) = true := by
    rw [← same, sig, beq_self_eq_true]
    rfl
  rw [State.linkStart, if_neg (State.linkStart_goes pair cmp)]
  exact if_pos bound

/-- Another partner is refused with a record (R458). -/
theorem State.linkStart_refused (other : id ≠ ((List.range 4).map fun k => (s.pl1Chg true).rdp .pair 0 (Off.PAIR_PEER_ID0 + 4 * k)) ∨ sigOk = false) :
    s.linkStart id sigOk = (((s.pl1Chg true).updPair fun p => { p with session := false }).record 0x0D03 (id.getD 0 0)
      (((List.range 4).map fun k => (s.pl1Chg true).rdp .pair 0 (Off.PAIR_PEER_ID0 + 4 * k)).getD 0 0)
      (if id == (List.range 4).map fun k => (s.pl1Chg true).rdp .pair 0 (Off.PAIR_PEER_ID0 + 4 * k) then 2 else 1)) := by
  have bound : ¬ (id == ((List.range 4).map fun k => (s.pl1Chg true).rdp .pair 0 (Off.PAIR_PEER_ID0 + 4 * k)) && sigOk) = true := by
    rcases other with differs | bad
    · rw [beq_false_of_ne differs]
      exact Bool.false_ne_true
    · rw [bad, Bool.and_false]
      exact Bool.false_ne_true
  rw [State.linkStart, if_neg (State.linkStart_goes pair cmp)]
  exact if_neg bound

end

/-- Without a valid frame for 2 ms the link is lost (R459). -/
theorem State.linkDown_silent (up : s.pair.pl1Up = true) (silent : ∀ u : Nat, s.pair.lastRx = some u → u + 2 * ms ≤ s.now) :
    s.linkDown = s.linkLost.ackAllApplied := by
  rw [State.linkDown, up]
  cases last : s.pair.lastRx with
  | none => rfl
  | some u => exact if_pos (by simpa using silent u last)

/-! Frames of its own -/

/-- Frames sent again go out in their order. -/
theorem State.emit_again (l : List (Nat × Pl1Out × Nat)) (s : State) :
    l.foldl (fun s (x : Nat × Pl1Out × Nat) => s.emit (.pl1 x.1 s.pair.rxSeq x.2.1)) s = { s with out := s.out ++ l.map fun x => .pl1 x.1 s.pair.rxSeq x.2.1 } := by
  induction l generalizing s with
  | nil => rw [List.foldl_nil, List.map_nil, List.append_nil]
  | cons x xs ih =>
    rw [List.foldl_cons, ih]
    simp only [State.emit, List.append_assoc, List.singleton_append, List.map_cons]

/-- Frames unacknowledged for 200 µs are sent again (R459). -/
theorem State.pl1Retransmit_due {q u : Nat} {f : Pl1Out} {rest : List (Nat × Pl1Out × Nat)} (waits : s.pair.unacked = (q, f, u) :: rest)
    (past : max u (s.pair.resentAt.getD 0) + 200 * us ≤ s.now) :
    s.pl1Retransmit = { s with
      out := s.out ++ s.pair.unacked.map fun x => .pl1 x.1 s.pair.rxSeq x.2.1
      pair := { s.pair with resentAt := some s.now } } := by
  have again : s.pl1Retransmit = if s.now < max u (s.pair.resentAt.getD 0) + 200 * us then s
      else (s.pair.unacked.foldl (fun s (x : Nat × Pl1Out × Nat) => s.emit (.pl1 x.1 s.pair.rxSeq x.2.1)) s).updPair fun p => { p with resentAt := some s.now } := by
    rw [State.emit_again]
    simp only [State.pl1Retransmit, waits, State.emit_again]
  rw [again, if_neg (Nat.not_lt.mpr past), State.emit_again]
  rfl

/-- A HEARTBEAT goes out each 250 µs (R459). -/
theorem State.heartbeatTx_due (session : s.pair.session = true) (due : ∀ u : Nat, s.pair.hbAt = some u → u + 250 * us ≤ s.now) :
    s.heartbeatTx = (s.updPair fun p => { p with hbAt := some s.now }).pl1Send (.heartbeat (s.slv.origin.map (s.now - ·)) s.pair.token s.md.mode.code) := by
  rw [State.heartbeatTx, session]
  cases last : s.pair.hbAt with
  | none => rfl
  | some u => exact if_pos (by simpa using due u last)

end

/-- Settles O54. -/
theorem pl1LinkActs : Obligations.Pl1LinkActs := by
  intro s t b
  refine ⟨fun id sigOk pair cmp => ?_, fun up silent => next_settled (congrArg State.runAllHeld (State.linkDown_silent up silent)),
    fun q u f rest waits past => next_settled (State.pl1Retransmit_due waits past), fun session due => next_settled (State.heartbeatTx_due session due)⟩
  intro c bound
  exact ⟨fun same sig => next_settled (State.linkStart_bound pair cmp same sig), fun other => next_settled (State.linkStart_refused pair cmp other)⟩

end Sys2Proof.Machine
end

section
/-!
SUPPORT. Frames of the PL1 link that are accepted (R459), and what the STANDBY makes of them (R107, R109, R446, R460–R463).
-/
namespace Sys2Proof.Machine

/-! Acceptance -/

/-- A session that has taken the frame after header `h` (R459). -/
def State.pl1Taken (s : State) (h : Pl1Hdr) : State :=
  ((s.updPair fun p => { p with lastRx := some s.now }).mirrorTime (s.pair.unacked.filter fun x => pl1Acked h.ack x.1)).updPair fun p =>
    { p with rxSeq := h.seq, unacked := p.unacked.filter fun x => !pl1Acked h.ack x.1 }

theorem State.mirrorTime_logs (l : List (Nat × Pl1Out × Nat)) (s : State) : s.Logs (s.mirrorTime l) := by
  induction l generalizing s with
  | nil => exact .refl s
  | cons x xs ih =>
    rw [State.mirrorTime, List.foldl_cons]
    refine State.Logs.trans ?_ (ih _)
    split
    · exact State.wrp_logs ..
    · exact .refl s

section
variable {s : State} {h : Pl1Hdr}

theorem State.pl1Taken_md : (s.pl1Taken h).md = s.md :=
  (State.mirrorTime_logs (s.pair.unacked.filter fun x => pl1Acked h.ack x.1) (s.updPair fun p => { p with lastRx := some s.now })).md

theorem State.pl1Taken_isActive : (s.pl1Taken h).isActive = s.isActive :=
  (State.mirrorTime_logs (s.pair.unacked.filter fun x => pl1Acked h.ack x.1) (s.updPair fun p => { p with lastRx := some s.now })).isActive

section
variable (session : s.pair.session = true) (cmp : s.md.pstate.cmp = true) (seq : h.seq = pl1Next s.pair.rxSeq)
include session cmp seq

/-- The next frame of the session has its effect (R459). -/
theorem State.pl1Do_next {f : State → State} : s.pl1Do h f = (f (s.pl1Taken h)).ackAllApplied := by
  have goes : ¬ (!s.pair.session || !s.md.pstate.cmp) = true := by simp [session, cmp]
  have accepts : s.pl1Rx h = some (s.pl1Taken h) := by
    rw [State.pl1Rx, if_neg goes]
    exact if_neg (not_not_intro seq)
  rw [State.pl1Do, accepts]

/-- A frame of the partner that is next in its session. -/
theorem next_frame {t : Nat} {r u : State} {f : State → State} (here : r.begin t = s) (act : f (s.pl1Taken h) = u) :
    occurs t (fun s => s.pl1Do h f) r = .next (r.settled u.ackAllApplied) := by
  subst here
  exact next_settled ((State.pl1Do_next session cmp seq).trans (congrArg State.ackAllApplied act))

end

/-- Any other frame leaves no more than the time at which it came (R459). -/
theorem State.pl1Do_other (_session : s.pair.session = true) (seq : h.seq ≠ pl1Next s.pair.rxSeq) (up : s.pair.pl1Up = true) (f : State → State) :
    s.pl1Do h f = s.updPair fun p => { p with lastRx := some s.now } := by
  have drops : s.pl1Rx h = none := by
    rw [State.pl1Rx]
    split
    · rfl
    · exact if_pos seq
  rw [State.pl1Do, drops]
  exact if_pos up

end

/-! The STANDBY -/

section
variable {s : State} (shadow : s.md.mode = .standby)
include shadow

theorem State.standby_goes : (s.md.mode != .standby) = false := by rw [shadow]; rfl

/-- Mirrored slices are loaded with their age at the engine's latch (R460). -/
theorem State.inputs_slices {e : Eng} {slcs : List (Nat × Word64 × Qual × Nat)} :
    let at_ := s.inputsAt e
    let c := slcs.foldl (fun s (x : Nat × Word64 × Qual × Nat) => (s.loadInput x.1 x.2.1 (s.slc x.1).raw x.2.2.1 0).updSlc x.1
      fun y => { y with at_ := if x.2.2.2 ≤ at_ then some (at_ - x.2.2.2) else none }) s
    s.inputs e slcs [] = c.updPair fun p => { p with arrived := (p.arrived.erase e) ++ [e] } := by
  intro at_ c
  rw [State.inputs, State.standby_goes shadow]
  rfl

/-- A mirrored set of a station (R460). -/
theorem State.dataset_took {st ver useq : Nat} {time : Time64} {es : List PtEntry} {up : Bool} {x : Stn} (known : s.stn? st = some x) :
    s.dataset st ver time es up useq = (((s.newVersion st (if up then applyEntries s.now time x.pts es
        else x.pts.map fun p => { p with qual := .bad, reason := .stationDown, at_ := s.now })).updStn st fun x => { x with
          ver := ver, useq := useq, st := if up then .up else if x.st == .up then .down else x.st
          dtls := if up then x.dtls.map fun d => { d with helloOk := true } else none }).updPair fun p =>
      { p with arrived := (p.arrived.erase (.ingest st)) ++ [.ingest st] }) := by
  simp only [State.dataset, State.standby_goes shadow, Bool.false_eq_true, if_false, known]

/-- A mirrored host write acts as on the ACTIVE, and is acknowledged (R109). -/
theorem State.hostIn_acts {seq : Nat} {w : HostWrite} :
    let x : Session := { slot := 8 + w.slot % 8, id := 0, port := .e3, ready := true, cred := 0, want := w.priv, priv := w.priv, rx := 0, tx := 0
                         last := s.now, lastLo := w.lastLo, stage := w.stage, sdSel := w.sdSel }
    let c := ({ s with host := { s.host with sessions := s.host.sessions ++ [x] } } : State).asPeer x.slot fun s => s.applyWords x.slot w.addr w.vals
    c.md.mode ≠ .safeHold →
    s.hostIn seq w = ({ c with host := { c.host with sessions := c.host.sessions.filter fun x => x.slot < 8 } } : State).pl1Send (.wack seq) := by
  intro x c own
  have free : ¬ (c.md.mode == .safeHold && (c.host.sessions.filter fun x => x.slot < 8).isEmpty && c.md.idleFrom.isNone) = true := by
    rw [beq_false_of_ne own, Bool.false_and, Bool.false_and]
    exact Bool.false_ne_true
  rw [State.hostIn, State.standby_goes shadow, if_neg Bool.false_ne_true]
  exact congrArg (State.pl1Send · (.wack seq)) (if_neg free)

/-- A COMMIT of an engine whose shadow epoch ran is compared (R461). -/
theorem State.commitRx_compares {e : Eng} {digest : Word64} {glitch explained : Bool} {masks : Nat} (ran : s.pair.ran.contains e = true) :
    let c := s.updPair fun p => { p with masks := masks, whole := some s.now, ran := p.ran.erase e }
    let own := Config.outDigest (s.engState e)
    s.commitRx e digest glitch explained none [] masks = c.compared e (outcome (own == digest) glitch explained) own digest := by
  intro c own
  rw [State.commitRx, State.standby_goes shadow, if_neg Bool.false_ne_true]
  exact if_pos ran

theorem State.resultRx_adopts {n : Nat} {x y : List Word64} :
    s.resultRx n x y = s.updSlot n fun z => { z with res := z.res.map fun r => { r with x := x, y := y, hash := solHash r.tags x } } := by
  rw [State.resultRx, State.standby_goes shadow]
  rfl

/-- A proposal of a QUALIFIED STANDBY's partner is agreed to (R467). -/
theorem State.handoverRx_agrees {at_ up : Nat} {drill : Bool} (qualified : s.pair.qualified = true) (ahead : s.now < at_) :
    s.handoverRx at_ false drill up = (s.updPair fun p => { p with ho := some { at_ := at_, agree := true, drill := drill, up := up } }).pl1Send
      (.handover at_ true drill up) := by
  have goes : (s.md.mode == .standby && s.pair.qualified && decide (s.now < at_)) = true := by simp [shadow, qualified, ahead]
  rw [State.handoverRx, if_neg Bool.false_ne_true, if_pos goes]

/-- An engine's state is adopted (R461). -/
theorem State.state_adopted {x : EngState} : (if s.md.mode == .standby then s.adopt x else s) = s.adopt x := if_pos (beq_iff_eq.mpr shadow)

/-! ITERHASH of a slot that has run no cycle (R463) -/

section
variable {n cycle consec : Nat} {hashes : List (List Byte)} {shifted : List Byte} {stale prevOk glitch : Bool} (last : (s.slot n).lastCyc = none)
  (cyc : (s.slot n).cyc = none)
include last cyc

omit shadow in
theorem State.takeNumber_next : s.takeNumber n cycle = s.updSlot n fun z => { z with nextNum := cycle + 1 } := by
  simp only [State.takeNumber, last, cyc, Option.map_none, ite_self]

omit shadow cyc in
theorem State.updSlot_lastCyc : ((s.updSlot n fun z => { z with nextNum := cycle + 1 }).slot n).lastCyc = none := by
  by_cases inside : n < s.slv.slots.length
  · rw [State.updSlot_slot _ _ _ inside]
    exact last
  · have default_ : (s.updSlot n fun z => { z with nextNum := cycle + 1 }).slot n = {} :=
      getD_outside (by rw [State.updSlot]; exact (modAt_length _ _ _).symm ▸ Nat.le_of_not_lt inside)
    rw [default_]

/-- The slot's next cycle takes the number after the ACTIVE's (R233, R463). -/
theorem State.iterhash_next : s.iterhash n cycle hashes none shifted consec stale prevOk glitch =
    s.updSlot n fun z => { z with nextNum := cycle + 1, consec := consec, stale := stale, prevOk := prevOk } := by
  have none_ := State.updSlot_lastCyc (cycle := cycle) last
  have number := State.takeNumber_next (cycle := cycle) last cyc
  have both : (s.updSlot n fun z => { z with nextNum := cycle + 1 }).updSlot n (fun z => { z with consec := consec, stale := stale, prevOk := prevOk }) =
      s.updSlot n fun z => { z with nextNum := cycle + 1, consec := consec, stale := stale, prevOk := prevOk } := State.updSlot_updSlot ..
  rw [State.iterhash, State.standby_goes shadow, if_neg Bool.false_ne_true]
  simp only [number, none_, Bool.false_eq_true, if_false, both]

end
end

/-! Blocks (R107, R160, R518) -/

section
variable {s : State} {n m : Nat}

omit n m in
/-- A telegram waits for the safety domain (R446). -/
theorem State.polDeliver_waits {k : Nat} {ks : List Nat} {bs : List Byte} (safety : s.variant.safety = true) :
    s.polDeliver (k :: ks) bs = { s with safe := { s.safe with inbox := s.safe.inbox ++ [(k :: ks, bs)] } } := by
  rw [State.polDeliver, safety]
  rfl

theorem State.reserveRx_granted (free : s.pair.token = false) : s.reserveRx .events n m true =
    ({ s with evt := { s.evt with nextBlock := max s.evt.nextBlock m, granted := s.evt.granted ++ [⟨n, m⟩] } } : State).resumeNumbering := by
  rw [State.reserveRx, free]
  rfl

theorem State.reserveRx_reserved : s.reserveRx .events n m false = { s with evt := { s.evt with nextBlock := max s.evt.nextBlock m, peer := ⟨n, m⟩ } } := by
  rw [State.reserveRx]
  exact if_neg Bool.false_ne_true

end

/-! Comparison -/

theorem outcome_match {same glitch explained : Bool} : outcome same glitch explained = .match_ ↔ same = true ∧ glitch = false := by
  cases same <;> cases glitch <;> cases explained <;> decide

theorem outcome_persistent {same glitch explained : Bool} : outcome same glitch explained = .persistent ↔ same = false ∧ explained = false := by
  cases same <;> cases glitch <;> cases explained <;> decide

section
variable {s : State} {e : Eng} {own peer : Word64}

theorem State.compared_match : s.compared e .match_ own peer = (s.modp .pair 0 Off.PAIR_CMP_EPOCHS).pl1Send (.verdict e .match_ false s.pair.qualified) := rfl

theorem State.compared_explained : s.compared e .explained own peer =
    ((s.satp .pair 0 Off.PAIR_MM_EXPL).wrp .pair 0 Off.PAIR_MM_LAST (mmWord e 1)).pl1Send (.verdict e .explained true s.pair.qualified) := rfl

/-- A persistent mismatch begins qualification anew and asks for the state (R461, R462). -/
theorem State.compared_persistent :
    let d := (((s.satf .pair 0 Off.PAIR_MISMATCH 16 16).wrp .pair 0 Off.PAIR_MM_LAST (mmWord e 3)).irq .pair 0 5).record 0x0D02 (mmWord e 3) (lo32 own) (lo32 peer)
    let c := d.updPair fun p => { p with qualFrom := d.now }
    s.compared e .persistent own peer = c.refreshQual.pl1Send (.verdict e .persistent true c.refreshQual.pair.qualified) := rfl

end

/-- Settles O55. -/
theorem standbyTakesFramesAndCompares : Obligations.StandbyTakesFramesAndCompares := by
  refine ⟨fun s t h => ?_, fun s e own peer => ⟨fun glitch explained same => ⟨outcome_match, outcome_persistent⟩, State.compared_match, State.compared_explained,
    State.compared_persistent⟩⟩
  intro b acc done
  refine ⟨fun session cmp seq shadow => ?_, fun session seq up f => State.pl1Do_other session seq up f⟩
  have here : acc.md.mode = .standby := (congrArg (·.mode) (State.pl1Taken_md (s := b) (h := h))).trans shadow
  refine ⟨?_, ?_, ?_, ?_, ?_, ?_, ?_, ?_, ?_, ?_, ?_, ?_⟩
  · exact fun e slcs => next_frame session cmp seq rfl (State.inputs_slices (s := acc) here)
  · intro st ver useq time es x known took
    exact ⟨next_frame session cmp seq rfl (State.dataset_took (s := acc) here known), next_frame session cmp seq rfl (State.dataset_took (s := acc) here known)⟩
  · intro w x c own
    exact next_frame session cmp seq rfl (State.hostIn_acts (s := acc) here own)
  · intro n m st free
    exact ⟨next_frame session cmp seq rfl (State.reserveRx_granted (s := acc) free), next_frame session cmp seq rfl (State.reserveRx_reserved (s := acc)),
      fun g hello key => next_frame session cmp seq rfl rfl, next_frame session cmp seq rfl rfl⟩
  · intro e digest glitch explained masks ran
    exact next_frame session cmp seq rfl (State.commitRx_compares (s := acc) here ran)
  · exact fun n cycle consec hashes shifted stale prevOk glitch last cyc =>
      next_frame session cmp seq rfl (State.iterhash_next (s := acc) here last cyc)
  · exact fun n x y => next_frame session cmp seq rfl (State.resultRx_adopts (s := acc) here)
  · exact fun k ks bs safety => next_frame session cmp seq rfl (State.polDeliver_waits (s := acc) safety)
  · exact fun n l => next_frame session cmp seq rfl (State.state_adopted (s := acc) here)
  · exact fun n k => next_frame session cmp seq rfl (State.state_adopted (s := acc) here)
  · exact fun a => next_frame session cmp seq rfl (State.state_adopted (s := acc) here)
  · exact fun at_ up drill qualified ahead => next_frame session cmp seq rfl (State.handoverRx_agrees (s := acc) here qualified ahead)

end Sys2Proof.Machine
end

section
/-!
SUPPORT. Frames of the PL1 link that both modules or the ACTIVE take (R109, R454, R457, R459, R461, R467, R472, R518).
-/
namespace Sys2Proof.Machine

/-! HELLO (R454, R457, R472) -/

/-- What a HELLO of partner `x` tells: its identity, its mode and its position. -/
def State.told (s : State) (x : Peer) : State := s.updPair fun p => { p with peer := some x, peerMode := x.mode, conflict := x.posB == s.pair.posB }

section
variable {s : State} {x : Peer}

theorem State.posCheck_told : (s.updPair fun p => { p with peer := some x, peerMode := x.mode }).posCheck x =
    if ((x.posB == s.pair.posB && !s.pair.conflict) && s.md.mode != .boot) = true then (s.told x).recordGen 0x0D .pair 0 Off.PAIR_STAT (s.told x).pairStat
    else s.told x := rfl

theorem State.posCheck_apart (apart : x.posB ≠ s.pair.posB) : (s.updPair fun p => { p with peer := some x, peerMode := x.mode }).posCheck x = s.told x :=
  State.posCheck_told.trans (if_neg (by simp [apart]))

theorem State.posCheck_conflict (same : x.posB = s.pair.posB) (new : s.pair.conflict = false) (started : s.md.mode ≠ .boot) :
    (s.updPair fun p => { p with peer := some x, peerMode := x.mode }).posCheck x =
      (s.told x).recordGen 0x0D .pair 0 Off.PAIR_STAT (s.told x).pairStat :=
  State.posCheck_told.trans (if_pos (by simp [same, new, started]))

theorem State.recordGen_isActive {k : Nat} {p : Page} {i o : Nat} {v : Word} : (s.recordGen k p i o v).isActive = s.isActive :=
  (State.record_logs ..).isActive

/-- A module that is not ACTIVE only takes what a HELLO tells. -/
theorem State.hello_told {c : State} (checked : (s.updPair fun p => { p with peer := some x, peerMode := x.mode }).posCheck x = c) (apart : c.isActive = false) :
    s.hello x = c := by
  rw [State.hello, checked, apart]
  exact if_neg Bool.false_ne_true

/-- The ACTIVE grants a STANDBY a block of numbers (R518). -/
theorem State.hello_grants (active : s.isActive = true) (apart : x.posB ≠ s.pair.posB) (standby : x.mode = Mode.standby.code) :
    s.hello x = ({ s.told x with evt := { (s.told x).evt with nextBlock := (s.told x).evt.nextBlock + evtBlock } } : State).pl1Send
      (.reserve .events (s.told x).evt.nextBlock ((s.told x).evt.nextBlock + evtBlock) true) := by
  have active' : (s.told x).isActive = true := active
  have goes : ((s.told x).isActive && decide (x.mode = Mode.standby.code)) = true := by simp [active', standby]
  rw [State.hello, State.posCheck_apart apart]
  exact if_pos goes

end

/-! HEARTBEAT (R457, R467) -/

section
variable {s : State} {timer : Option Nat} {token : Bool} {mode : Nat}

theorem State.alignTimer_none : s.alignTimer none = s := rfl

theorem State.alignTimer_some {u : Nat} : s.alignTimer (some u) = if s.md.mode = .standby then
    { s with slv := { s.slv with origin := some (s.now - u) }, lp := { s.lp with frame0 := s.now - u } } else s := by
  rw [State.alignTimer]
  simp only [beq_iff_eq]

theorem State.alignTimer_leaves : (s.alignTimer timer).pair = s.pair ∧ (s.alignTimer timer).now = s.now := by
  cases timer with
  | none => exact ⟨rfl, rfl⟩
  | some u =>
    rw [State.alignTimer_some]
    split <;> exact ⟨rfl, rfl⟩

/-- A HEARTBEAT tells the partner's role and mode. -/
theorem State.heartbeat_told {a : State} (aligned : s.alignTimer timer = a) (alone : s.pair.ho = none) :
    s.heartbeat timer token mode = a.updPair fun p => { p with peerToken := token, peerMode := mode } := by
  subst aligned
  have alone' : ((s.alignTimer timer).updPair fun p => { p with peerToken := token, peerMode := mode }).pair.ho = none :=
    (congrArg (·.ho) State.alignTimer_leaves.1).trans alone
  simp only [State.heartbeat, alone']

/-- The HEARTBEAT of a partner that has taken the token completes the handover (R467). -/
theorem State.heartbeat_completes {a : State} {ho : Handover} (aligned : s.alignTimer timer = a) (under : s.pair.ho = some ho) (took : token = true) (agreed : ho.agree = true) (past : ho.at_ ≤ s.now)
    (gone : s.pair.token = false) : s.heartbeat timer token mode =
      ((a.updPair fun p => { p with peerToken := token, peerMode := mode }).updPair fun p => { p with ho := none }).pairDoneOpt ho.cmd .ok := by
  subst aligned
  obtain ⟨samePair, sameNow⟩ := State.alignTimer_leaves (s := s) (timer := timer)
  have under' : ((s.alignTimer timer).updPair fun p => { p with peerToken := token, peerMode := mode }).pair.ho = some ho :=
    (congrArg (·.ho) samePair).trans under
  have goes : (token && ho.agree && decide (((s.alignTimer timer).updPair fun p => { p with peerToken := token, peerMode := mode }).now ≥ ho.at_) &&
      !((s.alignTimer timer).updPair fun p => { p with peerToken := token, peerMode := mode }).pair.token) = true := by
    simp [State.updPair, took, agreed, sameNow, samePair, past, gone]
  simp only [State.heartbeat, under', goes, if_true]

end

/-! VERDICT, WACK, RELEASE and HANDOVER -/

section
variable {s : State}

theorem State.verdictRx_counted {e : Eng} {v : Verdict} {own peer : Word64} {qual : Bool} (active : s.isActive = true) :
    s.verdictRx e v own peer false qual = (s.countVerdict e v own peer).setPeerQual qual := by
  rw [State.verdictRx, active]
  rfl

/-- The STANDBY is answered with the state that it asks for (R461). -/
theorem State.verdictRx_answered {e : Eng} {v : Verdict} {own peer : Word64} {qual : Bool} (active : s.isActive = true) (plain : ∀ n, e ≠ .slot n) :
    let c := (s.countVerdict e v own peer).setPeerQual qual
    s.verdictRx e v own peer true qual = c.pl1Send (.state (c.engState e)) := by
  rw [State.verdictRx, active]
  cases e with
  | slot n => exact absurd rfl (plain n)
  | _ => rfl

/-- An acknowledged write acts (R109). -/
theorem State.wackRx_acts {seq slot rq : Nat} (waits : s.pair.acks.find? (fun a => decide (a.1 = seq)) = some (seq, slot, rq)) : s.wackRx seq =
    ({ s with pair := { s.pair with acks := s.pair.acks.filter fun a => a.1 ≠ seq } } : State).runHeldOf slot true := by
  simp only [State.wackRx, waits]

theorem State.releaseRx_told {cause : Nat} (without : s.pair.token = false) :
    s.releaseRx cause = s.updPair fun p => { p with released := true, relCause := cause, relAt := some s.now } := by
  rw [State.releaseRx, without]
  exact if_neg Bool.false_ne_true

/-- The partner agrees to the handover proposed (R467). -/
theorem State.handoverRx_agreed {at_ up : Nat} {drill : Bool} {ho : Handover} (under : s.pair.ho = some ho) (same : ho.at_ = at_) :
    s.handoverRx at_ true drill up = s.updPair fun p => { p with ho := some { ho with agree := true } } := by
  have map : (s.pair.ho.map fun h => if h.at_ = at_ then { h with agree := true } else h) = some { ho with agree := true } := by
    rw [under]
    exact congrArg some (if_pos same)
  rw [State.handoverRx, if_pos rfl, State.updPair, State.updPair, map]

end

/-- Settles O56. -/
theorem partnerFramesAct : Obligations.PartnerFramesAct := by
  intro s t h b acc done session cmp seq
  have active : acc.isActive = b.isActive := State.pl1Taken_isActive (s := b) (h := h)
  have md : acc.md = b.md := State.pl1Taken_md (s := b) (h := h)
  have hello : ∀ {x : Peer} {u : State}, acc.hello x = u → exec (.hello t h x) s = .next (done u) := fun act =>
    next_settled ((if_pos session).trans ((State.pl1Do_next session cmp seq).trans (congrArg State.ackAllApplied act)))
  refine ⟨fun x => ⟨fun passive apart => ?_, fun passive same new started => ?_, fun is apart standby => ?_⟩, fun timer token mode => ?_,
    fun e v own peer qual is => ?_, ?_, ?_, ?_⟩
  · exact hello (State.hello_told (State.posCheck_apart apart) (active.trans passive))
  · refine hello (State.hello_told (State.posCheck_conflict same new ?_) (State.recordGen_isActive.trans (active.trans passive)))
    rw [md]
    exact started
  · exact hello (State.hello_grants (active.trans is) apart standby)
  · have aligned : acc.alignTimer timer = (match timer with
        | some u => if b.md.mode = Mode.standby then
            { acc with slv := { acc.slv with origin := some (acc.now - u) }, lp := { acc.lp with frame0 := acc.now - u } } else acc
        | none => acc) := by
      cases timer with
      | none => rfl
      | some u => rw [State.alignTimer_some, md]
    exact ⟨fun alone => next_frame session cmp seq rfl (State.heartbeat_told (s := acc) aligned alone),
      fun ho under took agreed past gone => next_frame session cmp seq rfl
        (State.heartbeat_completes (s := acc) aligned under took agreed past gone)⟩
  · exact ⟨next_frame session cmp seq rfl (State.verdictRx_counted (s := acc) (active ▸ is)),
      fun plain => next_frame session cmp seq rfl (State.verdictRx_answered (s := acc) is plain)⟩
  · exact fun n slot rq waits => next_frame session cmp seq rfl (State.wackRx_acts (s := acc) waits)
  · exact fun cause without => next_frame session cmp seq rfl (State.releaseRx_told (s := acc) without)
  · exact fun at_ up drill ho under same => next_frame session cmp seq rfl (State.handoverRx_agreed (s := acc) under same)

end Sys2Proof.Machine
end

section
/-!
SUPPORT. Handovers at their instant, QUALIFIED, and swap drills (R462, R467, R469).
-/
namespace Sys2Proof.Machine

/-! The agreed instant (R467) -/

section
variable {s : State} {h : Handover} (under : s.pair.ho = some h) (past : h.at_ ≤ s.now) (agreed : h.agree = true)
include under past agreed

/-- The ACTIVE hands the token over. -/
theorem State.handoverInstant_gives (plain : h.drill = false) (token : s.pair.token = true) (may : s.mayHandOver = true) (est : Bool) :
    let c := (s.updPair fun p => { p with token := false, loop := false, absentFrom := some s.now, relCause := 6, sourcing := none }).irq .pair 0 2
    let d := (c.satp .pair 0 Off.PAIR_HANDOVERS).updPair fun p => { p with hoFrame := some (h.at_ + 300 * us) }
    s.handoverInstant est = ((d.record 0x0D04 1 0 (w32 h.up)).updPair fun p => { p with ho := some h }).trigger .toStandby := by
  intro c d
  have stops : s.stopSource 6 = c := if_pos token
  have hands : c.handedOver h false = d.record 0x0D04 1 0 (w32 h.up) := by
    rw [State.handedOver, plain]
    exact if_neg Bool.false_ne_true
  simp only [State.handoverInstant, under, if_neg (Nat.not_lt.mpr past), agreed, token, may, Bool.not_true, Bool.and_false, Bool.false_eq_true, if_false, if_true,
    stops, hands, plain]

/-- The STANDBY sources the loop (R453). -/
theorem State.handoverInstant_takes (without : s.pair.token = false) (standby : s.md.mode = .standby) (est : Bool) :
    s.handoverInstant est = (s.updPair fun p => { p with relCause := 6, byHandover := true }).source est := by
  simp only [State.handoverInstant, under, if_neg (Nat.not_lt.mpr past), agreed, without, standby, Bool.not_true, Bool.false_and, Bool.false_eq_true, if_false,
    beq_self_eq_true, if_true]

end

/-! QUALIFIED (R462) -/

section
variable {s : State}

theorem State.refreshQual_stands (stands : s.pair.qualified = s.qualOk) : s.refreshQual = s := by
  rw [State.refreshQual, stands, bne_self_eq_false, Bool.and_false]
  exact if_neg Bool.false_ne_true

theorem State.refreshQual_follows (pair : s.variant.pair = true) (moves : s.pair.qualified ≠ s.qualOk) :
    s.refreshQual = (s.updPair fun p => { p with qualified := s.qualOk }).irq .pair 0 4 := by
  have goes : (s.variant.pair && s.pair.qualified != s.qualOk) = true := by simp [pair, moves]
  have flips : (!s.pair.qualified) = s.qualOk := (Bool.eq_not_of_ne moves.symm).symm
  rw [State.refreshQual, if_pos goes, State.updPair, State.updPair, flips]

end

/-! Drills (R469) -/

section
variable {s : State} {due : Nat} (planned : s.pair.drillDue = some due) (active : s.isActive = true) (past : due ≤ s.taiS)
  (timely : ∀ u : Nat, s.pair.drillNext = some u → u ≤ s.now)
include planned active past timely

/-- A drill that has fallen due runs, waits an hour or is MISSED. -/
theorem State.drillDue_falls : s.drillDue =
    if (s.handoverOk && !s.drillWaits) = true then (s.updPair fun p => { p with drillNext := some (s.now + 3600 * sec) }).propose true none
    else if s.taiS ≥ due + 86400 then (s.drillResult 3 0 (upStations s).length).planDrill
    else s.updPair fun p => { p with drillNext := some (s.now + 3600 * sec) } := by
  cases next : s.pair.drillNext with
  | none => simp [State.drillDue, planned, active, Nat.not_lt.mpr past, next]
  | some u => simp [State.drillDue, planned, active, Nat.not_lt.mpr past, next, Nat.not_lt.mpr (timely u next)]

theorem State.drillDue_runs (may : s.handoverOk = true) (now_ : s.drillWaits = false) :
    s.drillDue = (s.updPair fun p => { p with drillNext := some (s.now + 3600 * sec) }).propose true none :=
  (State.drillDue_falls planned active past timely).trans (if_pos (by rw [may, now_]; rfl))

section
variable (held : s.handoverOk = false ∨ s.drillWaits = true)
include held

omit planned active past timely in
theorem State.drill_held : ¬ (s.handoverOk && !s.drillWaits) = true := by
  rcases held with h | h <;> simp [h]

theorem State.drillDue_waits (fresh : s.taiS < due + 86400) : s.drillDue = s.updPair fun p => { p with drillNext := some (s.now + 3600 * sec) } :=
  (State.drillDue_falls planned active past timely).trans ((if_neg (State.drill_held held)).trans (if_neg (Nat.not_le.mpr fresh)))

theorem State.drillDue_missed (late : due + 86400 ≤ s.taiS) : s.drillDue = (s.drillResult 3 0 (upStations s).length).planDrill :=
  (State.drillDue_falls planned active past timely).trans ((if_neg (State.drill_held held)).trans (if_pos late))

end

end

section
variable {s : State}

/-- What a proposal leaves as the handover under way. -/
theorem State.propose_ho {drill : Bool} {cmd : Option QCmd} : (s.propose drill cmd).pair.ho =
    some { at_ := hoInstant s.framePhase s.now, agree := false, drill := drill, up := (upStations s).length, cmd := cmd } := by
  rw [State.propose]
  obtain ⟨tx, un, same⟩ := (State.pl1Send_logs (s.updPair fun p => { p with
    ho := some { at_ := hoInstant s.framePhase s.now, agree := false, drill := drill, up := (upStations s).length, cmd := cmd } })
    (.handover (hoInstant s.framePhase s.now) false drill (upStations s).length)).pair
  exact congrArg (·.ho) same

/-- The hold of a drill that the partner runs ends with the result. -/
theorem State.drillHoldEnd_result {d : Drill} {cause : Nat} (held : s.pair.drill = some d)
    (past : d.start + ((s.rdp .pair 0 Off.PAIR_DRILL_CFG).fld 20 12) * sec ≤ s.now) (theirs : d.mine = false) (known : cause ≤ 3) :
    s.drillHoldEnd cause =
      ((s.updPair fun p => { p with drill := none }).drillResult (if cause = 0 then 1 else 2) cause d.up).pairDoneOpt d.cmd .ok := by
  have due : ¬ s.now < d.start + ((s.rdp .pair 0 Off.PAIR_DRILL_CFG).fld 20 12) * sec := Nat.not_lt.mpr past
  simp only [State.drillHoldEnd, held, State.drillCfg, if_neg due, theirs, Bool.false_eq_true, if_false, State.endDrill, Nat.min_eq_left known, Bool.false_and]

end

/-- Settles O57. -/
theorem handoversAndDrillsAct : Obligations.HandoversAndDrillsAct := by
  intro s t b
  refine ⟨fun h est under past agreed plain => ⟨fun token may => ?_, fun without standby => ⟨fun yes => ?_, fun no => ?_⟩⟩,
    fun pair => ⟨fun stands => ?_, fun moves => ?_⟩, fun due planned active past timely => ⟨fun may goes => ?_, fun held fresh => ?_, fun held late => ?_⟩,
    fun d cause held past theirs known => ?_⟩
  · exact next_settled (State.handoverInstant_gives (s := b) under past agreed plain token may est)
  · exact next_settled ((State.handoverInstant_takes (s := b) under past agreed without standby est).trans (if_pos yes))
  · exact next_settled ((State.handoverInstant_takes (s := b) under past agreed without standby est).trans (if_neg (by rw [no]; exact Bool.false_ne_true)))
  · exact next_settled (State.refreshQual_stands (s := b) stands)
  · exact next_settled (State.refreshQual_follows (s := b) pair moves)
  · exact ⟨_, next_settled (State.drillDue_runs (s := b) planned active past timely may goes), State.propose_ho⟩
  · exact next_settled (State.drillDue_waits (s := b) planned active past timely held fresh)
  · exact next_settled (State.drillDue_missed (s := b) planned active past timely held late)
  · exact next_settled (State.drillHoldEnd_result (s := b) held past theirs known)

end Sys2Proof.Machine
end

section
/-!
SUPPORT. PAIR.CMD (R467, R469, R472).
-/
namespace Sys2Proof.Machine

/-- A PAIR.CMD that finds none waiting and none under way executes at once (R467). -/
theorem next_pairCmd {s : State} {t slot : Nat} {x : Session} {need : Priv} {w : Word} (h : s.MayCommand slot x need .pair 0)
    (lowest : need.ge (lowestPriv .pair) = true) (free : s.pairBusy = false) :
    let q := (s.counted t x .pair 0 Off.PAIR_CMD).setQueue (Page.reg .pair 0 Off.PAIR_CMD) [⟨w, slot, x.priv, max s.now t, []⟩]
    occurs t (fun s => s.hostWrite slot (Page.reg .pair 0 Off.PAIR_CMD) w) s =
      .next (s.settled ((q.execPairCmd ⟨w, slot, x.priv, max s.now t, []⟩).setQueue (Page.reg .pair 0 Off.PAIR_CMD) [])) := by
  intro q
  have empty : (s.counted t x .pair 0 Off.PAIR_CMD).queue (cmdAddr .pair 0) = [] := State.queue_idle (by rw [State.counted_waiting]; exact h.idle)
  have idle : q.pairBusy = false := by
    have same : q.pair = s.pair := State.counted_pair s t x .pair 0 Off.PAIR_CMD
    rw [State.pairBusy, same]
    exact free
  have entered : (s.counted t x .pair 0 Off.PAIR_CMD).enqueue .pair 0 ⟨w, slot, x.priv, max s.now t, []⟩ = q := by
    rw [State.enqueue, empty]
    rfl
  have waits : q.queue pairCmdAddr = [⟨w, slot, x.priv, max s.now t, []⟩] := State.queue_setQueue _ _ _
  refine next_command _ h lowest rfl nofun ?_
  simp only [State.takeCmd, h.noReset, Bool.false_and, Bool.false_eq_true, if_false, State.cmdArgs, entered, State.runPair, waits, runPairQueue, idle]
  rfl

section
variable {s : State} {slot tag since : Nat} {priv : Priv}

/-- BIND copies the partner's identity (R472). -/
theorem State.execPairCmd_bind {y : Peer} (may : priv.ge .config = true) (mode : s.md.mode = .commission) (up : s.pair.pl1Up = true)
    (known : s.pair.peer = some y) :
    let c := (List.range 4).foldl (fun s k => s.wrp .pair 0 (Off.PAIR_PEER_ID0 + 4 * k) (y.id.getD k 0)) s
    s.execPairCmd ⟨cmdWord 1 tag 0, slot, priv, since, []⟩ =
      (c.recordGen 0x0D .pair 0 Off.PAIR_PEER_ID0 (y.id.getD 0 0)).complete .pair 0 Off.PAIR_CMD_STAT .ok tag := by
  intro c
  have op : (cmdWord 1 tag 0).fld 0 4 = 1 := cmdWord_plain_op tag (by decide)
  have tg : (cmdWord 1 tag 0).fld 8 8 = tag % 256 := cmdWord_plain_tag tag (by decide)
  simp only [State.execPairCmd, op, State.pairBind, may, mode, up, known, bne_self_eq_false, Bool.not_true, Bool.false_eq_true, if_false, State.pairDone, tg,
    State.complete_mod, c]

theorem State.propose_at {drill : Bool} {cmd : Option QCmd} {n : Nat} (now_ : s.now = n) :
    let h : Handover := { at_ := hoInstant s.framePhase n, agree := false, drill := drill, up := (upStations s).length, cmd := cmd }
    s.propose drill cmd = (s.updPair fun p => { p with ho := some h }).pl1Send (.handover h.at_ false drill h.up) := by
  subst now_
  rfl

section
variable {c : QCmd} {drill : Bool} (may : c.priv.ge .operate = true) (drives : s.md.mode.drives = true)
include may drives

theorem State.pairMove_proposes (free : s.handoverOk = true) (ready : drill = true → s.drillWaits = false) :
    s.pairMove c drill = s.propose drill (some c) := by
  have waits : (drill && s.drillWaits) = false := by
    cases drill with
    | false => rfl
    | true => exact ready rfl
  simp only [State.pairMove, may, drives, free, waits, Bool.not_true, Bool.and_false, Bool.false_eq_true, if_false, Bool.or_self]

theorem State.pairMove_refused (held : s.handoverOk = false) : s.pairMove c false = s.pairDone c .state := by
  simp only [State.pairMove, may, drives, held, Bool.not_true, Bool.not_false, Bool.and_false, Bool.false_eq_true, if_false, Bool.true_or, if_true]

end

theorem State.execPairCmd_handover : s.execPairCmd ⟨cmdWord 2 tag 0, slot, priv, since, []⟩ = s.pairMove ⟨cmdWord 2 tag 0, slot, priv, since, []⟩ false := by
  simp only [State.execPairCmd, cmdWord_plain_op tag (show 2 < 16 by decide)]

theorem State.execPairCmd_drill : s.execPairCmd ⟨cmdWord 3 tag 0, slot, priv, since, []⟩ = s.pairMove ⟨cmdWord 3 tag 0, slot, priv, since, []⟩ true := by
  simp only [State.execPairCmd, cmdWord_plain_op tag (show 3 < 16 by decide)]

end

/-- A handover's instant stands at least 20 ms ahead, 0.7 ms after a frame start (R467). -/
theorem hoInstant_ahead {phase now : Nat} (inside : phase < ms) :
    now + 20 * ms ≤ hoInstant phase now ∧ hoInstant phase now < now + 21 * ms ∧ hoInstant phase now % ms = (700 * us + phase) % ms := by
  simp only [hoInstant, ms, us] at *
  omega

/-- Settles O58. -/
theorem pairCommandsAct : Obligations.PairCommandsAct := by
  intro s t slot tag x free a b q
  have pair : b.pair = s.pair := State.counted_pair s t x .pair 0 Off.PAIR_CMD
  have md : b.md = s.md := State.counted_md s t x .pair 0 Off.PAIR_CMD
  have now_ : b.now = max s.now t := State.counted_now s t x .pair 0 Off.PAIR_CMD
  have settles {u v : State} (same : u = v) :
      Host.Outcome.next (s.settled (u.setQueue a [])) = (.next (s.settled (v.setQueue a [])) : Host.Outcome State Fault Refusal) :=
    congrArg (Host.Outcome.next ∘ s.settled) (congrArg (State.setQueue · a []) same)
  refine ⟨fun y h mode up known => ?_, fun h drives => ⟨fun k may => ?_, fun held => ?_⟩, fun phase now inside => hoInstant_ahead inside⟩
  · exact (next_pairCmd h rfl free).trans (settles (State.execPairCmd_bind (s := q 1) h.priv (show b.md.mode = _ by rw [md]; exact mode)
      (show b.pair.pl1Up = _ by rw [pair]; exact up) (show b.pair.peer = _ by rw [pair]; exact known)))
  · have drives' : (q k).md.mode.drives = true := show b.md.mode.drives = true by rw [md]; exact drives
    refine ⟨fun two => ?_, fun three ready => ?_⟩
    · subst two
      exact (next_pairCmd h rfl free).trans (settles (State.execPairCmd_handover.trans
        ((State.pairMove_proposes (s := q 2) (drill := false) h.priv drives' may nofun).trans (State.propose_at now_))))
    · subst three
      exact (next_pairCmd h rfl free).trans (settles (State.execPairCmd_drill.trans
        ((State.pairMove_proposes (s := q 3) (drill := true) h.priv drives' may fun _ => ready).trans (State.propose_at now_))))
  · have drives' : (q 2).md.mode.drives = true := show b.md.mode.drives = true by rw [md]; exact drives
    have tg : (cmdWord 2 tag 0).fld 8 8 = tag % 256 := cmdWord_plain_tag tag (by decide)
    refine (next_pairCmd h rfl free).trans (settles (State.execPairCmd_handover.trans ((State.pairMove_refused (s := q 2) h.priv drives' held).trans ?_)))
    rw [State.pairDone, tg, State.complete_mod]

end Sys2Proof.Machine
end

section
/-!
SUPPORT. Single registers with an effect of their own (R403, R412, R506, R511, R521, R522, R559).
-/
namespace Sys2Proof.Machine

section
variable {s : State} {x : Session} {d : RegDef} {v : Word}

/-! The log's reading position (R521) -/

theorem State.effect_rdSeq : s.effect x ⟨.evt, 0, Off.EVT_RD_SEQ⟩ d v = s.rdSeq x.slot v := rfl

/-! The freeze of the log (R522) -/

/-- The word of PAGE_CTRL that asks for a freeze or its end. -/
theorem freezeWord_bits (on : Bool) : (w32 (4 * b2n on)).bit 1 = false ∧ (w32 (4 * b2n on)).bit 2 = on := by
  cases on <;> decide

theorem State.effect_freeze (on : Bool) : s.effect x ⟨.evt, 0, Off.PAGE_CTRL⟩ d (w32 (4 * b2n on)) = s.evtFreeze x.slot on := by
  obtain ⟨noReset, bit⟩ := freezeWord_bits on
  have header : s.effect x ⟨.evt, 0, Off.PAGE_CTRL⟩ d (w32 (4 * b2n on)) = s.ctrlWrite x .evt 0 (w32 (4 * b2n on)) := rfl
  simp only [header, State.ctrlWrite, noReset, bit, Bool.false_and, Bool.and_false, Bool.false_eq_true, if_false]

theorem State.evtFreeze_begins {slot : Nat} (none_ : s.evt.freeze = none) (mode : s.freezeMode = true) : s.evtFreeze slot true = (.ok, s.beginFreeze slot) := by
  simp only [State.evtFreeze, none_, mode, Bool.and_self, if_true]

theorem State.evtFreeze_ends {slot u : Nat} (own : s.evt.freeze = some (slot, u)) : s.evtFreeze slot false = (.ok, s.endFreeze) := by
  simp only [State.evtFreeze, own, beq_self_eq_true, if_true, Bool.false_eq_true, if_false]

theorem State.evtFreeze_locked {slot k u : Nat} (held : s.evt.freeze = some (k, u)) (other : k ≠ slot) (mode : s.freezeMode = true) :
    s.evtFreeze slot true = (.locked, s) := by
  simp only [State.evtFreeze, held, beq_false_of_ne other, mode, Bool.and_self, Bool.false_eq_true, if_false, if_true]

/-! The backup domain's flags (R403) -/

/-- The bits of RTC.FLAGS that a write clears: with the backup voltage low, VBK_LOW is not one of them. -/
theorem rtcMask_word (m : Nat) : w32 ((v.toNat &&& 62) &&& m) = v &&& 62 &&& w32 m := by
  simp only [w32, BitVec.ofNat_and, BitVec.ofNat_toNat, BitVec.setWidth_eq]
  rfl

theorem State.effect_rtcFlags {m : Nat} {w : Word} (mask : (if s.rtc.vbk ≥ 2400 then 62 else 60) = m) (word : (62 : Word) &&& w32 m = w) :
    s.effect x ⟨.rtc, 0, Off.RTC_FLAGS⟩ d v = (.ok, s.wrp .rtc 0 Off.RTC_FLAGS (s.rdp .rtc 0 Off.RTC_FLAGS &&&
      ~~~(v &&& w &&& ~~~((lookupA (Page.reg .rtc 0 Off.RTC_FLAGS) s.edge).getD 0)))) := by
  have effect : s.effect x ⟨.rtc, 0, Off.RTC_FLAGS⟩ d v = (.ok, s.rtcFlagsClear v) := rfl
  rw [effect, State.rtcFlagsClear, mask, rtcMask_word, BitVec.and_assoc, word]
  rfl

/-! The countdown (R412) -/

theorem State.effect_cdLoad : s.effect x ⟨.rtc, 0, Off.RTC_CD_LOAD⟩ d v = (.ok, s.cdLoad v) := rfl

theorem State.cdLoad_stops (zero : v.fld 0 24 = 0) : s.cdLoad v = { s with rtc := { s.rtc with cd := none } } := by
  rw [State.cdLoad, if_pos zero]

theorem State.cdLoad_runs (from_ : v.fld 0 24 ≠ 0) : s.cdLoad v = { s with rtc := { s.rtc with cd := some ⟨s.now, v.fld 0 24⟩ } } := by
  rw [State.cdLoad, if_neg from_]

/-! The confirmation of an update (R506) -/

theorem foldl_stands {α β : Type} {f : α → β → α} {l : List β} {c : α} (stands : ∀ k ∈ l, f c k = c) : l.foldl f c = c :=
  List.foldlRecOn (motive := (· = c)) _ _ rfl fun _ same k inside => same ▸ stands k inside

theorem State.effect_health : s.effect x ⟨.upd, 0, Off.UPD_HEALTH⟩ d v = s.healthWrite v := rfl

/-- The running image confirms itself with its package number. -/
theorem State.healthWrite_confirms (trial : s.upd.trial = 1) (own : v = s.upd.run.pkg) (parts : ∀ k ∈ List.range 8, partOf s.upd.run (k + 1) 0 = none) :
    let c := s.updUpd fun u => { u with trial := 2, from_ := none }
    s.healthWrite v = (.ok, (c.irq .upd 0 3).recordGen 0xF .upd 0 Off.UPD_TRIAL (w32 (2 + 4 * s.upd.starts))) := by
  intro c
  rw [State.healthWrite, if_neg (not_not_intro trial), if_neg (not_not_intro own)]
  dsimp only
  rw [foldl_stands]
  · rfl
  · intro k inside
    have none_ : partOf (s.updUpd fun u => { u with trial := 2, from_ := none }).upd.run (k + 1) 0 = none := parts k inside
    simp only [none_]

theorem State.healthWrite_range (trial : s.upd.trial = 1) (other : v ≠ s.upd.run.pkg) : s.healthWrite v = (.range, s) := by
  rw [State.healthWrite, if_neg (not_not_intro trial), if_pos other]

/-! The limits of field power (R559) -/

theorem State.effect_fieldLim : s.effect x ⟨.pwr, 0, Off.PWR_FIELD_LIM⟩ d v = s.fieldLim v := rfl

theorem State.fieldLim_may (mode : s.md.mode = .commission ∨ s.md.mode = .maintenance) :
    s.fieldLim v = if fieldLimOk s.variant v = true then (.ok, s.wrp .pwr 0 Off.PWR_FIELD_LIM v) else (.range, s) := by
  rw [State.fieldLim, if_neg]
  rcases mode with mode | mode <;> rw [mode] <;> decide

end

/-- Settles O60. -/
theorem singleRegisterWritesAct : Obligations.SingleRegisterWritesAct := by
  intro s t slot x v d
  refine ⟨fun h => ?_, fun h => ?_, fun h => ?_, fun h => ?_, fun h trial => ?_, fun h mode => ?_⟩
  · exact ⟨fun inside => next_write _ h (State.effect_rdSeq.trans (if_pos inside)),
      fun past => next_refused _ h (State.effect_rdSeq.trans (if_neg (Nat.not_lt.mpr past))) nofun⟩
  · have evt : (s.counted t x .evt 0 Off.PAGE_CTRL).evt = s.evt := State.counted_evt s t x .evt 0 Off.PAGE_CTRL
    intro b
    refine ⟨fun none_ on => ?_, fun u own => ?_, fun k u held other on => ?_⟩
    · exact next_write _ h ((State.effect_freeze true).trans (State.evtFreeze_begins (s := b) (by rw [evt]; exact none_) on))
    · exact next_write _ h ((State.effect_freeze false).trans (State.evtFreeze_ends (s := b) (by rw [evt]; exact own)))
    · exact next_refused _ h ((State.effect_freeze true).trans (State.evtFreeze_locked (s := b) (by rw [evt]; exact held) other on)) nofun
  · have rtc : (s.counted t x .rtc 0 Off.RTC_FLAGS).rtc = s.rtc := State.counted_rtc s t x .rtc 0 Off.RTC_FLAGS
    exact ⟨fun high => next_write _ h (State.effect_rtcFlags (if_pos (by rw [rtc]; exact high)) (by decide)),
      fun low => next_write _ h (State.effect_rtcFlags (if_neg (by rw [rtc]; exact Nat.not_le.mpr low)) (by decide))⟩
  · have now_ : (s.counted t x .rtc 0 Off.RTC_CD_LOAD).now = max s.now t := State.counted_now s t x .rtc 0 Off.RTC_CD_LOAD
    refine ⟨fun zero => next_write _ h (State.effect_cdLoad.trans (by rw [State.cdLoad_stops zero])),
      fun from_ => next_write _ h (State.effect_cdLoad.trans (by rw [State.cdLoad_runs from_, now_]))⟩
  · have upd : (s.counted t x .upd 0 Off.UPD_HEALTH).upd = s.upd := State.counted_upd s t x .upd 0 Off.UPD_HEALTH
    refine ⟨fun own parts => ?_, fun other => ?_⟩
    · have confirms := State.healthWrite_confirms (s := s.counted t x .upd 0 Off.UPD_HEALTH) (v := v) (by rw [upd]; exact trial) (by rw [upd]; exact own)
        (by rw [upd]; exact parts)
      rw [upd] at confirms
      exact next_write _ h (State.effect_health.trans confirms)
    · exact next_refused _ h (State.effect_health.trans (State.healthWrite_range (by rw [upd]; exact trial) (by rw [upd]; exact other))) nofun
  · have md : (s.counted t x .pwr 0 Off.PWR_FIELD_LIM).md = s.md := State.counted_md s t x .pwr 0 Off.PWR_FIELD_LIM
    have variant : (s.counted t x .pwr 0 Off.PWR_FIELD_LIM).variant = s.variant := State.counted_variant s t x .pwr 0 Off.PWR_FIELD_LIM
    have acts := State.fieldLim_may (s := s.counted t x .pwr 0 Off.PWR_FIELD_LIM) (v := v) (by rw [md]; exact mode)
    rw [variant] at acts
    exact ⟨fun ok => next_write _ h (State.effect_fieldLim.trans (acts.trans (if_pos ok))),
      fun bad => next_refused _ h (State.effect_fieldLim.trans (acts.trans (if_neg (by rw [bad]; exact Bool.false_ne_true)))) nofun⟩

end Sys2Proof.Machine
end

section
/-!
SUPPORT. The refutation of O59: SLC.CLR leaves RB_MISMATCH, bit 31 of a slice's DIAG, which counts nothing.
-/
namespace Sys2Proof.Machine
open Sys2Proof.Tests

/-- A controller in MAINTENANCE whose slice 1 reads back differently. -/
def mismatched : State := (st .maintenance).wrp .slc 0 (slcOff 1 0x3C) 0x80000000

/-- DIAG of slice 1 in an outcome. -/
def diagLeft : Host.Outcome State Fault Refusal → Option Word
  | .next u => some (u.rdp .slc 0 (slcOff 1 0x3C))
  | _ => none

/-- A clearing of the group keeps RB_MISMATCH (R292). -/
theorem mismatched_keeps : diagLeft (exec (.slcClr 0 0 0 1) mismatched) = some 0x80000000 := by decide +kernel

/-- Refutes O59: DIAG of the group's slices is claimed written 0 by SLC.CLR, but `slcClr` clears its counter and keeps its bit 31. -/
theorem not_clearingCommandsAct : ¬ Obligations.ClearingCommandsAct := by
  intro h
  obtain ⟨d, may⟩ : ∃ d, mismatched.MayWrite 0 sess .slc 0 Off.SLC_CLR d := can_write (by decide +kernel)
  obtain ⟨clears, -⟩ := h mismatched 0 0 0 sess 1 d
  obtain ⟨-, -, -, -, -, -, -, -, -, -, -, -, -, -, -, -, slices, -⟩ := clears (by decide)
  have shown := congrArg diagLeft (slices may)
  rw [mismatched_keeps] at shown
  revert shown
  decide +kernel

end Sys2Proof.Machine
end
